-- ==== Sys2Proof/Word.lean ====
section
/-! DEFINITION. The word types of the PN-9256: registers are 32 bits wide (R54), formats are counted in bytes (R9). -/

namespace Sys2Proof

/-- A register's content (R54). -/
abbrev Word := BitVec 32

/-- One byte of a frame, an image, a descriptor or a record (R9). -/
abbrev Byte := BitVec 8

end Sys2Proof
end

