-- ==== Sys2Proof/Machine/Clock.lean ====
section
/-! DEFINITION. The timebase: raw count, anchor pair and rate (R220, R221), the forms of time (R222) and ticks (R14, R15). -/

namespace Sys2Proof.Machine

/-- The timebase. `raw` counts 0.8 ns (R220). `ancC`, `ancT` is the anchor pair and `rate` is `TIME_RATE` (R221);
published time is kept in units of 2^-24 ns. `tickNo` is the number of whole ticks since the GPS epoch of the tick in
progress (R15), `tickStart` the published time and `tickRaw` the raw count at which it began, and `tickEnd` the published
time of the boundary that ends it (R14, R235). -/
structure Clock where
  raw : Nat
  ancC : Nat
  ancT : Int
  rate : Int
  tickNo : Nat
  tickStart : Int
  tickRaw : Nat
  tickEnd : Int
  deriving DecidableEq, Repr

/-- Units of 2^-24 ns in one nanosecond (R221). -/
def uPerNs : Int := 16777216

/-- Published-time units in one tick of 10 ms (R14). -/
def uPerTick : Int := 10000000 * 16777216

/-- Raw counts in one microsecond: 0.8 ns per count (R220). -/
def usRaw (n : Nat) : Nat := n * 1250

/-- Raw counts in one millisecond. -/
def msRaw (n : Nat) : Nat := n * 1250000

/-- Raw counts in one second. -/
def secRaw (n : Nat) : Nat := n * 1250000000

/-- Published time at raw count `c`, in units of 2^-24 ns (R221): the anchor's time plus the counts since the anchor,
each 0.8 ns times (1 + rate × 2^-40), computed to 2^-24 ns. -/
def Clock.timeAt (k : Clock) (c : Nat) : Int :=
  k.ancT + (((c : Int) - (k.ancC : Int)) * 4 * uPerNs * (1099511627776 + k.rate)) / (5 * 1099511627776)

/-- Published time now (R221). -/
def Clock.now (k : Clock) : Int := k.timeAt k.raw

/-- The first raw count at which published time has reached `t` (the inverse of R221). -/
def Clock.rawAt (k : Clock) (t : Int) : Nat :=
  let num := (t - k.ancT) * (5 * 1099511627776)
  let den := 4 * uPerNs * (1099511627776 + k.rate)
  ((k.ancC : Int) + -((-num) / den)).toNat

/-- Full time: whole nanoseconds of fleet time since the GPS epoch, 64 bits (R222). -/
def Clock.fullNs (t : Int) : Nat := (t / uPerNs).toNat % 18446744073709551616

/-- The fraction: sixteenths of a nanosecond below the published word, truncated (R221, R222). -/
def Clock.frac (t : Int) : Nat := ((t / 1048576) % 16).toNat

/-- The published word, full time [31:0] (R222). -/
def Clock.word (t : Int) : Nat := Clock.fullNs t % 4294967296

/-- The wrap counter, full time [47:32] (R222). -/
def Clock.wrap (t : Int) : Nat := Clock.fullNs t / 4294967296 % 65536

/-- The tick counter: whole ticks since the GPS epoch modulo 2^32 (R15). -/
def Clock.tick (k : Clock) : Nat := k.tickNo % 4294967296

/-- Tick phase: whole ticks since the GPS epoch modulo 10, not the counter modulo 10 (R15, R16). -/
def Clock.phase (k : Clock) : Nat := k.tickNo % 10

/-- The superframe number: whole superframes since the GPS epoch modulo 2^16 (R15). -/
def Clock.sf (k : Clock) : Nat := k.tickNo / 10 % 65536

/-- Offset of an instant from the boundary of the tick in progress, in nanoseconds. -/
def Clock.subNs (k : Clock) (c : Nat) : Nat := ((k.timeAt c - k.tickStart) / uPerNs).toNat

/-- Elapsed counter time moves on by `dt` raw counts (R220, R235). -/
def Clock.adv (k : Clock) (dt : Nat) : Clock := { k with raw := k.raw + dt }

/-- A new rate takes a new anchor at the raw count of the change, so published time stays continuous (R221). -/
def Clock.setRate (k : Clock) (r : Int) : Clock :=
  if r = k.rate then k else { k with ancC := k.raw, ancT := k.now, rate := r }

/-- A step changes the anchor's time alone (R221). -/
def Clock.step (k : Clock) (d : Int) : Clock := { k with ancT := k.ancT + d }

/-- The raw count of the boundary that ends the tick in progress. -/
def Clock.nextBoundary (k : Clock) : Nat := k.rawAt k.tickEnd

/-- The clock at the boundary that ends the tick in progress, with the next tick begun (R14, R627); the new tick ends at the
first whole 10 ms at least 5 ms on, which is 10 ms on except after a step (R235). -/
def Clock.beginTick (k : Clock) : Clock :=
  { k with
    raw := max k.raw k.nextBoundary
    tickNo := (k.tickEnd / uPerTick).toNat
    tickStart := k.tickEnd
    tickRaw := max k.raw k.nextBoundary
    tickEnd := (k.tickEnd + uPerTick / 2 + uPerTick - 1) / uPerTick * uPerTick }

/-- A step of published time by `d`, taken at the boundary that ends the tick in progress: the next tick begins there in the new
time (R235). -/
def Clock.stepEnd (k : Clock) (d : Int) : Clock := { k.step d with tickEnd := k.tickEnd + d }

/-- The command stands at a tick boundary: the one just worked, or the one now reached. -/
def Clock.atBoundary (k : Clock) : Bool := k.raw == k.tickRaw || decide (k.nextBoundary ≤ k.raw)

/-- The deadline of GNSS and PACK has come: 0.5 ms before the tick's end, which is T+9.5 ms except after a step (R28, R235). -/
def Clock.lateTick (k : Clock) : Bool := decide (k.tickEnd - 500000 * uPerNs ≤ k.now)

/-- The first whole second of published time at least 100 ms away (R233). -/
def Clock.stepAt (k : Clock) : Int :=
  let sec := 1000000000 * uPerNs
  (k.now + 100000000 * uPerNs + sec - 1) / sec * sec

/-- The timebase right after power-on: the raw counter starts at 0 (R220). -/
def Clock.powerOn : Clock :=
  { raw := 0, ancC := 0, ancT := 0, rate := 0, tickNo := 0, tickStart := 0, tickRaw := 0, tickEnd := uPerTick }

end Sys2Proof.Machine
end

