-- ==== Sys2Proof/Machine/Map.lean ====
section
/-! DEFINITION. Sparse tables: a list of (key, value) pairs with strictly rising keys, in which no entry
equals what an unlisted key reads as. Equal tables are equal lists. -/

namespace Sys2Proof.Machine

/-- A sparse table from numbers to values. -/
abbrev AMap (α : Type) := List (Nat × α)

/-- The entry listed for a key. -/
def AMap.find {α : Type} : AMap α → Nat → Option α
  | [], _ => none
  | (k, v) :: t, q => if q = k then some v else AMap.find t q

/-- Lists a value under a key, keeping the keys strictly rising. -/
def AMap.ins {α : Type} (k : Nat) (v : α) : AMap α → AMap α
  | [] => [(k, v)]
  | (k', v') :: t => if k < k' then (k, v) :: (k', v') :: t else if k = k' then (k, v) :: t else (k', v') :: AMap.ins k v t

/-- Takes the entry of a key away. -/
def AMap.del {α : Type} (k : Nat) : AMap α → AMap α
  | [] => []
  | (k', v') :: t => if k = k' then AMap.del k t else (k', v') :: AMap.del k t

/-- What a key reads as, `d k` when it is not listed. -/
def AMap.get {α : Type} (d : Nat → α) (m : AMap α) (k : Nat) : α := (AMap.find m k).getD (d k)

/-- Gives a key a value; writing what an unlisted key reads as removes the entry. -/
def AMap.put {α : Type} [DecidableEq α] (d : Nat → α) (k : Nat) (v : α) (m : AMap α) : AMap α :=
  if v = d k then AMap.del k m else AMap.ins k v m

/-- The canonical form of a sparse table: keys strictly rise and no entry equals the unlisted value. -/
abbrev AMap.wf {α : Type} [DecidableEq α] (d : Nat → α) (m : AMap α) : Prop :=
  m.Pairwise (fun a b => a.1 < b.1) ∧ ∀ p ∈ m, p.2 ≠ d p.1

/-- The keys listed, in ascending order. -/
def AMap.keys {α : Type} (m : AMap α) : List Nat := m.map Prod.fst

/-- Replaces the entry at position `i` of a list, leaving a list too short unchanged. -/
def setAt {α : Type} (l : List α) (i : Nat) (v : α) : List α := l.set i v

/-- The entry at position `i`, or the default. -/
def nth {α : Type} (d : α) (l : List α) (i : Nat) : α := l.getD i d

/-- The numbers `0 … n-1` in ascending order. -/
def upto (n : Nat) : List Nat := List.range n

end Sys2Proof.Machine
end

