-- ==== Sys2Proof/Machine/StateGlb.lean ====
section
/-! DEFINITION. State of GLB (chapter 02) and of the host rings (chapter 03), and what one command emits outside the module. -/

namespace Sys2Proof.Machine

/-- What the module puts outside itself in one command: the model's own record of the last command's emissions (log entry 5). -/
inductive Out where
  /-- An MSI-X message on a vector (R125). -/
  | msix (vector : Nat)
  /-- The data of a register read (R52, R59, R65). -/
  | readData (w : Word)
  /-- A descriptor write-back: ring, index, STATUS, XFER, KIND, FLAGS, VER and TICK (R110). -/
  | descWriteBack (ring index status xfer kind flags ver tick : Nat)
  /-- The CONS write-back (R110, R130). -/
  | consWriteBack (addr cons : Nat)
  /-- Item data written into a posted buffer (R113). -/
  | bufferWrite (addr : Nat) (data : List Byte)
  /-- An edge of a pulse output; `level` true at its active level (R239). -/
  | pulse (output : Nat) (level : Bool)
  /-- A step output edge: pair, direction level, pulse (R337). -/
  | stepEdge (pair : Nat) (dir : Bool)
  /-- A frame handed to a switch port (R347, R439, R448, R248). -/
  | frame (port : Nat) (data : List Byte)
  /-- A frame on a radio path, 0 WB0, 1 WB1, 2 SG: its type, first grain of the superframe, centre in MHz or SG channel index,
  power in 0.1 dBm, and content (R366, R367, R396, R398). -/
  | radio (path type grain chan : Nat) (power : Int) (data : List Byte)
  /-- What a radio path sends is cut at this instant, and frames given for a later grain are not sent (R382, R383). -/
  | radioCut (path : Nat)
  /-- A message of the Brace link: true on LVDS, false on P1 (R481). -/
  | brace (lvds : Bool) (type : Nat) (data : List Byte)
  /-- A change of the BRACE_HOLD_OUT line (R458). -/
  | holdOut (level : Bool)
  /-- The Leash outputs as driven: A and B (R407). -/
  | leashOut (a b : Bool)
  /-- A test pulse of a Leash output, 0 A, 1 B: it is de-energised for `w` µs (R424). -/
  | leashPulse (x w : Nat)
  /-- Data written to host memory by a command (R519 WRAP). -/
  | hostWrite (data : List Byte)
  deriving DecidableEq, Repr

/-- The armed guard: the offset X, the value V and the raw count at which it was armed (R60, R62). -/
structure Guard where
  off : Nat
  val : Word
  armedAt : Nat
  deriving DecidableEq, Repr

/-- A mailbox sequence in progress (R65, R66): the item selected, whether it is a write, its length, the words still to
read or written so far. -/
structure MbxSeq where
  item : Nat
  inst : Nat
  write : Bool
  words : Nat
  data : List Word
  deriving DecidableEq, Repr

/-- GLB's hidden state. -/
structure GlbSt where
  /-- The one armed guard (R62). -/
  guard : Option Guard
  /-- Mailbox sequences, by the offset of BLOCK_MBX_SEL (R68). -/
  mbx : AMap MbxSeq
  /-- The pending apply: its raw instant and its mask (R73). -/
  apply : Option (Nat × Nat)
  /-- A committed reference waiting to become live (R85). -/
  refPending : Option Word
  /-- A configuration walk is in progress (R80). -/
  walking : Bool
  /-- The walk in progress is torn (R82 step 1). -/
  torn : Bool
  /-- A selected block was powered off during the walk (R82 step 2). -/
  incomplete : Bool
  /-- Consecutive torn walks (R83). -/
  tornRun : Nat
  /-- The tick number at whose start the last walk was judged. -/
  judgedAt : Option Nat
  /-- Guarded values committed to TCK registers and waiting for the next boundary (R63, R72), by offset. -/
  tck : AMap Word
  /-- A refusal that begins at this boundary has cut off an apply: a reference waiting for it stays for the next boundary (R76). -/
  refLate : Bool
  deriving DecidableEq, Repr

/-- A descriptor the module has fetched (R108, R109), with the status the module has given it, if any. -/
structure Desc where
  addr : Nat
  len : Nat
  tag : Nat
  kind : Nat
  flags : Nat
  ver : Nat
  /-- The completion status judged, not yet written back (R110). -/
  status : Option Nat
  xfer : Nat
  /-- The item this descriptor belongs to has been handed to its block (R116, R121). -/
  handed : Bool
  deriving DecidableEq, Repr

/-- An item queued for a ring to the host (R118), with the tick it was produced in. -/
structure Item where
  kind : Nat
  data : List Byte
  tick : Nat
  deriving DecidableEq, Repr

/-- One ring: what RING_CTL.EN captured (R105), the descriptors fetched and not yet completed, in ring order from CONS,
the items queued to the host, how much of the first one is already in buffers, and the uncovered completions (R124). -/
structure RingSt where
  base : Nat
  wb : Nat
  cfg : Nat
  log2 : Nat
  fetched : List Desc
  queue : List Item
  sent : Nat
  used : Nat
  uncovered : Nat
  uncoveredAt : Nat
  /-- PROD at the acceptance of a flush not yet done (R121), and the kind of the item whose next posted buffer completes TRUNC. -/
  flushTo : Option Nat
  truncNext : Option Nat
  deriving DecidableEq, Repr

/-- A ring that has not been enabled. -/
def RingSt.off : RingSt :=
  { base := 0, wb := 0, cfg := 0, log2 := 0, fetched := [], queue := [], sent := 0, used := 0, uncovered := 0, uncoveredAt := 0,
    flushTo := none, truncNext := none }

/-- A command handed to its block whose result is not yet posted (R114, R116). -/
structure Handed where
  block : Nat
  opcode : Nat
  tag : Nat
  noResult : Bool
  acceptTick : Nat
  deriving DecidableEq, Repr

/-- The RING block's hidden state. -/
structure RingBlk where
  /-- The ten rings (R93, R103). -/
  rings : AMap RingSt
  /-- Vectors masked in the MSI-X table, one bit each (R125). -/
  msixMask : Nat
  /-- The pending-bit array (R125). -/
  msixPend : Nat
  /-- Commands handed to blocks and not finished (R114). -/
  handed : List Handed
  deriving DecidableEq, Repr

/-- GLB after power-on. -/
def GlbSt.reset : GlbSt :=
  { guard := none, mbx := [], apply := none, refPending := none, walking := false, torn := false, incomplete := false,
    tornRun := 0, judgedAt := none, tck := [], refLate := false }

/-- RING after power-on: every ring OFF (R103); MSI-X vectors masked, as PCI Express 3.0 resets them (log entry 10). -/
def RingBlk.reset : RingBlk := { rings := [], msixMask := 4294967295, msixPend := 0, handed := [] }

end Sys2Proof.Machine
end

