-- ==== Sys2Proof/Machine/StateGnss.lean ====
section
/-! DEFINITION. State of the base receiver (chapter 04): channels, search engine, satellites, measurement set. -/

namespace Sys2Proof.Machine

/-- A STEER command waiting for its latch (R151, R154). -/
structure Steer where
  tag : Nat
  noResult : Bool
  flags : Nat
  codeRate : Word
  carrFreq : Word
  codeAdj : Word
  carrAdj : Word
  acceptTick : Nat
  deriving DecidableEq, Repr

/-- An accumulation stream (R153): the TAG it was started with, whether its first latch has come, whether a stop waits. -/
structure Stream where
  tag : Nat
  noResult : Bool
  acceptTick : Nat
  live : Bool
  stopping : Bool
  deriving DecidableEq, Repr

/-- One tracking channel beyond its registers (R137, R144, R145). -/
structure GnssCh where
  /-- Raw count at which the present state was entered. -/
  since : Nat
  /-- Consecutive dumps with the phase-lock indicator above 0.8 (R145 step 7). -/
  lockRun : Nat
  /-- Consecutive dumps without carrier lock in TRACK (steps 9, 10). -/
  lostRun : Nat
  /-- Consecutive dumps with C/N0 below 20 dB-Hz (step 9). -/
  lowRun : Nat
  /-- A search hit has been handed over (step 6). -/
  hit : Bool
  /-- The channel starts aided: after RETRY, after DOZE_OFF, or from an auto channel's state (steps 2, 14; R143). -/
  aided : Bool
  /-- Consecutive ticks without a STEER (R152). -/
  noSteer : Nat
  /-- The STEER that waits for the next boundary (R151). -/
  steer : Option Steer
  /-- The running ACC_STREAM (R153). -/
  stream : Option Stream
  /-- Code and carrier phase accumulators, 48 bits each (R137). -/
  codePhase : BitVec 48
  carrPhase : BitVec 48
  /-- The last dump: early, prompt, late, I and Q each (R173 CH_ACC). -/
  acc : List Word
  /-- The dumps of the tick in progress, oldest first (R154 DUMPS): early, prompt, late. -/
  dumps : List (List Word)
  /-- NCO words at the start of the tick (R154). -/
  tickRate : Word
  tickFreq : Word
  /-- Loss of lock since the last measurement (R146). -/
  lossOfLock : Bool
  /-- Liroron has released the channel (R141). -/
  release : Bool
  /-- C/N0 held by a calibration (R163). -/
  cn0Held : Bool
  /-- CH_MEAS as last latched, 12 words (R173). -/
  meas : List Word
  deriving DecidableEq, Repr

/-- A channel that has never worked. -/
def GnssCh.idle : GnssCh :=
  { since := 0, lockRun := 0, lostRun := 0, lowRun := 0, hit := false, aided := false, noSteer := 0,
    steer := none, stream := none, codePhase := 0, carrPhase := 0, acc := [], dumps := [], tickRate := 0, tickFreq := 0,
    lossOfLock := false, release := false, cn0Held := false, meas := [] }

/-- A search job (R147, R149, R154). `channel` is 0xFFFF for a job that reports only. -/
structure SearchJob where
  host : Bool
  tag : Nat
  noResult : Bool
  acceptTick : Nat
  sys : Nat
  sv : Nat
  sig : Nat
  gloK : Int
  doppCtr : Int
  doppHalf : Nat
  coh : Nat
  noncoh : Nat
  codeStart : Nat
  codeCells : Nat
  channel : Nat
  deriving DecidableEq, Repr

/-- A satellite as Liroron sees it: elevation and azimuth in 0.01°, its GLONASS frequency channel (R132, R141, R173). -/
structure SvView where
  sys : Nat
  sv : Nat
  elev : Int
  azim : Nat
  gloK : Int
  deriving DecidableEq, Repr

/-- What is held of a satellite's broadcast (R157, R161, R169, R173). -/
structure Eph where
  /-- Data current by its own time limits (R157). -/
  current : Bool
  /-- The health the satellite broadcasts (R157). -/
  healthy : Bool
  /-- Raw count at which it was decoded. -/
  at_ : Nat
  deriving DecidableEq, Repr

/-- No ephemeris held. -/
def Eph.none : Eph := { current := false, healthy := false, at_ := 0 }

/-- The measurement set latched at T and published at T+10 ms (R156 to R160). -/
structure MeasSet where
  /-- The tick counter at the set's instant (R156). -/
  tick : Nat
  /-- Channels whose measurement is VALID. -/
  valid : List Nat
  /-- Channels in TRACK at the instant (R180). -/
  track : List Nat
  /-- Satellites with a VALID measurement (R157, R160). -/
  sats : Nat
  /-- The time fix of the set is valid (R159). -/
  fixValid : Bool
  /-- Satellites the fix used (R159). -/
  used : Nat
  /-- Satellites the residual check excluded (R159). -/
  excl : Nat
  /-- Residual of the fix (R159). -/
  rms : Nat
  /-- Published time minus source time found by the fix, in ps (R226). -/
  fixErr : Int
  /-- The base observation has enough satellites (R160). -/
  bobsValid : Bool
  /-- CLOCK_STEP of the set (R173). -/
  clockStep : Bool
  deriving DecidableEq, Repr

/-- A command of GNSS (R154). -/
inductive GnssCmd where
  | search (j : SearchJob) (reserved : Nat)
  | cancel (tag : Nat)
  | steer (c flags rate freq codeAdj carrAdj reserved : Nat)
  | stream (c on reserved : Nat)
  deriving DecidableEq, Repr

/-- The receiver's hidden state. -/
structure GnssSt where
  /-- The 320 channels (R137, R144). -/
  ch : AMap GnssCh
  /-- The search queue, oldest first (R149). -/
  jobs : List SearchJob
  /-- The running job and the raw count it started at; once a CANCEL has stopped it true, with the raw count its pass ends at (R154). -/
  running : Option (SearchJob × Nat × Bool)
  /-- The owner whose job ran last: true host (R149). -/
  lastHost : Bool
  /-- Ephemerides by status instance (R132). -/
  eph : AMap Eph
  /-- The last sky view (R173). -/
  sky : List SvView
  /-- Offsets broadcast by Galileo, BeiDou, GLONASS and QZSS, in ps, where held (R161). -/
  isb : AMap Int
  /-- The last measurement set (R156). -/
  set_ : Option MeasSet
  /-- The last published set, for PACK and TIME. -/
  published : Option MeasSet
  /-- The antenna bias has been removed after a short (R135), and the raw count of its removal or last retry. -/
  biasRemoved : Bool
  biasAt : Nat
  /-- A burst in DOZE: the tick number at which it began (R165). -/
  burst : Option Nat
  /-- TIME stepped the timebase at the boundary being worked (R160). -/
  stepped : Bool
  /-- Signals of retired channels waiting to move: (retired channel, its assignment) (R168). -/
  moves : List (Nat × Nat)
  /-- Assignments of retired channels for which no channel was free (R168). -/
  untracked : List Nat
  /-- Channels calibrated in the present pass (R163). -/
  calDone : List Nat
  /-- HOST_BASE as latched at the last boundary (R139, R140). -/
  pool : Nat
  /-- Commands accepted and waiting for the next latch (R26, R154). -/
  cmds : List (Handed × GnssCmd)
  deriving DecidableEq, Repr

/-- The receiver after power-on. -/
def GnssSt.reset : GnssSt :=
  { ch := [], jobs := [], running := none, lastHost := false, eph := [], sky := [], isb := [], set_ := none,
    published := none, biasRemoved := false, biasAt := 0, burst := none, stepped := false, moves := [], untracked := [], calDone := [], pool := 0, cmds := [] }

end Sys2Proof.Machine
end

