-- ==== Sys2Proof/Machine/StatePack.lean ====
section
/-! DEFINITION. State of PACK and of the rovers' solution contexts (chapter 05) beyond their registers. -/

namespace Sys2Proof.Machine

/-- A rover's own position as it reports it (R187). -/
structure PosBlk where
  x : Int
  y : Int
  z : Int
  uncH : Nat
  uncV : Nat
  fix : Nat
  sats : Nat
  deriving DecidableEq, Repr

/-- An observation set, whole or in assembly (R187, R189): its parts so far, its position block, its signal records. -/
structure ObsSet where
  epoch : Nat
  parts : Nat
  got : List Nat
  pos : Option PosBlk
  still : Bool
  recs : List (List Byte)
  deriving DecidableEq, Repr

/-- A position solution, from PACK or from the rover (R209, R212). -/
structure Sol where
  x : Int
  y : Int
  z : Int
  east : Int
  north : Int
  up : Int
  velE : Int
  velN : Int
  velU : Int
  sigE : Nat
  sigN : Nat
  sigU : Nat
  uncH : Nat
  uncV : Nat
  fix : Nat
  ratio : Nat
  sats : Nat
  amb : Nat
  epoch : Nat
  /-- 0 PACK, 1 ROVER_REPORTED, 2 PACK_WIDENED. -/
  source : Nat
  /-- The cross-check failed (R210). -/
  xFail : Bool
  /-- No report to check against (R210). -/
  xUnavail : Bool
  /-- CLOCK_STEP of the record (R211). -/
  clockStep : Bool
  /-- FILTER_RESET of the record (R207, R211). -/
  filterReset : Bool
  /-- The ambiguity search was cut short (R211). -/
  asuTrunc : Bool
  /-- BASE_CHANGED of the record (R207, R211). -/
  baseChanged : Bool
  /-- STILL of the record (R211). -/
  still : Bool
  /-- The uncertainty was widened by the cross-check (R210). -/
  widened : Bool
  /-- Horizontal difference of the cross-check, mm (R210). -/
  xchkH : Nat
  /-- Vertical difference of the cross-check, mm (R210). -/
  xchkV : Nat
  deriving DecidableEq, Repr

/-- No position. -/
def Sol.none : Sol :=
  { x := 0, y := 0, z := 0, east := 0, north := 0, up := 0, velE := 0, velN := 0, velU := 0, sigE := 0, sigN := 0, sigU := 0,
    uncH := 0, uncV := 0, fix := 0, ratio := 0, sats := 0, amb := 0, epoch := 0, source := 0, xFail := false, xUnavail := false,
    clockStep := false, filterReset := false, asuTrunc := false, baseChanged := false, still := false, widened := false,
    xchkH := 65535, xchkV := 65535 }

/-- The last published record of a rover (R205, R206, R212): state 0 CURRENT, 1 LATE, 2 LAPSED. -/
structure SolRec where
  sol : Sol
  state : Nat
  cause : Nat
  miss : Nat
  prodTick : Nat
  pubTick : Nat
  mode : Nat
  /-- Some solution has been produced since start-up (R205). -/
  ever : Bool
  deriving DecidableEq, Repr

/-- Until a rover's first solution: LAPSED, FIX NONE, production tick 0 (R205). -/
def SolRec.first : SolRec :=
  { sol := Sol.none, state := 2, cause := 0, miss := 0, prodTick := 0, pubTick := 0, mode := 0, ever := false }

/-- What an ambiguity search of this epoch returned (R198, R199): whether it was truncated, RATIO in 0.01, the chosen integers by
ambiguity, the satellites they cover. -/
structure Search where
  trunc : Bool
  ratio : Nat
  ints : List (Nat × Int)
  sats : Nat
  deriving DecidableEq, Repr

/-- One rover's solution context. -/
structure RoverPack where
  /-- The assembly buffer (R189). -/
  asm : Option ObsSet
  /-- The pending slot (R189, R190). -/
  pend : Option ObsSet
  /-- EPOCH_TICK of the last set accepted whole. -/
  lastSet : Option Nat
  /-- The set latched for the solve tick in progress (R190). -/
  latched : Option ObsSet
  /-- The solution produced in the solve tick in progress. -/
  made : Option Sol
  /-- The cause for which the solve tick in progress has no PACK solution so far (R204). -/
  cause : Nat
  /-- The filter resets at the next solve tick (R207), and whether because the base position changed (R179). -/
  reset : Bool
  baseChanged : Bool
  /-- This epoch runs on a reset filter. -/
  resetNow : Bool
  baseChangedNow : Bool
  /-- Integers chosen at the last epochs, newest first: (EPOCH_TICK, ambiguity to integer) (R199). -/
  ints : List (Nat × List (Nat × Int))
  /-- The search of the flow in service. -/
  search : Option Search
  /-- The position block last latched (R219). -/
  lastPos : Option PosBlk
  /-- ROVER_POS_CTL as it stood at the latch of the solve tick in progress (R25). -/
  ctl : Option Nat
  /-- Covariance of the last solution, 42 words (R219). -/
  cov : List Word
  /-- The record last published (R211). -/
  record : SolRec
  deriving DecidableEq, Repr

/-- A context that has had nothing. -/
def RoverPack.fresh : RoverPack :=
  { asm := none, pend := none, lastSet := none, latched := none, made := none, cause := 0, reset := false, baseChanged := false,
    resetNow := false, baseChangedNow := false, ints := [], search := none, lastPos := none, ctl := none, cov := [], record := SolRec.first }

/-- A flow: rover ID or 256 for the base flow, its graph, its scratch in KiB, its operations in the ready list (R193). -/
structure Flow where
  rover : Nat
  graph : Nat
  scratch : Nat
  ready : Nat
  deriving DecidableEq, Repr

/-- A loaded graph image's facts (R201, R219). -/
structure Graph where
  flags : Nat
  maxSig : Nat
  minSat : Nat
  scratch : Nat
  flopDecl : Nat
  nOps : Nat
  nBuf : Nat
  serial : Nat
  stateLen : Nat
  imgLen : Nat
  /-- LIRORON_MIN (R202, R541). -/
  minVer : Nat
  deriving DecidableEq, Repr

/-- A base position: ECEF in 0.1 mm, antenna height in 0.1 mm, stated accuracy in mm (R219). -/
structure BasePos where
  x : Int
  y : Int
  z : Int
  arpH : Int
  acc : Nat
  deriving DecidableEq, Repr

/-- One scheduling trace record (R215). -/
structure TraceRec where
  off : Nat
  event : Nat
  where_ : Nat
  flow : Nat
  op : Nat
  graph : Nat
  arg : Nat
  deriving DecidableEq, Repr

/-- A command of PACK (R216). -/
inductive PackCmd where
  | load (addr reserved : Nat) (img : Option (List Byte))
  | unload (graph reserved : Nat)
  deriving DecidableEq, Repr

/-- PACK's hidden state. -/
structure PackSt where
  /-- The 256 rovers (R204, R205). -/
  rover : AMap RoverPack
  /-- Flows in service in order of admission, and flows waiting in order (R193). -/
  flows : List Flow
  waiting : List Flow
  /-- Peaks of the ready list and of the scratch in this tick. -/
  rlPeak : Nat
  scrPeak : Nat
  /-- End of the last flow in this tick, ns after T, and flows discarded in it. -/
  lastEnd : Nat
  discarded : Nat
  /-- The processing graphs loaded, 4 to 15 (R200, R201). -/
  graphs : AMap Graph
  /-- The position in use (R174). -/
  base : Option BasePos
  /-- ARP height and stated accuracy belong to BASE_POS. As entered: live, and committed but not yet applied (R219). -/
  entered : Option BasePos
  enteredShadow : Option BasePos
  /-- The survey: samples and, per axis, the sum and the sum of squares (R176). -/
  svyN : Nat
  svySum : List Int
  svySq : List Nat
  /-- The survey asked for, waiting for its tick boundary (R175). -/
  svyStart : Bool
  /-- The tick number of the last sample. -/
  svyTick : Option Nat
  /-- The survey has met its criteria; waits for its tick boundary (R175 step 5). -/
  svyDone : Bool
  /-- The move check has failed; waits for its tick boundary (R175 step 6). -/
  moved : Bool
  /-- An apply has set SOURCE to ENTERED since the last boundary (R175 steps 1 and 2), and BASE_POS has applied (step 7). -/
  applied : Bool
  posApplied : Bool
  /-- PACK's registers as they stood at its last latch (R25). -/
  cfg : AMap Nat
  /-- STATION_DESC live and shadow: 32 words each (R219). -/
  desc : List Word
  descShadow : List Word
  /-- Base sets of the most recent 16 instants: (tick, valid base observation) (R181). -/
  hist : List (Nat × Bool)
  /-- The set the base flow works on (R185): instant, valid. -/
  baseInst : Option (Nat × Bool)
  /-- RTCM produced in this tick: message numbers with their frames (R185, R186). -/
  rtcm : List (List Byte)
  rtcmTick : Nat
  /-- The base flow of this tick has ended (R185, R196). -/
  rtcmDone : Bool
  /-- Trace records not yet gathered into an item (R215). -/
  trace : List TraceRec
  /-- Trace records lost (R215). -/
  traceLost : Nat
  /-- Commands accepted and waiting for the next latch (R26, R216). -/
  cmds : List (Handed × PackCmd)
  deriving DecidableEq, Repr

/-- PACK after power-on. -/
def PackSt.reset : PackSt :=
  { rover := [], flows := [], waiting := [], rlPeak := 0, scrPeak := 0, lastEnd := 0, discarded := 0, graphs := [],
    base := none, entered := none, enteredShadow := none, svyN := 0, svySum := [0, 0, 0], svySq := [0, 0, 0], svyStart := false, svyTick := none,
    svyDone := false, moved := false, applied := false, posApplied := false, cfg := [], desc := [], descShadow := [], hist := [], baseInst := none, rtcm := [],
    rtcmTick := 0, rtcmDone := false, trace := [], traceLost := 0, cmds := [] }

end Sys2Proof.Machine
end

