-- ==== Sys2Proof/Machine/StateShep.lean ====
section
/-! DEFINITION. State of the Shepherd (chapter 07): networks, spans, footprints, requests, tasks. -/

namespace Sys2Proof.Machine

/-- A chain entry (R259). -/
structure Chain where
  len : Nat
  nodeA : Nat
  nodeB : Nat
  vtxOff : Nat
  nVtx : Nat
  flags : Nat
  vmax : Nat
  xtol : Nat
  nConf : Nat
  confOff : Nat
  access : Nat
  deriving DecidableEq, Repr

/-- A network image as loaded (R258, R263): header facts and tables. -/
structure Net where
  /-- The image serial (R263). -/
  serial : Nat
  /-- LIRORON_MIN (R264, R541). -/
  minVer : Nat
  /-- KEY_ID of the signing key (R263). -/
  keyId : Nat
  /-- BASE, 0.1 mm (R263). -/
  base : Int × Int × Int
  /-- BASE_TOL, mm (R263, R266). -/
  baseTol : Nat
  /-- The chain table (R259). -/
  chains : List Chain
  /-- Eight slots a node, 0xFFFF unused (R259). -/
  nodes : List (List Nat)
  /-- The conflict table (R259, R260). -/
  conf : List Nat
  /-- The vertex table, mm (R259). -/
  vtx : List (Int × Int)
  /-- The perch table (R261). -/
  perch : List Nat
  /-- The perch distance table (R261). -/
  dist : List Nat
  deriving DecidableEq, Repr

/-- One span (R273, R274): KIND 0 ROUTE, 1 HOLD, 2 OCCUPY, 3 LAPSED. `fin` is END, meaningless when open. -/
structure Span where
  rover : Nat
  kind : Nat
  opn : Bool
  serial : Nat
  start : Nat
  lstart : Nat
  fin : Nat
  deriving DecidableEq, Repr

/-- A route request (R279): chains are (chain ID, traversed REV). `fromAir` marks an uplink request; `tag` and the rest
belong to a ROUTE command. -/
structure RouteReq where
  rover : Nat
  prio : Nat
  dep : Nat
  depLatest : Nat
  vcap : Nat
  reqSerial : Nat
  chains : List (Nat × Bool)
  fromAir : Bool
  tag : Nat
  noResult : Bool
  acceptTick : Nat
  seq : Nat
  deriving DecidableEq, Repr

/-- One rover in the Shepherd's tables. -/
structure ShepRover where
  /-- The footprint set in order: chain and the r with which it was entered (R271). -/
  foot : List (Nat × Nat)
  /-- The route granted: chains with direction (R284). -/
  route : List (Nat × Bool)
  /-- The pending request slot (R280). -/
  req : Option RouteReq
  /-- The pending request was part-evaluated and goes first (R276, R277). -/
  carry : Bool
  /-- A_L: the age at lapse entry plus 3 (R268). -/
  ageL : Nat
  /-- Tick at which the rover became HALTED; its AUTH ends at most HEEL_MAX ticks later (R288). -/
  haltTick : Nat
  /-- The Heel or clamped profile of a HALTED rover has ended (R288). -/
  haltDone : Bool
  /-- The matched task. -/
  task : Option Nat
  deriving DecidableEq, Repr

/-- A rover the Shepherd has never seen. -/
def ShepRover.fresh : ShepRover :=
  { foot := [], route := [], req := none, carry := false, ageL := 0, haltTick := 0, haltDone := false, task := none }

/-- A task entry (R299): status 0 FREE, 1 OPEN, 2 MATCHED. -/
structure Task where
  status : Nat
  prio : Nat
  need : Nat
  from_ : Nat
  to_ : Nat
  notBefore : Nat
  deadline : Nat
  payload : Nat
  rover : Nat
  deriving DecidableEq, Repr

/-- A FREE entry. -/
def Task.free : Task :=
  { status := 0, prio := 0, need := 0, from_ := 0, to_ := 0, notBefore := 0, deadline := 0, payload := 0, rover := 0 }

/-- A command the Shepherd has accepted and not yet worked (R26, R276, R304). -/
inductive ShepCmd where
  | load (addr reserved : Nat) (img : Option (List Byte))
  | place (rover chain : Nat)
  | release (rover : Nat) (force : Bool) (siteTag : Nat)
  | unblock (chain : Nat)
  | taskAdd (task : Nat) (t : Task)
  | taskCancel (task : Nat)
  | taskDone (task : Nat)
  | activate (atTick : Nat)
  | bad (opcode code : Nat)
  deriving DecidableEq, Repr

/-- An accepted command with its header, in acceptance order (R278). -/
structure ShepPend where
  cmd : ShepCmd
  tag : Nat
  noResult : Bool
  acceptTick : Nat
  seq : Nat
  deriving DecidableEq, Repr

/-- A result or notice waiting for the publication boundary (R276): acceptance number, opcode, RESULT, tag and payload. -/
structure ShepRes where
  seq : Nat
  opcode : Nat
  code : Nat
  tag : Nat
  noResult : Bool
  acceptTick : Nat
  doneTick : Nat
  payload : List Byte
  deriving DecidableEq, Repr

/-- A grant as MOT takes it (R284, R285): rover, route serial, departure, speed cap, chains with direction. -/
structure Grant where
  rover : Nat
  serial : Nat
  dep : Nat
  vcap : Nat
  chains : List (Nat × Bool)
  deriving DecidableEq, Repr

/-- The Shepherd's hidden state. -/
structure ShepSt where
  /-- The active network (R265). -/
  active : Option Net
  /-- The inactive network slot (R264). -/
  loaded : Option Net
  /-- The image that the restore at start-up activates in phase 1 of the first tick (R630). -/
  restore : Option Net
  /-- The span table: chain × 8 + slot to span (R273, R274). -/
  cells : AMap Span
  /-- Chains blocked until UNBLOCK (R305). -/
  blocked : List Nat
  /-- Chains blocked for this tick by a parity error (R305). -/
  parityBlocked : List Nat
  /-- The 256 rovers (R288, R289). -/
  rover : AMap ShepRover
  /-- The task table (R299). -/
  tasks : AMap Task
  /-- Commands accepted and waiting for their phase (R278). -/
  cmds : List ShepPend
  /-- Requests replaced in their slots since the last latch (R280). -/
  superseded : List RouteReq
  /-- The number of the next acceptance (R278). -/
  seq : Nat
  /-- Results and notices waiting for the publication boundary (R276). -/
  results : List ShepRes
  /-- A request was part-evaluated in this tick: its rover (R277). -/
  partEval : Option Nat
  /-- Evaluations completed in this tick, and when phase 6 ended, ns after T. -/
  evals : Nat
  endNs : Nat
  /-- The deadline cut phase 6 short in this tick (R277). -/
  discarded : Bool
  /-- NET_MISMATCH holds (R266). -/
  mismatch : Bool
  /-- Grants handed to MOT in this tick, and records and task messages handed to AIR (R284, R302). -/
  toMot : List Grant
  toAir : List (Nat × List Byte)
  /-- Rovers whose spans changed in this tick's phases (R320). -/
  spanChanged : List Nat
  /-- Task messages handed to AIR in this tick (R302). -/
  toAirTask : List (Nat × List Byte)
  /-- SHEP_STAT and the status registers of the rovers as last published (R276, R307, R308). -/
  shown : AMap Word
  deriving DecidableEq, Repr

/-- The Shepherd after power-on. -/
def ShepSt.reset : ShepSt :=
  { active := none, loaded := none, restore := none, cells := [], blocked := [], parityBlocked := [],
    rover := [], tasks := [], cmds := [], superseded := [], seq := 0, results := [], partEval := none, evals := 0, endNs := 0, discarded := false,
    mismatch := false,
    toMot := [], toAir := [], spanChanged := [], toAirTask := [], shown := [] }

end Sys2Proof.Machine
end

