-- ==== Sys2Proof/Machine/Inputs.lean ====
section
/-! DEFINITION. What commands bring in from outside the module: headers of ring commands, correlator dumps, the sky, solver
outcomes, frames. What an analogue input or a numeric solution is, the environment of a command says (log entry 6). -/

namespace Sys2Proof

/-- A ring command's header as its block takes it: TAG and NO_RESULT (R115). -/
structure Hdr where
  tag : Nat
  noResult : Bool
  deriving DecidableEq, Repr

/-- One 1 ms dump of a tracking channel (R137, R145): the phase-lock indicator in thousandths, the lock and sync states,
C/N0 in 1/16 dB-Hz, early, prompt and late I and Q, Doppler in mHz, the NCO words the loops of FW set, and whether the
narrow search of LOST found the signal. -/
structure DumpIn where
  pli : Nat
  carrLock : Bool
  codeLock : Bool
  bitSync : Bool
  timeRes : Bool
  halfRes : Bool
  cn0 : Nat
  acc : List Word
  doppler : Int
  fwRate : Nat
  fwFreq : Nat
  found : Bool
  deriving DecidableEq, Repr

/-- A channel's raw observables at a boundary: pseudorange in 2^-10 m, carrier phase in 2^-16 cycle, before the delay
corrections of R158. -/
structure ObsIn where
  ch : Nat
  pr : Nat
  phase : Int
  deriving DecidableEq, Repr

/-- What the sky gives the receiver at a boundary: the satellites in view, observables, the satellites the residual check
of the time fix excludes, the fix's error in ps and rms in 0.01 m, cold-search jobs Liroron queues, ephemerides that
expired, and the AGC gain and in-band power of the bands HI, MID and LO (R136). -/
structure GnssIn where
  sky : List Machine.SvView
  obs : List ObsIn
  excl : List (Nat × Nat)
  fixErr : Int
  rms : Nat
  jobs : List Machine.SearchJob
  expired : List (Nat × Nat)
  agc : List (Nat × Int)
  deriving DecidableEq, Repr

/-- Nothing from the sky. -/
def GnssIn.none : GnssIn := { sky := [], obs := [], excl := [], fixErr := 0, rms := 0, jobs := [], expired := [], agc := [] }

/-- What the cells of a search job held: whether the strongest cell and every verify dwell exceed THRESH, whether a
tracked signal explains it by cross-correlation (R148), and what is reported. -/
structure SearchIn where
  strong : Bool
  verified : Bool
  xcorr : Bool
  metric : Nat
  codeCell : Nat
  doppler : Int
  deriving DecidableEq, Repr

/-- An Announce message as received (R246): its data set in comparison order, priority1, class, accuracy, variance, priority2
and identity, its domain, and its log2 interval. -/
structure AnnounceIn where
  wellFormed : Bool
  domain : Nat
  data : List Nat
  interval : Int
  deriving DecidableEq, Repr

/-- A solver's numbers for a rover epoch (R201 OUTPUT, R208, R210): position in 0.1 mm, velocity in mm/s, 1σ in mm, the square root
of the larger eigenvalue of the horizontal covariance and the vertical standard deviation in µm, satellites common to rover and
base, ambiguities fixed, whether a carrier filter ran, and the horizontal and vertical distances in mm to the rover's position. -/
structure SolIn where
  x : Int
  y : Int
  z : Int
  east : Int
  north : Int
  up : Int
  velE : Int
  velN : Int
  velU : Int
  sigE : Nat
  sigN : Nat
  sigU : Nat
  sigHmax : Nat
  sigV : Nat
  sats : Nat
  amb : Nat
  carrier : Bool
  dH : Nat
  dV : Nat
  cov : List Word
  deriving DecidableEq, Repr

/-- How a flow ends: a rover epoch solved, an operation failed, or the base flow's message bodies by RTCM message number, as RTCM
10403.3 encodes them (R182). -/
inductive FlowIn where
  | solved (s : SolIn)
  | fault
  | base (msgs : List (Nat × List Byte))
  deriving DecidableEq, Repr

/-- What an ASU search returns (R198): ambiguities searched, nodes visited, RATIO in 0.01, the integers, satellites covered. -/
structure AsuIn where
  op : Nat
  amb : Nat
  nodes : Nat
  ratio : Nat
  ints : List (Nat × Int)
  sats : Nat
  deriving DecidableEq, Repr

/-- What PACK takes in at a boundary: the operations each flow has ready at once, by rover (256 the base flow), and the lane-cycles
of the ending tick that retired, waited on memory, on the ASU, on admission and on dependencies (R193, R584). -/
structure PackIn where
  ready : List (Nat × Nat)
  slots : List Nat
  deriving DecidableEq, Repr

/-- No operations ready, no lane-cycles used. -/
def PackIn.none : PackIn := { ready := [], slots := [] }

/-- How far the Shepherd gets in its millisecond (R276, R277): evaluations completed at most, whether the next one was begun and
cut off, matches made at most, and the end of phase 6 in ns after T. -/
structure ShepIn where
  evals : Nat
  cut : Bool
  matches_ : Nat
  endNs : Nat
  deriving DecidableEq, Repr

/-- Everything done in time. -/
def ShepIn.all : ShepIn := { evals := 256, cut := false, matches_ := 32, endNs := 0 }

/-- How far MOT gets in its window (R320, R321): plans finished, plans in progress at T+3 ms, the window's end in ns after T. -/
structure MotIn where
  plans : Nat
  cut : Nat
  endNs : Nat
  deriving DecidableEq, Repr

/-- Every plan finished. -/
def MotIn.all : MotIn := { plans := 512, cut := 0, endNs := 0 }

/-- An uplink burst as received (R374, R385): the WB channel, its start and end in ns from the start of the tick in progress, its
frames with their tags, RSSI in dBm and SNR in dB. -/
structure UpIn where
  chan : Nat
  startNs : Int
  endNs : Int
  frames : List (List Byte)
  rssi : Int
  snr : Nat
  deriving DecidableEq, Repr

/-- What TIME takes in at a boundary: the OCXO temperature in 0.01 °C, and the GNSS leap-second data where held (R231, R245). -/
structure TimeIn where
  temp : Int
  leap : Option (Nat × Bool × Bool)
  deriving DecidableEq, Repr

/-- Room temperature, no leap-second data. -/
def TimeIn.none : TimeIn := { temp := 2500, leap := Option.none }

end Sys2Proof
end

