-- ==== Sys2Proof/Syntax.lean ====
section
/-! DEFINITION. The commands of the PN-9256: one constructor per row of the opcode table. Every command carries first the
raw counts of 0.8 ns that have passed since the command before it (log entry 1), then its operands. -/

namespace Sys2Proof

open Sys2Proof.Machine

/-- The commands. -/
inductive Instr where
  /-- TICK_BOUNDARY (R627): At every 10 ms boundary the module publishes the ending tick's outputs, applies boundary configuration and latches every tick-bound block. -/
  | tickBoundary (dt : Nat) (g : GnssIn) (pk : PackIn) (ti : TimeIn) (sh : ShepIn)
  /-- ELEMENT_FAULT (R35): A faulting element leaves service, its tick's work is discarded and its retry begins. -/
  | elementFault (dt kind i : Nat)
  /-- ELEMENT_RETRY_END (R35): An element that completes one whole tick without a fault after restore returns to service. -/
  | elementRetryEnd (dt kind i : Nat)
  /-- LPDDR_SCRUB (R41): A 64-byte LPDDR scrub burst runs on its schedule, with catch-up bursts after deferral. -/
  | lpddrScrub (dt : Nat)
  /-- TABLE_PARITY_SCRUB (R41): A thousandth of every parity-protected table is checked each tick. -/
  | tableParityScrub (dt : Nat)
  /-- FLASH_REFRESH (R41): Flash retention refresh and wear management erase-block work runs on its schedule. -/
  | flashRefresh (dt : Nat)
  /-- REGISTER_WRITE (R55): A write to a register with no behaviour of its own updates the addressed lanes or drops a narrow write to a GRD or MBX register. -/
  | registerWrite (dt a v be : Nat)
  /-- UNMAPPED_ACCESS (R52): An access to an unmapped BAR0 offset reads 0 or is dropped, and sets GLB_ERR.UNMAPPED. -/
  | unmappedAccess (dt a : Nat) (write : Bool)
  /-- POWERED_OFF_ACCESS (R59): An access to a block whose power domain is off reads 0xFFFF_FFFF or is dropped, and sets GLB_ERR.PWR_OFF_ACCESS. -/
  | poweredOffAccess (dt a : Nat) (write : Bool)
  /-- GUARD_ARM (R60): A full-width write to the value word of a guarded register arms the guard, discarding any guard already armed. -/
  | guardArm (dt x v : Nat)
  /-- GUARD_COMMIT (R60): A complement written within 1 ms commits a guarded register that has no behaviour of its own, or the write is discarded and counted. -/
  | guardCommit (dt x comp : Nat)
  /-- GUARD_EXPIRY (R61): An armed guard that receives no complement within 1 ms is discarded, counted and recorded. -/
  | guardExpiry (dt : Nat)
  /-- MBX_SELECT (R65): A write to BLOCK_MBX_SEL starts a mailbox read or write sequence, or sets ERR. -/
  | mbxSelect (dt sel v : Nat)
  /-- MBX_SNAPSHOT_READY (R65): The block completes the item snapshot within 2 µs and sets VALID. -/
  | mbxSnapshotReady (dt sel : Nat)
  /-- MBX_DATA_READ (R65): A read of BLOCK_MBX_DATA returns the next snapshot word and clears VALID after the last word. -/
  | mbxDataRead (dt sel : Nat)
  /-- MBX_DATA_WRITE (R66): A write of BLOCK_MBX_DATA stores the next word, and the last word commits the whole item. -/
  | mbxDataWrite (dt sel v : Nat)
  /-- GLB_APPLY (R73): A non-zero mask written to GLB_APPLY fixes an apply instant 2 µs ahead, or is dropped when busy or refused. -/
  | glbApply (dt mask : Nat)
  /-- APPLY_INSTANT (R77): At the apply instant, every selected STROBE-mode block copies its shadows to live, and the apply is counted and recorded. -/
  | applyInstant (dt : Nat)
  /-- GLB_CFG_REF_COMMIT (R85): A committed configuration reference waits to become live at the next apply instant or tick boundary. -/
  | glbCfgRefCommit (dt comp : Nat)
  /-- CFG_WALK_END (R82): At each boundary whose tick counter is a multiple of 8, the walk ends and is judged torn, incomplete, match or mismatch. -/
  | cfgWalkEnd (dt : Nat)
  /-- GLB_ERR_CLEAR (R91): A W1C write to GLB_ERR clears bits, and GLB_ERR_ADDR re-arms when GLB_ERR comes to read 0. -/
  | glbErrClear (dt mask : Nat)
  /-- GLB_SW_RESET (R555): A committed 0x0000_0001 to GLB_SW_RESET starts a full reset. -/
  | glbSwReset (dt comp : Nat)
  /-- RING_DOORBELL (R99): A write to RING_DB is checked and advances RING_PROD, or is refused with BAD_DB. -/
  | ringDoorbell (dt n v : Nat)
  /-- RING_ENABLE (R106): EN going from 0 to 1 runs the set-up checks and makes the ring READY, or refuses the enable. -/
  | ringEnable (dt n : Nat)
  /-- RING_STOP (R103): EN going from 1 to 0 in READY finishes the item in progress and makes the ring STOPPED. -/
  | ringStop (dt n : Nat)
  /-- RING_FLUSH (R121): A write of FLUSH = 1 empties the ring's queue item by item by progress. -/
  | ringFlush (dt n : Nat)
  /-- RING_FLUSH_DONE (R121): FLUSH clears once the item in progress has ended and every write-back caused by the flush is issued. -/
  | ringFlushDone (dt n : Nat)
  /-- RING_RESET (R104): A write of RESET = 1 stops the ring, clears EN and waits for its issued DMA to end. -/
  | ringReset (dt n : Nat)
  /-- RING_RESET_DONE (R104): Once the issued DMA has ended, the queue is discarded, both pointers become 0 and the ring is OFF. -/
  | ringResetDone (dt n : Nat)
  /-- RING_CONS_WRITE (R128): A write to RING_CONS in STOPPED moves CONS and discards fetched descriptors, or is dropped as a lost write. -/
  | ringConsWrite (dt n v : Nat)
  /-- DESCRIPTOR_FETCH (R119): The module fetches descriptors covered by PROD while its internal queue has room, and checks VER. -/
  | descriptorFetch (dt n : Nat) (bytes : List Byte)
  /-- COMMAND_DISPATCH (R628): A command item is dispatched in ring order, after any FENCE, and its header is judged before it is handed to its block. -/
  | commandDispatch (dt : Nat) (data : List Byte)
  /-- ITEM_ENQUEUE (R118): A block's item for a ring to the host is queued, dropped while the ring is OFF, or handled under OVF when the queue is full. -/
  | itemEnqueue (dt n kind : Nat) (data : List Byte)
  /-- ITEM_DMA_TO_HOST (R113): A queued item is written into posted buffers once they are available, chaining or truncating as needed. -/
  | itemDmaToHost (dt n : Nat)
  /-- DESCRIPTOR_COMPLETE (R110): Completion of a descriptor's DMA writes back its status and then CONS. -/
  | descriptorComplete (dt n : Nat)
  /-- DMA_FAULT (R126): A failed or timed-out DMA puts the ring into ERROR and captures the first fault. -/
  | dmaFault (dt n : Nat) (write : Bool) (cause addr : Nat) (on : Option Nat)
  /-- BUS_MASTER_DISABLE (R126): Clearing Bus Master Enable puts every ring with DMA to do into ERROR with NO_BME. -/
  | busMasterDisable (dt addr : Nat) (write : Bool)
  /-- RING_COAL_TIMEOUT (R124): RING_COAL.TIME µs after the oldest uncovered completion, the ring's completion source is set. -/
  | ringCoalTimeout (dt n : Nat)
  /-- RING_IRQ_EN_WRITE (R125): An enable that changes from 0 to 1 while its status bit is 1 sends a message. -/
  | ringIrqEnWrite (dt v : Nat)
  /-- RING_DMA_ERR_CLEAR (R126): Writing 1 to RING_DMA_ERR_INFO.VALID clears the DMA fault capture and re-arms it. -/
  | ringDmaErrClear (dt : Nat)
  /-- ANTENNA_STATE_CHANGE (R134): The filtered bias current moves the antenna state, removing the bias on a short when AUTO_OFF = 1. -/
  | antennaStateChange (dt mA : Nat) (limit : Bool)
  /-- ANT_BIAS_RETRY (R135): Every 10 s after a short, the bias is re-applied for 100 ms. -/
  | antBiasRetry (dt mA : Nat) (limit : Bool)
  /-- BAND_JAM (R136): A band's power above threshold for 100 ms sets its JAM bit and GNSS_EVT.JAM. -/
  | bandJam (dt band : Nat) (power : Int)
  /-- BAND_JAM_CLEAR (R136): JAM clears after the band's power has stayed below threshold for 1 s. -/
  | bandJamClear (dt band : Nat) (power : Int)
  /-- GNSS_CH_ASSIGN (R142): A host write of a host-pool channel's assignment is shadowed, and an auto-pool write is dropped as lost. -/
  | gnssChAssign (dt c v : Nat)
  /-- CHANNEL_DUMP (R145): At every 1 ms dump, a channel's loops close and its state transitions are judged. -/
  | channelDump (dt c : Nat) (d : DumpIn)
  /-- PULLIN_TIMEOUT (R145): A channel without carrier lock 500 ms into PULLIN returns to WAIT. -/
  | pullinTimeout (dt c : Nat)
  /-- LOST_TIMEOUT (R145): A channel that has been LOST for 10 s without reacquisition returns to WAIT. -/
  | lostTimeout (dt c : Nat)
  /-- SEARCH_JOB_START (R149): The search engine takes the next queued job, alternating between owners. -/
  | searchJobStart (dt : Nat)
  /-- SEARCH_JOB_END (R148): A job that has completed its passes and verify dwells has its hit judged, handed over or rejected. -/
  | searchJobEnd (dt : Nat) (i : SearchIn)
  /-- SEARCH (R154): The SEARCH command queues a host search job. -/
  | search (dt : Nat) (h : Hdr) (j : SearchJob) (reserved : Nat)
  /-- SEARCH_CANCEL (R154): The CANCEL command removes or stops a host search job named by its TAG. -/
  | searchCancel (dt : Nat) (h : Hdr) (tag : Nat)
  /-- STEER (R151): The STEER command sets the NCOs of a HOST-mode channel from its first latch. -/
  | steer (dt : Nat) (h : Hdr) (c flags rate freq codeAdj carrAdj reserved : Nat)
  /-- ACC_STREAM (R153): The ACC_STREAM command starts or stops a per-tick accumulation stream. -/
  | accStream (dt : Nat) (h : Hdr) (c on reserved : Nat)
  /-- HOST_COAST_EXPIRY (R152): A HOST channel without STEER for GNSS_HOST_COAST ticks returns to FW. -/
  | hostCoastExpiry (dt c : Nat)
  /-- GNSS_MEAS_DEADLINE (R156): A measurement set not formed by T+9.5 ms is discarded and counted. -/
  | gnssMeasDeadline (dt : Nat)
  /-- GNSS_CAL (R163): A channel is calibrated against the injection path, and a bias above THR counts as a fault. -/
  | gnssCal (dt c : Nat) (bias : Int)
  /-- DOZE_BURST_START (R165): At each whole second in DOZE, the GNSS domains power up and track anchors for BURST ticks. -/
  | dozeBurstStart (dt : Nat)
  /-- DOZE_BURST_END (R166): A burst ends, hands its time fix to TIME and updates the MISS count. -/
  | dozeBurstEnd (dt : Nat)
  /-- EPHEMERIS_DECODED (R169): A broadcast ephemeris is decoded and becomes current for its satellite. -/
  | ephemerisDecoded (dt sys sv : Nat) (healthy : Bool) (isb : Option Int)
  /-- SURVEY_START (R175): Writing PACK_BASE_CMD.SURVEY_START restarts the base survey from zero. -/
  | surveyStart (dt : Nat)
  /-- SURVEY_SAMPLE (R176): Once per second, the survey takes a sample and checks its end criteria. -/
  | surveySample (dt : Nat) (x y z : Int)
  /-- BASE_MOVE_CHECK (R178): Once per second, the 60 s mean is compared with the base position in use, and MOVED is entered on excess. -/
  | baseMoveCheck (dt h v : Nat)
  /-- FLOW_ADMIT (R193): A waiting flow is admitted once its scratch and ready-list room are free. -/
  | flowAdmit (dt ready : Nat)
  /-- FLOW_END (R195): A flow ends when its last operation stores the filter state. -/
  | flowEnd (dt r : Nat) (i : FlowIn)
  /-- PACK_DEADLINE (R196): At T+9.5 ms, every unfinished flow is discarded and its rover goes LATE. -/
  | packDeadline (dt : Nat)
  /-- ASU_SEARCH_END (R198): An ambiguity search completes or truncates and returns its best two vectors. -/
  | asuSearchEnd (dt r : Nat) (i : AsuIn)
  /-- LOAD_GRAPH (R202): The LOAD_GRAPH command checks a solver graph image and stores it. -/
  | loadGraph (dt : Nat) (h : Hdr) (addr reserved : Nat) (img : Option (List Byte))
  /-- UNLOAD_GRAPH (R216): The UNLOAD_GRAPH command removes a loaded graph. -/
  | unloadGraph (dt : Nat) (h : Hdr) (g reserved : Nat)
  /-- ROVER_FILTER_RESET (R207): Writing ROVER_FILTER_CMD.RESET resets the rover's filter at its next solve tick. -/
  | roverFilterReset (dt r : Nat)
  /-- BASE_POS_WRITE (R219): Committing the BASE_POS mailbox item enters a base position. -/
  | basePosWrite (dt : Nat) (x y z arpH : Int) (acc : Nat)
  /-- STATION_DESC_WRITE (R219): Committing the STATION_DESC mailbox item sets the station strings. -/
  | stationDescWrite (dt : Nat) (words : List Word)
  /-- REF_QUALIFIED (R227): REF_IN within ±1 ppm for 10 s becomes the synthesiser reference. -/
  | refQualified (dt : Nat)
  /-- REF_LOST (R227): On REF_IN loss or drift, the synthesiser returns to the OCXO within 2 µs. -/
  | refLost (dt : Nat)
  /-- PPS_IN_EDGE (R228): A PPS_IN edge is taken as a whole second of source time, or refused as PPS_IN_BAD. -/
  | ppsInEdge (dt : Nat) (rise : Bool)
  /-- TIME_SOURCE_LOSS (R229): LOSS_TICKS ticks without a valid fix, or the equivalent for other sources, move LOCKED to HOLDOVER. -/
  | timeSourceLoss (dt : Nat)
  /-- HOLDOVER_LIMIT (R229): Holdover uncertainty passes UNTRACE_NS, the state becomes UNTRACEABLE and go tokens stop. -/
  | holdoverLimit (dt : Nat)
  /-- TIME_RETURN_BEGIN (R233): After the source has been valid for 10 s, the return begins with a slew or a step. -/
  | timeReturnBegin (dt : Nat)
  /-- TIME_STEP (R235): At a whole second, published time is stepped by −E, with the effects on ticks, rovers and partner. -/
  | timeStep (dt : Nat)
  /-- TIME_SET (R237): Committing the SET mailbox item in UNTRACEABLE schedules an initial set, or is refused. -/
  | timeSet (dt ns unc : Nat)
  /-- PULSE_EDGE (R239): A scheduled pulse begins on a pulse output. -/
  | pulseEdge (dt i : Nat)
  /-- PULSE_END (R239): A pulse ends after WIDTH, and a one-shot sets DONE. -/
  | pulseEnd (dt i : Nat)
  /-- CAPTURE_EDGE (R242): A selected edge on EVT_IN is timestamped into its FIFO, or dropped when the FIFO is full. -/
  | captureEdge (dt n : Nat) (rise : Bool)
  /-- TIME_CAP_POP (R243): Writing POP removes the oldest capture entry. -/
  | timeCapPop (dt n : Nat)
  /-- PTP_ANNOUNCE_RX (R246): A received Announce is run through the best master clock algorithm, which may make the port PASSIVE. -/
  | ptpAnnounceRx (dt p : Nat) (a : AnnounceIn)
  /-- PTP_GM_TX (R248): Grandmaster messages are sent at their intervals while time serving is allowed. -/
  | ptpGmTx (dt p kind : Nat)
  /-- LOAD_NET (R264): The LOAD_NET command checks a network image and loads it into the inactive slot. -/
  | loadNet (dt : Nat) (h : Hdr) (addr reserved : Nat) (img : Option (List Byte))
  /-- ACTIVATE_NET (R265): The ACTIVATE_NET command schedules activation of the loaded image at a tick boundary. -/
  | activateNet (dt : Nat) (h : Hdr) (atTick reserved : Nat)
  /-- ROUTE (R279): The ROUTE command places a route request in the rover's pending slot. -/
  | route (dt : Nat) (h : Hdr) (d : List Byte)
  /-- RELEASE (R296): The RELEASE command releases a rover's spans, with or without FORCE. -/
  | release (dt : Nat) (h : Hdr) (rover flags tag : Nat)
  /-- PLACE (R305): The PLACE command places an UNPLACED rover on a chain in phase 2. -/
  | place (dt : Nat) (h : Hdr) (rover reserved chain : Nat)
  /-- UNBLOCK (R305): The UNBLOCK command clears a blocked chain. -/
  | unblock (dt : Nat) (h : Hdr) (chain reserved : Nat)
  /-- TASK_ADD (R299): The TASK_ADD command fills a FREE task entry and makes it OPEN. -/
  | taskAdd (dt : Nat) (h : Hdr) (task prio reserved need from_ to_ notBefore deadline payload : Nat)
  /-- TASK_CANCEL (R299): The TASK_CANCEL command returns a task entry to FREE. -/
  | taskCancel (dt : Nat) (h : Hdr) (task reserved : Nat)
  /-- TASK_DONE (R299): The TASK_DONE command returns a task entry to FREE. -/
  | taskDone (dt : Nat) (h : Hdr) (task reserved : Nat)
  /-- SHEP_DEADLINE (R277): At T+1 ms, a part-evaluated request is discarded, to be evaluated first at the next tick. -/
  | shepDeadline (dt : Nat)
  /-- SPAN_OVERSTAY (R291): When a ROUTE span's END passes with the footprint still on the chain, the span becomes OCCUPY and OVERSTAY is posted. -/
  | spanOverstay (dt chain cell : Nat)
  /-- TASK_EXPIRY (R299): An OPEN task whose DEADLINE passes returns to FREE with a TASK_EXPIRED notice. -/
  | taskExpiry (dt task : Nat)
  /-- SPAN_POISON (R305): A span cell failing its ECC is invalidated and its chain is blocked. -/
  | spanPoison (dt chain cell : Nat)
  /-- NET_PARITY_ERROR (R305): A network table entry with a parity error is reloaded, and its chain is blocked for that tick. -/
  | netParityError (dt chain : Nat)
  /-- SHEP_TBL_SEL (R307): A write to SHEP_TBL_SEL takes a snapshot of the selected table entry into the window. -/
  | shepTblSel (dt v : Nat)
  /-- MOVE (R315): The MOVE command plans a jerk-limited move of a channel. -/
  | move (dt : Nat) (h : Hdr) (ch flags target vmax amax jmax start : Nat)
  /-- CONVOY (R334): The CONVOY command moves 2 to 16 channels together on one path parameter. -/
  | convoy (dt : Nat) (h : Hdr) (group n reserved start : Nat) (members : List (Nat × Nat × Nat))
  /-- HOME (R344): The HOME command runs a homing search on a channel. -/
  | home (dt : Nat) (h : Hdr) (ch dir mode speed ofs : Nat)
  /-- HALT (R329): The HALT command requests a Heel of one or every channel. -/
  | halt (dt : Nat) (h : Hdr) (ch kind reserved : Nat)
  /-- SET_POS (R351): The SET_POS command sets an IDLE channel's position and sets HOMED. -/
  | setPos (dt : Nat) (h : Hdr) (ch reserved pos : Nat)
  /-- CLEAR (R314): The CLEAR command returns a DROPPED channel to IDLE while the Leash is armed and the channel is at rest. -/
  | clear (dt : Nat) (h : Hdr) (ch reserved : Nat)
  /-- MOT_WINDOW (R320): From T+1 ms, MOT plans Heels, span changes, grants, commands and refreshes in order. -/
  | motWindow (dt : Nat) (i : MotIn)
  /-- MOT_WINDOW_END (R321): At T+3 ms, an unfinished plan is discarded and carried to the next window. -/
  | motWindowEnd (dt : Nat)
  /-- STEP_EDGE (R337): The planned position crosses a half-step, and a step edge is emitted on MOT_STEPk. -/
  | stepEdge (dt ch : Nat)
  /-- STEP_TRACK_CHECK (R339): Every 1 ms, the steps emitted are compared with the step count. -/
  | stepTrackCheck (dt ch : Nat)
  /-- SWITCH_INPUT_EDGE (R341): A transition on MOT_INi is timestamped and counted toward chatter. -/
  | switchInputEdge (dt i : Nat) (level : Bool)
  /-- INPUT_QUALIFIED (R341): An input that holds its new level for FILT qualifies the edge and latches the position. -/
  | inputQualified (dt i : Nat)
  /-- CHATTER_END (R342): An input that has held one level for CHAT_STABLE leaves CHATTER. -/
  | chatterEnd (dt i : Nat)
  /-- HOMING_RANGE (R344): A homing search that covers HOME_RANGE without a qualified edge ends with a Heel. -/
  | homingRange (dt ch : Nat)
  /-- MOVE_END (R314): A move or homing ends and the channel returns to IDLE with its result. -/
  | moveEnd (dt ch : Nat)
  /-- STOP_END (R314): A Heel or limit stop reaches zero velocity and the channel becomes IDLE. -/
  | stopEnd (dt ch : Nat)
  /-- SETPOINT_FRAME_TX (R347): Each period, a REMOTE channel hands a setpoint frame to the switch at APPLY_TIME − LEAD, or skips it. -/
  | setpointFrameTx (dt ch : Nat)
  /-- STATUS_FRAME_RX (R348): A drive's STATUS frame is checked for CMAC, SEQ, following error and DRIVE_FAULT. -/
  | statusFrameRx (dt : Nat) (d : List Byte)
  /-- STATUS_TIMEOUT (R348): No accepted STATUS within TIMEOUT periods is a position-tracking fault. -/
  | statusTimeout (dt ch : Nat)
  /-- TOKEN_TX (R380): In grains 0 to 1 of ticks of phase 1 to 9, a TOKEN frame carries the published AUTH bits. -/
  | tokenTx (dt c : Nat)
  /-- BEACON_TX (R380): In grains 0 to 1 of tick phase 0, a BEACON frame carries AUTH, resync entries and timing corrections. -/
  | beaconTx (dt c : Nat)
  /-- DOWNLINK_TX (R377): DOWN frames fill the downlink grains with elements in kind order. -/
  | downlinkTx (dt c : Nat)
  /-- DATA_TX (R379): DATA frames from port P9 are sent in HOST grains. -/
  | dataTx (dt c : Nat)
  /-- SG_BEACON_TX (R367): An SG_BEACON is sent on SG at each superframe boundary. -/
  | sgBeaconTx (dt : Nat)
  /-- CORR_FB_TX (R395): A CORR_FB frame carries RTCM on SG every CORR_INT superframes, within the budget. -/
  | corrFbTx (dt : Nat)
  /-- DROP_FRAME_TX (R382): At the first grain edge at least 20 µs after a trip, a DROP frame is sent on each WB channel and repeated. -/
  | dropFrameTx (dt c : Nat)
  /-- SG_DROP_TX (R383): On SG, the frame in progress is cut and DROP_RPT DROP frames are sent back to back. -/
  | sgDropTx (dt : Nat)
  /-- UPLINK_BURST_RX (R374): An uplink burst is judged by slot, version, identity, freshness and tag, and its elements are handed on. -/
  | uplinkBurstRx (dt : Nat) (u : UpIn)
  /-- ROVER_LINK_LAPSE (R392): At the end of a third consecutive silent superframe, AIR marks the rover context LAPSED. -/
  | roverLinkLapse (dt : Nat)
  /-- SLOT_MAP_EFFECTIVE (R365): At the superframe boundary EFFECTIVE, the changed assignments take effect and AIR_MAP_SERIAL increments. -/
  | slotMapEffective (dt : Nat)
  /-- CLEAR_DRIFT (R389): Writing ROVER_LINK_CMD.CLEAR_DRIFT clears DRIFT_FAULT. -/
  | clearDrift (dt r : Nat)
  /-- REGION_CHANGE (R398): A new regional profile takes effect at the next superframe boundary, with transmission stopped until then. -/
  | regionChange (dt : Nat)
  /-- RTCM_ELEMENT_EXPIRY (R377): An RTCM element still waiting 100 ms after its instant is discarded and counted. -/
  | rtcmElementExpiry (dt : Nat)
  /-- LEASH_INPUT_DEENERGISE (R408): A de-energising edge on a Leash input trips the Leash, with both outputs de-energised within 30 ns. -/
  | leashInputDeenergise (dt x : Nat)
  /-- LEASH_PULSE_TOL_EXPIRY (R408): An input de-energised for PULSE_TOL trips the Leash. -/
  | leashPulseTolExpiry (dt x : Nat)
  /-- LEASH_INPUT_ENERGISE (R420): A Leash input re-energises, which can clear DISC and starts its 100 ms for re-arming. -/
  | leashInputEnergise (dt x : Nat)
  /-- LEASH_TRIP (R411): A committed 0x0000_0001 to LEASH_TRIP trips the Leash with cause SW_REG. -/
  | leashTrip (dt comp : Nat)
  /-- TRIP (R428): The TRIP command trips the Leash with cause SW_CMD and returns the TRIP_ID. -/
  | trip (dt : Nat) (h : Hdr) (reserved : Nat)
  /-- HEEL_ALL (R417): The HEEL_ALL command sets the command bit of HEEL_SRC, starting a fleet Heel. -/
  | heelAll (dt : Nat) (h : Hdr) (reserved : Nat)
  /-- HEEL_END (R419): The HEEL_END command clears the command and configuration bits of HEEL_SRC. -/
  | heelEnd (dt : Nat) (h : Hdr) (reserved : Nat)
  /-- MONITOR_TRIP (R412): A safety monitor condition trips the Leash with cause MONITOR. -/
  | monitorTrip (dt cond : Nat) (on : Bool)
  /-- OUTPUT_READBACK_FAULT (R410): An output readback that differs from the command for more than 5 µs trips the Leash with MON_SRC OUTPUT. -/
  | outputReadbackFault (dt : Nat) (a b : Bool)
  /-- LEASH_DISCREPANCY (R420): Inputs that differ for longer than DISC_TIME latch DISC. -/
  | leashDiscrepancy (dt : Nat)
  /-- LEASH_ARM (R421): A committed 0x0000_0001 to LEASH_ARM is a re-arm request, judged under R422. -/
  | leashArm (dt comp : Nat)
  /-- ARM_PIN_RELEASE (R421): Release of LEASH_ARM_N after 50 ms to 3 s makes a re-arm request. -/
  | armPinRelease (dt us : Nat)
  /-- LEASH_ARMED (R423): At the first tick boundary at least 1 ms after acceptance, the Leash becomes ARMED and energises its outputs. -/
  | leashArmed (dt : Nat)
  /-- LEASH_SELFTEST (R424): Every PERIOD seconds, the Leash runs its self-test checks and trips on a failure. -/
  | leashSelftest (dt : Nat) (ok : Bool)
  /-- LEASH_TEST_NOW (R424): Writing LEASH_TEST_CMD.NOW starts a self-test. -/
  | leashTestNow (dt : Nat) (ok : Bool)
  /-- HEEL_PIN_ASSERT (R417): LEASH_HEEL_N asserted for 1 ms sets the pin bit of HEEL_SRC. -/
  | heelPinAssert (dt : Nat)
  /-- HEEL_PIN_RELEASE (R417): LEASH_HEEL_N released for 1 ms clears the pin bit of HEEL_SRC. -/
  | heelPinRelease (dt : Nat)
  /-- PARTNER_TRIP (R426): A trip signal from the active partner, over LVDS or P1, trips the standby with cause PARTNER. -/
  | partnerTrip (dt : Nat) (lvds : Bool) (d : List Byte)
  /-- LEASH_PARTNER_DIFF (R426): Partner input levels that differ for more than 10 ms set PARTNER_DIFF. -/
  | leashPartnerDiff (dt : Nat)
  /-- FRAME_RECEIVE (R435): A received frame is classified, filtered, delivered locally, learned, routed or bridged, and queued for egress. -/
  | frameReceive (dt port sub : Nat) (d : List Byte) (badFcs : Bool)
  /-- LEARN_EVENT (R441): A queued learn, flush or MAC command event is handled in order against the MAC table. -/
  | learnEvent (dt : Nat)
  /-- MAC_AGING (R443): Every AGE seconds, each dynamic entry is visited and removed or has its HIT cleared. -/
  | macAging (dt : Nat)
  /-- MOVE_COUNT_RESET (R441): At each whole second, MOVES returns to 0. -/
  | moveCountReset (dt : Nat)
  /-- PIN_HOLD_EXPIRY (R441): After HOLD seconds, a pinned entry's PINNED clears. -/
  | pinHoldExpiry (dt i : Nat)
  /-- LINK_CHANGE (R450): A port's link goes up or down, which can flush its entries. -/
  | linkChange (dt port : Nat) (up : Bool) (speed : Nat)
  /-- P9_FRAME_EXPIRY (R438): A frame queued for P9 for 500 ms is dropped and counted. -/
  | p9FrameExpiry (dt : Nat)
  /-- MAC_ADD (R442): The MAC_ADD command installs or replaces a static entry through the learn queue. -/
  | macAdd (dt : Nat) (h : Hdr) (mac vid port sub reserved : Nat)
  /-- MAC_DEL (R451): The MAC_DEL command removes an entry through the learn queue. -/
  | macDel (dt : Nat) (h : Hdr) (mac vid : Nat)
  /-- MAC_FLUSH (R451): The MAC_FLUSH command removes entries by port and VID through the learn queue. -/
  | macFlush (dt : Nat) (h : Hdr) (port flags vid : Nat)
  /-- VLAN_SET (R451): The VLAN_SET command writes a VLAN entry. -/
  | vlanSet (dt : Nat) (h : Hdr) (vid member untag flags : Nat)
  /-- RIF_SET (R444): The RIF_SET command writes a router interface. -/
  | rifSet (dt : Nat) (h : Hdr) (rif flags vid ip4 len4 reserved ip6 : Nat)
  /-- NH_SET (R444): The NH_SET command writes a next hop. -/
  | nhSet (dt : Nat) (h : Hdr) (nh flags mac vid : Nat)
  /-- ROUTE_ADD (R446): The ROUTE_ADD command adds or replaces a prefix in the trie. -/
  | routeAdd (dt : Nat) (h : Hdr) (family plen nh pfx reserved : Nat)
  /-- ROUTE_DEL (R446): The ROUTE_DEL command removes a prefix from the trie. -/
  | routeDel (dt : Nat) (h : Hdr) (family plen nh pfx reserved : Nat)
  /-- SW_PARITY_FAIL (R447): A table entry failing parity is logged and repaired by removal or rewrite. -/
  | swParityFail (dt table index : Nat)
  /-- PACKET_TX (R449): A FRAME item from ring 6 or 7 is sent on a port or switched as from P8. -/
  | packetTx (dt n : Nat) (data : List Byte)
  /-- SW_TBL_SEL (R453): A write to SW_TBL_SEL takes a snapshot of the selected switch table entry. -/
  | swTblSel (dt v : Nat)
  /-- HEARTBEAT_TX (R463): At each whole millisecond, a heartbeat is sent on the LVDS link and on P1. -/
  | heartbeatTx (dt : Nat)
  /-- HEARTBEAT_RX (R465): A verified heartbeat updates path state, partner state and the time offset. -/
  | heartbeatRx (dt : Nat) (lvds : Bool) (d : List Byte) (mac : Nat)
  /-- HEARTBEAT_MISS (R463): No heartbeat 50 µs after the millisecond counts a miss, and HB_MISS misses lose the path. -/
  | heartbeatMiss (dt : Nat) (lvds p1 : Bool)
  /-- HOLD_IN_CHANGE (R458): BRACE_HOLD_IN reads asserted or released, affecting the claim and the gate. -/
  | holdInChange (dt : Nat) (level : Bool)
  /-- BRACE_CLAIM (R460): A unit asserts BRACE_HOLD_OUT to claim, resolving a simultaneous claim by UNIT. -/
  | braceClaim (dt : Nat)
  /-- GATE_OPEN (R459): 100 µs after assertion, with the hold line released, the gate opens. -/
  | gateOpen (dt : Nat)
  /-- CLAIM_RETRY (R460): After the serial-based delay, a unit 0 that backed off claims again. -/
  | claimRetry (dt : Nat)
  /-- KEEPALIVE_EXPIRY (R461): Without a feed for KA_TICKS ticks, the hold is released, heartbeats stop and the gate closes. -/
  | keepaliveExpiry (dt : Nat)
  /-- JOIN_WAIT_EXPIRY (R467): With no partner heard within JOIN_WAIT, an eligible unit claims. -/
  | joinWaitExpiry (dt : Nat)
  /-- TAKEOVER (R469): At the first tick boundary after the gate opens, the unit becomes ACTIVE and starts serving. -/
  | takeover (dt : Nat)
  /-- HANDOVER (R471): The HANDOVER command starts an orderly handover at a tick boundary B. -/
  | handover (dt : Nat) (h : Hdr) (atTick reserved : Nat)
  /-- BRACE_RESYNC (R477): The RESYNC command requests a full synchronisation from the standby side. -/
  | braceResync (dt : Nat) (h : Hdr) (reserved : Nat)
  /-- HANDOVER_RELEASE (R471): At T+9 ms of the tick before B, the active unit sends TICK_END and releases its hold. -/
  | handoverRelease (dt : Nat)
  /-- HANDOVER_ABORT (R471): If the hold is not released by T+9.5 ms of the tick before B, the partner abandons the handover. -/
  | handoverAbort (dt : Nat)
  /-- AUTO_RETURN (R472): After RETURN_HOLD seconds of a ready preferred partner, the active unit starts a handover. -/
  | autoReturn (dt : Nat)
  /-- SHEP_DELTA (R474): A received SHEP delta is committed to the mirror and acknowledged. -/
  | shepDelta (dt : Nat) (d : List Byte)
  /-- MOT_DELTA (R474): A received MOT delta is committed to the mirror and acknowledged. -/
  | motDelta (dt : Nat) (d : List Byte)
  /-- ACK (R474): A received ACK releases the tick's GRANT and PROFILE elements for transmission. -/
  | ack (dt : Nat) (d : List Byte)
  /-- ACK_DEADLINE (R474): At T+3.5 ms without both ACKs, the partner is marked not SYNCED and sending proceeds. -/
  | ackDeadline (dt : Nat)
  /-- TICK_END (R475): A received TICK_END updates the mirrored AUTH bits, Leash state and slot map. -/
  | tickEnd (dt : Nat) (d : List Byte)
  /-- SF_SYNC (R476): A received SF_SYNC updates airtime and base state and checks the mirror CRC. -/
  | sfSync (dt : Nat) (d : List Byte)
  /-- FULL_REQ (R477): A received FULL_REQ makes the active unit send every mirrored item. -/
  | fullReq (dt : Nat) (d : List Byte)
  /-- FULL_DATA (R477): Received FULL_DATA records are applied to the mirror. -/
  | fullData (dt : Nat) (d : List Byte)
  /-- FULL_DONE (R477): A received FULL_DONE whose CRC matches makes the standby SYNCED and HOT. -/
  | fullDone (dt : Nat) (d : List Byte)
  /-- HANDOVER_MSG (R471): A received HANDOVER naming B is answered with acceptance or refusal. -/
  | handoverMsg (dt : Nat) (d : List Byte)
  /-- HANDOVER_ACK (R471): A received HANDOVER_ACK confirms or refuses the handover. -/
  | handoverAck (dt : Nat) (d : List Byte)
  /-- STEP_ANNOUNCE (R235): A received STEP message schedules the partner's step at the same raw instant. -/
  | stepAnnounce (dt : Nat) (d : List Byte)
  /-- LOAD_BLOB (R506): The LOAD_BLOB command checks a blob and loads its key into a slot. -/
  | loadBlob (dt : Nat) (h : Hdr) (slot reserved addr size : Nat) (blob : Option (List Byte))
  /-- ERASE (R508): The ERASE command invalidates a slot and its children. -/
  | erase (dt : Nat) (h : Hdr) (slot reserved : Nat)
  /-- DERIVE (R519): The DERIVE command derives a key into an EMPTY slot. -/
  | derive (dt : Nat) (h : Hdr) (parent slot type labelLen use user : Nat) (label context : List Byte)
  /-- WRAP (R519): The WRAP command writes a slot's key as a blob to host memory. -/
  | wrap (dt : Nat) (h : Hdr) (slot parent bind reserved addr size serial reserved2 : Nat) (ok : Bool)
  /-- ROOT_GEN (R492): The ROOT_GEN command generates a new BBRAM root. -/
  | rootGen (dt : Nat) (h : Hdr) (flags reserved : Nat)
  /-- QUOTE (R517): The QUOTE command returns a signed attestation quote. -/
  | quote (dt : Nat) (h : Hdr) (nonce : List Byte)
  /-- EXTEND (R494): The EXTEND command extends MEAS4 to MEAS7 with a digest. -/
  | extend (dt : Nat) (h : Hdr) (index reserved : Nat) (digest : List Byte)
  /-- SIGN (R519): The SIGN command signs a digest with a private-key slot. -/
  | sign (dt : Nat) (h : Hdr) (slot reserved : Nat) (digest : List Byte)
  /-- VERIFY (R519): The VERIFY command checks a signature with a public-key slot. -/
  | verify (dt : Nat) (h : Hdr) (slot reserved : Nat) (digest sig : List Byte)
  /-- FUSE_PROG (R493): The FUSE_PROG command programs the four customer fuse root generations. -/
  | fuseProg (dt : Nat) (h : Hdr) (reserved : Nat) (roots : List (List Byte))
  /-- ORPHAN_ZEROISE (R508): At the end of the tick, ORPHAN slots and cache entries are zeroised and become EMPTY. -/
  | orphanZeroise (dt : Nat)
  /-- TAMPER_DETECT (R512): A tamper source fires, and the module closes the gate, aborts operations and zeroises keys. -/
  | tamperDetect (dt src : Nat) (on : Bool)
  /-- TAMPER_RESET (R512): 2 ms after a tamper detection, a tamper reset starts. -/
  | tamperReset (dt : Nat)
  /-- TAMPER_SLEEP (R514): A tamper in HIBERNATE or OFF zeroises the root from VBAT and logs a record. -/
  | tamperSleep (dt src : Nat)
  /-- KEN_TAMPER_CLR (R492): A committed tamper clear moves to the next CFR generation, or is refused. -/
  | kenTamperClr (dt comp : Nat)
  /-- KEN_ZEROISE (R510): A committed 0x0000_0001 to KEN_ZEROISE forces a tamper. -/
  | kenZeroise (dt comp : Nat)
  /-- KEN_READMIT (R503): A committed KEN_READMIT re-admits a BAD slot as EMPTY. -/
  | kenReadmit (dt comp : Nat)
  /-- VBAT_LOW (R516): VBAT below 2.5 V with main power present sets VBAT_LOW. -/
  | vbatLow (dt : Nat)
  /-- GNSS_READMIT (R38): A committed GNSS_READMIT re-admits a retired channel at the next tick boundary. -/
  | gnssReadmit (dt comp : Nat)
  /-- PACK_READMIT (R197): A committed PACK_READMIT re-admits a retired lane at the next tick boundary. -/
  | packReadmit (dt comp : Nat)
  /-- MOT_READMIT (R349): A committed MOT_READMIT re-admits a FAULTED channel at the next tick boundary. -/
  | motReadmit (dt comp : Nat)
  /-- AIR_READMIT (R399): A committed AIR_READMIT re-admits a retired grain set at the next tick boundary. -/
  | airReadmit (dt comp : Nat)
  /-- SW_READMIT (R450): A committed SW_READMIT re-admits a retired port at the next tick boundary. -/
  | swReadmit (dt comp : Nat)
  /-- STAGE (R528): The STAGE command appends a chunk of package to the staging area. -/
  | stage (dt : Nat) (h : Hdr) (offset size addr flags : Nat) (data : Option (List Byte)) (flashOk : Bool)
  /-- PACKAGE_VERIFY (R529): The VERIFY command checks the staged package's manifest, signature, unit, SVN and parts. -/
  | packageVerify (dt : Nat) (h : Hdr) (reserved : Nat)
  /-- INSTALL (R528): The INSTALL command writes the staged package into the inactive bank set. -/
  | install (dt : Nat) (h : Hdr) (reserved : Nat)
  /-- INSTALL_COMPLETE (R528): Installation ends with every part read back, or fails and marks the bank set invalid. -/
  | installComplete (dt : Nat) (flashOk : Bool)
  /-- ACTIVATE (R532): The ACTIVATE command schedules an activation restart at AT_TICK. -/
  | activate (dt : Nat) (h : Hdr) (atTick flags reserved : Nat)
  /-- CANCEL (R533): The CANCEL command withdraws a scheduled activation before its deadline. -/
  | cancel (dt : Nat) (h : Hdr) (reserved : Nat)
  /-- CANCEL_DEADLINE (R533): At 10 ticks before AT_TICK, cancellation closes and a firmware restart counts as in progress. -/
  | cancelDeadline (dt : Nat)
  /-- ACTIVATION_RESTART (R534): At AT_TICK, the boot record is written for a trial and a full reset starts, or the activation is skipped. -/
  | activationRestart (dt : Nat)
  /-- PAIR_WAIT_EXPIRY (R535): An active unit that does not see its partner HOT on the new release within PAIR_WAIT returns to INSTALLED. -/
  | pairWaitExpiry (dt : Nat)
  /-- CONFIRM (R538): The CONFIRM command ends a trial by making the trial settings current. -/
  | confirm (dt : Nat) (h : Hdr) (reserved : Nat)
  /-- ROLLBACK (R539): The ROLLBACK command fails a trial or activates the previous bank set. -/
  | rollback (dt : Nat) (h : Hdr) (atTick : Nat)
  /-- TRIAL_EXPIRY (R537): A trial window that ends without CONFIRM rolls back to the previous bank set. -/
  | trialExpiry (dt : Nat)
  /-- UPD_FUSE_SVN (R530): A committed UPD_FUSE_SVN blows fuses up to the running SVN, or is refused. -/
  | updFuseSvn (dt comp : Nat)
  /-- PWR_REQ (R550): A committed power state request is judged and starts a transition or is refused. -/
  | pwrReq (dt comp : Nat)
  /-- DOMAIN_SETTLED (R548): A domain switched on settles within 2 ms, and its block starts. -/
  | domainSettled (dt d : Nat)
  /-- DOZE_SILENCE (R550): When every bound channel is at rest or HEEL_MAX ticks pass, DOZE_ENTRY becomes SILENCING. -/
  | dozeSilence (dt : Nat)
  /-- DOZE_ENTER (R551): At the first superframe boundary at least 30 ms after the last token, the unit enters DOZE or HIBERNATE. -/
  | dozeEnter (dt : Nat)
  /-- HIBERNATE_ENTER (R550): A HIBERNATE request in DOZE takes effect at the next tick boundary. -/
  | hibernateEnter (dt : Nat)
  /-- RUN_RESUME (R552): At the first superframe boundary at least 50 ms after the request, WAKING becomes RUN. -/
  | runResume (dt : Nat)
  /-- WAKE_PIN (R553): WAKE_N held low for 10 ms wakes the module from HIBERNATE. -/
  | wakePin (dt : Nat)
  /-- WAKE_ALARM (R553): KEN_AON_SEC reaching PWR_WAKE_SEC wakes the module from HIBERNATE. -/
  | wakeAlarm (dt : Nat)
  /-- POWER_ON (R555): VIN rising after OFF, or with AON unpowered, starts a power-on reset. -/
  | powerOn (dt : Nat) (nothing vbat : Bool)
  /-- BROWN_OUT (R555): VIN or a rail falling below its threshold starts a brown-out reset. -/
  | brownOut (dt : Nat) (off : Bool)
  /-- RST_N (R556): RST_N held low for 1 µs or more resets the module. -/
  | rstN (dt : Nat)
  /-- WATCHDOG_EXPIRY (R558): TIMEOUT ms without a feed expire the watchdog and reset the module. -/
  | watchdogExpiry (dt : Nat)
  /-- PERST_N (R557): PERST_N resets the PCIe endpoint and the RING block only. -/
  | perstN (dt : Nat)
  /-- PWR_SOFT_RESET (R559): A committed block mask resets the selected blocks' state at once. -/
  | pwrSoftReset (dt comp : Nat)
  /-- START_UP (R563): After a reset, the module powers domains, boots, loads settings, keys and images, and starts the first tick. -/
  | startUp (dt : Nat) (migOk selfOk : Bool)
  /-- OP_SEC_COUNT (R566): Each second of CTRL power increments PWR_OP_SEC, which is written to MRAM. -/
  | opSecCount (dt : Nat)
  /-- VIN_LOW (R601): VIN below 4.5 V for 1 ms sets PWR_EVT.VIN_LOW. -/
  | vinLow (dt mV : Nat)
  /-- OVERTEMP (R621): A frame temperature above +85 °C sets PWR_EVT.OVERTEMP. -/
  | overtemp (dt : Nat) (temp : Int)
  /-- REC_WRITE (R572): A queued trigger record takes its snapshot and is written to the protected or ring region. -/
  | recWrite (dt : Nat)
  /-- REC_CUR_SEL (R579): A SEQ written to REC_CUR_SEL copies that record into the window. -/
  | recCurSel (dt sq : Nat)
  /-- REC_NEXT (R579): REC_CUR_CMD.NEXT loads the next record of the cursor's region. -/
  | recNext (dt : Nat)
  /-- REC_OLDEST_RING (R579): REC_CUR_CMD.OLDEST_RING loads the oldest ring record. -/
  | recOldestRing (dt : Nat)
  /-- REC_OLDEST_PROT (R579): REC_CUR_CMD.OLDEST_PROT loads the oldest protected record. -/
  | recOldestProt (dt : Nat)
  /-- REC_CLEAR_RING (R581): A committed SEQ clears every ring record not later than it. -/
  | recClearRing (dt comp : Nat)
  /-- REC_CLEAR_PROT (R581): A committed SEQ clears every protected record not later than it. -/
  | recClearProt (dt comp : Nat)
  /-- RECORD (R591): The RECORD command writes a HOST record with the given payload. -/
  | record (dt : Nat) (h : Hdr) (payload : List Byte)
  /-- SNAP_LIST_WRITE (R576): Committing a SNAP_LIST mailbox item sets a snapshot list, or refuses it whole. -/
  | snapListWrite (dt list : Nat) (ws : List Nat)
  /-- PERF_DUMP (R585): At every multiple of the dump period, a COUNTER_DUMP item is queued on ring 5, or skipped. -/
  | perfDump (dt : Nat)
  /-- DUMP_NOW (R591): The DUMP_NOW command takes an extra dump at the next boundary. -/
  | dumpNow (dt : Nat) (h : Hdr) (reserved : Nat)
  /-- GLB_ERR_IRQ_EN_WRITE (R90): A write to GLB_ERR_IRQ_EN that changes an enable from 0 to 1 while its GLB_ERR bit reads 1 raises GLB error source 0. -/
  | glbErrIrqEnWrite (dt v : Nat)
  /-- MSIX_VECTOR_UNMASK (R125): Unmasking an MSI-X vector whose pending bit is set sends the pending message and clears the pending bit. -/
  | msixVectorUnmask (dt v : Nat)
  /-- ANNOUNCE_RECEIPT_TIMEOUT (R246): When a better foreign master's Announce messages stop arriving, the port leaves PASSIVE and resumes as MASTER. -/
  | announceReceiptTimeout (dt p : Nat)
  /-- PDELAY_REQ_TX (R247): In the Peer-to-Peer profile, each PTP port sends Pdelay_Req at the DELAY interval to measure its mean link delay for the transparent clock. -/
  | pdelayReqTx (dt p : Nat) (delay : Option Nat)
  /-- EGRESS_TRANSMIT (R439): An egress port takes the next frame from its four queues by strict priority and weighted round robin and transmits it, taking its egress timestamp. -/
  | egressTransmit (dt port : Nat)
  /-- VBAT_LOSS (R488): Loss of VBAT while main power is off unpowers the AON domain and loses the BBRAM root, so the next start-up gives ROOT_FALLBACK. -/
  | vbatLoss (dt : Nat)
  /-- LEASH_SELFTEST_END (R424): A self-test whose output pulses lie at least 10 ms apart ends, clearing TEST_FAIL and counting and recording the pass, or tripping the Leash on a failed check. -/
  | leashSelftestEnd (dt : Nat) (ok : Bool)
  deriving DecidableEq, Repr

end Sys2Proof
end

