-- ==== Sys2Proof/Decode.lean ====
section
/-! DEFINITION. Commands spelled by table bits: no row of the opcode table has bits, so no word spells a command. -/

namespace Sys2Proof

/-- The command a word spells by the bits of the opcode table. Commands reach the PN-9256 as register accesses, ring items, frames and
pin edges (R54, R115), and the table gives none of them bits. -/
def decodeTableWord (_nbits _w : Nat) : Option Instr := none

end Sys2Proof
end

