-- ==== Sys2Proof/Config.lean ====
section
/-! DEFINITION. What an implementation fixes and what the spec leaves open: opaque constants with no body. -/

namespace Sys2Proof.Config

/-- A free number: the value the spec leaves open at the place named by the first argument, on its n-th use.
Nothing constrains it (log entry 2). -/
opaque freeNat : Nat → Nat → Nat

/-- A free signed number, as `freeNat` (log entry 2). -/
opaque freeInt : Nat → Nat → Int

/-- A free choice, as `freeNat` (log entry 2). -/
opaque freeBool : Nat → Nat → Bool

/-- The bytes of a block, most significant first. -/
def bytes (n : Nat) (w : BitVec (8 * n)) : List Byte := (List.range n).map fun i => BitVec.ofNat 8 (w.toNat / 256 ^ (n - 1 - i))

/-- SHA-384 (FIPS 180-4), named by R92, R494 and R526 and defined by its own standard (log entry 3). -/
opaque sha384Block : List Byte → BitVec (8 * 48)

/-- The 48 bytes of a SHA-384 digest. -/
def sha384 (d : List Byte) : List Byte := bytes 48 (sha384Block d)

/-- HMAC-SHA-384 of a key and a message, the Kennel's key derivation (R495); the standard defines it (log entry 3). -/
opaque hmacBlock : List Byte → List Byte → BitVec (8 * 48)

/-- The 48 bytes of an HMAC-SHA-384. -/
def hmacSha384 (key msg : List Byte) : List Byte := bytes 48 (hmacBlock key msg)

/-- AES-CMAC of a key and a message, the tag of VAL and Brace messages and of drive frames (log entry 3). -/
opaque cmacBlock : List Byte → List Byte → BitVec (8 * 16)

/-- The 16 bytes of an AES-CMAC. -/
def aesCmac (key msg : List Byte) : List Byte := bytes 16 (cmacBlock key msg)

/-- The key stream of AES-GCM: key, IV and position (R504; log entry 3). -/
opaque gcmStream : List Byte → List Byte → Nat → Byte

/-- The tag of AES-GCM: key, IV, additional data and cipher text (R504; log entry 3). -/
opaque gcmTag : List Byte → List Byte → List Byte → List Byte → BitVec (8 * 16)

/-- Text under the key stream of AES-GCM; twice is the text again. -/
def gcmText (key iv text : List Byte) : List Byte := text.zipIdx.map fun e => e.1 ^^^ gcmStream key iv e.2

/-- AES-GCM sealing of a key blob: key, IV, additional data and plain text to cipher text and tag (R504). -/
def aesGcmSeal (key iv aad text : List Byte) : List Byte × List Byte :=
  (gcmText key iv text, bytes 16 (gcmTag key iv aad (gcmText key iv text)))

/-- AES-GCM opening of a key blob: key, IV, additional data, cipher text and tag; none when the tag fails (R506). -/
def aesGcmOpen (key iv aad cipher tag : List Byte) : Option (List Byte) :=
  if bytes 16 (gcmTag key iv aad cipher) = tag then some (gcmText key iv cipher) else none

/-- A signature by a private key over a digest, r and s of 48 bytes each (R517, R519; log entry 3). -/
opaque signBlock : List Byte → List Byte → BitVec (8 * 96)

/-- The 96 bytes of a signature. -/
def sign (key digest : List Byte) : List Byte := bytes 96 (signBlock key digest)

/-- Whether a signature verifies under a public key (R519; log entry 3). -/
opaque verify : List Byte → List Byte → List Byte → Bool

/-- The public key of a private key, x and y as one number (R522; log entry 3). -/
opaque publicBlock : List Byte → BitVec (8 * 96)

/-- A public key's bytes: 64 for a P-256 key of 32 bytes, 96 for a P-384 key (R504, R522). -/
def publicKey (key : List Byte) : List Byte := (bytes 96 (publicBlock key)).take (if key.length = 32 then 64 else 96)

/-- The unit's 128-bit serial number, fixed at manufacture, as its four words (R92; log entry 4). -/
opaque unitSerial : Nat → Word

/-- The factory unique secret in the fuses (R488; log entry 4). -/
opaque factoryBlock : BitVec (8 * 32)

/-- Its 32 bytes. -/
def factorySecret : List Byte := bytes 32 factoryBlock

/-- The Tirziet firmware signing key of slot 2 (R497; log entry 4). -/
opaque firmwareBlock : BitVec (8 * 96)

/-- Its 96 bytes. -/
def firmwareKey : List Byte := bytes 96 firmwareBlock

/-- A key reduced to a P-384 private key (R497; log entry 3). -/
opaque reduceBlock : List Byte → BitVec (8 * 48)

/-- The 48 bytes of a reduced key. -/
def reduceP384 (key : List Byte) : List Byte := bytes 48 (reduceBlock key)

/-- A delta applied to a part image (R527): the spec does not give its format (log entry 3). -/
opaque applyDelta : List Byte → List Byte → List Byte

/-- The unit's PTP clockIdentity, a factory value: its two words, bytes 0 to 3 first (R255; log entry 4). -/
opaque clockIdentity : Nat → Word

/-- The set of the MAC table that an address and VID hash to; the spec gives no hash (R437; log entry 17). -/
opaque macHash : Nat → Nat → Nat

/-- One WB centre that a regional profile lists, counted from 5,735 MHz in steps of 5 MHz; the lists are in no table of the spec
(R397, R404; log entry 19). -/
opaque listedCentre : Nat → Fin 37

end Sys2Proof.Config
end

