-- ==== Sys2Proof/Machine/RegNames.lean ====
section
/-! DEFINITION. Names: the BAR0 offset of every register, and the bit range of every field the spec's field tables
name, as `R.<register>` and `F.<register>_<field>`. Rules as in RegTable. -/

namespace Sys2Proof.Machine

/-- A field of the register at `off`: bits [hi:lo] (R9). -/
structure Fld where
  off : Nat
  hi : Nat
  lo : Nat
  deriving DecidableEq, Repr

namespace R

def GLB_PART : Nat := 0x0
def GLB_FW_VER : Nat := 0x4
def GLB_FW_BUILD : Nat := 0x8
def GLB_CAPS : Nat := 0xC
def GLB_CTL : Nat := 0x10
def GLB_APPLY : Nat := 0x20
def GLB_APPLY_MODE : Nat := 0x24
def GLB_APPLY_STAT : Nat := 0x2C
def GLB_APPLY_TICK : Nat := 0x30
def GLB_APPLY_SUB : Nat := 0x34
def GLB_CFG_REF : Nat := 0x40
def GLB_CFG_MASK : Nat := 0x48
def GLB_CFG_ACT : Nat := 0x50
def GLB_CFG_CTL : Nat := 0x58
def GLB_CFG_CUR : Nat := 0x5C
def GLB_CFG_STAT : Nat := 0x60
def GLB_ERR : Nat := 0x70
def GLB_ERR_ADDR : Nat := 0x74
def GLB_ERR_IRQ_EN : Nat := 0x78
def GLB_GRD_CNT : Nat := 0x7C
def GLB_LOST_CNT : Nat := 0x80
def GLB_SW_RESET : Nat := 0x90
def GLB_SCRATCH : Nat := 0xA0
def GLB_MBX_SEL : Nat := 0xF80
def GLB_MBX_STAT : Nat := 0xF84
def GLB_MBX_DATA : Nat := 0xF88
def RING_CAPS : Nat := 0x4000
def RING_ERR_SUM : Nat := 0x4004
def RING_IRQ_STAT : Nat := 0x4010
def RING_IRQ_EN : Nat := 0x4014
def RING_VEC_MAP (i : Nat) : Nat := 0x4020 + i * 0x4
def RING_DMA_ERR_LO : Nat := 0x4040
def RING_DMA_ERR_HI : Nat := 0x4044
def RING_DMA_ERR_INFO : Nat := 0x4048
def RING_BASE_LO (i : Nat) : Nat := 0x4100 + i * 0x40
def RING_BASE_HI (i : Nat) : Nat := 0x4104 + i * 0x40
def RING_SIZE (i : Nat) : Nat := 0x4108 + i * 0x40
def RING_CFG (i : Nat) : Nat := 0x410C + i * 0x40
def RING_WB_LO (i : Nat) : Nat := 0x4110 + i * 0x40
def RING_WB_HI (i : Nat) : Nat := 0x4114 + i * 0x40
def RING_COAL (i : Nat) : Nat := 0x4118 + i * 0x40
def RING_CTL (i : Nat) : Nat := 0x411C + i * 0x40
def RING_STAT (i : Nat) : Nat := 0x4120 + i * 0x40
def RING_PROD (i : Nat) : Nat := 0x4124 + i * 0x40
def RING_CONS (i : Nat) : Nat := 0x4128 + i * 0x40
def RING_DROP_CNT (i : Nat) : Nat := 0x412C + i * 0x40
def RING_DONE_CNT (i : Nat) : Nat := 0x4130 + i * 0x40
def RING_QLVL (i : Nat) : Nat := 0x4134 + i * 0x40
def RING_DB (i : Nat) : Nat := 0x5000 + i * 0x4
def GNSS_CTL : Nat := 0x10000
def GNSS_STAT : Nat := 0x10004
def GNSS_EVT : Nat := 0x10008
def GNSS_EVT_EN : Nat := 0x1000C
def GNSS_SIG_EN : Nat := 0x10010
def GNSS_EXCL_GPS : Nat := 0x10014
def GNSS_EXCL_GAL0 : Nat := 0x10018
def GNSS_EXCL_GAL1 : Nat := 0x1001C
def GNSS_EXCL_BDS0 : Nat := 0x10020
def GNSS_EXCL_BDS1 : Nat := 0x10024
def GNSS_EXCL_GLO : Nat := 0x10028
def GNSS_EXCL_QZS : Nat := 0x1002C
def GNSS_MASK : Nat := 0x10030
def GNSS_ANT_CTL : Nat := 0x10040
def GNSS_ANT_STAT : Nat := 0x10044
def GNSS_AGC_HI : Nat := 0x10050
def GNSS_AGC_MID : Nat := 0x10054
def GNSS_AGC_LO : Nat := 0x10058
def GNSS_JAM_THR : Nat := 0x1005C
def GNSS_CH_POOL : Nat := 0x10060
def GNSS_HOST_COAST : Nat := 0x10064
def GNSS_SRCH_CTL : Nat := 0x10070
def GNSS_SRCH_STAT : Nat := 0x10074
def GNSS_SRCH_JOB_CNT : Nat := 0x10078
def GNSS_SRCH_HIT_CNT : Nat := 0x1007C
def GNSS_SRCH_REJ_CNT : Nat := 0x10080
def GNSS_ISB_CTL : Nat := 0x10090
def GNSS_ISB_FIX_GAL : Nat := 0x10094
def GNSS_ISB_FIX_BDS : Nat := 0x10098
def GNSS_ISB_FIX_GLO : Nat := 0x1009C
def GNSS_ISB_FIX_QZS : Nat := 0x100A0
def GNSS_ISB_GAL : Nat := 0x100A4
def GNSS_ISB_BDS : Nat := 0x100A8
def GNSS_ISB_GLO : Nat := 0x100AC
def GNSS_ISB_QZS : Nat := 0x100B0
def GNSS_OVR_CNT : Nat := 0x100C0
def GNSS_TIMEFIX : Nat := 0x100C4
def GNSS_CAL_CTL : Nat := 0x100D0
def GNSS_CAL_STAT : Nat := 0x100D4
def GNSS_READMIT : Nat := 0x100E0
def GNSS_MOVE_LOG : Nat := 0x100E8
def GNSS_RETIRED_CNT : Nat := 0x100EC
def GNSS_DOZE_CTL : Nat := 0x100F0
def GNSS_DOZE_STAT : Nat := 0x100F4
def GNSS_RETIRED (i : Nat) : Nat := 0x10100 + i * 0x4
def GNSS_ANTDLY_FAC : Nat := 0x10380
def GNSS_ANTDLY_USR : Nat := 0x10384
def GNSS_ANTDLY_EFF : Nat := 0x10388
def GNSS_GD_FAC (i : Nat) : Nat := 0x10400 + i * 0x10
def GNSS_GD_USR (i : Nat) : Nat := 0x10404 + i * 0x10
def GNSS_GD_EFF (i : Nat) : Nat := 0x10408 + i * 0x10
def GNSS_IFB1_FAC (i : Nat) : Nat := 0x10600 + i * 0x20
def GNSS_IFB1_USR (i : Nat) : Nat := 0x10604 + i * 0x20
def GNSS_IFB1_EFF (i : Nat) : Nat := 0x10608 + i * 0x20
def GNSS_IFB2_FAC (i : Nat) : Nat := 0x10610 + i * 0x20
def GNSS_IFB2_USR (i : Nat) : Nat := 0x10614 + i * 0x20
def GNSS_IFB2_EFF (i : Nat) : Nat := 0x10618 + i * 0x20
def GNSS_MBX_SEL : Nat := 0x1FF80
def GNSS_MBX_STAT : Nat := 0x1FF84
def GNSS_MBX_DATA : Nat := 0x1FF88
def GNSS_CH_ASSIGN (i : Nat) : Nat := 0x20000 + i * 0x100
def GNSS_CH_CTL (i : Nat) : Nat := 0x20004 + i * 0x100
def GNSS_CH_STAT (i : Nat) : Nat := 0x20008 + i * 0x100
def GNSS_CH_CN0 (i : Nat) : Nat := 0x2000C + i * 0x100
def GNSS_CH_LOCKTIME (i : Nat) : Nat := 0x20010 + i * 0x100
def GNSS_CH_CODE_RATE (i : Nat) : Nat := 0x20014 + i * 0x100
def GNSS_CH_CARR_FREQ (i : Nat) : Nat := 0x20018 + i * 0x100
def GNSS_CH_DOPPLER (i : Nat) : Nat := 0x2001C + i * 0x100
def GNSS_CH_SLIP_CNT (i : Nat) : Nat := 0x20020 + i * 0x100
def GNSS_CH_CAL (i : Nat) : Nat := 0x20024 + i * 0x100
def PACK_CTL : Nat := 0x40000
def PACK_STAT : Nat := 0x40004
def PACK_EVT : Nat := 0x40008
def PACK_EVT_EN : Nat := 0x4000C
def PACK_LANES : Nat := 0x40010
def PACK_RETIRED : Nat := 0x40014
def PACK_READMIT : Nat := 0x40018
def PACK_OVR_CNT : Nat := 0x40020
def PACK_FLOW_CNT : Nat := 0x40024
def PACK_RL_STAT : Nat := 0x40028
def PACK_SCR_STAT : Nat := 0x4002C
def PACK_LAST_END : Nat := 0x40030
def PACK_ASU_CTL : Nat := 0x40040
def PACK_ASU_CNT : Nat := 0x40044
def PACK_ASU_TRUNC_CNT : Nat := 0x40048
def PACK_SOL_CTL : Nat := 0x40050
def PACK_LOAD : Nat := 0x40054
def PACK_BASE_CTL : Nat := 0x40060
def PACK_SURVEY_CTL : Nat := 0x40064
def PACK_BASE_CMD : Nat := 0x40068
def PACK_BASE_STAT : Nat := 0x4006C
def PACK_RTCM_CTL : Nat := 0x40080
def PACK_RTCM_RATE : Nat := 0x40084
def PACK_RTCM_CNT : Nat := 0x40088
def PACK_RTCM_SKIP_CNT : Nat := 0x4008C
def PACK_TRACE_CTL : Nat := 0x400A0
def PACK_TRACE_LOST_CNT : Nat := 0x400A4
def PACK_MBX_SEL : Nat := 0x4FF80
def PACK_MBX_STAT : Nat := 0x4FF84
def PACK_MBX_DATA : Nat := 0x4FF88
def ROVER_POS_CTL (i : Nat) : Nat := 0xA0000 + i * 0x100
def ROVER_SOL_STAT (i : Nat) : Nat := 0xA0004 + i * 0x100
def ROVER_SOL_PROD (i : Nat) : Nat := 0xA0008 + i * 0x100
def ROVER_SOL_EPOCH (i : Nat) : Nat := 0xA000C + i * 0x100
def ROVER_SOL_UNC (i : Nat) : Nat := 0xA0010 + i * 0x100
def ROVER_SOL_EVT (i : Nat) : Nat := 0xA0014 + i * 0x100
def ROVER_SOL_EVT_EN (i : Nat) : Nat := 0xA0018 + i * 0x100
def ROVER_FILTER_CMD (i : Nat) : Nat := 0xA001C + i * 0x100
def ROVER_OBS_CNT (i : Nat) : Nat := 0xA0020 + i * 0x100
def ROVER_OBS_DROP_CNT (i : Nat) : Nat := 0xA0024 + i * 0x100
def ROVER_LATE_CNT (i : Nat) : Nat := 0xA0028 + i * 0x100
def ROVER_FIX_CNT (i : Nat) : Nat := 0xA002C + i * 0x100
def ROVER_OVR_CNT (i : Nat) : Nat := 0xA0030 + i * 0x100
def ROVER_OBS_LAST (i : Nat) : Nat := 0xA0034 + i * 0x100
def TIME_CTL : Nat := 0x2000
def TIME_SRC_CTL : Nat := 0x2004
def TIME_STAT : Nat := 0x2008
def TIME_EVT : Nat := 0x200C
def TIME_EVT_EN : Nat := 0x2010
def TIME_NOW_NS : Nat := 0x2020
def TIME_NOW_WRAP : Nat := 0x2024
def TIME_TICK : Nat := 0x2028
def TIME_PHASE : Nat := 0x202C
def TIME_RATE : Nat := 0x2030
def TIME_ERR : Nat := 0x2034
def TIME_UNC : Nat := 0x2038
def TIME_TEMP : Nat := 0x203C
def TIME_QUAL_CTL : Nat := 0x2040
def TIME_HO_F0 : Nat := 0x2044
def TIME_HO_AGING : Nat := 0x2048
def TIME_HO_TEMP : Nat := 0x204C
def TIME_STEER_CTL : Nat := 0x2050
def TIME_EXT_UNC : Nat := 0x2054
def TIME_STEP_CNT : Nat := 0x2058
def TIME_HO_CNT : Nat := 0x205C
def TIME_HO_SEC : Nat := 0x2060
def TIME_PULSE_CTL (i : Nat) : Nat := 0x2100 + i * 0x20
def TIME_PULSE_START_LO (i : Nat) : Nat := 0x2104 + i * 0x20
def TIME_PULSE_START_HI (i : Nat) : Nat := 0x2108 + i * 0x20
def TIME_PULSE_PERIOD (i : Nat) : Nat := 0x210C + i * 0x20
def TIME_PULSE_WIDTH (i : Nat) : Nat := 0x2110 + i * 0x20
def TIME_PULSE_STAT (i : Nat) : Nat := 0x2114 + i * 0x20
def TIME_CAP_CTL (i : Nat) : Nat := 0x2300 + i * 0x20
def TIME_CAP_NS (i : Nat) : Nat := 0x2304 + i * 0x20
def TIME_CAP_INFO (i : Nat) : Nat := 0x2308 + i * 0x20
def TIME_CAP_POP (i : Nat) : Nat := 0x230C + i * 0x20
def TIME_CAP_DROP_CNT (i : Nat) : Nat := 0x2310 + i * 0x20
def TIME_PTP_CTL : Nat := 0x2400
def TIME_PTP_PRIO : Nat := 0x2404
def TIME_PTP_INTV : Nat := 0x2408
def TIME_PTP_UTC : Nat := 0x240C
def TIME_PTP_UTC_USE : Nat := 0x2410
def TIME_PTP_CLKID_LO : Nat := 0x2414
def TIME_PTP_CLKID_HI : Nat := 0x2418
def TIME_PTP_ANN : Nat := 0x241C
def TIME_PTPP_CTL (i : Nat) : Nat := 0x3000 + i * 0x20
def TIME_PTPP_STAT (i : Nat) : Nat := 0x3004 + i * 0x20
def TIME_PTPP_PDELAY (i : Nat) : Nat := 0x3008 + i * 0x20
def TIME_PTPP_TX_CNT (i : Nat) : Nat := 0x300C + i * 0x20
def TIME_PTPP_RX_CNT (i : Nat) : Nat := 0x3010 + i * 0x20
def TIME_PTPP_ERR_CNT (i : Nat) : Nat := 0x3014 + i * 0x20
def SHEP_CTL : Nat := 0x50000
def SHEP_POL : Nat := 0x50004
def SHEP_REV_CTL : Nat := 0x50008
def SHEP_STAT : Nat := 0x5000C
def SHEP_EVT : Nat := 0x50010
def SHEP_EVT_EN : Nat := 0x50014
def SHEP_EVAL_CNT : Nat := 0x50020
def SHEP_GRANT_CNT : Nat := 0x50024
def SHEP_DENY_CNT : Nat := 0x50028
def SHEP_OVR_CNT : Nat := 0x5002C
def SHEP_MATCH_CNT : Nat := 0x50030
def SHEP_REVOKE_CNT : Nat := 0x50034
def SHEP_CONFLICT_CNT : Nat := 0x50038
def SHEP_PARITY_CNT : Nat := 0x5003C
def SHEP_LAST_END : Nat := 0x50040
def SHEP_SPAN_USE : Nat := 0x50044
def SHEP_NET_SERIAL : Nat := 0x50048
def SHEP_NET_TICK : Nat := 0x5004C
def SHEP_TBL_SEL : Nat := 0x50080
def SHEP_TBL_STAT : Nat := 0x50084
def SHEP_TBL_DATA (i : Nat) : Nat := 0x500A0 + i * 0x4
def SHEP_MBX_SEL : Nat := 0x5FF80
def SHEP_MBX_STAT : Nat := 0x5FF84
def SHEP_MBX_DATA : Nat := 0x5FF88
def SHEP_RV_CTL (i : Nat) : Nat := 0x52000 + i * 0x40
def SHEP_RV_CLASS (i : Nat) : Nat := 0x52004 + i * 0x40
def SHEP_RV_DIM (i : Nat) : Nat := 0x52008 + i * 0x40
def SHEP_RV_DYN (i : Nat) : Nat := 0x5200C + i * 0x40
def SHEP_RV_BRAKE (i : Nat) : Nat := 0x52010 + i * 0x40
def SHEP_RV_STAT (i : Nat) : Nat := 0x52014 + i * 0x40
def SHEP_RV_LOC (i : Nat) : Nat := 0x52018 + i * 0x40
def SHEP_RV_S (i : Nat) : Nat := 0x5201C + i * 0x40
def SHEP_RV_FP (i : Nat) : Nat := 0x52020 + i * 0x40
def SHEP_RV_SPANS (i : Nat) : Nat := 0x52024 + i * 0x40
def SHEP_RV_AGE (i : Nat) : Nat := 0x52028 + i * 0x40
def MOT_CTL : Nat := 0x60000
def MOT_STAT : Nat := 0x60004
def MOT_EVT : Nat := 0x60008
def MOT_EVT_EN : Nat := 0x6000C
def MOT_OVR_CNT : Nat := 0x60010
def MOT_PLAN_CNT : Nat := 0x60014
def MOT_LAST_END : Nat := 0x60018
def MOT_READMIT : Nat := 0x60020
def MOT_IN_LEVEL0 : Nat := 0x60030
def MOT_IN_LEVEL1 : Nat := 0x60034
def MOT_RETIRED (i : Nat) : Nat := 0x60040 + i * 0x4
def MOT_GRP_STAT (i : Nat) : Nat := 0x60100 + i * 0x4
def MOT_MBX_SEL : Nat := 0x6FF80
def MOT_MBX_STAT : Nat := 0x6FF84
def MOT_MBX_DATA : Nat := 0x6FF88
def MOT_IN_CTL (i : Nat) : Nat := 0x60400 + i * 0x10
def MOT_IN_CHAT (i : Nat) : Nat := 0x60404 + i * 0x10
def MOT_IN_STAT (i : Nat) : Nat := 0x60408 + i * 0x10
def MOT_IN_EDGE_NS (i : Nat) : Nat := 0x6040C + i * 0x10
def MOT_CH_BIND (i : Nat) : Nat := 0x70000 + i * 0x100
def MOT_CH_CTL (i : Nat) : Nat := 0x70004 + i * 0x100
def MOT_CH_VMAX (i : Nat) : Nat := 0x70008 + i * 0x100
def MOT_CH_AMAX (i : Nat) : Nat := 0x7000C + i * 0x100
def MOT_CH_JMAX (i : Nat) : Nat := 0x70010 + i * 0x100
def MOT_CH_HEEL_DEC (i : Nat) : Nat := 0x70014 + i * 0x100
def MOT_CH_HEEL_JERK (i : Nat) : Nat := 0x70018 + i * 0x100
def MOT_CH_DROP_DEC (i : Nat) : Nat := 0x7001C + i * 0x100
def MOT_CH_LIM_DEC (i : Nat) : Nat := 0x70020 + i * 0x100
def MOT_CH_STEP_CFG (i : Nat) : Nat := 0x70024 + i * 0x100
def MOT_CH_SLIM_NEG (i : Nat) : Nat := 0x70028 + i * 0x100
def MOT_CH_SLIM_POS (i : Nat) : Nat := 0x7002C + i * 0x100
def MOT_CH_STAT (i : Nat) : Nat := 0x70030 + i * 0x100
def MOT_CH_POS_LO (i : Nat) : Nat := 0x70034 + i * 0x100
def MOT_CH_POS_HI (i : Nat) : Nat := 0x70038 + i * 0x100
def MOT_CH_VEL (i : Nat) : Nat := 0x7003C + i * 0x100
def MOT_CH_TARGET_LO (i : Nat) : Nat := 0x70040 + i * 0x100
def MOT_CH_TARGET_HI (i : Nat) : Nat := 0x70044 + i * 0x100
def MOT_CH_LATCH_LO (i : Nat) : Nat := 0x70048 + i * 0x100
def MOT_CH_LATCH_HI (i : Nat) : Nat := 0x7004C + i * 0x100
def MOT_CH_LATCH_NS (i : Nat) : Nat := 0x70050 + i * 0x100
def MOT_CH_EVT (i : Nat) : Nat := 0x70054 + i * 0x100
def MOT_CH_EVT_EN (i : Nat) : Nat := 0x70058 + i * 0x100
def MOT_CH_FERR_MAX (i : Nat) : Nat := 0x7005C + i * 0x100
def MOT_CH_REM_CFG (i : Nat) : Nat := 0x70060 + i * 0x100
def MOT_CH_REM_VLAN (i : Nat) : Nat := 0x70064 + i * 0x100
def MOT_CH_REM_MAC_LO (i : Nat) : Nat := 0x70068 + i * 0x100
def MOT_CH_REM_MAC_HI (i : Nat) : Nat := 0x7006C + i * 0x100
def MOT_CH_REM_KEY (i : Nat) : Nat := 0x70070 + i * 0x100
def MOT_CH_SEQ (i : Nat) : Nat := 0x70074 + i * 0x100
def MOT_CH_FAULT_CNT (i : Nat) : Nat := 0x70078 + i * 0x100
def MOT_CH_MOVE_CNT (i : Nat) : Nat := 0x7007C + i * 0x100
def AIR_CTL : Nat := 0x80000
def AIR_STAT : Nat := 0x80004
def AIR_EVT : Nat := 0x80008
def AIR_EVT_EN : Nat := 0x8000C
def AIR_REGION : Nat := 0x80010
def AIR_WB0_CFG : Nat := 0x80020
def AIR_WB0_PWR : Nat := 0x80024
def AIR_WB1_CFG : Nat := 0x80028
def AIR_WB1_PWR : Nat := 0x8002C
def AIR_SG_CFG : Nat := 0x80030
def AIR_SG_PWR : Nat := 0x80034
def AIR_MAP_CTL : Nat := 0x80040
def AIR_MAP_STAT : Nat := 0x80044
def AIR_MAP_SERIAL : Nat := 0x80048
def AIR_SYNC_CTL : Nat := 0x80050
def AIR_KEY_CTL : Nat := 0x80060
def AIR_TX_CNT : Nat := 0x80070
def AIR_RX_CNT : Nat := 0x80074
def AIR_TIME_REFUSE_CNT : Nat := 0x80078
def AIR_VER_REFUSE_CNT : Nat := 0x8007C
def AIR_GRANT_STALE_CNT : Nat := 0x80080
def AIR_RTCM_LATE_CNT : Nat := 0x80084
def AIR_DL_DEFER_CNT : Nat := 0x80088
def AIR_DROP_TX_CNT : Nat := 0x8008C
def AIR_READMIT : Nat := 0x80200
def AIR_RETIRED (i : Nat) : Nat := 0x80210 + i * 0x4
def AIR_MBX_SEL : Nat := 0x8FF80
def AIR_MBX_STAT : Nat := 0x8FF84
def AIR_MBX_DATA : Nat := 0x8FF88
def AIR_BUD_LIMIT (i : Nat) : Nat := 0x80100 + i * 0x20
def AIR_BUD_RES (i : Nat) : Nat := 0x80104 + i * 0x20
def AIR_BUD_USED (i : Nat) : Nat := 0x80108 + i * 0x20
def AIR_BUD_DROP (i : Nat) : Nat := 0x8010C + i * 0x20
def AIR_BUD_DENY_CNT (i : Nat) : Nat := 0x80110 + i * 0x20
def AIR_BUD_DROP_DENY_CNT (i : Nat) : Nat := 0x80114 + i * 0x20
def AIR_BUD_DWELL (i : Nat) : Nat := 0x80118 + i * 0x20
def ROVER_LINK_CTL (i : Nat) : Nat := 0xA0080 + i * 0x100
def ROVER_LINK_SLOT (i : Nat) : Nat := 0xA0084 + i * 0x100
def ROVER_LINK_STAT (i : Nat) : Nat := 0xA0088 + i * 0x100
def ROVER_LINK_EVT (i : Nat) : Nat := 0xA008C + i * 0x100
def ROVER_LINK_EVT_EN (i : Nat) : Nat := 0xA0090 + i * 0x100
def ROVER_LINK_CMD (i : Nat) : Nat := 0xA0094 + i * 0x100
def ROVER_DRIFT_OFS (i : Nat) : Nat := 0xA0098 + i * 0x100
def ROVER_DRIFT_RATE (i : Nat) : Nat := 0xA009C + i * 0x100
def ROVER_UP_CNT (i : Nat) : Nat := 0xA00A0 + i * 0x100
def ROVER_MISSLOT_CNT (i : Nat) : Nat := 0xA00A4 + i * 0x100
def ROVER_AUTH_FAIL_CNT (i : Nat) : Nat := 0xA00A8 + i * 0x100
def ROVER_TIME_REFUSE_CNT (i : Nat) : Nat := 0xA00AC + i * 0x100
def ROVER_RESYNC_CNT (i : Nat) : Nat := 0xA00B0 + i * 0x100
def ROVER_UP_LAST (i : Nat) : Nat := 0xA00B4 + i * 0x100
def ROVER_UP_RSSI (i : Nat) : Nat := 0xA00B8 + i * 0x100
def ROVER_GRANT_STALE_CNT (i : Nat) : Nat := 0xA00BC + i * 0x100
def LEASH_CTL : Nat := 0x8000
def LEASH_STAT : Nat := 0x8008
def LEASH_EVT : Nat := 0x800C
def LEASH_EVT_EN : Nat := 0x8010
def LEASH_TEST_CTL : Nat := 0x8014
def LEASH_TEST_CMD : Nat := 0x8018
def LEASH_TRIP : Nat := 0x8020
def LEASH_ARM : Nat := 0x8028
def LEASH_TRIP_ID : Nat := 0x8040
def LEASH_TRIP_NS : Nat := 0x8044
def LEASH_TRIP_WRAP : Nat := 0x8048
def LEASH_TRIP_TICK : Nat := 0x804C
def LEASH_TRIP_CNT : Nat := 0x8050
def LEASH_ARM_CNT : Nat := 0x8054
def LEASH_TEST_CNT : Nat := 0x8058
def LEASH_TEST_FAIL_CNT : Nat := 0x805C
def LEASH_TEST_LAST : Nat := 0x8060
def LEASH_EDGE_A_NS : Nat := 0x8064
def LEASH_EDGE_B_NS : Nat := 0x8068
def LEASH_MBX_SEL : Nat := 0x8F80
def LEASH_MBX_STAT : Nat := 0x8F84
def LEASH_MBX_DATA : Nat := 0x8F88
def SW_P_CTL (i : Nat) : Nat := 0x90000 + i * 0x400
def SW_P_LEARN (i : Nat) : Nat := 0x90004 + i * 0x400
def SW_P_QOS (i : Nat) : Nat := 0x90008 + i * 0x400
def SW_P_MTU (i : Nat) : Nat := 0x9000C + i * 0x400
def SW_P_STAT (i : Nat) : Nat := 0x90010 + i * 0x400
def SW_P_RX_CNT (i : Nat) : Nat := 0x90014 + i * 0x400
def SW_P_TX_CNT (i : Nat) : Nat := 0x90018 + i * 0x400
def SW_P_DROP_CNT (i : Nat) : Nat := 0x9001C + i * 0x400
def SW_P_LEARN_DROP_CNT (i : Nat) : Nat := 0x90020 + i * 0x400
def SW_P_MOVE_DROP_CNT (i : Nat) : Nat := 0x90024 + i * 0x400
def SW_P_RXDLY_FAC (i : Nat) : Nat := 0x90030 + i * 0x400
def SW_P_RXDLY_USR (i : Nat) : Nat := 0x90034 + i * 0x400
def SW_P_RXDLY_EFF (i : Nat) : Nat := 0x90038 + i * 0x400
def SW_P_TXDLY_FAC (i : Nat) : Nat := 0x90040 + i * 0x400
def SW_P_TXDLY_USR (i : Nat) : Nat := 0x90044 + i * 0x400
def SW_P_TXDLY_EFF (i : Nat) : Nat := 0x90048 + i * 0x400
def SW_CTL : Nat := 0x98000
def SW_STAT : Nat := 0x98004
def SW_EVT : Nat := 0x98008
def SW_EVT_EN : Nat := 0x9800C
def SW_LOOP_CTL : Nat := 0x98010
def SW_MAC_LO : Nat := 0x98014
def SW_MAC_HI : Nat := 0x98018
def SW_MAC_USE : Nat := 0x9801C
def SW_LQ_DROP_CNT : Nat := 0x98020
def SW_PARITY_CNT : Nat := 0x98024
def SW_PARITY_LOG : Nat := 0x98028
def SW_ROUTE_USE : Nat := 0x9802C
def SW_NOROUTE_CNT : Nat := 0x98030
def SW_P9_DROP_CNT : Nat := 0x98034
def SW_READMIT : Nat := 0x98040
def SW_RETIRED : Nat := 0x98048
def SW_TBL_SEL : Nat := 0x98080
def SW_TBL_STAT : Nat := 0x98084
def SW_TBL_DATA (i : Nat) : Nat := 0x980A0 + i * 0x4
def SW_MBX_SEL : Nat := 0x9FF80
def SW_MBX_STAT : Nat := 0x9FF84
def SW_MBX_DATA : Nat := 0x9FF88
def BRACE_CTL : Nat := 0x9000
def BRACE_ID : Nat := 0x9008
def BRACE_STAT : Nat := 0x900C
def BRACE_EVT : Nat := 0x9010
def BRACE_EVT_EN : Nat := 0x9014
def BRACE_TIMING : Nat := 0x9018
def BRACE_KEY : Nat := 0x901C
def BRACE_TAKEOVER_CNT : Nat := 0x9020
def BRACE_TAKEOVER_TICK : Nat := 0x9024
def BRACE_HB_LOSS_LVDS_CNT : Nat := 0x9028
def BRACE_HB_LOSS_P1_CNT : Nat := 0x902C
def BRACE_AUTH_FAIL_CNT : Nat := 0x9030
def BRACE_ACK_LATE_CNT : Nat := 0x9034
def BRACE_TX_CNT : Nat := 0x9038
def BRACE_RX_CNT : Nat := 0x903C
def BRACE_TIME_OFS : Nat := 0x9040
def BRACE_LINK_DLY : Nat := 0x9044
def BRACE_ASYM_FAC : Nat := 0x9050
def BRACE_ASYM_USR : Nat := 0x9054
def BRACE_ASYM_EFF : Nat := 0x9058
def BRACE_MBX_SEL : Nat := 0x9F80
def BRACE_MBX_STAT : Nat := 0x9F84
def BRACE_MBX_DATA : Nat := 0x9F88
def KEN_STAT : Nat := 0xA000
def KEN_EVT : Nat := 0xA004
def KEN_EVT_EN : Nat := 0xA008
def KEN_TAMPER_CTL : Nat := 0xA010
def KEN_TAMPER_STAT : Nat := 0xA018
def KEN_TAMPER_CLR : Nat := 0xA020
def KEN_ZEROISE : Nat := 0xA028
def KEN_READMIT : Nat := 0xA030
def KEN_AON_SEC : Nat := 0xA040
def KEN_TAMPER_CNT : Nat := 0xA044
def KEN_OP_CNT : Nat := 0xA048
def KEN_POLICY_FAIL_CNT : Nat := 0xA04C
def KEN_ABORT_CNT : Nat := 0xA050
def KEN_BAD0 : Nat := 0xA060
def KEN_BAD1 : Nat := 0xA064
def KEN_SLOT_STAT (i : Nat) : Nat := 0xA100 + i * 0x4
def KEN_MBX_SEL : Nat := 0xAF80
def KEN_MBX_STAT : Nat := 0xAF84
def KEN_MBX_DATA : Nat := 0xAF88
def UPD_CTL : Nat := 0xB000
def UPD_STAT : Nat := 0xB004
def UPD_EVT : Nat := 0xB008
def UPD_EVT_EN : Nat := 0xB00C
def UPD_SVN_FUSED : Nat := 0xB010
def UPD_SVN_RUN : Nat := 0xB014
def UPD_AT_TICK : Nat := 0xB018
def UPD_TRIAL_LEFT : Nat := 0xB01C
def UPD_STAGE_LEN : Nat := 0xB020
def UPD_FUSE_SVN : Nat := 0xB024
def UPD_ACT_CNT : Nat := 0xB030
def UPD_ROLLBACK_CNT : Nat := 0xB034
def UPD_MBX_SEL : Nat := 0xBF80
def UPD_MBX_STAT : Nat := 0xBF84
def UPD_MBX_DATA : Nat := 0xBF88
def PWR_STAT : Nat := 0x1000
def PWR_EVT : Nat := 0x1004
def PWR_EVT_EN : Nat := 0x1008
def PWR_REQ : Nat := 0x1010
def PWR_DOM_EN : Nat := 0x1018
def PWR_DOM_STAT : Nat := 0x101C
def PWR_SOFT_RESET : Nat := 0x1020
def PWR_RESET_CAUSE : Nat := 0x1028
def PWR_WDT_CTL : Nat := 0x102C
def PWR_WAKE_CTL : Nat := 0x1030
def PWR_WAKE_SEC : Nat := 0x1034
def PWR_OP_SEC : Nat := 0x1038
def PWR_CYCLE_CNT : Nat := 0x103C
def PWR_SUPPLY : Nat := 0x1040
def PWR_TEMP : Nat := 0x1044
def PWR_DOZE_CNT : Nat := 0x1048
def PWR_SOFT_CNT : Nat := 0x104C
def PWR_MBX_SEL : Nat := 0x1F80
def PWR_MBX_STAT : Nat := 0x1F84
def PWR_MBX_DATA : Nat := 0x1F88
def PERF_CTL : Nat := 0x6000
def PERF_STAT : Nat := 0x6004
def PERF_EVT : Nat := 0x6008
def PERF_EVT_EN : Nat := 0x600C
def PERF_DUMP_PERIOD : Nat := 0x6010
def PERF_DUMP_SEQ : Nat := 0x6014
def PERF_DUMP_SKIP_CNT : Nat := 0x6018
def PERF_LATCH_TICK : Nat := 0x601C
def PERF_MBX_SEL : Nat := 0x6F80
def PERF_MBX_STAT : Nat := 0x6F84
def PERF_MBX_DATA : Nat := 0x6F88
def REC_CTL : Nat := 0x7000
def REC_STAT : Nat := 0x7004
def REC_EVT : Nat := 0x7008
def REC_EVT_EN : Nat := 0x700C
def REC_SEQ_NEXT : Nat := 0x7010
def REC_RING_OLDEST : Nat := 0x7014
def REC_PROT_OLDEST : Nat := 0x7018
def REC_RING_USED : Nat := 0x701C
def REC_PROT_USED : Nat := 0x7020
def REC_DROP_CNT : Nat := 0x7024
def REC_OVW_CNT : Nat := 0x7028
def REC_TORN_CNT : Nat := 0x702C
def REC_CLEAR_RING : Nat := 0x7040
def REC_CLEAR_PROT : Nat := 0x7048
def REC_CUR_SEL : Nat := 0x7060
def REC_CUR_CMD : Nat := 0x7064
def REC_CUR_STAT : Nat := 0x7068
def REC_TRIG_CTL (i : Nat) : Nat := 0x7080 + i * 0x4
def REC_WIN (i : Nat) : Nat := 0x7400 + i * 0x4
def REC_MBX_SEL : Nat := 0x7F80
def REC_MBX_STAT : Nat := 0x7F84
def REC_MBX_DATA : Nat := 0x7F88
def TIME_PDLY_FAC (i : Nat) : Nat := 0x2200 + i * 0x10
def TIME_PDLY_USR (i : Nat) : Nat := 0x2204 + i * 0x10
def TIME_PDLY_EFF (i : Nat) : Nat := 0x2208 + i * 0x10
def TIME_PPSIN_DLY_FAC : Nat := 0x2280
def TIME_PPSIN_DLY_USR : Nat := 0x2284
def TIME_PPSIN_DLY_EFF : Nat := 0x2288
def TIME_EVTIN_DLY_FAC (i : Nat) : Nat := 0x2290 + i * 0x10
def TIME_EVTIN_DLY_USR (i : Nat) : Nat := 0x2294 + i * 0x10
def TIME_EVTIN_DLY_EFF (i : Nat) : Nat := 0x2298 + i * 0x10
def TIME_MBX_SEL : Nat := 0x2F80
def TIME_MBX_STAT : Nat := 0x2F84
def TIME_MBX_DATA : Nat := 0x2F88

end R

namespace F

def GLB_PART_PART : Fld := ⟨R.GLB_PART, 31, 16⟩
def GLB_PART_REV : Fld := ⟨R.GLB_PART, 7, 0⟩
def GLB_FW_VER_MAJOR : Fld := ⟨R.GLB_FW_VER, 23, 16⟩
def GLB_FW_VER_MINOR : Fld := ⟨R.GLB_FW_VER, 15, 8⟩
def GLB_FW_VER_PATCH : Fld := ⟨R.GLB_FW_VER, 7, 0⟩
def GLB_CAPS_ROVERS : Fld := ⟨R.GLB_CAPS, 8, 0⟩
def GLB_CAPS_VAL_VERSIONS : Fld := ⟨R.GLB_CAPS, 13, 11⟩
def GLB_CAPS_SG : Fld := ⟨R.GLB_CAPS, 14, 14⟩
def GLB_CAPS_WB : Fld := ⟨R.GLB_CAPS, 16, 15⟩
def GLB_CAPS_COATED : Fld := ⟨R.GLB_CAPS, 17, 17⟩
def GLB_CTL_SHADOW_VIEW : Fld := ⟨R.GLB_CTL, 0, 0⟩
def GLB_APPLY_MASK : Fld := ⟨R.GLB_APPLY, 15, 0⟩
def GLB_APPLY_MODE_TICK : Fld := ⟨R.GLB_APPLY_MODE, 15, 0⟩
def GLB_APPLY_STAT_PENDING : Fld := ⟨R.GLB_APPLY_STAT, 0, 0⟩
def GLB_APPLY_STAT_REFUSING : Fld := ⟨R.GLB_APPLY_STAT, 1, 1⟩
def GLB_APPLY_STAT_APPLY_CNT : Fld := ⟨R.GLB_APPLY_STAT, 15, 8⟩
def GLB_CFG_CTL_REF_WITH : Fld := ⟨R.GLB_CFG_CTL, 0, 0⟩
def GLB_CFG_ACT_ACTION : Fld := ⟨R.GLB_CFG_ACT, 1, 0⟩
def GLB_SW_RESET_FULL : Fld := ⟨R.GLB_SW_RESET, 0, 0⟩
def GLB_CFG_STAT_LIVE_MATCH : Fld := ⟨R.GLB_CFG_STAT, 0, 0⟩
def GLB_CFG_STAT_MISMATCH : Fld := ⟨R.GLB_CFG_STAT, 1, 1⟩
def GLB_CFG_STAT_INCOMPLETE : Fld := ⟨R.GLB_CFG_STAT, 2, 2⟩
def GLB_CFG_STAT_REF_PENDING : Fld := ⟨R.GLB_CFG_STAT, 3, 3⟩
def GLB_CFG_STAT_REFUSING : Fld := ⟨R.GLB_CFG_STAT, 4, 4⟩
def GLB_CFG_STAT_STARVED : Fld := ⟨R.GLB_CFG_STAT, 5, 5⟩
def GLB_CFG_STAT_TORN_CNT : Fld := ⟨R.GLB_CFG_STAT, 15, 8⟩
def GLB_CFG_STAT_WALK_CNT : Fld := ⟨R.GLB_CFG_STAT, 31, 16⟩
def GLB_ERR_WRITE_LOST : Fld := ⟨R.GLB_ERR, 0, 0⟩
def GLB_ERR_NARROW : Fld := ⟨R.GLB_ERR, 1, 1⟩
def GLB_ERR_PWR_OFF_ACCESS : Fld := ⟨R.GLB_ERR, 2, 2⟩
def GLB_ERR_GRD_FAIL : Fld := ⟨R.GLB_ERR, 3, 3⟩
def GLB_ERR_MBX_SEQ : Fld := ⟨R.GLB_ERR, 4, 4⟩
def GLB_ERR_UNMAPPED : Fld := ⟨R.GLB_ERR, 5, 5⟩
def GLB_ERR_APPLY_BUSY : Fld := ⟨R.GLB_ERR, 6, 6⟩
def GLB_ERR_APPLY_REFUSED : Fld := ⟨R.GLB_ERR, 7, 7⟩
def GLB_ERR_CAL_CLAMP : Fld := ⟨R.GLB_ERR, 8, 8⟩
def GLB_ERR_CFG_MISMATCH : Fld := ⟨R.GLB_ERR, 9, 9⟩
def GLB_ERR_ADDR_OFFSET : Fld := ⟨R.GLB_ERR_ADDR, 23, 0⟩
def GLB_ERR_ADDR_CAUSE : Fld := ⟨R.GLB_ERR_ADDR, 27, 24⟩
def GLB_ERR_ADDR_VALID : Fld := ⟨R.GLB_ERR_ADDR, 31, 31⟩
def RING_CAPS_RINGS : Fld := ⟨R.RING_CAPS, 15, 0⟩
def RING_CAPS_VERS : Fld := ⟨R.RING_CAPS, 17, 16⟩
def RING_CAPS_MAX_LOG2 : Fld := ⟨R.RING_CAPS, 22, 18⟩
def RING_ERR_SUM_ERR : Fld := ⟨R.RING_ERR_SUM, 9, 0⟩
def RING_IRQ_STAT_SRC : Fld := ⟨R.RING_IRQ_STAT, 26, 0⟩
def RING_IRQ_EN_EN : Fld := ⟨R.RING_IRQ_EN, 26, 0⟩
def RING_VEC_MAP_VEC0 (i : Nat) : Fld := ⟨R.RING_VEC_MAP i, 4, 0⟩
def RING_VEC_MAP_VEC1 (i : Nat) : Fld := ⟨R.RING_VEC_MAP i, 12, 8⟩
def RING_VEC_MAP_VEC2 (i : Nat) : Fld := ⟨R.RING_VEC_MAP i, 20, 16⟩
def RING_VEC_MAP_VEC3 (i : Nat) : Fld := ⟨R.RING_VEC_MAP i, 28, 24⟩
def RING_DMA_ERR_INFO_RING : Fld := ⟨R.RING_DMA_ERR_INFO, 3, 0⟩
def RING_DMA_ERR_INFO_WRITE : Fld := ⟨R.RING_DMA_ERR_INFO, 4, 4⟩
def RING_DMA_ERR_INFO_CAUSE : Fld := ⟨R.RING_DMA_ERR_INFO, 7, 5⟩
def RING_DMA_ERR_INFO_VALID : Fld := ⟨R.RING_DMA_ERR_INFO, 31, 31⟩
def RING_CFG_DESC_VER (i : Nat) : Fld := ⟨R.RING_CFG i, 1, 0⟩
def RING_CFG_OVF (i : Nat) : Fld := ⟨R.RING_CFG i, 3, 2⟩
def RING_CFG_WB_EN (i : Nat) : Fld := ⟨R.RING_CFG i, 4, 4⟩
def RING_COAL_TIME (i : Nat) : Fld := ⟨R.RING_COAL i, 9, 0⟩
def RING_COAL_COUNT (i : Nat) : Fld := ⟨R.RING_COAL i, 25, 16⟩
def RING_CTL_EN (i : Nat) : Fld := ⟨R.RING_CTL i, 0, 0⟩
def RING_CTL_FLUSH (i : Nat) : Fld := ⟨R.RING_CTL i, 1, 1⟩
def RING_CTL_RESET (i : Nat) : Fld := ⟨R.RING_CTL i, 2, 2⟩
def RING_STAT_STATE (i : Nat) : Fld := ⟨R.RING_STAT i, 1, 0⟩
def RING_STAT_ERR (i : Nat) : Fld := ⟨R.RING_STAT i, 7, 4⟩
def RING_STAT_SETUP (i : Nat) : Fld := ⟨R.RING_STAT i, 11, 8⟩
def RING_STAT_BAD_DB (i : Nat) : Fld := ⟨R.RING_STAT i, 16, 16⟩
def RING_STAT_OVF (i : Nat) : Fld := ⟨R.RING_STAT i, 17, 17⟩
def RING_STAT_SETUP_REFUSED (i : Nat) : Fld := ⟨R.RING_STAT i, 18, 18⟩
def GNSS_CTL_EN : Fld := ⟨R.GNSS_CTL, 0, 0⟩
def GNSS_CTL_AUTO : Fld := ⟨R.GNSS_CTL, 1, 1⟩
def GNSS_CTL_SKY : Fld := ⟨R.GNSS_CTL, 2, 2⟩
def GNSS_STAT_TIMEFIX : Fld := ⟨R.GNSS_STAT, 0, 0⟩
def GNSS_STAT_BOBS_VALID : Fld := ⟨R.GNSS_STAT, 1, 1⟩
def GNSS_STAT_NO_CHANNEL : Fld := ⟨R.GNSS_STAT, 2, 2⟩
def GNSS_STAT_BURST : Fld := ⟨R.GNSS_STAT, 3, 3⟩
def GNSS_STAT_SATS : Fld := ⟨R.GNSS_STAT, 15, 8⟩
def GNSS_STAT_TRACKING : Fld := ⟨R.GNSS_STAT, 24, 16⟩
def GNSS_EVT_EVENTS : Fld := ⟨R.GNSS_EVT, 10, 0⟩
def GNSS_EVT_EN_EVENTS : Fld := ⟨R.GNSS_EVT_EN, 10, 0⟩
def GNSS_MASK_ELEV : Fld := ⟨R.GNSS_MASK, 7, 0⟩
def GNSS_MASK_CN0_MIN : Fld := ⟨R.GNSS_MASK, 15, 8⟩
def GNSS_ANT_CTL_BIAS : Fld := ⟨R.GNSS_ANT_CTL, 1, 0⟩
def GNSS_ANT_CTL_AUTO_OFF : Fld := ⟨R.GNSS_ANT_CTL, 2, 2⟩
def GNSS_ANT_STAT_STATE : Fld := ⟨R.GNSS_ANT_STAT, 1, 0⟩
def GNSS_ANT_STAT_CURRENT : Fld := ⟨R.GNSS_ANT_STAT, 15, 8⟩
def GNSS_AGC_HI_GAIN : Fld := ⟨R.GNSS_AGC_HI, 7, 0⟩
def GNSS_AGC_MID_GAIN : Fld := ⟨R.GNSS_AGC_MID, 7, 0⟩
def GNSS_AGC_LO_GAIN : Fld := ⟨R.GNSS_AGC_LO, 7, 0⟩
def GNSS_AGC_HI_POWER : Fld := ⟨R.GNSS_AGC_HI, 15, 8⟩
def GNSS_AGC_MID_POWER : Fld := ⟨R.GNSS_AGC_MID, 15, 8⟩
def GNSS_AGC_LO_POWER : Fld := ⟨R.GNSS_AGC_LO, 15, 8⟩
def GNSS_AGC_HI_JAM : Fld := ⟨R.GNSS_AGC_HI, 31, 31⟩
def GNSS_AGC_MID_JAM : Fld := ⟨R.GNSS_AGC_MID, 31, 31⟩
def GNSS_AGC_LO_JAM : Fld := ⟨R.GNSS_AGC_LO, 31, 31⟩
def GNSS_SRCH_CTL_THRESH : Fld := ⟨R.GNSS_SRCH_CTL, 7, 0⟩
def GNSS_SRCH_CTL_VERIFY : Fld := ⟨R.GNSS_SRCH_CTL, 10, 8⟩
def GNSS_SRCH_CTL_XCORR_REJ : Fld := ⟨R.GNSS_SRCH_CTL, 16, 16⟩
def GNSS_SRCH_CTL_FW_WIN : Fld := ⟨R.GNSS_SRCH_CTL, 31, 24⟩
def GNSS_SRCH_STAT_QLVL : Fld := ⟨R.GNSS_SRCH_STAT, 6, 0⟩
def GNSS_SRCH_STAT_BUSY : Fld := ⟨R.GNSS_SRCH_STAT, 7, 7⟩
def GNSS_SRCH_STAT_HOST_Q : Fld := ⟨R.GNSS_SRCH_STAT, 12, 8⟩
def GNSS_ISB_CTL_GAL : Fld := ⟨R.GNSS_ISB_CTL, 1, 0⟩
def GNSS_ISB_CTL_BDS : Fld := ⟨R.GNSS_ISB_CTL, 3, 2⟩
def GNSS_ISB_CTL_GLO : Fld := ⟨R.GNSS_ISB_CTL, 5, 4⟩
def GNSS_ISB_CTL_QZS : Fld := ⟨R.GNSS_ISB_CTL, 7, 6⟩
def GNSS_TIMEFIX_USED : Fld := ⟨R.GNSS_TIMEFIX, 7, 0⟩
def GNSS_TIMEFIX_EXCL : Fld := ⟨R.GNSS_TIMEFIX, 15, 8⟩
def GNSS_TIMEFIX_RMS : Fld := ⟨R.GNSS_TIMEFIX, 31, 16⟩
def GNSS_CAL_STAT_LAST : Fld := ⟨R.GNSS_CAL_STAT, 8, 0⟩
def GNSS_CAL_STAT_PASSES : Fld := ⟨R.GNSS_CAL_STAT, 31, 16⟩
def GNSS_MOVE_LOG_FROM : Fld := ⟨R.GNSS_MOVE_LOG, 8, 0⟩
def GNSS_MOVE_LOG_TO : Fld := ⟨R.GNSS_MOVE_LOG, 24, 16⟩
def GNSS_MOVE_LOG_VALID : Fld := ⟨R.GNSS_MOVE_LOG, 31, 31⟩
def GNSS_DOZE_STAT_BURSTS : Fld := ⟨R.GNSS_DOZE_STAT, 15, 0⟩
def GNSS_DOZE_STAT_MISS : Fld := ⟨R.GNSS_DOZE_STAT, 17, 16⟩
def GNSS_CH_ASSIGN_VALID (i : Nat) : Fld := ⟨R.GNSS_CH_ASSIGN i, 0, 0⟩
def GNSS_CH_ASSIGN_SYS (i : Nat) : Fld := ⟨R.GNSS_CH_ASSIGN i, 3, 1⟩
def GNSS_CH_ASSIGN_SV (i : Nat) : Fld := ⟨R.GNSS_CH_ASSIGN i, 11, 4⟩
def GNSS_CH_ASSIGN_SIG (i : Nat) : Fld := ⟨R.GNSS_CH_ASSIGN i, 16, 12⟩
def GNSS_CH_ASSIGN_GLO_K (i : Nat) : Fld := ⟨R.GNSS_CH_ASSIGN i, 23, 20⟩
def GNSS_CH_ASSIGN_OWNER (i : Nat) : Fld := ⟨R.GNSS_CH_ASSIGN i, 31, 31⟩
def GNSS_CH_CTL_LOOP (i : Nat) : Fld := ⟨R.GNSS_CH_CTL i, 1, 0⟩
def GNSS_CH_CTL_SPACING (i : Nat) : Fld := ⟨R.GNSS_CH_CTL i, 4, 2⟩
def GNSS_CH_CTL_DLL_BW (i : Nat) : Fld := ⟨R.GNSS_CH_CTL i, 11, 8⟩
def GNSS_CH_CTL_PLL_BW (i : Nat) : Fld := ⟨R.GNSS_CH_CTL i, 15, 12⟩
def GNSS_CH_CTL_FLL_BW (i : Nat) : Fld := ⟨R.GNSS_CH_CTL i, 19, 16⟩
def GNSS_CH_STAT_STATE (i : Nat) : Fld := ⟨R.GNSS_CH_STAT i, 3, 0⟩
def GNSS_CH_STAT_CODE_LOCK (i : Nat) : Fld := ⟨R.GNSS_CH_STAT i, 4, 4⟩
def GNSS_CH_STAT_CARR_LOCK (i : Nat) : Fld := ⟨R.GNSS_CH_STAT i, 5, 5⟩
def GNSS_CH_STAT_BIT_SYNC (i : Nat) : Fld := ⟨R.GNSS_CH_STAT i, 6, 6⟩
def GNSS_CH_STAT_TIME_RES (i : Nat) : Fld := ⟨R.GNSS_CH_STAT i, 7, 7⟩
def GNSS_CH_STAT_HALF_RES (i : Nat) : Fld := ⟨R.GNSS_CH_STAT i, 8, 8⟩
def GNSS_CH_STAT_MEAS_VALID (i : Nat) : Fld := ⟨R.GNSS_CH_STAT i, 9, 9⟩
def GNSS_CH_STAT_BAD_ASSIGN (i : Nat) : Fld := ⟨R.GNSS_CH_STAT i, 10, 10⟩
def GNSS_CH_STAT_FAULTS (i : Nat) : Fld := ⟨R.GNSS_CH_STAT i, 17, 16⟩
def PACK_CTL_EN : Fld := ⟨R.PACK_CTL, 0, 0⟩
def PACK_STAT_LANES : Fld := ⟨R.PACK_STAT, 5, 0⟩
def PACK_STAT_ASU_BUSY : Fld := ⟨R.PACK_STAT, 6, 6⟩
def PACK_STAT_ADMIT_WAIT : Fld := ⟨R.PACK_STAT, 7, 7⟩
def PACK_STAT_FLOWS : Fld := ⟨R.PACK_STAT, 15, 8⟩
def PACK_EVT_EVENTS : Fld := ⟨R.PACK_EVT, 7, 0⟩
def PACK_EVT_EN_EVENTS : Fld := ⟨R.PACK_EVT_EN, 7, 0⟩
def PACK_RL_STAT_LEVEL : Fld := ⟨R.PACK_RL_STAT, 12, 0⟩
def PACK_RL_STAT_PEAK : Fld := ⟨R.PACK_RL_STAT, 28, 16⟩
def PACK_SCR_STAT_USED : Fld := ⟨R.PACK_SCR_STAT, 13, 0⟩
def PACK_SCR_STAT_PEAK : Fld := ⟨R.PACK_SCR_STAT, 29, 16⟩
def PACK_LAST_END_END : Fld := ⟨R.PACK_LAST_END, 23, 0⟩
def PACK_LAST_END_DISCARDED : Fld := ⟨R.PACK_LAST_END, 31, 24⟩
def PACK_ASU_CTL_NODE_MAX : Fld := ⟨R.PACK_ASU_CTL, 17, 0⟩
def PACK_ASU_CTL_RATIO_MIN : Fld := ⟨R.PACK_ASU_CTL, 27, 20⟩
def PACK_ASU_CTL_HOLD : Fld := ⟨R.PACK_ASU_CTL, 30, 28⟩
def PACK_SOL_CTL_UNC_K : Fld := ⟨R.PACK_SOL_CTL, 7, 0⟩
def PACK_SOL_CTL_UNC_FLOOR : Fld := ⟨R.PACK_SOL_CTL, 15, 8⟩
def PACK_SOL_CTL_RESET_GAP : Fld := ⟨R.PACK_SOL_CTL, 19, 16⟩
def PACK_SOL_CTL_LOAD_LIMIT : Fld := ⟨R.PACK_SOL_CTL, 31, 20⟩
def PACK_LOAD_MFLOP : Fld := ⟨R.PACK_LOAD, 11, 0⟩
def PACK_LOAD_PHASE : Fld := ⟨R.PACK_LOAD, 15, 12⟩
def PACK_BASE_CTL_SOURCE : Fld := ⟨R.PACK_BASE_CTL, 1, 0⟩
def PACK_BASE_CTL_AUTO_SURVEY : Fld := ⟨R.PACK_BASE_CTL, 2, 2⟩
def PACK_BASE_CTL_MOVE_THR : Fld := ⟨R.PACK_BASE_CTL, 31, 16⟩
def PACK_SURVEY_CTL_MIN_TIME : Fld := ⟨R.PACK_SURVEY_CTL, 15, 0⟩
def PACK_SURVEY_CTL_ACC : Fld := ⟨R.PACK_SURVEY_CTL, 31, 16⟩
def PACK_BASE_CMD_SURVEY_START : Fld := ⟨R.PACK_BASE_CMD, 0, 0⟩
def PACK_BASE_STAT_STATE : Fld := ⟨R.PACK_BASE_STAT, 2, 0⟩
def PACK_BASE_STAT_SURVEY_TIME : Fld := ⟨R.PACK_BASE_STAT, 31, 16⟩
def PACK_RTCM_CTL_STATION : Fld := ⟨R.PACK_RTCM_CTL, 11, 0⟩
def PACK_RTCM_CTL_EN_1005 : Fld := ⟨R.PACK_RTCM_CTL, 12, 12⟩
def PACK_RTCM_CTL_EN_1006 : Fld := ⟨R.PACK_RTCM_CTL, 13, 13⟩
def PACK_RTCM_CTL_EN_1033 : Fld := ⟨R.PACK_RTCM_CTL, 14, 14⟩
def PACK_RTCM_CTL_EN_1230 : Fld := ⟨R.PACK_RTCM_CTL, 15, 15⟩
def PACK_RTCM_CTL_MSM_EN : Fld := ⟨R.PACK_RTCM_CTL, 20, 16⟩
def PACK_RTCM_CTL_MSM7 : Fld := ⟨R.PACK_RTCM_CTL, 28, 24⟩
def PACK_RTCM_RATE_MSM : Fld := ⟨R.PACK_RTCM_RATE, 7, 0⟩
def PACK_RTCM_RATE_STATION : Fld := ⟨R.PACK_RTCM_RATE, 15, 8⟩
def PACK_RTCM_RATE_DESC : Fld := ⟨R.PACK_RTCM_RATE, 23, 16⟩
def PACK_RTCM_RATE_BIAS : Fld := ⟨R.PACK_RTCM_RATE, 31, 24⟩
def PACK_TRACE_CTL_EN : Fld := ⟨R.PACK_TRACE_CTL, 0, 0⟩
def PACK_TRACE_CTL_OPS : Fld := ⟨R.PACK_TRACE_CTL, 1, 1⟩
def PACK_TRACE_CTL_ONE_ROVER : Fld := ⟨R.PACK_TRACE_CTL, 2, 2⟩
def PACK_TRACE_CTL_ROVER : Fld := ⟨R.PACK_TRACE_CTL, 15, 8⟩
def ROVER_POS_CTL_EN (i : Nat) : Fld := ⟨R.ROVER_POS_CTL i, 0, 0⟩
def ROVER_POS_CTL_MODE (i : Nat) : Fld := ⟨R.ROVER_POS_CTL i, 2, 1⟩
def ROVER_POS_CTL_SOL_RING (i : Nat) : Fld := ⟨R.ROVER_POS_CTL i, 3, 3⟩
def ROVER_POS_CTL_GRAPH (i : Nat) : Fld := ⟨R.ROVER_POS_CTL i, 15, 8⟩
def ROVER_SOL_STAT_STATE (i : Nat) : Fld := ⟨R.ROVER_SOL_STAT i, 1, 0⟩
def ROVER_SOL_STAT_FIX (i : Nat) : Fld := ⟨R.ROVER_SOL_STAT i, 3, 2⟩
def ROVER_SOL_STAT_MISS (i : Nat) : Fld := ⟨R.ROVER_SOL_STAT i, 7, 4⟩
def ROVER_SOL_STAT_LATE_CAUSE (i : Nat) : Fld := ⟨R.ROVER_SOL_STAT i, 11, 8⟩
def ROVER_SOL_STAT_XCHK_FAIL (i : Nat) : Fld := ⟨R.ROVER_SOL_STAT i, 12, 12⟩
def ROVER_SOL_STAT_XCHK_UNAVAIL (i : Nat) : Fld := ⟨R.ROVER_SOL_STAT i, 13, 13⟩
def ROVER_SOL_STAT_WIDENED (i : Nat) : Fld := ⟨R.ROVER_SOL_STAT i, 14, 14⟩
def ROVER_SOL_STAT_FILTER_RESET (i : Nat) : Fld := ⟨R.ROVER_SOL_STAT i, 15, 15⟩
def ROVER_SOL_STAT_SATS (i : Nat) : Fld := ⟨R.ROVER_SOL_STAT i, 23, 16⟩
def ROVER_SOL_STAT_AMB (i : Nat) : Fld := ⟨R.ROVER_SOL_STAT i, 31, 24⟩
def ROVER_SOL_EVT_EVENTS (i : Nat) : Fld := ⟨R.ROVER_SOL_EVT i, 5, 0⟩
def ROVER_SOL_EVT_EN_EVENTS (i : Nat) : Fld := ⟨R.ROVER_SOL_EVT_EN i, 5, 0⟩
def TIME_CTL_STEP_ALLOW : Fld := ⟨R.TIME_CTL, 0, 0⟩
def TIME_SRC_CTL_SRC : Fld := ⟨R.TIME_SRC_CTL, 1, 0⟩
def TIME_SRC_CTL_REF_EN : Fld := ⟨R.TIME_SRC_CTL, 2, 2⟩
def TIME_SRC_CTL_PPS_POL : Fld := ⟨R.TIME_SRC_CTL, 3, 3⟩
def TIME_STAT_STATE : Fld := ⟨R.TIME_STAT, 1, 0⟩
def TIME_STAT_SRC_USE : Fld := ⟨R.TIME_STAT, 3, 2⟩
def TIME_STAT_SRC_VALID : Fld := ⟨R.TIME_STAT, 4, 4⟩
def TIME_STAT_REF_LOCK : Fld := ⟨R.TIME_STAT, 5, 5⟩
def TIME_STAT_SLEWING : Fld := ⟨R.TIME_STAT, 6, 6⟩
def TIME_STAT_EVER_LOCKED : Fld := ⟨R.TIME_STAT, 7, 7⟩
def TIME_STAT_RETURNING : Fld := ⟨R.TIME_STAT, 8, 8⟩
def TIME_EVT_EVENTS : Fld := ⟨R.TIME_EVT, 12, 0⟩
def TIME_EVT_EN_EVENTS : Fld := ⟨R.TIME_EVT_EN, 12, 0⟩
def TIME_QUAL_CTL_UNTRACE_NS : Fld := ⟨R.TIME_QUAL_CTL, 12, 0⟩
def TIME_QUAL_CTL_LOSS_TICKS : Fld := ⟨R.TIME_QUAL_CTL, 23, 16⟩
def TIME_QUAL_CTL_LOCK_NS : Fld := ⟨R.TIME_QUAL_CTL, 31, 24⟩
def TIME_PTP_CTL_GM_EN : Fld := ⟨R.TIME_PTP_CTL, 0, 0⟩
def TIME_PTP_CTL_TC_EN : Fld := ⟨R.TIME_PTP_CTL, 1, 1⟩
def TIME_PTP_CTL_PROFILE : Fld := ⟨R.TIME_PTP_CTL, 2, 2⟩
def TIME_PTP_CTL_TWO_STEP : Fld := ⟨R.TIME_PTP_CTL, 3, 3⟩
def TIME_PTP_CTL_DOMAIN : Fld := ⟨R.TIME_PTP_CTL, 15, 8⟩
def TIME_PTP_INTV_ANNOUNCE : Fld := ⟨R.TIME_PTP_INTV, 7, 0⟩
def TIME_PTP_INTV_SYNC : Fld := ⟨R.TIME_PTP_INTV, 15, 8⟩
def TIME_PTP_INTV_DELAY : Fld := ⟨R.TIME_PTP_INTV, 23, 16⟩
def SHEP_CTL_EN : Fld := ⟨R.SHEP_CTL, 0, 0⟩
def SHEP_CTL_TASK_EN : Fld := ⟨R.SHEP_CTL, 1, 1⟩
def SHEP_CTL_AIR_REQ : Fld := ⟨R.SHEP_CTL, 2, 2⟩
def SHEP_CTL_TRIES : Fld := ⟨R.SHEP_CTL, 7, 4⟩
def SHEP_CTL_SLACK : Fld := ⟨R.SHEP_CTL, 15, 8⟩
def SHEP_CTL_HORIZON : Fld := ⟨R.SHEP_CTL, 31, 16⟩
def SHEP_POL_CREEP : Fld := ⟨R.SHEP_POL, 15, 0⟩
def SHEP_POL_HEEL_MAX : Fld := ⟨R.SHEP_POL, 31, 16⟩
def SHEP_STAT_NET_ACTIVE : Fld := ⟨R.SHEP_STAT, 0, 0⟩
def SHEP_STAT_NET_LOADED : Fld := ⟨R.SHEP_STAT, 1, 1⟩
def SHEP_STAT_NET_PENDING : Fld := ⟨R.SHEP_STAT, 2, 2⟩
def SHEP_STAT_DENY_ALL : Fld := ⟨R.SHEP_STAT, 3, 3⟩
def SHEP_STAT_DENY_CAUSE : Fld := ⟨R.SHEP_STAT, 5, 4⟩
def SHEP_STAT_PENDING : Fld := ⟨R.SHEP_STAT, 24, 16⟩
def SHEP_EVT_EVENTS : Fld := ⟨R.SHEP_EVT, 11, 0⟩
def SHEP_EVT_EN_EVENTS : Fld := ⟨R.SHEP_EVT_EN, 11, 0⟩
def SHEP_LAST_END_END : Fld := ⟨R.SHEP_LAST_END, 23, 0⟩
def SHEP_LAST_END_EVALS : Fld := ⟨R.SHEP_LAST_END, 31, 24⟩
def SHEP_TBL_SEL_TABLE : Fld := ⟨R.SHEP_TBL_SEL, 3, 0⟩
def SHEP_TBL_SEL_INDEX : Fld := ⟨R.SHEP_TBL_SEL, 25, 4⟩
def SHEP_TBL_STAT_VALID : Fld := ⟨R.SHEP_TBL_STAT, 0, 0⟩
def SHEP_TBL_STAT_ERR : Fld := ⟨R.SHEP_TBL_STAT, 1, 1⟩
def SHEP_TBL_STAT_PARITY : Fld := ⟨R.SHEP_TBL_STAT, 2, 2⟩
def SHEP_RV_STAT_STATE (i : Nat) : Fld := ⟨R.SHEP_RV_STAT i, 2, 0⟩
def SHEP_RV_STAT_AUTH (i : Nat) : Fld := ⟨R.SHEP_RV_STAT i, 3, 3⟩
def SHEP_RV_STAT_HEEL_REQ (i : Nat) : Fld := ⟨R.SHEP_RV_STAT i, 4, 4⟩
def SHEP_RV_STAT_OFF_TRACK (i : Nat) : Fld := ⟨R.SHEP_RV_STAT i, 5, 5⟩
def SHEP_RV_STAT_FP_FULL (i : Nat) : Fld := ⟨R.SHEP_RV_STAT i, 6, 6⟩
def SHEP_RV_STAT_FP_CHAINS (i : Nat) : Fld := ⟨R.SHEP_RV_STAT i, 13, 8⟩
def SHEP_RV_STAT_ROUTE_SERIAL (i : Nat) : Fld := ⟨R.SHEP_RV_STAT i, 31, 16⟩
def SHEP_RV_LOC_CHAIN (i : Nat) : Fld := ⟨R.SHEP_RV_LOC i, 13, 0⟩
def SHEP_RV_LOC_CHAIN_VALID (i : Nat) : Fld := ⟨R.SHEP_RV_LOC i, 15, 15⟩
def SHEP_RV_LOC_TASK (i : Nat) : Fld := ⟨R.SHEP_RV_LOC i, 27, 16⟩
def SHEP_RV_LOC_TASK_VALID (i : Nat) : Fld := ⟨R.SHEP_RV_LOC i, 31, 31⟩
def MOT_EVT_EVENTS : Fld := ⟨R.MOT_EVT, 4, 0⟩
def MOT_EVT_EN_EVENTS : Fld := ⟨R.MOT_EVT_EN, 4, 0⟩
def MOT_IN_CTL_CHANNEL (i : Nat) : Fld := ⟨R.MOT_IN_CTL i, 7, 0⟩
def MOT_IN_CTL_FUNC (i : Nat) : Fld := ⟨R.MOT_IN_CTL i, 10, 8⟩
def MOT_IN_CTL_POL (i : Nat) : Fld := ⟨R.MOT_IN_CTL i, 11, 11⟩
def MOT_IN_CTL_FILT (i : Nat) : Fld := ⟨R.MOT_IN_CTL i, 31, 16⟩
def MOT_IN_CHAT_CHAT_N (i : Nat) : Fld := ⟨R.MOT_IN_CHAT i, 7, 0⟩
def MOT_IN_CHAT_CHAT_WIN (i : Nat) : Fld := ⟨R.MOT_IN_CHAT i, 15, 8⟩
def MOT_IN_CHAT_CHAT_STABLE (i : Nat) : Fld := ⟨R.MOT_IN_CHAT i, 31, 16⟩
def MOT_IN_STAT_LEVEL (i : Nat) : Fld := ⟨R.MOT_IN_STAT i, 0, 0⟩
def MOT_IN_STAT_CHATTER (i : Nat) : Fld := ⟨R.MOT_IN_STAT i, 1, 1⟩
def MOT_IN_STAT_EDGES (i : Nat) : Fld := ⟨R.MOT_IN_STAT i, 31, 16⟩
def MOT_CH_BIND_KIND (i : Nat) : Fld := ⟨R.MOT_CH_BIND i, 1, 0⟩
def MOT_CH_BIND_INDEX (i : Nat) : Fld := ⟨R.MOT_CH_BIND i, 15, 8⟩
def MOT_CH_BIND_PORT (i : Nat) : Fld := ⟨R.MOT_CH_BIND i, 19, 16⟩
def MOT_CH_STEP_CFG_STEP_W (i : Nat) : Fld := ⟨R.MOT_CH_STEP_CFG i, 9, 0⟩
def MOT_CH_STEP_CFG_DIR_SU (i : Nat) : Fld := ⟨R.MOT_CH_STEP_CFG i, 25, 16⟩
def MOT_CH_STEP_CFG_STEP_POL (i : Nat) : Fld := ⟨R.MOT_CH_STEP_CFG i, 31, 31⟩
def MOT_CH_STAT_STATE (i : Nat) : Fld := ⟨R.MOT_CH_STAT i, 3, 0⟩
def MOT_CH_STAT_HOMED (i : Nat) : Fld := ⟨R.MOT_CH_STAT i, 4, 4⟩
def MOT_CH_STAT_REVERSING (i : Nat) : Fld := ⟨R.MOT_CH_STAT i, 5, 5⟩
def MOT_CH_STAT_HEEL_REQ (i : Nat) : Fld := ⟨R.MOT_CH_STAT i, 6, 6⟩
def MOT_CH_STAT_BIND_CONFLICT (i : Nat) : Fld := ⟨R.MOT_CH_STAT i, 7, 7⟩
def MOT_CH_STAT_DIR_DELAYED (i : Nat) : Fld := ⟨R.MOT_CH_STAT i, 8, 8⟩
def MOT_CH_STAT_PENDING_LOWER (i : Nat) : Fld := ⟨R.MOT_CH_STAT i, 9, 9⟩
def MOT_CH_STAT_FAULTS (i : Nat) : Fld := ⟨R.MOT_CH_STAT i, 13, 12⟩
def MOT_CH_STAT_GROUP (i : Nat) : Fld := ⟨R.MOT_CH_STAT i, 19, 16⟩
def MOT_CH_STAT_IN_GROUP (i : Nat) : Fld := ⟨R.MOT_CH_STAT i, 20, 20⟩
def MOT_CH_STAT_SKIP (i : Nat) : Fld := ⟨R.MOT_CH_STAT i, 31, 24⟩
def MOT_CH_EVT_EVENTS (i : Nat) : Fld := ⟨R.MOT_CH_EVT i, 6, 0⟩
def MOT_CH_EVT_EN_EVENTS (i : Nat) : Fld := ⟨R.MOT_CH_EVT_EN i, 6, 0⟩
def MOT_CH_REM_CFG_PERIOD (i : Nat) : Fld := ⟨R.MOT_CH_REM_CFG i, 2, 0⟩
def MOT_CH_REM_CFG_LEAD (i : Nat) : Fld := ⟨R.MOT_CH_REM_CFG i, 15, 4⟩
def MOT_CH_REM_CFG_AUTH_EN (i : Nat) : Fld := ⟨R.MOT_CH_REM_CFG i, 16, 16⟩
def MOT_CH_REM_CFG_STATUS_EN (i : Nat) : Fld := ⟨R.MOT_CH_REM_CFG i, 17, 17⟩
def MOT_CH_REM_CFG_TIMEOUT (i : Nat) : Fld := ⟨R.MOT_CH_REM_CFG i, 27, 24⟩
def AIR_CTL_EN : Fld := ⟨R.AIR_CTL, 0, 0⟩
def AIR_CTL_WB0_EN : Fld := ⟨R.AIR_CTL, 1, 1⟩
def AIR_CTL_WB1_EN : Fld := ⟨R.AIR_CTL, 2, 2⟩
def AIR_CTL_SG_EN : Fld := ⟨R.AIR_CTL, 3, 3⟩
def AIR_CTL_SG_CORR : Fld := ⟨R.AIR_CTL, 4, 4⟩
def AIR_CTL_DL_RTCM : Fld := ⟨R.AIR_CTL, 5, 5⟩
def AIR_STAT_TX_ALLOWED : Fld := ⟨R.AIR_STAT, 0, 0⟩
def AIR_STAT_DROP_ACTIVE : Fld := ⟨R.AIR_STAT, 1, 1⟩
def AIR_STAT_STEP_RESYNC : Fld := ⟨R.AIR_STAT, 2, 2⟩
def AIR_STAT_PATH_REFUSED : Fld := ⟨R.AIR_STAT, 6, 4⟩
def AIR_STAT_FLOOR0 : Fld := ⟨R.AIR_STAT, 17, 16⟩
def AIR_STAT_FLOOR1 : Fld := ⟨R.AIR_STAT, 19, 18⟩
def AIR_EVT_EVENTS : Fld := ⟨R.AIR_EVT, 11, 0⟩
def AIR_EVT_EN_EVENTS : Fld := ⟨R.AIR_EVT_EN, 11, 0⟩
def AIR_WB0_CFG_CENTRE : Fld := ⟨R.AIR_WB0_CFG, 12, 0⟩
def AIR_WB1_CFG_CENTRE : Fld := ⟨R.AIR_WB1_CFG, 12, 0⟩
def AIR_WB0_CFG_WIDTH : Fld := ⟨R.AIR_WB0_CFG, 16, 16⟩
def AIR_WB1_CFG_WIDTH : Fld := ⟨R.AIR_WB1_CFG, 16, 16⟩
def AIR_WB0_CFG_CTRL : Fld := ⟨R.AIR_WB0_CFG, 22, 20⟩
def AIR_WB1_CFG_CTRL : Fld := ⟨R.AIR_WB1_CFG, 22, 20⟩
def AIR_WB0_CFG_UP : Fld := ⟨R.AIR_WB0_CFG, 26, 24⟩
def AIR_WB1_CFG_UP : Fld := ⟨R.AIR_WB1_CFG, 26, 24⟩
def AIR_WB0_CFG_DL : Fld := ⟨R.AIR_WB0_CFG, 30, 28⟩
def AIR_WB1_CFG_DL : Fld := ⟨R.AIR_WB1_CFG, 30, 28⟩
def AIR_SG_CFG_RATE : Fld := ⟨R.AIR_SG_CFG, 0, 0⟩
def AIR_SG_CFG_PRE : Fld := ⟨R.AIR_SG_CFG, 7, 4⟩
def AIR_SG_CFG_DROP_RPT : Fld := ⟨R.AIR_SG_CFG, 11, 8⟩
def AIR_SG_CFG_VER : Fld := ⟨R.AIR_SG_CFG, 15, 12⟩
def AIR_SG_CFG_CORR_INT : Fld := ⟨R.AIR_SG_CFG, 23, 16⟩
def ROVER_LINK_CTL_EN (i : Nat) : Fld := ⟨R.ROVER_LINK_CTL i, 0, 0⟩
def ROVER_LINK_CTL_CHAN (i : Nat) : Fld := ⟨R.ROVER_LINK_CTL i, 1, 1⟩
def ROVER_LINK_CTL_SLOT (i : Nat) : Fld := ⟨R.ROVER_LINK_CTL i, 12, 8⟩
def ROVER_LINK_CTL_VER_MAX (i : Nat) : Fld := ⟨R.ROVER_LINK_CTL i, 17, 16⟩
def ROVER_LINK_SLOT_CHAN (i : Nat) : Fld := ⟨R.ROVER_LINK_SLOT i, 0, 0⟩
def ROVER_LINK_SLOT_SLOT (i : Nat) : Fld := ⟨R.ROVER_LINK_SLOT i, 12, 8⟩
def ROVER_LINK_SLOT_FIRST_GRAIN (i : Nat) : Fld := ⟨R.ROVER_LINK_SLOT i, 25, 16⟩
def ROVER_LINK_SLOT_VALID (i : Nat) : Fld := ⟨R.ROVER_LINK_SLOT i, 28, 28⟩
def ROVER_LINK_SLOT_NO_SLOT (i : Nat) : Fld := ⟨R.ROVER_LINK_SLOT i, 29, 29⟩
def ROVER_LINK_SLOT_CONFLICT (i : Nat) : Fld := ⟨R.ROVER_LINK_SLOT i, 30, 30⟩
def ROVER_LINK_STAT_LINK (i : Nat) : Fld := ⟨R.ROVER_LINK_STAT i, 1, 0⟩
def ROVER_LINK_STAT_DRIFT_FAULT (i : Nat) : Fld := ⟨R.ROVER_LINK_STAT i, 2, 2⟩
def ROVER_LINK_STAT_RESYNC (i : Nat) : Fld := ⟨R.ROVER_LINK_STAT i, 3, 3⟩
def ROVER_LINK_STAT_RESYNC_RUN (i : Nat) : Fld := ⟨R.ROVER_LINK_STAT i, 5, 4⟩
def ROVER_LINK_STAT_VER (i : Nat) : Fld := ⟨R.ROVER_LINK_STAT i, 7, 6⟩
def ROVER_LINK_STAT_VMAX (i : Nat) : Fld := ⟨R.ROVER_LINK_STAT i, 9, 8⟩
def ROVER_LINK_STAT_SILENT (i : Nat) : Fld := ⟨R.ROVER_LINK_STAT i, 11, 10⟩
def ROVER_LINK_EVT_EVENTS (i : Nat) : Fld := ⟨R.ROVER_LINK_EVT i, 7, 0⟩
def ROVER_LINK_EVT_EN_EVENTS (i : Nat) : Fld := ⟨R.ROVER_LINK_EVT_EN i, 7, 0⟩
def LEASH_CTL_ARM_SRC : Fld := ⟨R.LEASH_CTL, 1, 0⟩
def LEASH_CTL_HEEL_PIN_EN : Fld := ⟨R.LEASH_CTL, 2, 2⟩
def LEASH_CTL_HEEL_LOCAL : Fld := ⟨R.LEASH_CTL, 3, 3⟩
def LEASH_CTL_DISC_TIME : Fld := ⟨R.LEASH_CTL, 15, 6⟩
def LEASH_CTL_PULSE_TOL : Fld := ⟨R.LEASH_CTL, 25, 16⟩
def LEASH_CTL_MON_TICKS : Fld := ⟨R.LEASH_CTL, 29, 26⟩
def LEASH_STAT_STATE : Fld := ⟨R.LEASH_STAT, 1, 0⟩
def LEASH_STAT_IN_A : Fld := ⟨R.LEASH_STAT, 2, 2⟩
def LEASH_STAT_IN_B : Fld := ⟨R.LEASH_STAT, 3, 3⟩
def LEASH_STAT_OUT_A : Fld := ⟨R.LEASH_STAT, 4, 4⟩
def LEASH_STAT_OUT_B : Fld := ⟨R.LEASH_STAT, 5, 5⟩
def LEASH_STAT_DISC : Fld := ⟨R.LEASH_STAT, 6, 6⟩
def LEASH_STAT_TEST_FAIL : Fld := ⟨R.LEASH_STAT, 7, 7⟩
def LEASH_STAT_HELD : Fld := ⟨R.LEASH_STAT, 8, 8⟩
def LEASH_STAT_PARTNER_TRIPPED : Fld := ⟨R.LEASH_STAT, 9, 9⟩
def LEASH_STAT_HEEL_SRC : Fld := ⟨R.LEASH_STAT, 14, 12⟩
def LEASH_STAT_CAUSE : Fld := ⟨R.LEASH_STAT, 19, 16⟩
def LEASH_STAT_MON_SRC : Fld := ⟨R.LEASH_STAT, 23, 20⟩
def LEASH_STAT_ARM_REFUSE : Fld := ⟨R.LEASH_STAT, 27, 24⟩
def LEASH_EVT_EVENTS : Fld := ⟨R.LEASH_EVT, 9, 0⟩
def LEASH_EVT_EN_EVENTS : Fld := ⟨R.LEASH_EVT_EN, 9, 0⟩
def LEASH_TEST_CTL_PERIOD : Fld := ⟨R.LEASH_TEST_CTL, 11, 0⟩
def LEASH_TEST_CTL_W : Fld := ⟨R.LEASH_TEST_CTL, 25, 16⟩
def SW_P_CTL_EN (i : Nat) : Fld := ⟨R.SW_P_CTL i, 0, 0⟩
def SW_P_CTL_MODE (i : Nat) : Fld := ⟨R.SW_P_CTL i, 1, 1⟩
def SW_P_CTL_AN_EN (i : Nat) : Fld := ⟨R.SW_P_CTL i, 2, 2⟩
def SW_P_CTL_LEARN_EN (i : Nat) : Fld := ⟨R.SW_P_CTL i, 3, 3⟩
def SW_P_CTL_FLUSH_ON_DOWN (i : Nat) : Fld := ⟨R.SW_P_CTL i, 4, 4⟩
def SW_P_CTL_MOVE_LOCK (i : Nat) : Fld := ⟨R.SW_P_CTL i, 5, 5⟩
def SW_P_CTL_LIMIT_ACT (i : Nat) : Fld := ⟨R.SW_P_CTL i, 6, 6⟩
def SW_P_CTL_INGRESS_FILTER (i : Nat) : Fld := ⟨R.SW_P_CTL i, 7, 7⟩
def SW_P_CTL_ACCEPT (i : Nat) : Fld := ⟨R.SW_P_CTL i, 9, 8⟩
def SW_P_CTL_DEF_PCP (i : Nat) : Fld := ⟨R.SW_P_CTL i, 14, 12⟩
def SW_P_CTL_PVID (i : Nat) : Fld := ⟨R.SW_P_CTL i, 27, 16⟩
def SW_P_QOS_QMAP (i : Nat) : Fld := ⟨R.SW_P_QOS i, 15, 0⟩
def SW_P_QOS_W0 (i : Nat) : Fld := ⟨R.SW_P_QOS i, 19, 16⟩
def SW_P_QOS_W1 (i : Nat) : Fld := ⟨R.SW_P_QOS i, 23, 20⟩
def SW_P_QOS_W2 (i : Nat) : Fld := ⟨R.SW_P_QOS i, 27, 24⟩
def SW_P_STAT_LINK (i : Nat) : Fld := ⟨R.SW_P_STAT i, 0, 0⟩
def SW_P_STAT_SPEED (i : Nat) : Fld := ⟨R.SW_P_STAT i, 2, 1⟩
def SW_P_STAT_STATE (i : Nat) : Fld := ⟨R.SW_P_STAT i, 5, 4⟩
def SW_P_STAT_FAULTS (i : Nat) : Fld := ⟨R.SW_P_STAT i, 7, 6⟩
def SW_P_STAT_LEARNED (i : Nat) : Fld := ⟨R.SW_P_STAT i, 29, 16⟩
def SW_EVT_EVENTS : Fld := ⟨R.SW_EVT, 8, 0⟩
def SW_EVT_EN_EVENTS : Fld := ⟨R.SW_EVT_EN, 8, 0⟩
def BRACE_CTL_MODE : Fld := ⟨R.BRACE_CTL, 0, 0⟩
def BRACE_CTL_UNIT : Fld := ⟨R.BRACE_CTL, 1, 1⟩
def BRACE_CTL_PREF_UNIT : Fld := ⟨R.BRACE_CTL, 2, 2⟩
def BRACE_CTL_STANDBY : Fld := ⟨R.BRACE_CTL, 3, 3⟩
def BRACE_CTL_RETURN : Fld := ⟨R.BRACE_CTL, 4, 4⟩
def BRACE_CTL_ELIG_EN : Fld := ⟨R.BRACE_CTL, 5, 5⟩
def BRACE_CTL_BVER_MAX : Fld := ⟨R.BRACE_CTL, 7, 6⟩
def BRACE_STAT_ROLE : Fld := ⟨R.BRACE_STAT, 1, 0⟩
def BRACE_STAT_GATE_OPEN : Fld := ⟨R.BRACE_STAT, 2, 2⟩
def BRACE_STAT_HOLD_OUT : Fld := ⟨R.BRACE_STAT, 3, 3⟩
def BRACE_STAT_HOLD_IN : Fld := ⟨R.BRACE_STAT, 4, 4⟩
def BRACE_STAT_HB_LVDS : Fld := ⟨R.BRACE_STAT, 5, 5⟩
def BRACE_STAT_HB_P1 : Fld := ⟨R.BRACE_STAT, 6, 6⟩
def BRACE_STAT_SYNCED : Fld := ⟨R.BRACE_STAT, 7, 7⟩
def BRACE_STAT_ELIGIBLE : Fld := ⟨R.BRACE_STAT, 8, 8⟩
def BRACE_STAT_PARTNER_ELIGIBLE : Fld := ⟨R.BRACE_STAT, 9, 9⟩
def BRACE_STAT_TIME_ALIGNED : Fld := ⟨R.BRACE_STAT, 10, 10⟩
def BRACE_STAT_COLD : Fld := ⟨R.BRACE_STAT, 11, 11⟩
def BRACE_STAT_BVER : Fld := ⟨R.BRACE_STAT, 15, 12⟩
def BRACE_STAT_PARTNER_ROLE : Fld := ⟨R.BRACE_STAT, 18, 16⟩
def BRACE_STAT_PREFERRED : Fld := ⟨R.BRACE_STAT, 19, 19⟩
def BRACE_STAT_LAST_CAUSE : Fld := ⟨R.BRACE_STAT, 23, 20⟩
def BRACE_EVT_EVENTS : Fld := ⟨R.BRACE_EVT, 13, 0⟩
def BRACE_EVT_EN_EVENTS : Fld := ⟨R.BRACE_EVT_EN, 13, 0⟩
def BRACE_TIMING_HB_MISS : Fld := ⟨R.BRACE_TIMING, 3, 0⟩
def BRACE_TIMING_KA_TICKS : Fld := ⟨R.BRACE_TIMING, 7, 4⟩
def BRACE_TIMING_JOIN_WAIT : Fld := ⟨R.BRACE_TIMING, 15, 8⟩
def BRACE_TIMING_RETURN_HOLD : Fld := ⟨R.BRACE_TIMING, 31, 16⟩
def KEN_STAT_STATE : Fld := ⟨R.KEN_STAT, 1, 0⟩
def KEN_STAT_ROOT_VALID : Fld := ⟨R.KEN_STAT, 2, 2⟩
def KEN_STAT_CFR_PROG : Fld := ⟨R.KEN_STAT, 3, 3⟩
def KEN_STAT_FUSE_GEN : Fld := ⟨R.KEN_STAT, 5, 4⟩
def KEN_STAT_GEN_EXHAUSTED : Fld := ⟨R.KEN_STAT, 6, 6⟩
def KEN_STAT_VBAT_LOW : Fld := ⟨R.KEN_STAT, 7, 7⟩
def KEN_STAT_VAL_READY : Fld := ⟨R.KEN_STAT, 8, 8⟩
def KEN_STAT_BRACE_READY : Fld := ⟨R.KEN_STAT, 9, 9⟩
def KEN_STAT_BUSY : Fld := ⟨R.KEN_STAT, 10, 10⟩
def KEN_STAT_TAMPER_ACTIVE : Fld := ⟨R.KEN_STAT, 11, 11⟩
def KEN_STAT_LOADED : Fld := ⟨R.KEN_STAT, 23, 16⟩
def KEN_EVT_EVENTS : Fld := ⟨R.KEN_EVT, 7, 0⟩
def KEN_EVT_EN_EVENTS : Fld := ⟨R.KEN_EVT_EN, 7, 0⟩
def KEN_TAMPER_CTL_CASE_EN : Fld := ⟨R.KEN_TAMPER_CTL, 0, 0⟩
def KEN_TAMPER_CTL_TEMP_EN : Fld := ⟨R.KEN_TAMPER_CTL, 1, 1⟩
def KEN_TAMPER_CTL_MESH_ARM : Fld := ⟨R.KEN_TAMPER_CTL, 2, 2⟩
def KEN_TAMPER_CTL_LOCK : Fld := ⟨R.KEN_TAMPER_CTL, 3, 3⟩
def KEN_TAMPER_CTL_CASE_FILT : Fld := ⟨R.KEN_TAMPER_CTL, 15, 8⟩
def KEN_TAMPER_STAT_ACTIVE : Fld := ⟨R.KEN_TAMPER_STAT, 5, 0⟩
def KEN_TAMPER_STAT_LAST : Fld := ⟨R.KEN_TAMPER_STAT, 11, 8⟩
def KEN_SLOT_STAT_STATE (i : Nat) : Fld := ⟨R.KEN_SLOT_STAT i, 1, 0⟩
def KEN_SLOT_STAT_RETRY (i : Nat) : Fld := ⟨R.KEN_SLOT_STAT i, 2, 2⟩
def KEN_SLOT_STAT_TYPE (i : Nat) : Fld := ⟨R.KEN_SLOT_STAT i, 7, 4⟩
def KEN_SLOT_STAT_USE (i : Nat) : Fld := ⟨R.KEN_SLOT_STAT i, 14, 8⟩
def KEN_SLOT_STAT_USER (i : Nat) : Fld := ⟨R.KEN_SLOT_STAT i, 20, 16⟩
def KEN_SLOT_STAT_BIND (i : Nat) : Fld := ⟨R.KEN_SLOT_STAT i, 23, 22⟩
def KEN_SLOT_STAT_PARENT (i : Nat) : Fld := ⟨R.KEN_SLOT_STAT i, 29, 24⟩
def KEN_SLOT_STAT_SOURCE (i : Nat) : Fld := ⟨R.KEN_SLOT_STAT i, 31, 30⟩
def UPD_CTL_TRIAL_S : Fld := ⟨R.UPD_CTL, 11, 0⟩
def UPD_CTL_PAIR_WAIT : Fld := ⟨R.UPD_CTL, 23, 16⟩
def UPD_STAT_STATE : Fld := ⟨R.UPD_STAT, 3, 0⟩
def UPD_STAT_BANK : Fld := ⟨R.UPD_STAT, 4, 4⟩
def UPD_STAT_PAIR : Fld := ⟨R.UPD_STAT, 5, 5⟩
def UPD_STAT_SETTINGS_MIGRATED : Fld := ⟨R.UPD_STAT, 6, 6⟩
def UPD_STAT_PREV_VALID : Fld := ⟨R.UPD_STAT, 7, 7⟩
def UPD_STAT_LAST : Fld := ⟨R.UPD_STAT, 11, 8⟩
def UPD_STAT_PKG_STAGED : Fld := ⟨R.UPD_STAT, 12, 12⟩
def UPD_EVT_EVENTS : Fld := ⟨R.UPD_EVT, 9, 0⟩
def UPD_EVT_EN_EVENTS : Fld := ⟨R.UPD_EVT_EN, 9, 0⟩
def PWR_STAT_STATE : Fld := ⟨R.PWR_STAT, 2, 0⟩
def PWR_STAT_TARGET : Fld := ⟨R.PWR_STAT, 5, 4⟩
def PWR_STAT_BURST : Fld := ⟨R.PWR_STAT, 8, 8⟩
def PWR_REQ_STATE : Fld := ⟨R.PWR_REQ, 1, 0⟩
def PWR_DOM_EN_EN : Fld := ⟨R.PWR_DOM_EN, 11, 4⟩
def PWR_SOFT_RESET_MASK : Fld := ⟨R.PWR_SOFT_RESET, 15, 0⟩
def PWR_RESET_CAUSE_KIND : Fld := ⟨R.PWR_RESET_CAUSE, 3, 0⟩
def PWR_RESET_CAUSE_ACTIVATION : Fld := ⟨R.PWR_RESET_CAUSE, 4, 4⟩
def PWR_RESET_CAUSE_BOOT_FALLBACK : Fld := ⟨R.PWR_RESET_CAUSE, 5, 5⟩
def PWR_EVT_EVENTS : Fld := ⟨R.PWR_EVT, 6, 0⟩
def PWR_EVT_EN_EVENTS : Fld := ⟨R.PWR_EVT_EN, 6, 0⟩
def PERF_CTL_BAR2_EN : Fld := ⟨R.PERF_CTL, 0, 0⟩
def PERF_CTL_DUMP_EN : Fld := ⟨R.PERF_CTL, 1, 1⟩
def PERF_STAT_DUMP_PENDING : Fld := ⟨R.PERF_STAT, 0, 0⟩
def PERF_STAT_COUNT : Fld := ⟨R.PERF_STAT, 23, 16⟩
def PERF_EVT_EVENTS : Fld := ⟨R.PERF_EVT, 1, 0⟩
def PERF_EVT_EN_EVENTS : Fld := ⟨R.PERF_EVT_EN, 1, 0⟩
def REC_EVT_EVENTS : Fld := ⟨R.REC_EVT, 5, 0⟩
def REC_EVT_EN_EVENTS : Fld := ⟨R.REC_EVT_EN, 5, 0⟩
def REC_CUR_STAT_VALID : Fld := ⟨R.REC_CUR_STAT, 0, 0⟩
def REC_CUR_STAT_BUSY : Fld := ⟨R.REC_CUR_STAT, 1, 1⟩
def REC_CUR_STAT_MISSING : Fld := ⟨R.REC_CUR_STAT, 2, 2⟩
def REC_CUR_STAT_STALE : Fld := ⟨R.REC_CUR_STAT, 3, 3⟩
def REC_CUR_STAT_PROT : Fld := ⟨R.REC_CUR_STAT, 4, 4⟩
def REC_CUR_STAT_CRC_BAD : Fld := ⟨R.REC_CUR_STAT, 5, 5⟩
def REC_CUR_STAT_WORDS : Fld := ⟨R.REC_CUR_STAT, 24, 16⟩
def REC_TRIG_CTL_EN (i : Nat) : Fld := ⟨R.REC_TRIG_CTL i, 0, 0⟩
def REC_TRIG_CTL_LIST (i : Nat) : Fld := ⟨R.REC_TRIG_CTL i, 5, 1⟩
def REC_TRIG_CTL_PROT (i : Nat) : Fld := ⟨R.REC_TRIG_CTL i, 6, 6⟩
def REC_CTL_EN : Fld := ⟨R.REC_CTL, 0, 0⟩
def REC_CTL_HOLDOFF : Fld := ⟨R.REC_CTL, 15, 8⟩
def REC_STAT_RING_WRAPPED : Fld := ⟨R.REC_STAT, 0, 0⟩
def REC_STAT_PROT_FULL : Fld := ⟨R.REC_STAT, 1, 1⟩
def REC_STAT_LEVEL : Fld := ⟨R.REC_STAT, 12, 8⟩
def REC_STAT_BACKLOG : Fld := ⟨R.REC_STAT, 13, 13⟩
def TIME_PULSE_CTL_EN (i : Nat) : Fld := ⟨R.TIME_PULSE_CTL i, 0, 0⟩
def TIME_PULSE_CTL_POL (i : Nat) : Fld := ⟨R.TIME_PULSE_CTL i, 1, 1⟩
def TIME_PULSE_STAT_ARMED (i : Nat) : Fld := ⟨R.TIME_PULSE_STAT i, 0, 0⟩
def TIME_PULSE_STAT_DONE (i : Nat) : Fld := ⟨R.TIME_PULSE_STAT i, 1, 1⟩
def TIME_PULSE_STAT_LATE (i : Nat) : Fld := ⟨R.TIME_PULSE_STAT i, 2, 2⟩
def TIME_PULSE_STAT_BAD_CFG (i : Nat) : Fld := ⟨R.TIME_PULSE_STAT i, 3, 3⟩
def TIME_PULSE_STAT_EMITTED (i : Nat) : Fld := ⟨R.TIME_PULSE_STAT i, 31, 16⟩
def TIME_CAP_CTL_EN (i : Nat) : Fld := ⟨R.TIME_CAP_CTL i, 0, 0⟩
def TIME_CAP_CTL_EDGE (i : Nat) : Fld := ⟨R.TIME_CAP_CTL i, 2, 1⟩
def TIME_PTPP_CTL_EN (i : Nat) : Fld := ⟨R.TIME_PTPP_CTL i, 0, 0⟩
def TIME_PTPP_CTL_TRANSPORT (i : Nat) : Fld := ⟨R.TIME_PTPP_CTL i, 2, 1⟩
def TIME_PTPP_STAT_PORT (i : Nat) : Fld := ⟨R.TIME_PTPP_STAT i, 3, 0⟩
def TIME_PTPP_STAT_PDELAY_VALID (i : Nat) : Fld := ⟨R.TIME_PTPP_STAT i, 8, 8⟩
def AIR_KEY_CTL_BCAST : Fld := ⟨R.AIR_KEY_CTL, 5, 0⟩
def AIR_KEY_CTL_UP_ROOT : Fld := ⟨R.AIR_KEY_CTL, 13, 8⟩
def AIR_KEY_CTL_EPOCH : Fld := ⟨R.AIR_KEY_CTL, 23, 16⟩
def MOT_CTL_EN : Fld := ⟨R.MOT_CTL, 0, 0⟩
def MOT_STAT_MOVING : Fld := ⟨R.MOT_STAT, 8, 0⟩
def MOT_STAT_WINDOW_BUSY : Fld := ⟨R.MOT_STAT, 16, 16⟩
def MOT_LAST_END_END : Fld := ⟨R.MOT_LAST_END, 23, 0⟩
def MOT_LAST_END_DISCARDED : Fld := ⟨R.MOT_LAST_END, 31, 24⟩
def MOT_GRP_STAT_STATE (i : Nat) : Fld := ⟨R.MOT_GRP_STAT i, 1, 0⟩
def MOT_GRP_STAT_MEMBERS (i : Nat) : Fld := ⟨R.MOT_GRP_STAT i, 12, 8⟩
def MOT_CH_CTL_DIR_INV (i : Nat) : Fld := ⟨R.MOT_CH_CTL i, 0, 0⟩
def MOT_CH_CTL_SLIM_EN (i : Nat) : Fld := ⟨R.MOT_CH_CTL i, 1, 1⟩
def MOT_CH_REM_VLAN_VID (i : Nat) : Fld := ⟨R.MOT_CH_REM_VLAN i, 11, 0⟩
def MOT_CH_REM_VLAN_TAGGED (i : Nat) : Fld := ⟨R.MOT_CH_REM_VLAN i, 12, 12⟩
def MOT_CH_REM_VLAN_PRIO (i : Nat) : Fld := ⟨R.MOT_CH_REM_VLAN i, 15, 13⟩
def SW_P_LEARN_LIMIT (i : Nat) : Fld := ⟨R.SW_P_LEARN i, 13, 0⟩
def SW_P_MTU_BYTES (i : Nat) : Fld := ⟨R.SW_P_MTU i, 13, 0⟩
def SW_CTL_EN : Fld := ⟨R.SW_CTL, 0, 0⟩
def SW_CTL_ROUTE_EN : Fld := ⟨R.SW_CTL, 1, 1⟩
def SW_CTL_MISS_PUNT : Fld := ⟨R.SW_CTL, 2, 2⟩
def SW_CTL_AGE : Fld := ⟨R.SW_CTL, 31, 16⟩
def SW_STAT_LEVEL : Fld := ⟨R.SW_STAT, 8, 0⟩
def SW_LOOP_CTL_HOLD : Fld := ⟨R.SW_LOOP_CTL, 15, 0⟩
def SW_MAC_USE_USED : Fld := ⟨R.SW_MAC_USE, 13, 0⟩
def SW_MAC_USE_STATIC : Fld := ⟨R.SW_MAC_USE, 29, 16⟩
def SW_ROUTE_USE_V4 : Fld := ⟨R.SW_ROUTE_USE, 12, 0⟩
def SW_ROUTE_USE_V6 : Fld := ⟨R.SW_ROUTE_USE, 26, 16⟩
def SW_TBL_SEL_TABLE : Fld := ⟨R.SW_TBL_SEL, 3, 0⟩
def SW_TBL_SEL_INDEX : Fld := ⟨R.SW_TBL_SEL, 25, 4⟩
def SW_TBL_STAT_VALID : Fld := ⟨R.SW_TBL_STAT, 0, 0⟩
def SW_TBL_STAT_ERR : Fld := ⟨R.SW_TBL_STAT, 1, 1⟩
def SW_TBL_STAT_PARITY : Fld := ⟨R.SW_TBL_STAT, 2, 2⟩
def AIR_MAP_CTL_AUTO : Fld := ⟨R.AIR_MAP_CTL, 0, 0⟩

end F

end Sys2Proof.Machine
end

