-- ==== Sys2Proof/Machine/RegTable.lean ====
section
/-! DEFINITION. The register map of BAR0 (R51), one row per register the chapters list: its place, its access code
(R10), its Apply value (R11), its reset value and the bits software may write. Rules: R64, R78, R88, R129, R130, R171,
R172, R217, R218, R251 to R257, R307, R308, R353 to R355, R401 to R403, R429, R452, R453, R486, R521, R544, R567, R592, R594. -/

namespace Sys2Proof.Machine

/-- Access codes of R10; `inv` is the complement word of a guarded pair (R60). -/
inductive Acc where
  | rw | ro | wo | w1c | sc | rwh | grd | inv | mbx | mixed
  deriving DecidableEq, Repr

/-- Apply values of R11. -/
inductive App where
  | imm | stb | tck | none
  deriving DecidableEq, Repr

/-- One row of a register table: `cnt` instances at `base + i * stride`; `rwm`, `w1cm` and `scm` mark the
bits of plain (RW, GRD, RWH or WO), write-1-to-clear and self-clearing fields; `counter` marks a register
the manual describes as a counter (R69, R70). -/
structure RegRow where
  base : Nat
  cnt : Nat
  stride : Nat
  acc : Acc
  app : App
  reset : Nat
  rwm : Nat
  w1cm : Nat
  scm : Nat
  counter : Bool
  deriving DecidableEq, Repr

/-- Register rows of GLB, part 0. -/
def rowsGlb0 : List RegRow := [
  ⟨0x00000, 1, 0x0, .ro, .none, 0x92560003, 0x0, 0x0, 0x0, false⟩,  -- GLB_PART
  ⟨0x00004, 1, 0x0, .ro, .none, 0x0, 0x0, 0x0, 0x0, false⟩,  -- GLB_FW_VER
  ⟨0x00008, 1, 0x0, .ro, .none, 0x0, 0x0, 0x0, 0x0, false⟩,  -- GLB_FW_BUILD
  ⟨0x0000C, 1, 0x0, .ro, .none, 0x17900, 0x0, 0x0, 0x0, false⟩,  -- GLB_CAPS
  ⟨0x00010, 1, 0x0, .rw, .imm, 0x0, 0x1, 0x0, 0x0, false⟩,  -- GLB_CTL
  ⟨0x00020, 1, 0x0, .wo, .none, 0x0, 0xFFFF, 0x0, 0x0, false⟩,  -- GLB_APPLY
  ⟨0x00024, 1, 0x0, .grd, .tck, 0x0, 0xFFFF, 0x0, 0x0, false⟩,  -- GLB_APPLY_MODE
  ⟨0x00028, 1, 0x0, .inv, .tck, 0x0, 0x0, 0x0, 0x0, false⟩,  -- GLB_APPLY_MODE_INV
  ⟨0x0002C, 1, 0x0, .ro, .none, 0x0, 0xFF00, 0x0, 0x0, false⟩,  -- GLB_APPLY_STAT
  ⟨0x00030, 1, 0x0, .ro, .none, 0x0, 0x0, 0x0, 0x0, false⟩,  -- GLB_APPLY_TICK
  ⟨0x00034, 1, 0x0, .ro, .none, 0x0, 0x0, 0x0, 0x0, false⟩,  -- GLB_APPLY_SUB
  ⟨0x00040, 1, 0x0, .grd, .none, 0x0, 0xFFFFFFFF, 0x0, 0x0, false⟩,  -- GLB_CFG_REF
  ⟨0x00044, 1, 0x0, .inv, .none, 0x0, 0x0, 0x0, 0x0, false⟩,  -- GLB_CFG_REF_INV
  ⟨0x00048, 1, 0x0, .grd, .imm, 0x0, 0xFFFF, 0x0, 0x0, false⟩,  -- GLB_CFG_MASK
  ⟨0x0004C, 1, 0x0, .inv, .imm, 0x0, 0x0, 0x0, 0x0, false⟩,  -- GLB_CFG_MASK_INV
  ⟨0x00050, 1, 0x0, .grd, .imm, 0x0, 0x3, 0x0, 0x0, false⟩,  -- GLB_CFG_ACT
  ⟨0x00054, 1, 0x0, .inv, .imm, 0x0, 0x0, 0x0, 0x0, false⟩,  -- GLB_CFG_ACT_INV
  ⟨0x00058, 1, 0x0, .rw, .imm, 0x0, 0x1, 0x0, 0x0, false⟩,  -- GLB_CFG_CTL
  ⟨0x0005C, 1, 0x0, .ro, .none, 0x0, 0x0, 0x0, 0x0, false⟩,  -- GLB_CFG_CUR
  ⟨0x00060, 1, 0x0, .mixed, .none, 0x0, 0xFFFFFF00, 0x26, 0x0, false⟩,  -- GLB_CFG_STAT
  ⟨0x00070, 1, 0x0, .w1c, .none, 0x0, 0x0, 0x3FF, 0x0, false⟩,  -- GLB_ERR
  ⟨0x00074, 1, 0x0, .ro, .none, 0x0, 0x0, 0x0, 0x0, false⟩,  -- GLB_ERR_ADDR
  ⟨0x00078, 1, 0x0, .rw, .imm, 0x0, 0x3FF, 0x0, 0x0, false⟩,  -- GLB_ERR_IRQ_EN
  ⟨0x0007C, 1, 0x0, .rw, .none, 0x0, 0xFFFFFFFF, 0x0, 0x0, true⟩]  -- GLB_GRD_CNT

/-- Register rows of GLB, part 1. -/
def rowsGlb1 : List RegRow := [
  ⟨0x00080, 1, 0x0, .rw, .none, 0x0, 0xFFFFFFFF, 0x0, 0x0, true⟩,  -- GLB_LOST_CNT
  ⟨0x00090, 1, 0x0, .grd, .imm, 0x0, 0x1, 0x0, 0x0, false⟩,  -- GLB_SW_RESET
  ⟨0x00094, 1, 0x0, .inv, .imm, 0xFFFFFFFF, 0x0, 0x0, 0x0, false⟩,  -- GLB_SW_RESET_INV
  ⟨0x000A0, 1, 0x0, .rw, .none, 0x0, 0xFFFFFFFF, 0x0, 0x0, false⟩,  -- GLB_SCRATCH
  ⟨0x00F80, 1, 0x0, .rw, .imm, 0x0, 0x101FFFF, 0x0, 0x0, false⟩,  -- GLB_MBX_SEL
  ⟨0x00F84, 1, 0x0, .ro, .none, 0x0, 0x0, 0x0, 0x0, false⟩,  -- GLB_MBX_STAT
  ⟨0x00F88, 1, 0x0, .mbx, .none, 0x0, 0x0, 0x0, 0x0, false⟩]  -- GLB_MBX_DATA

/-- Register rows of GLB. -/
def rowsGlb : List RegRow := rowsGlb0 ++ rowsGlb1

/-- Register rows of PWR, part 0. -/
def rowsPwr0 : List RegRow := [
  ⟨0x01000, 1, 0x0, .ro, .none, 0x0, 0x0, 0x0, 0x0, false⟩,  -- PWR_STAT
  ⟨0x01004, 1, 0x0, .w1c, .none, 0x0, 0x0, 0x7F, 0x0, false⟩,  -- PWR_EVT
  ⟨0x01008, 1, 0x0, .rw, .imm, 0x0, 0x7F, 0x0, 0x0, false⟩,  -- PWR_EVT_EN
  ⟨0x01010, 1, 0x0, .grd, .imm, 0x0, 0x3, 0x0, 0x0, false⟩,  -- PWR_REQ
  ⟨0x01014, 1, 0x0, .inv, .imm, 0xFFFFFFFF, 0x0, 0x0, 0x0, false⟩,  -- PWR_REQ_INV
  ⟨0x01018, 1, 0x0, .rw, .stb, 0x0, 0xFF0, 0x0, 0x0, false⟩,  -- PWR_DOM_EN
  ⟨0x0101C, 1, 0x0, .ro, .none, 0x0, 0x0, 0x0, 0x0, false⟩,  -- PWR_DOM_STAT
  ⟨0x01020, 1, 0x0, .grd, .imm, 0x0, 0xFFFF, 0x0, 0x0, false⟩,  -- PWR_SOFT_RESET
  ⟨0x01024, 1, 0x0, .inv, .imm, 0xFFFFFFFF, 0x0, 0x0, 0x0, false⟩,  -- PWR_SOFT_RESET_INV
  ⟨0x01028, 1, 0x0, .ro, .none, 0x0, 0x0, 0x0, 0x0, false⟩,  -- PWR_RESET_CAUSE
  ⟨0x0102C, 1, 0x0, .rw, .imm, 0x3E8, 0x3FFF, 0x0, 0x0, false⟩,  -- PWR_WDT_CTL
  ⟨0x01030, 1, 0x0, .rw, .imm, 0x0, 0x3, 0x0, 0x0, false⟩,  -- PWR_WAKE_CTL
  ⟨0x01034, 1, 0x0, .rw, .imm, 0x0, 0xFFFFFFFF, 0x0, 0x0, false⟩,  -- PWR_WAKE_SEC
  ⟨0x01038, 1, 0x0, .ro, .none, 0x0, 0x0, 0x0, 0x0, false⟩,  -- PWR_OP_SEC
  ⟨0x0103C, 1, 0x0, .ro, .none, 0x0, 0x0, 0x0, 0x0, false⟩,  -- PWR_CYCLE_CNT
  ⟨0x01040, 1, 0x0, .ro, .none, 0x0, 0x0, 0x0, 0x0, false⟩,  -- PWR_SUPPLY
  ⟨0x01044, 1, 0x0, .ro, .none, 0x0, 0x0, 0x0, 0x0, false⟩,  -- PWR_TEMP
  ⟨0x01048, 1, 0x0, .rw, .none, 0x0, 0xFFFFFFFF, 0x0, 0x0, true⟩,  -- PWR_DOZE_CNT
  ⟨0x0104C, 1, 0x0, .rw, .none, 0x0, 0xFFFFFFFF, 0x0, 0x0, true⟩,  -- PWR_SOFT_CNT
  ⟨0x01F80, 1, 0x0, .rw, .imm, 0x0, 0x101FFFF, 0x0, 0x0, false⟩,  -- PWR_MBX_SEL
  ⟨0x01F84, 1, 0x0, .ro, .none, 0x0, 0x0, 0x0, 0x0, false⟩,  -- PWR_MBX_STAT
  ⟨0x01F88, 1, 0x0, .mbx, .none, 0x0, 0x0, 0x0, 0x0, false⟩]  -- PWR_MBX_DATA

/-- Register rows of PWR. -/
def rowsPwr : List RegRow := rowsPwr0

/-- Register rows of TIME, part 0. -/
def rowsTime0 : List RegRow := [
  ⟨0x02000, 1, 0x0, .rw, .imm, 0x0, 0x1, 0x0, 0x0, false⟩,  -- TIME_CTL
  ⟨0x02004, 1, 0x0, .rw, .stb, 0x0, 0xF, 0x0, 0x0, false⟩,  -- TIME_SRC_CTL
  ⟨0x02008, 1, 0x0, .ro, .none, 0xE, 0x0, 0x0, 0x0, false⟩,  -- TIME_STAT
  ⟨0x0200C, 1, 0x0, .w1c, .none, 0x0, 0x0, 0x1FFF, 0x0, false⟩,  -- TIME_EVT
  ⟨0x02010, 1, 0x0, .rw, .imm, 0x0, 0x1FFF, 0x0, 0x0, false⟩,  -- TIME_EVT_EN
  ⟨0x02020, 1, 0x0, .ro, .none, 0x0, 0x0, 0x0, 0x0, false⟩,  -- TIME_NOW_NS
  ⟨0x02024, 1, 0x0, .ro, .none, 0x0, 0x0, 0x0, 0x0, false⟩,  -- TIME_NOW_WRAP
  ⟨0x02028, 1, 0x0, .ro, .none, 0x0, 0x0, 0x0, 0x0, false⟩,  -- TIME_TICK
  ⟨0x0202C, 1, 0x0, .ro, .none, 0x0, 0x0, 0x0, 0x0, false⟩,  -- TIME_PHASE
  ⟨0x02030, 1, 0x0, .ro, .none, 0x0, 0x0, 0x0, 0x0, false⟩,  -- TIME_RATE
  ⟨0x02034, 1, 0x0, .ro, .none, 0x80000000, 0x0, 0x0, 0x0, false⟩,  -- TIME_ERR
  ⟨0x02038, 1, 0x0, .ro, .none, 0xFFFFFFFF, 0x0, 0x0, 0x0, false⟩,  -- TIME_UNC
  ⟨0x0203C, 1, 0x0, .ro, .none, 0x0, 0x0, 0x0, 0x0, false⟩,  -- TIME_TEMP
  ⟨0x02040, 1, 0x0, .rw, .stb, 0x140A07D0, 0xFFFF1FFF, 0x0, 0x0, false⟩,  -- TIME_QUAL_CTL
  ⟨0x02044, 1, 0x0, .rw, .stb, 0xA, 0xFFFF, 0x0, 0x0, false⟩,  -- TIME_HO_F0
  ⟨0x02048, 1, 0x0, .rw, .stb, 0xF, 0xFFFF, 0x0, 0x0, false⟩,  -- TIME_HO_AGING
  ⟨0x0204C, 1, 0x0, .rw, .stb, 0x5, 0xFFFF, 0x0, 0x0, false⟩,  -- TIME_HO_TEMP
  ⟨0x02050, 1, 0x0, .rw, .stb, 0xA, 0xFF, 0x0, 0x0, false⟩,  -- TIME_STEER_CTL
  ⟨0x02054, 1, 0x0, .rw, .stb, 0x32, 0xFFFF, 0x0, 0x0, false⟩,  -- TIME_EXT_UNC
  ⟨0x02058, 1, 0x0, .rw, .none, 0x0, 0xFFFFFFFF, 0x0, 0x0, true⟩,  -- TIME_STEP_CNT
  ⟨0x0205C, 1, 0x0, .rw, .none, 0x0, 0xFFFFFFFF, 0x0, 0x0, true⟩,  -- TIME_HO_CNT
  ⟨0x02060, 1, 0x0, .ro, .none, 0x0, 0x0, 0x0, 0x0, false⟩,  -- TIME_HO_SEC
  ⟨0x02100, 8, 0x20, .rw, .stb, 0x0, 0x3, 0x0, 0x0, false⟩,  -- TIME_PULSE_CTL
  ⟨0x02104, 8, 0x20, .rw, .stb, 0x0, 0xFFFFFFFF, 0x0, 0x0, false⟩]  -- TIME_PULSE_START_LO

/-- Register rows of TIME, part 1. -/
def rowsTime1 : List RegRow := [
  ⟨0x02108, 8, 0x20, .rw, .stb, 0x0, 0xFFFFFFFF, 0x0, 0x0, false⟩,  -- TIME_PULSE_START_HI
  ⟨0x0210C, 8, 0x20, .rw, .stb, 0x0, 0xFFFFFFFF, 0x0, 0x0, false⟩,  -- TIME_PULSE_PERIOD
  ⟨0x02110, 8, 0x20, .rw, .stb, 0x0, 0xFFFFFFFF, 0x0, 0x0, false⟩,  -- TIME_PULSE_WIDTH
  ⟨0x02114, 8, 0x20, .ro, .none, 0x0, 0x0, 0x0, 0x0, false⟩,  -- TIME_PULSE_STAT
  ⟨0x02200, 8, 0x10, .ro, .none, 0x0, 0x0, 0x0, 0x0, false⟩,  -- TIME_PDLY_FAC
  ⟨0x02204, 8, 0x10, .rw, .stb, 0x0, 0xFFFFFFFF, 0x0, 0x0, false⟩,  -- TIME_PDLY_USR
  ⟨0x02208, 8, 0x10, .ro, .none, 0x0, 0x0, 0x0, 0x0, false⟩,  -- TIME_PDLY_EFF
  ⟨0x02280, 1, 0x0, .ro, .none, 0x0, 0x0, 0x0, 0x0, false⟩,  -- TIME_PPSIN_DLY_FAC
  ⟨0x02284, 1, 0x0, .rw, .stb, 0x0, 0xFFFFFFFF, 0x0, 0x0, false⟩,  -- TIME_PPSIN_DLY_USR
  ⟨0x02288, 1, 0x0, .ro, .none, 0x0, 0x0, 0x0, 0x0, false⟩,  -- TIME_PPSIN_DLY_EFF
  ⟨0x02290, 4, 0x10, .ro, .none, 0x0, 0x0, 0x0, 0x0, false⟩,  -- TIME_EVTIN_DLY_FAC
  ⟨0x02294, 4, 0x10, .rw, .stb, 0x0, 0xFFFFFFFF, 0x0, 0x0, false⟩,  -- TIME_EVTIN_DLY_USR
  ⟨0x02298, 4, 0x10, .ro, .none, 0x0, 0x0, 0x0, 0x0, false⟩,  -- TIME_EVTIN_DLY_EFF
  ⟨0x02300, 4, 0x20, .rw, .stb, 0x0, 0x7, 0x0, 0x0, false⟩,  -- TIME_CAP_CTL
  ⟨0x02304, 4, 0x20, .ro, .none, 0x0, 0x0, 0x0, 0x0, false⟩,  -- TIME_CAP_NS
  ⟨0x02308, 4, 0x20, .ro, .none, 0x0, 0x0, 0x0, 0x0, false⟩,  -- TIME_CAP_INFO
  ⟨0x0230C, 4, 0x20, .sc, .imm, 0x0, 0x0, 0x0, 0x1, false⟩,  -- TIME_CAP_POP
  ⟨0x02310, 4, 0x20, .rw, .none, 0x0, 0xFFFFFFFF, 0x0, 0x0, true⟩,  -- TIME_CAP_DROP_CNT
  ⟨0x02400, 1, 0x0, .rw, .stb, 0x0, 0xFF0F, 0x0, 0x0, false⟩,  -- TIME_PTP_CTL
  ⟨0x02404, 1, 0x0, .rw, .stb, 0x8080, 0xFFFF, 0x0, 0x0, false⟩,  -- TIME_PTP_PRIO
  ⟨0x02408, 1, 0x0, .rw, .stb, 0x1, 0xFFFFFF, 0x0, 0x0, false⟩,  -- TIME_PTP_INTV
  ⟨0x0240C, 1, 0x0, .rw, .stb, 0x0, 0x1FFFF, 0x0, 0x0, false⟩,  -- TIME_PTP_UTC
  ⟨0x02410, 1, 0x0, .ro, .none, 0x0, 0x0, 0x0, 0x0, false⟩,  -- TIME_PTP_UTC_USE
  ⟨0x02414, 1, 0x0, .ro, .none, 0x0, 0x0, 0x0, 0x0, false⟩]  -- TIME_PTP_CLKID_LO

/-- Register rows of TIME, part 2. -/
def rowsTime2 : List RegRow := [
  ⟨0x02418, 1, 0x0, .ro, .none, 0x0, 0x0, 0x0, 0x0, false⟩,  -- TIME_PTP_CLKID_HI
  ⟨0x0241C, 1, 0x0, .ro, .none, 0xA0FEF8, 0x0, 0x0, 0x0, false⟩,  -- TIME_PTP_ANN
  ⟨0x02F80, 1, 0x0, .rw, .imm, 0x0, 0x101FFFF, 0x0, 0x0, false⟩,  -- TIME_MBX_SEL
  ⟨0x02F84, 1, 0x0, .ro, .none, 0x0, 0x0, 0x0, 0x0, false⟩,  -- TIME_MBX_STAT
  ⟨0x02F88, 1, 0x0, .mbx, .none, 0x0, 0x0, 0x0, 0x0, false⟩,  -- TIME_MBX_DATA
  ⟨0x03000, 9, 0x20, .rw, .stb, 0x0, 0x7, 0x0, 0x0, false⟩,  -- TIME_PTPP_CTL
  ⟨0x03004, 9, 0x20, .ro, .none, 0x3, 0x0, 0x0, 0x0, false⟩,  -- TIME_PTPP_STAT
  ⟨0x03008, 9, 0x20, .ro, .none, 0x0, 0x0, 0x0, 0x0, false⟩,  -- TIME_PTPP_PDELAY
  ⟨0x0300C, 9, 0x20, .rw, .none, 0x0, 0xFFFFFFFF, 0x0, 0x0, true⟩,  -- TIME_PTPP_TX_CNT
  ⟨0x03010, 9, 0x20, .rw, .none, 0x0, 0xFFFFFFFF, 0x0, 0x0, true⟩,  -- TIME_PTPP_RX_CNT
  ⟨0x03014, 9, 0x20, .rw, .none, 0x0, 0xFFFFFFFF, 0x0, 0x0, true⟩]  -- TIME_PTPP_ERR_CNT

/-- Register rows of TIME. -/
def rowsTime : List RegRow := rowsTime0 ++ rowsTime1 ++ rowsTime2

/-- Register rows of RING, part 0. -/
def rowsRing0 : List RegRow := [
  ⟨0x04000, 1, 0x0, .ro, .none, 0x4303FF, 0x0, 0x0, 0x0, false⟩,  -- RING_CAPS
  ⟨0x04004, 1, 0x0, .ro, .none, 0x0, 0x0, 0x0, 0x0, false⟩,  -- RING_ERR_SUM
  ⟨0x04010, 1, 0x0, .w1c, .none, 0x0, 0x0, 0x7FFFFFF, 0x0, false⟩,  -- RING_IRQ_STAT
  ⟨0x04014, 1, 0x0, .rw, .imm, 0x0, 0x7FFFFFF, 0x0, 0x0, false⟩,  -- RING_IRQ_EN
  ⟨0x04020, 8, 0x4, .rw, .imm, 0x0, 0x1F1F1F1F, 0x0, 0x0, false⟩,  -- RING_VEC_MAP
  ⟨0x04040, 1, 0x0, .ro, .none, 0x0, 0x0, 0x0, 0x0, false⟩,  -- RING_DMA_ERR_LO
  ⟨0x04044, 1, 0x0, .ro, .none, 0x0, 0x0, 0x0, 0x0, false⟩,  -- RING_DMA_ERR_HI
  ⟨0x04048, 1, 0x0, .mixed, .none, 0x0, 0x0, 0x80000000, 0x0, false⟩,  -- RING_DMA_ERR_INFO
  ⟨0x04100, 10, 0x40, .rw, .imm, 0x0, 0xFFFFFFFF, 0x0, 0x0, false⟩,  -- RING_BASE_LO
  ⟨0x04104, 10, 0x40, .rw, .imm, 0x0, 0xFFFFFFFF, 0x0, 0x0, false⟩,  -- RING_BASE_HI
  ⟨0x04108, 10, 0x40, .rw, .imm, 0x0, 0x1FFFF, 0x0, 0x0, false⟩,  -- RING_SIZE
  ⟨0x0410C, 10, 0x40, .rw, .imm, 0x0, 0x1F, 0x0, 0x0, false⟩,  -- RING_CFG
  ⟨0x04110, 10, 0x40, .rw, .imm, 0x0, 0xFFFFFFFF, 0x0, 0x0, false⟩,  -- RING_WB_LO
  ⟨0x04114, 10, 0x40, .rw, .imm, 0x0, 0xFFFFFFFF, 0x0, 0x0, false⟩,  -- RING_WB_HI
  ⟨0x04118, 10, 0x40, .rw, .imm, 0x0, 0x3FF03FF, 0x0, 0x0, false⟩,  -- RING_COAL
  ⟨0x0411C, 10, 0x40, .mixed, .imm, 0x0, 0x1, 0x0, 0x6, false⟩,  -- RING_CTL
  ⟨0x04120, 10, 0x40, .mixed, .none, 0x0, 0x0, 0x70000, 0x0, false⟩,  -- RING_STAT
  ⟨0x04124, 10, 0x40, .ro, .none, 0x0, 0x0, 0x0, 0x0, false⟩,  -- RING_PROD
  ⟨0x04128, 10, 0x40, .rwh, .none, 0x0, 0x1FFFF, 0x0, 0x0, false⟩,  -- RING_CONS
  ⟨0x0412C, 10, 0x40, .rw, .none, 0x0, 0xFFFFFFFF, 0x0, 0x0, true⟩,  -- RING_DROP_CNT
  ⟨0x04130, 10, 0x40, .rw, .none, 0x0, 0xFFFFFFFF, 0x0, 0x0, true⟩,  -- RING_DONE_CNT
  ⟨0x04134, 10, 0x40, .ro, .none, 0x0, 0x0, 0x0, 0x0, false⟩,  -- RING_QLVL
  ⟨0x05000, 10, 0x4, .wo, .none, 0x0, 0x1FFFF, 0x0, 0x0, false⟩]  -- RING_DB

/-- Register rows of RING. -/
def rowsRing : List RegRow := rowsRing0

/-- Register rows of PERF, part 0. -/
def rowsPerf0 : List RegRow := [
  ⟨0x06000, 1, 0x0, .rw, .stb, 0x0, 0x3, 0x0, 0x0, false⟩,  -- PERF_CTL
  ⟨0x06004, 1, 0x0, .ro, .none, 0x360000, 0x0, 0x0, 0x0, false⟩,  -- PERF_STAT
  ⟨0x06008, 1, 0x0, .w1c, .none, 0x0, 0x0, 0x3, 0x0, false⟩,  -- PERF_EVT
  ⟨0x0600C, 1, 0x0, .rw, .imm, 0x0, 0x3, 0x0, 0x0, false⟩,  -- PERF_EVT_EN
  ⟨0x06010, 1, 0x0, .rw, .stb, 0x1770, 0x7FFFF, 0x0, 0x0, false⟩,  -- PERF_DUMP_PERIOD
  ⟨0x06014, 1, 0x0, .ro, .none, 0x0, 0x0, 0x0, 0x0, false⟩,  -- PERF_DUMP_SEQ
  ⟨0x06018, 1, 0x0, .rw, .none, 0x0, 0xFFFFFFFF, 0x0, 0x0, true⟩,  -- PERF_DUMP_SKIP_CNT
  ⟨0x0601C, 1, 0x0, .ro, .none, 0x0, 0x0, 0x0, 0x0, false⟩,  -- PERF_LATCH_TICK
  ⟨0x06F80, 1, 0x0, .rw, .imm, 0x0, 0x101FFFF, 0x0, 0x0, false⟩,  -- PERF_MBX_SEL
  ⟨0x06F84, 1, 0x0, .ro, .none, 0x0, 0x0, 0x0, 0x0, false⟩,  -- PERF_MBX_STAT
  ⟨0x06F88, 1, 0x0, .mbx, .none, 0x0, 0x0, 0x0, 0x0, false⟩]  -- PERF_MBX_DATA

/-- Register rows of PERF. -/
def rowsPerf : List RegRow := rowsPerf0

/-- Register rows of REC, part 0. -/
def rowsRec0 : List RegRow := [
  ⟨0x07000, 1, 0x0, .rw, .stb, 0x6400, 0xFF01, 0x0, 0x0, false⟩,  -- REC_CTL
  ⟨0x07004, 1, 0x0, .ro, .none, 0x0, 0x0, 0x0, 0x0, false⟩,  -- REC_STAT
  ⟨0x07008, 1, 0x0, .w1c, .none, 0x0, 0x0, 0x3F, 0x0, false⟩,  -- REC_EVT
  ⟨0x0700C, 1, 0x0, .rw, .imm, 0x0, 0x3F, 0x0, 0x0, false⟩,  -- REC_EVT_EN
  ⟨0x07010, 1, 0x0, .ro, .none, 0x0, 0x0, 0x0, 0x0, false⟩,  -- REC_SEQ_NEXT
  ⟨0x07014, 1, 0x0, .ro, .none, 0x0, 0x0, 0x0, 0x0, false⟩,  -- REC_RING_OLDEST
  ⟨0x07018, 1, 0x0, .ro, .none, 0x0, 0x0, 0x0, 0x0, false⟩,  -- REC_PROT_OLDEST
  ⟨0x0701C, 1, 0x0, .ro, .none, 0x0, 0x0, 0x0, 0x0, false⟩,  -- REC_RING_USED
  ⟨0x07020, 1, 0x0, .ro, .none, 0x0, 0x0, 0x0, 0x0, false⟩,  -- REC_PROT_USED
  ⟨0x07024, 1, 0x0, .rw, .none, 0x0, 0xFFFFFFFF, 0x0, 0x0, true⟩,  -- REC_DROP_CNT
  ⟨0x07028, 1, 0x0, .rw, .none, 0x0, 0xFFFFFFFF, 0x0, 0x0, true⟩,  -- REC_OVW_CNT
  ⟨0x0702C, 1, 0x0, .rw, .none, 0x0, 0xFFFFFFFF, 0x0, 0x0, true⟩,  -- REC_TORN_CNT
  ⟨0x07040, 1, 0x0, .grd, .imm, 0x0, 0xFFFFFFFF, 0x0, 0x0, false⟩,  -- REC_CLEAR_RING
  ⟨0x07044, 1, 0x0, .inv, .imm, 0xFFFFFFFF, 0x0, 0x0, 0x0, false⟩,  -- REC_CLEAR_RING_INV
  ⟨0x07048, 1, 0x0, .grd, .imm, 0x0, 0xFFFFFFFF, 0x0, 0x0, false⟩,  -- REC_CLEAR_PROT
  ⟨0x0704C, 1, 0x0, .inv, .imm, 0xFFFFFFFF, 0x0, 0x0, 0x0, false⟩,  -- REC_CLEAR_PROT_INV
  ⟨0x07060, 1, 0x0, .rw, .imm, 0x0, 0xFFFFFFFF, 0x0, 0x0, false⟩,  -- REC_CUR_SEL
  ⟨0x07064, 1, 0x0, .sc, .imm, 0x0, 0x0, 0x0, 0x7, false⟩,  -- REC_CUR_CMD
  ⟨0x07068, 1, 0x0, .ro, .none, 0x0, 0x0, 0x0, 0x0, false⟩,  -- REC_CUR_STAT
  ⟨0x07080, 15, 0x4, .rw, .stb, 0x0, 0x7F, 0x0, 0x0, false⟩,  -- REC_TRIG_CTL
  ⟨0x07400, 256, 0x4, .ro, .none, 0x0, 0x0, 0x0, 0x0, false⟩,  -- REC_WIN
  ⟨0x07F80, 1, 0x0, .rw, .imm, 0x0, 0x101FFFF, 0x0, 0x0, false⟩,  -- REC_MBX_SEL
  ⟨0x07F84, 1, 0x0, .ro, .none, 0x0, 0x0, 0x0, 0x0, false⟩,  -- REC_MBX_STAT
  ⟨0x07F88, 1, 0x0, .mbx, .none, 0x0, 0x0, 0x0, 0x0, false⟩]  -- REC_MBX_DATA

/-- Register rows of REC. -/
def rowsRec : List RegRow := rowsRec0

/-- Register rows of LEASH, part 0. -/
def rowsLeash0 : List RegRow := [
  ⟨0x08000, 1, 0x0, .grd, .stb, 0xC000C80, 0x3FFFFFCF, 0x0, 0x0, false⟩,  -- LEASH_CTL
  ⟨0x08004, 1, 0x0, .inv, .stb, 0x0, 0x0, 0x0, 0x0, false⟩,  -- LEASH_CTL_INV
  ⟨0x08008, 1, 0x0, .ro, .none, 0x80000, 0x0, 0x0, 0x0, false⟩,  -- LEASH_STAT
  ⟨0x0800C, 1, 0x0, .w1c, .none, 0x0, 0x0, 0x3FF, 0x0, false⟩,  -- LEASH_EVT
  ⟨0x08010, 1, 0x0, .rw, .imm, 0x0, 0x3FF, 0x0, 0x0, false⟩,  -- LEASH_EVT_EN
  ⟨0x08014, 1, 0x0, .rw, .stb, 0xC8003C, 0x3FF0FFF, 0x0, 0x0, false⟩,  -- LEASH_TEST_CTL
  ⟨0x08018, 1, 0x0, .sc, .imm, 0x0, 0x0, 0x0, 0x1, false⟩,  -- LEASH_TEST_CMD
  ⟨0x08020, 1, 0x0, .grd, .imm, 0x0, 0xFFFFFFFF, 0x0, 0x0, false⟩,  -- LEASH_TRIP
  ⟨0x08024, 1, 0x0, .inv, .imm, 0xFFFFFFFF, 0x0, 0x0, 0x0, false⟩,  -- LEASH_TRIP_INV
  ⟨0x08028, 1, 0x0, .grd, .imm, 0x0, 0xFFFFFFFF, 0x0, 0x0, false⟩,  -- LEASH_ARM
  ⟨0x0802C, 1, 0x0, .inv, .imm, 0xFFFFFFFF, 0x0, 0x0, 0x0, false⟩,  -- LEASH_ARM_INV
  ⟨0x08040, 1, 0x0, .ro, .none, 0x0, 0x0, 0x0, 0x0, false⟩,  -- LEASH_TRIP_ID
  ⟨0x08044, 1, 0x0, .ro, .none, 0x0, 0x0, 0x0, 0x0, false⟩,  -- LEASH_TRIP_NS
  ⟨0x08048, 1, 0x0, .ro, .none, 0x0, 0x0, 0x0, 0x0, false⟩,  -- LEASH_TRIP_WRAP
  ⟨0x0804C, 1, 0x0, .ro, .none, 0x0, 0x0, 0x0, 0x0, false⟩,  -- LEASH_TRIP_TICK
  ⟨0x08050, 1, 0x0, .rw, .none, 0x0, 0xFFFFFFFF, 0x0, 0x0, true⟩,  -- LEASH_TRIP_CNT
  ⟨0x08054, 1, 0x0, .rw, .none, 0x0, 0xFFFFFFFF, 0x0, 0x0, true⟩,  -- LEASH_ARM_CNT
  ⟨0x08058, 1, 0x0, .rw, .none, 0x0, 0xFFFFFFFF, 0x0, 0x0, true⟩,  -- LEASH_TEST_CNT
  ⟨0x0805C, 1, 0x0, .rw, .none, 0x0, 0xFFFFFFFF, 0x0, 0x0, true⟩,  -- LEASH_TEST_FAIL_CNT
  ⟨0x08060, 1, 0x0, .ro, .none, 0x0, 0x0, 0x0, 0x0, false⟩,  -- LEASH_TEST_LAST
  ⟨0x08064, 1, 0x0, .ro, .none, 0x0, 0x0, 0x0, 0x0, false⟩,  -- LEASH_EDGE_A_NS
  ⟨0x08068, 1, 0x0, .ro, .none, 0x0, 0x0, 0x0, 0x0, false⟩,  -- LEASH_EDGE_B_NS
  ⟨0x08F80, 1, 0x0, .rw, .imm, 0x0, 0x101FFFF, 0x0, 0x0, false⟩,  -- LEASH_MBX_SEL
  ⟨0x08F84, 1, 0x0, .ro, .none, 0x0, 0x0, 0x0, 0x0, false⟩]  -- LEASH_MBX_STAT

/-- Register rows of LEASH, part 1. -/
def rowsLeash1 : List RegRow := [
  ⟨0x08F88, 1, 0x0, .mbx, .none, 0x0, 0x0, 0x0, 0x0, false⟩]  -- LEASH_MBX_DATA

/-- Register rows of LEASH. -/
def rowsLeash : List RegRow := rowsLeash0 ++ rowsLeash1

/-- Register rows of BRACE, part 0. -/
def rowsBrace0 : List RegRow := [
  ⟨0x09000, 1, 0x0, .grd, .tck, 0x0, 0xFF, 0x0, 0x0, false⟩,  -- BRACE_CTL
  ⟨0x09004, 1, 0x0, .inv, .tck, 0x0, 0x0, 0x0, 0x0, false⟩,  -- BRACE_CTL_INV
  ⟨0x09008, 1, 0x0, .rw, .stb, 0x0, 0xFFFF, 0x0, 0x0, false⟩,  -- BRACE_ID
  ⟨0x0900C, 1, 0x0, .ro, .none, 0x40003, 0x0, 0x0, 0x0, false⟩,  -- BRACE_STAT
  ⟨0x09010, 1, 0x0, .w1c, .none, 0x0, 0x0, 0x3FFF, 0x0, false⟩,  -- BRACE_EVT
  ⟨0x09014, 1, 0x0, .rw, .imm, 0x0, 0x3FFF, 0x0, 0x0, false⟩,  -- BRACE_EVT_EN
  ⟨0x09018, 1, 0x0, .rw, .stb, 0x3C1423, 0xFFFFFFFF, 0x0, 0x0, false⟩,  -- BRACE_TIMING
  ⟨0x0901C, 1, 0x0, .rw, .stb, 0x0, 0x3F, 0x0, 0x0, false⟩,  -- BRACE_KEY
  ⟨0x09020, 1, 0x0, .rw, .none, 0x0, 0xFFFFFFFF, 0x0, 0x0, true⟩,  -- BRACE_TAKEOVER_CNT
  ⟨0x09024, 1, 0x0, .ro, .none, 0x0, 0x0, 0x0, 0x0, false⟩,  -- BRACE_TAKEOVER_TICK
  ⟨0x09028, 1, 0x0, .rw, .none, 0x0, 0xFFFFFFFF, 0x0, 0x0, true⟩,  -- BRACE_HB_LOSS_LVDS_CNT
  ⟨0x0902C, 1, 0x0, .rw, .none, 0x0, 0xFFFFFFFF, 0x0, 0x0, true⟩,  -- BRACE_HB_LOSS_P1_CNT
  ⟨0x09030, 1, 0x0, .rw, .none, 0x0, 0xFFFFFFFF, 0x0, 0x0, true⟩,  -- BRACE_AUTH_FAIL_CNT
  ⟨0x09034, 1, 0x0, .rw, .none, 0x0, 0xFFFFFFFF, 0x0, 0x0, true⟩,  -- BRACE_ACK_LATE_CNT
  ⟨0x09038, 1, 0x0, .rw, .none, 0x0, 0xFFFFFFFF, 0x0, 0x0, true⟩,  -- BRACE_TX_CNT
  ⟨0x0903C, 1, 0x0, .rw, .none, 0x0, 0xFFFFFFFF, 0x0, 0x0, true⟩,  -- BRACE_RX_CNT
  ⟨0x09040, 1, 0x0, .ro, .none, 0x0, 0x0, 0x0, 0x0, false⟩,  -- BRACE_TIME_OFS
  ⟨0x09044, 1, 0x0, .ro, .none, 0x0, 0x0, 0x0, 0x0, false⟩,  -- BRACE_LINK_DLY
  ⟨0x09050, 1, 0x0, .ro, .none, 0x0, 0x0, 0x0, 0x0, false⟩,  -- BRACE_ASYM_FAC
  ⟨0x09054, 1, 0x0, .rw, .stb, 0x0, 0xFFFFFFFF, 0x0, 0x0, false⟩,  -- BRACE_ASYM_USR
  ⟨0x09058, 1, 0x0, .ro, .none, 0x0, 0x0, 0x0, 0x0, false⟩,  -- BRACE_ASYM_EFF
  ⟨0x09F80, 1, 0x0, .rw, .imm, 0x0, 0x101FFFF, 0x0, 0x0, false⟩,  -- BRACE_MBX_SEL
  ⟨0x09F84, 1, 0x0, .ro, .none, 0x0, 0x0, 0x0, 0x0, false⟩,  -- BRACE_MBX_STAT
  ⟨0x09F88, 1, 0x0, .mbx, .none, 0x0, 0x0, 0x0, 0x0, false⟩]  -- BRACE_MBX_DATA

/-- Register rows of BRACE. -/
def rowsBrace : List RegRow := rowsBrace0

/-- Register rows of KEN, part 0. -/
def rowsKen0 : List RegRow := [
  ⟨0x0A000, 1, 0x0, .ro, .none, 0x0, 0x0, 0x0, 0x0, false⟩,  -- KEN_STAT
  ⟨0x0A004, 1, 0x0, .w1c, .none, 0x0, 0x0, 0xFF, 0x0, false⟩,  -- KEN_EVT
  ⟨0x0A008, 1, 0x0, .rw, .imm, 0x0, 0xFF, 0x0, 0x0, false⟩,  -- KEN_EVT_EN
  ⟨0x0A010, 1, 0x0, .grd, .imm, 0xA00, 0xFF0F, 0x0, 0x0, false⟩,  -- KEN_TAMPER_CTL
  ⟨0x0A014, 1, 0x0, .inv, .imm, 0x0, 0x0, 0x0, 0x0, false⟩,  -- KEN_TAMPER_CTL_INV
  ⟨0x0A018, 1, 0x0, .ro, .none, 0x0, 0x0, 0x0, 0x0, false⟩,  -- KEN_TAMPER_STAT
  ⟨0x0A020, 1, 0x0, .grd, .imm, 0x0, 0xFFFFFFFF, 0x0, 0x0, false⟩,  -- KEN_TAMPER_CLR
  ⟨0x0A024, 1, 0x0, .inv, .imm, 0xFFFFFFFF, 0x0, 0x0, 0x0, false⟩,  -- KEN_TAMPER_CLR_INV
  ⟨0x0A028, 1, 0x0, .grd, .imm, 0x0, 0xFFFFFFFF, 0x0, 0x0, false⟩,  -- KEN_ZEROISE
  ⟨0x0A02C, 1, 0x0, .inv, .imm, 0xFFFFFFFF, 0x0, 0x0, 0x0, false⟩,  -- KEN_ZEROISE_INV
  ⟨0x0A030, 1, 0x0, .grd, .tck, 0x0, 0x3F, 0x0, 0x0, false⟩,  -- KEN_READMIT
  ⟨0x0A034, 1, 0x0, .inv, .tck, 0xFFFFFFFF, 0x0, 0x0, 0x0, false⟩,  -- KEN_READMIT_INV
  ⟨0x0A040, 1, 0x0, .ro, .none, 0x0, 0x0, 0x0, 0x0, false⟩,  -- KEN_AON_SEC
  ⟨0x0A044, 1, 0x0, .ro, .none, 0x0, 0x0, 0x0, 0x0, false⟩,  -- KEN_TAMPER_CNT
  ⟨0x0A048, 1, 0x0, .rw, .none, 0x0, 0xFFFFFFFF, 0x0, 0x0, true⟩,  -- KEN_OP_CNT
  ⟨0x0A04C, 1, 0x0, .rw, .none, 0x0, 0xFFFFFFFF, 0x0, 0x0, true⟩,  -- KEN_POLICY_FAIL_CNT
  ⟨0x0A050, 1, 0x0, .rw, .none, 0x0, 0xFFFFFFFF, 0x0, 0x0, true⟩,  -- KEN_ABORT_CNT
  ⟨0x0A060, 1, 0x0, .ro, .none, 0x0, 0x0, 0x0, 0x0, false⟩,  -- KEN_BAD0
  ⟨0x0A064, 1, 0x0, .ro, .none, 0x0, 0x0, 0x0, 0x0, false⟩,  -- KEN_BAD1
  ⟨0x0A100, 64, 0x4, .ro, .none, 0x0, 0x0, 0x0, 0x0, false⟩,  -- KEN_SLOT_STAT
  ⟨0x0AF80, 1, 0x0, .rw, .imm, 0x0, 0x101FFFF, 0x0, 0x0, false⟩,  -- KEN_MBX_SEL
  ⟨0x0AF84, 1, 0x0, .ro, .none, 0x0, 0x0, 0x0, 0x0, false⟩,  -- KEN_MBX_STAT
  ⟨0x0AF88, 1, 0x0, .mbx, .none, 0x0, 0x0, 0x0, 0x0, false⟩]  -- KEN_MBX_DATA

/-- Register rows of KEN. -/
def rowsKen : List RegRow := rowsKen0

/-- Register rows of UPD, part 0. -/
def rowsUpd0 : List RegRow := [
  ⟨0x0B000, 1, 0x0, .rw, .stb, 0x780258, 0xFF0FFF, 0x0, 0x0, false⟩,  -- UPD_CTL
  ⟨0x0B004, 1, 0x0, .ro, .none, 0x0, 0x0, 0x0, 0x0, false⟩,  -- UPD_STAT
  ⟨0x0B008, 1, 0x0, .w1c, .none, 0x0, 0x0, 0x3FF, 0x0, false⟩,  -- UPD_EVT
  ⟨0x0B00C, 1, 0x0, .rw, .imm, 0x0, 0x3FF, 0x0, 0x0, false⟩,  -- UPD_EVT_EN
  ⟨0x0B010, 1, 0x0, .ro, .none, 0x0, 0x0, 0x0, 0x0, false⟩,  -- UPD_SVN_FUSED
  ⟨0x0B014, 1, 0x0, .ro, .none, 0x0, 0x0, 0x0, 0x0, false⟩,  -- UPD_SVN_RUN
  ⟨0x0B018, 1, 0x0, .ro, .none, 0x0, 0x0, 0x0, 0x0, false⟩,  -- UPD_AT_TICK
  ⟨0x0B01C, 1, 0x0, .ro, .none, 0x0, 0x0, 0x0, 0x0, false⟩,  -- UPD_TRIAL_LEFT
  ⟨0x0B020, 1, 0x0, .ro, .none, 0x0, 0x0, 0x0, 0x0, false⟩,  -- UPD_STAGE_LEN
  ⟨0x0B024, 1, 0x0, .grd, .imm, 0x0, 0x7F, 0x0, 0x0, false⟩,  -- UPD_FUSE_SVN
  ⟨0x0B028, 1, 0x0, .inv, .imm, 0xFFFFFFFF, 0x0, 0x0, 0x0, false⟩,  -- UPD_FUSE_SVN_INV
  ⟨0x0B030, 1, 0x0, .rw, .none, 0x0, 0xFFFFFFFF, 0x0, 0x0, true⟩,  -- UPD_ACT_CNT
  ⟨0x0B034, 1, 0x0, .rw, .none, 0x0, 0xFFFFFFFF, 0x0, 0x0, true⟩,  -- UPD_ROLLBACK_CNT
  ⟨0x0BF80, 1, 0x0, .rw, .imm, 0x0, 0x101FFFF, 0x0, 0x0, false⟩,  -- UPD_MBX_SEL
  ⟨0x0BF84, 1, 0x0, .ro, .none, 0x0, 0x0, 0x0, 0x0, false⟩,  -- UPD_MBX_STAT
  ⟨0x0BF88, 1, 0x0, .mbx, .none, 0x0, 0x0, 0x0, 0x0, false⟩]  -- UPD_MBX_DATA

/-- Register rows of UPD. -/
def rowsUpd : List RegRow := rowsUpd0

/-- Register rows of GNSS, part 0. -/
def rowsGnss0 : List RegRow := [
  ⟨0x10000, 1, 0x0, .rw, .stb, 0x0, 0x7, 0x0, 0x0, false⟩,  -- GNSS_CTL
  ⟨0x10004, 1, 0x0, .ro, .none, 0x0, 0x0, 0x0, 0x0, false⟩,  -- GNSS_STAT
  ⟨0x10008, 1, 0x0, .w1c, .none, 0x0, 0x0, 0x7FF, 0x0, false⟩,  -- GNSS_EVT
  ⟨0x1000C, 1, 0x0, .rw, .imm, 0x0, 0x7FF, 0x0, 0x0, false⟩,  -- GNSS_EVT_EN
  ⟨0x10010, 1, 0x0, .rw, .stb, 0x0, 0x1FFFF, 0x0, 0x0, false⟩,  -- GNSS_SIG_EN
  ⟨0x10014, 1, 0x0, .rw, .stb, 0x0, 0xFFFFFFFF, 0x0, 0x0, false⟩,  -- GNSS_EXCL_GPS
  ⟨0x10018, 1, 0x0, .rw, .stb, 0x0, 0xFFFFFFFF, 0x0, 0x0, false⟩,  -- GNSS_EXCL_GAL0
  ⟨0x1001C, 1, 0x0, .rw, .stb, 0x0, 0xF, 0x0, 0x0, false⟩,  -- GNSS_EXCL_GAL1
  ⟨0x10020, 1, 0x0, .rw, .stb, 0x0, 0xFFFFFFFF, 0x0, 0x0, false⟩,  -- GNSS_EXCL_BDS0
  ⟨0x10024, 1, 0x0, .rw, .stb, 0x0, 0x7FFFFFFF, 0x0, 0x0, false⟩,  -- GNSS_EXCL_BDS1
  ⟨0x10028, 1, 0x0, .rw, .stb, 0x0, 0xFFFFFF, 0x0, 0x0, false⟩,  -- GNSS_EXCL_GLO
  ⟨0x1002C, 1, 0x0, .rw, .stb, 0x0, 0x3FF, 0x0, 0x0, false⟩,  -- GNSS_EXCL_QZS
  ⟨0x10030, 1, 0x0, .rw, .stb, 0x1905, 0xFFFF, 0x0, 0x0, false⟩,  -- GNSS_MASK
  ⟨0x10040, 1, 0x0, .rw, .imm, 0x0, 0x7, 0x0, 0x0, false⟩,  -- GNSS_ANT_CTL
  ⟨0x10044, 1, 0x0, .ro, .none, 0x0, 0x0, 0x0, 0x0, false⟩,  -- GNSS_ANT_STAT
  ⟨0x10050, 1, 0x0, .ro, .none, 0x0, 0x0, 0x0, 0x0, false⟩,  -- GNSS_AGC_HI
  ⟨0x10054, 1, 0x0, .ro, .none, 0x0, 0x0, 0x0, 0x0, false⟩,  -- GNSS_AGC_MID
  ⟨0x10058, 1, 0x0, .ro, .none, 0x0, 0x0, 0x0, 0x0, false⟩,  -- GNSS_AGC_LO
  ⟨0x1005C, 1, 0x0, .rw, .stb, 0xA, 0xFF, 0x0, 0x0, false⟩,  -- GNSS_JAM_THR
  ⟨0x10060, 1, 0x0, .rw, .stb, 0x0, 0x1FF, 0x0, 0x0, false⟩,  -- GNSS_CH_POOL
  ⟨0x10064, 1, 0x0, .rw, .stb, 0xA, 0xFF, 0x0, 0x0, false⟩,  -- GNSS_HOST_COAST
  ⟨0x10070, 1, 0x0, .rw, .imm, 0x32010178, 0xFF0107FF, 0x0, 0x0, false⟩,  -- GNSS_SRCH_CTL
  ⟨0x10074, 1, 0x0, .ro, .none, 0x0, 0x0, 0x0, 0x0, false⟩,  -- GNSS_SRCH_STAT
  ⟨0x10078, 1, 0x0, .rw, .none, 0x0, 0xFFFFFFFF, 0x0, 0x0, true⟩]  -- GNSS_SRCH_JOB_CNT

/-- Register rows of GNSS, part 1. -/
def rowsGnss1 : List RegRow := [
  ⟨0x1007C, 1, 0x0, .rw, .none, 0x0, 0xFFFFFFFF, 0x0, 0x0, true⟩,  -- GNSS_SRCH_HIT_CNT
  ⟨0x10080, 1, 0x0, .rw, .none, 0x0, 0xFFFFFFFF, 0x0, 0x0, true⟩,  -- GNSS_SRCH_REJ_CNT
  ⟨0x10090, 1, 0x0, .rw, .stb, 0x0, 0xFF, 0x0, 0x0, false⟩,  -- GNSS_ISB_CTL
  ⟨0x10094, 1, 0x0, .rw, .stb, 0x0, 0xFFFFFFFF, 0x0, 0x0, false⟩,  -- GNSS_ISB_FIX_GAL
  ⟨0x10098, 1, 0x0, .rw, .stb, 0x0, 0xFFFFFFFF, 0x0, 0x0, false⟩,  -- GNSS_ISB_FIX_BDS
  ⟨0x1009C, 1, 0x0, .rw, .stb, 0x0, 0xFFFFFFFF, 0x0, 0x0, false⟩,  -- GNSS_ISB_FIX_GLO
  ⟨0x100A0, 1, 0x0, .rw, .stb, 0x0, 0xFFFFFFFF, 0x0, 0x0, false⟩,  -- GNSS_ISB_FIX_QZS
  ⟨0x100A4, 1, 0x0, .ro, .none, 0x0, 0x0, 0x0, 0x0, false⟩,  -- GNSS_ISB_GAL
  ⟨0x100A8, 1, 0x0, .ro, .none, 0x0, 0x0, 0x0, 0x0, false⟩,  -- GNSS_ISB_BDS
  ⟨0x100AC, 1, 0x0, .ro, .none, 0x0, 0x0, 0x0, 0x0, false⟩,  -- GNSS_ISB_GLO
  ⟨0x100B0, 1, 0x0, .ro, .none, 0x0, 0x0, 0x0, 0x0, false⟩,  -- GNSS_ISB_QZS
  ⟨0x100C0, 1, 0x0, .rw, .none, 0x0, 0xFFFFFFFF, 0x0, 0x0, true⟩,  -- GNSS_OVR_CNT
  ⟨0x100C4, 1, 0x0, .ro, .none, 0x0, 0x0, 0x0, 0x0, false⟩,  -- GNSS_TIMEFIX
  ⟨0x100D0, 1, 0x0, .rw, .stb, 0x1F4, 0xFFFF, 0x0, 0x0, false⟩,  -- GNSS_CAL_CTL
  ⟨0x100D4, 1, 0x0, .ro, .none, 0x0, 0x0, 0x0, 0x0, false⟩,  -- GNSS_CAL_STAT
  ⟨0x100E0, 1, 0x0, .grd, .tck, 0x0, 0x1FF, 0x0, 0x0, false⟩,  -- GNSS_READMIT
  ⟨0x100E4, 1, 0x0, .inv, .tck, 0xFFFFFFFF, 0x0, 0x0, 0x0, false⟩,  -- GNSS_READMIT_INV
  ⟨0x100E8, 1, 0x0, .ro, .none, 0x0, 0x0, 0x0, 0x0, false⟩,  -- GNSS_MOVE_LOG
  ⟨0x100EC, 1, 0x0, .ro, .none, 0x0, 0x0, 0x0, 0x0, false⟩,  -- GNSS_RETIRED_CNT
  ⟨0x100F0, 1, 0x0, .rw, .stb, 0xF, 0x3F, 0x0, 0x0, false⟩,  -- GNSS_DOZE_CTL
  ⟨0x100F4, 1, 0x0, .ro, .none, 0x0, 0x0, 0x0, 0x0, false⟩,  -- GNSS_DOZE_STAT
  ⟨0x10100, 10, 0x4, .ro, .none, 0x0, 0x0, 0x0, 0x0, false⟩,  -- GNSS_RETIRED
  ⟨0x10380, 1, 0x0, .ro, .none, 0x0, 0x0, 0x0, 0x0, false⟩,  -- GNSS_ANTDLY_FAC
  ⟨0x10384, 1, 0x0, .rw, .stb, 0x0, 0xFFFFFFFF, 0x0, 0x0, false⟩]  -- GNSS_ANTDLY_USR

/-- Register rows of GNSS, part 2. -/
def rowsGnss2 : List RegRow := [
  ⟨0x10388, 1, 0x0, .ro, .none, 0x0, 0x0, 0x0, 0x0, false⟩,  -- GNSS_ANTDLY_EFF
  ⟨0x10400, 17, 0x10, .ro, .none, 0x0, 0x0, 0x0, 0x0, false⟩,  -- GNSS_GD_FAC
  ⟨0x10404, 17, 0x10, .rw, .stb, 0x0, 0xFFFFFFFF, 0x0, 0x0, false⟩,  -- GNSS_GD_USR
  ⟨0x10408, 17, 0x10, .ro, .none, 0x0, 0x0, 0x0, 0x0, false⟩,  -- GNSS_GD_EFF
  ⟨0x10600, 14, 0x20, .ro, .none, 0x0, 0x0, 0x0, 0x0, false⟩,  -- GNSS_IFB1_FAC
  ⟨0x10604, 14, 0x20, .rw, .stb, 0x0, 0xFFFFFFFF, 0x0, 0x0, false⟩,  -- GNSS_IFB1_USR
  ⟨0x10608, 14, 0x20, .ro, .none, 0x0, 0x0, 0x0, 0x0, false⟩,  -- GNSS_IFB1_EFF
  ⟨0x10610, 14, 0x20, .ro, .none, 0x0, 0x0, 0x0, 0x0, false⟩,  -- GNSS_IFB2_FAC
  ⟨0x10614, 14, 0x20, .rw, .stb, 0x0, 0xFFFFFFFF, 0x0, 0x0, false⟩,  -- GNSS_IFB2_USR
  ⟨0x10618, 14, 0x20, .ro, .none, 0x0, 0x0, 0x0, 0x0, false⟩,  -- GNSS_IFB2_EFF
  ⟨0x1FF80, 1, 0x0, .rw, .imm, 0x0, 0x101FFFF, 0x0, 0x0, false⟩,  -- GNSS_MBX_SEL
  ⟨0x1FF84, 1, 0x0, .ro, .none, 0x0, 0x0, 0x0, 0x0, false⟩,  -- GNSS_MBX_STAT
  ⟨0x1FF88, 1, 0x0, .mbx, .none, 0x0, 0x0, 0x0, 0x0, false⟩]  -- GNSS_MBX_DATA

/-- Register rows of GNSS. -/
def rowsGnss : List RegRow := rowsGnss0 ++ rowsGnss1 ++ rowsGnss2

/-- Register rows of GNSSCH, part 0. -/
def rowsGnssCh0 : List RegRow := [
  ⟨0x20000, 320, 0x100, .rwh, .stb, 0x0, 0xF1FFFF, 0x0, 0x0, false⟩,  -- GNSS_CH_ASSIGN
  ⟨0x20004, 320, 0x100, .rw, .stb, 0x94308, 0xFFF1F, 0x0, 0x0, false⟩,  -- GNSS_CH_CTL
  ⟨0x20008, 320, 0x100, .ro, .none, 0x0, 0x0, 0x0, 0x0, false⟩,  -- GNSS_CH_STAT
  ⟨0x2000C, 320, 0x100, .ro, .none, 0x0, 0x0, 0x0, 0x0, false⟩,  -- GNSS_CH_CN0
  ⟨0x20010, 320, 0x100, .ro, .none, 0x0, 0x0, 0x0, 0x0, false⟩,  -- GNSS_CH_LOCKTIME
  ⟨0x20014, 320, 0x100, .ro, .none, 0x0, 0x0, 0x0, 0x0, false⟩,  -- GNSS_CH_CODE_RATE
  ⟨0x20018, 320, 0x100, .ro, .none, 0x0, 0x0, 0x0, 0x0, false⟩,  -- GNSS_CH_CARR_FREQ
  ⟨0x2001C, 320, 0x100, .ro, .none, 0x0, 0x0, 0x0, 0x0, false⟩,  -- GNSS_CH_DOPPLER
  ⟨0x20020, 320, 0x100, .rw, .none, 0x0, 0xFFFFFFFF, 0x0, 0x0, true⟩,  -- GNSS_CH_SLIP_CNT
  ⟨0x20024, 320, 0x100, .ro, .none, 0x0, 0x0, 0x0, 0x0, false⟩]  -- GNSS_CH_CAL

/-- Register rows of GNSSCH. -/
def rowsGnssCh : List RegRow := rowsGnssCh0

/-- Register rows of PACK, part 0. -/
def rowsPack0 : List RegRow := [
  ⟨0x40000, 1, 0x0, .rw, .stb, 0x0, 0x1, 0x0, 0x0, false⟩,  -- PACK_CTL
  ⟨0x40004, 1, 0x0, .ro, .none, 0x0, 0x0, 0x0, 0x0, false⟩,  -- PACK_STAT
  ⟨0x40008, 1, 0x0, .w1c, .none, 0x0, 0x0, 0xFF, 0x0, false⟩,  -- PACK_EVT
  ⟨0x4000C, 1, 0x0, .rw, .imm, 0x0, 0xFF, 0x0, 0x0, false⟩,  -- PACK_EVT_EN
  ⟨0x40010, 1, 0x0, .ro, .none, 0x0, 0x0, 0x0, 0x0, false⟩,  -- PACK_LANES
  ⟨0x40014, 1, 0x0, .ro, .none, 0x0, 0x0, 0x0, 0x0, false⟩,  -- PACK_RETIRED
  ⟨0x40018, 1, 0x0, .grd, .tck, 0x0, 0x1F, 0x0, 0x0, false⟩,  -- PACK_READMIT
  ⟨0x4001C, 1, 0x0, .inv, .tck, 0xFFFFFFFF, 0x0, 0x0, 0x0, false⟩,  -- PACK_READMIT_INV
  ⟨0x40020, 1, 0x0, .rw, .none, 0x0, 0xFFFFFFFF, 0x0, 0x0, true⟩,  -- PACK_OVR_CNT
  ⟨0x40024, 1, 0x0, .rw, .none, 0x0, 0xFFFFFFFF, 0x0, 0x0, true⟩,  -- PACK_FLOW_CNT
  ⟨0x40028, 1, 0x0, .ro, .none, 0x0, 0x0, 0x0, 0x0, false⟩,  -- PACK_RL_STAT
  ⟨0x4002C, 1, 0x0, .ro, .none, 0x0, 0x0, 0x0, 0x0, false⟩,  -- PACK_SCR_STAT
  ⟨0x40030, 1, 0x0, .ro, .none, 0x0, 0x0, 0x0, 0x0, false⟩,  -- PACK_LAST_END
  ⟨0x40040, 1, 0x0, .rw, .stb, 0x21E08000, 0x7FF3FFFF, 0x0, 0x0, false⟩,  -- PACK_ASU_CTL
  ⟨0x40044, 1, 0x0, .rw, .none, 0x0, 0xFFFFFFFF, 0x0, 0x0, true⟩,  -- PACK_ASU_CNT
  ⟨0x40048, 1, 0x0, .rw, .none, 0x0, 0xFFFFFFFF, 0x0, 0x0, true⟩,  -- PACK_ASU_TRUNC_CNT
  ⟨0x40050, 1, 0x0, .rw, .stb, 0x19030A3C, 0xFFFFFFFF, 0x0, 0x0, false⟩,  -- PACK_SOL_CTL
  ⟨0x40054, 1, 0x0, .ro, .none, 0x0, 0x0, 0x0, 0x0, false⟩,  -- PACK_LOAD
  ⟨0x40060, 1, 0x0, .rw, .stb, 0x7D00000, 0xFFFF0007, 0x0, 0x0, false⟩,  -- PACK_BASE_CTL
  ⟨0x40064, 1, 0x0, .rw, .stb, 0x140258, 0xFFFFFFFF, 0x0, 0x0, false⟩,  -- PACK_SURVEY_CTL
  ⟨0x40068, 1, 0x0, .sc, .imm, 0x0, 0x0, 0x0, 0x1, false⟩,  -- PACK_BASE_CMD
  ⟨0x4006C, 1, 0x0, .ro, .none, 0x0, 0x0, 0x0, 0x0, false⟩,  -- PACK_BASE_STAT
  ⟨0x40080, 1, 0x0, .rw, .stb, 0x0, 0x1F1FFFFF, 0x0, 0x0, false⟩,  -- PACK_RTCM_CTL
  ⟨0x40084, 1, 0x0, .rw, .stb, 0xA640A0A, 0xFFFFFFFF, 0x0, 0x0, false⟩]  -- PACK_RTCM_RATE

/-- Register rows of PACK, part 1. -/
def rowsPack1 : List RegRow := [
  ⟨0x40088, 1, 0x0, .rw, .none, 0x0, 0xFFFFFFFF, 0x0, 0x0, true⟩,  -- PACK_RTCM_CNT
  ⟨0x4008C, 1, 0x0, .rw, .none, 0x0, 0xFFFFFFFF, 0x0, 0x0, true⟩,  -- PACK_RTCM_SKIP_CNT
  ⟨0x400A0, 1, 0x0, .rw, .imm, 0x0, 0xFF07, 0x0, 0x0, false⟩,  -- PACK_TRACE_CTL
  ⟨0x400A4, 1, 0x0, .rw, .none, 0x0, 0xFFFFFFFF, 0x0, 0x0, true⟩,  -- PACK_TRACE_LOST_CNT
  ⟨0x4FF80, 1, 0x0, .rw, .imm, 0x0, 0x101FFFF, 0x0, 0x0, false⟩,  -- PACK_MBX_SEL
  ⟨0x4FF84, 1, 0x0, .ro, .none, 0x0, 0x0, 0x0, 0x0, false⟩,  -- PACK_MBX_STAT
  ⟨0x4FF88, 1, 0x0, .mbx, .none, 0x0, 0x0, 0x0, 0x0, false⟩]  -- PACK_MBX_DATA

/-- Register rows of PACK. -/
def rowsPack : List RegRow := rowsPack0 ++ rowsPack1

/-- Register rows of SHEP, part 0. -/
def rowsShep0 : List RegRow := [
  ⟨0x50000, 1, 0x0, .rw, .stb, 0x75300580, 0xFFFFFFF7, 0x0, 0x0, false⟩,  -- SHEP_CTL
  ⟨0x50004, 1, 0x0, .rw, .stb, 0x1F40032, 0xFFFFFFFF, 0x0, 0x0, false⟩,  -- SHEP_POL
  ⟨0x50008, 1, 0x0, .rw, .stb, 0x64, 0xFFFF, 0x0, 0x0, false⟩,  -- SHEP_REV_CTL
  ⟨0x5000C, 1, 0x0, .ro, .none, 0x0, 0x0, 0x0, 0x0, false⟩,  -- SHEP_STAT
  ⟨0x50010, 1, 0x0, .w1c, .none, 0x0, 0x0, 0xFFF, 0x0, false⟩,  -- SHEP_EVT
  ⟨0x50014, 1, 0x0, .rw, .imm, 0x0, 0xFFF, 0x0, 0x0, false⟩,  -- SHEP_EVT_EN
  ⟨0x50020, 1, 0x0, .rw, .none, 0x0, 0xFFFFFFFF, 0x0, 0x0, true⟩,  -- SHEP_EVAL_CNT
  ⟨0x50024, 1, 0x0, .rw, .none, 0x0, 0xFFFFFFFF, 0x0, 0x0, true⟩,  -- SHEP_GRANT_CNT
  ⟨0x50028, 1, 0x0, .rw, .none, 0x0, 0xFFFFFFFF, 0x0, 0x0, true⟩,  -- SHEP_DENY_CNT
  ⟨0x5002C, 1, 0x0, .rw, .none, 0x0, 0xFFFFFFFF, 0x0, 0x0, true⟩,  -- SHEP_OVR_CNT
  ⟨0x50030, 1, 0x0, .rw, .none, 0x0, 0xFFFFFFFF, 0x0, 0x0, true⟩,  -- SHEP_MATCH_CNT
  ⟨0x50034, 1, 0x0, .rw, .none, 0x0, 0xFFFFFFFF, 0x0, 0x0, true⟩,  -- SHEP_REVOKE_CNT
  ⟨0x50038, 1, 0x0, .rw, .none, 0x0, 0xFFFFFFFF, 0x0, 0x0, true⟩,  -- SHEP_CONFLICT_CNT
  ⟨0x5003C, 1, 0x0, .rw, .none, 0x0, 0xFFFFFFFF, 0x0, 0x0, true⟩,  -- SHEP_PARITY_CNT
  ⟨0x50040, 1, 0x0, .ro, .none, 0x0, 0x0, 0x0, 0x0, false⟩,  -- SHEP_LAST_END
  ⟨0x50044, 1, 0x0, .ro, .none, 0x0, 0x0, 0x0, 0x0, false⟩,  -- SHEP_SPAN_USE
  ⟨0x50048, 1, 0x0, .ro, .none, 0x0, 0x0, 0x0, 0x0, false⟩,  -- SHEP_NET_SERIAL
  ⟨0x5004C, 1, 0x0, .ro, .none, 0x0, 0x0, 0x0, 0x0, false⟩,  -- SHEP_NET_TICK
  ⟨0x50080, 1, 0x0, .rw, .imm, 0x0, 0x3FFFFFF, 0x0, 0x0, false⟩,  -- SHEP_TBL_SEL
  ⟨0x50084, 1, 0x0, .ro, .none, 0x0, 0x0, 0x0, 0x0, false⟩,  -- SHEP_TBL_STAT
  ⟨0x500A0, 8, 0x4, .ro, .none, 0x0, 0x0, 0x0, 0x0, false⟩,  -- SHEP_TBL_DATA
  ⟨0x52000, 256, 0x40, .rw, .stb, 0x0, 0x1, 0x0, 0x0, false⟩,  -- SHEP_RV_CTL
  ⟨0x52004, 256, 0x40, .rw, .stb, 0x0, 0xFFFFFFFF, 0x0, 0x0, false⟩,  -- SHEP_RV_CLASS
  ⟨0x52008, 256, 0x40, .rw, .stb, 0x0, 0xFFFFFFFF, 0x0, 0x0, false⟩]  -- SHEP_RV_DIM

/-- Register rows of SHEP, part 1. -/
def rowsShep1 : List RegRow := [
  ⟨0x5200C, 256, 0x40, .rw, .stb, 0x0, 0xFFFFFFFF, 0x0, 0x0, false⟩,  -- SHEP_RV_DYN
  ⟨0x52010, 256, 0x40, .rw, .stb, 0x0, 0xFFFF, 0x0, 0x0, false⟩,  -- SHEP_RV_BRAKE
  ⟨0x52014, 256, 0x40, .ro, .none, 0x0, 0x0, 0x0, 0x0, false⟩,  -- SHEP_RV_STAT
  ⟨0x52018, 256, 0x40, .ro, .none, 0x0, 0x0, 0x0, 0x0, false⟩,  -- SHEP_RV_LOC
  ⟨0x5201C, 256, 0x40, .ro, .none, 0x0, 0x0, 0x0, 0x0, false⟩,  -- SHEP_RV_S
  ⟨0x52020, 256, 0x40, .ro, .none, 0x0, 0x0, 0x0, 0x0, false⟩,  -- SHEP_RV_FP
  ⟨0x52024, 256, 0x40, .ro, .none, 0x0, 0x0, 0x0, 0x0, false⟩,  -- SHEP_RV_SPANS
  ⟨0x52028, 256, 0x40, .ro, .none, 0x0, 0x0, 0x0, 0x0, false⟩,  -- SHEP_RV_AGE
  ⟨0x5FF80, 1, 0x0, .rw, .imm, 0x0, 0x101FFFF, 0x0, 0x0, false⟩,  -- SHEP_MBX_SEL
  ⟨0x5FF84, 1, 0x0, .ro, .none, 0x0, 0x0, 0x0, 0x0, false⟩,  -- SHEP_MBX_STAT
  ⟨0x5FF88, 1, 0x0, .mbx, .none, 0x0, 0x0, 0x0, 0x0, false⟩]  -- SHEP_MBX_DATA

/-- Register rows of SHEP. -/
def rowsShep : List RegRow := rowsShep0 ++ rowsShep1

/-- Register rows of MOT, part 0. -/
def rowsMot0 : List RegRow := [
  ⟨0x60000, 1, 0x0, .rw, .stb, 0x0, 0x1, 0x0, 0x0, false⟩,  -- MOT_CTL
  ⟨0x60004, 1, 0x0, .ro, .none, 0x0, 0x0, 0x0, 0x0, false⟩,  -- MOT_STAT
  ⟨0x60008, 1, 0x0, .w1c, .none, 0x0, 0x0, 0x1F, 0x0, false⟩,  -- MOT_EVT
  ⟨0x6000C, 1, 0x0, .rw, .imm, 0x0, 0x1F, 0x0, 0x0, false⟩,  -- MOT_EVT_EN
  ⟨0x60010, 1, 0x0, .rw, .none, 0x0, 0xFFFFFFFF, 0x0, 0x0, true⟩,  -- MOT_OVR_CNT
  ⟨0x60014, 1, 0x0, .rw, .none, 0x0, 0xFFFFFFFF, 0x0, 0x0, true⟩,  -- MOT_PLAN_CNT
  ⟨0x60018, 1, 0x0, .ro, .none, 0x0, 0x0, 0x0, 0x0, false⟩,  -- MOT_LAST_END
  ⟨0x60020, 1, 0x0, .grd, .tck, 0x0, 0xFF, 0x0, 0x0, false⟩,  -- MOT_READMIT
  ⟨0x60024, 1, 0x0, .inv, .tck, 0xFFFFFFFF, 0x0, 0x0, 0x0, false⟩,  -- MOT_READMIT_INV
  ⟨0x60030, 1, 0x0, .ro, .none, 0x0, 0x0, 0x0, 0x0, false⟩,  -- MOT_IN_LEVEL0
  ⟨0x60034, 1, 0x0, .ro, .none, 0x0, 0x0, 0x0, 0x0, false⟩,  -- MOT_IN_LEVEL1
  ⟨0x60040, 8, 0x4, .ro, .none, 0x0, 0x0, 0x0, 0x0, false⟩,  -- MOT_RETIRED
  ⟨0x60100, 16, 0x4, .ro, .none, 0x0, 0x0, 0x0, 0x0, false⟩,  -- MOT_GRP_STAT
  ⟨0x60400, 64, 0x10, .rw, .stb, 0x640000, 0xFFFF0FFF, 0x0, 0x0, false⟩,  -- MOT_IN_CTL
  ⟨0x60404, 64, 0x10, .rw, .stb, 0xC81408, 0xFFFFFFFF, 0x0, 0x0, false⟩,  -- MOT_IN_CHAT
  ⟨0x60408, 64, 0x10, .ro, .none, 0x0, 0x0, 0x0, 0x0, false⟩,  -- MOT_IN_STAT
  ⟨0x6040C, 64, 0x10, .ro, .none, 0x0, 0x0, 0x0, 0x0, false⟩,  -- MOT_IN_EDGE_NS
  ⟨0x6FF80, 1, 0x0, .rw, .imm, 0x0, 0x101FFFF, 0x0, 0x0, false⟩,  -- MOT_MBX_SEL
  ⟨0x6FF84, 1, 0x0, .ro, .none, 0x0, 0x0, 0x0, 0x0, false⟩,  -- MOT_MBX_STAT
  ⟨0x6FF88, 1, 0x0, .mbx, .none, 0x0, 0x0, 0x0, 0x0, false⟩]  -- MOT_MBX_DATA

/-- Register rows of MOT. -/
def rowsMot : List RegRow := rowsMot0

/-- Register rows of MOTCH, part 0. -/
def rowsMotCh0 : List RegRow := [
  ⟨0x70000, 256, 0x100, .rw, .stb, 0x0, 0xFFF03, 0x0, 0x0, false⟩,  -- MOT_CH_BIND
  ⟨0x70004, 256, 0x100, .rw, .stb, 0x0, 0x3, 0x0, 0x0, false⟩,  -- MOT_CH_CTL
  ⟨0x70008, 256, 0x100, .rw, .stb, 0x0, 0xFFFFFFFF, 0x0, 0x0, false⟩,  -- MOT_CH_VMAX
  ⟨0x7000C, 256, 0x100, .rw, .stb, 0x0, 0xFFFFFFFF, 0x0, 0x0, false⟩,  -- MOT_CH_AMAX
  ⟨0x70010, 256, 0x100, .rw, .stb, 0x0, 0xFFFFFFFF, 0x0, 0x0, false⟩,  -- MOT_CH_JMAX
  ⟨0x70014, 256, 0x100, .rw, .stb, 0x0, 0xFFFFFFFF, 0x0, 0x0, false⟩,  -- MOT_CH_HEEL_DEC
  ⟨0x70018, 256, 0x100, .rw, .stb, 0x0, 0xFFFFFFFF, 0x0, 0x0, false⟩,  -- MOT_CH_HEEL_JERK
  ⟨0x7001C, 256, 0x100, .rw, .stb, 0x0, 0xFFFFFFFF, 0x0, 0x0, false⟩,  -- MOT_CH_DROP_DEC
  ⟨0x70020, 256, 0x100, .rw, .stb, 0x0, 0xFFFFFFFF, 0x0, 0x0, false⟩,  -- MOT_CH_LIM_DEC
  ⟨0x70024, 256, 0x100, .rw, .stb, 0xC80028, 0x83FF03FF, 0x0, 0x0, false⟩,  -- MOT_CH_STEP_CFG
  ⟨0x70028, 256, 0x100, .rw, .stb, 0x0, 0xFFFFFFFF, 0x0, 0x0, false⟩,  -- MOT_CH_SLIM_NEG
  ⟨0x7002C, 256, 0x100, .rw, .stb, 0x0, 0xFFFFFFFF, 0x0, 0x0, false⟩,  -- MOT_CH_SLIM_POS
  ⟨0x70030, 256, 0x100, .ro, .none, 0x0, 0x0, 0x0, 0x0, false⟩,  -- MOT_CH_STAT
  ⟨0x70034, 256, 0x100, .ro, .none, 0x0, 0x0, 0x0, 0x0, false⟩,  -- MOT_CH_POS_LO
  ⟨0x70038, 256, 0x100, .ro, .none, 0x0, 0x0, 0x0, 0x0, false⟩,  -- MOT_CH_POS_HI
  ⟨0x7003C, 256, 0x100, .ro, .none, 0x0, 0x0, 0x0, 0x0, false⟩,  -- MOT_CH_VEL
  ⟨0x70040, 256, 0x100, .ro, .none, 0x0, 0x0, 0x0, 0x0, false⟩,  -- MOT_CH_TARGET_LO
  ⟨0x70044, 256, 0x100, .ro, .none, 0x0, 0x0, 0x0, 0x0, false⟩,  -- MOT_CH_TARGET_HI
  ⟨0x70048, 256, 0x100, .ro, .none, 0x0, 0x0, 0x0, 0x0, false⟩,  -- MOT_CH_LATCH_LO
  ⟨0x7004C, 256, 0x100, .ro, .none, 0x0, 0x0, 0x0, 0x0, false⟩,  -- MOT_CH_LATCH_HI
  ⟨0x70050, 256, 0x100, .ro, .none, 0x0, 0x0, 0x0, 0x0, false⟩,  -- MOT_CH_LATCH_NS
  ⟨0x70054, 256, 0x100, .w1c, .none, 0x0, 0x0, 0x7F, 0x0, false⟩,  -- MOT_CH_EVT
  ⟨0x70058, 256, 0x100, .rw, .imm, 0x0, 0x7F, 0x0, 0x0, false⟩,  -- MOT_CH_EVT_EN
  ⟨0x7005C, 256, 0x100, .rw, .stb, 0x0, 0xFFFFFFFF, 0x0, 0x0, false⟩]  -- MOT_CH_FERR_MAX

/-- Register rows of MOTCH, part 1. -/
def rowsMotCh1 : List RegRow := [
  ⟨0x70060, 256, 0x100, .rw, .stb, 0x4000C80, 0xF03FFF7, 0x0, 0x0, false⟩,  -- MOT_CH_REM_CFG
  ⟨0x70064, 256, 0x100, .rw, .stb, 0x0, 0xFFFF, 0x0, 0x0, false⟩,  -- MOT_CH_REM_VLAN
  ⟨0x70068, 256, 0x100, .rw, .stb, 0x0, 0xFFFFFFFF, 0x0, 0x0, false⟩,  -- MOT_CH_REM_MAC_LO
  ⟨0x7006C, 256, 0x100, .rw, .stb, 0x0, 0xFFFF, 0x0, 0x0, false⟩,  -- MOT_CH_REM_MAC_HI
  ⟨0x70070, 256, 0x100, .rw, .stb, 0x0, 0x3F, 0x0, 0x0, false⟩,  -- MOT_CH_REM_KEY
  ⟨0x70074, 256, 0x100, .ro, .none, 0x0, 0x0, 0x0, 0x0, false⟩,  -- MOT_CH_SEQ
  ⟨0x70078, 256, 0x100, .rw, .none, 0x0, 0xFFFFFFFF, 0x0, 0x0, true⟩,  -- MOT_CH_FAULT_CNT
  ⟨0x7007C, 256, 0x100, .rw, .none, 0x0, 0xFFFFFFFF, 0x0, 0x0, true⟩]  -- MOT_CH_MOVE_CNT

/-- Register rows of MOTCH. -/
def rowsMotCh : List RegRow := rowsMotCh0 ++ rowsMotCh1

/-- Register rows of AIR, part 0. -/
def rowsAir0 : List RegRow := [
  ⟨0x80000, 1, 0x0, .rw, .stb, 0x0, 0x3F, 0x0, 0x0, false⟩,  -- AIR_CTL
  ⟨0x80004, 1, 0x0, .ro, .none, 0x0, 0x0, 0x0, 0x0, false⟩,  -- AIR_STAT
  ⟨0x80008, 1, 0x0, .w1c, .none, 0x0, 0x0, 0xFFF, 0x0, false⟩,  -- AIR_EVT
  ⟨0x8000C, 1, 0x0, .rw, .imm, 0x0, 0xFFF, 0x0, 0x0, false⟩,  -- AIR_EVT_EN
  ⟨0x80010, 1, 0x0, .grd, .stb, 0x0, 0xFF, 0x0, 0x0, false⟩,  -- AIR_REGION
  ⟨0x80014, 1, 0x0, .inv, .stb, 0x0, 0x0, 0x0, 0x0, false⟩,  -- AIR_REGION_INV
  ⟨0x80020, 1, 0x0, .rw, .stb, 0x64500000, 0x77711FFF, 0x0, 0x0, false⟩,  -- AIR_WB0_CFG
  ⟨0x80024, 1, 0x0, .rw, .stb, 0x0, 0xFF1F, 0x0, 0x0, false⟩,  -- AIR_WB0_PWR
  ⟨0x80028, 1, 0x0, .rw, .stb, 0x64500000, 0x77711FFF, 0x0, 0x0, false⟩,  -- AIR_WB1_CFG
  ⟨0x8002C, 1, 0x0, .rw, .stb, 0x0, 0xFF1F, 0x0, 0x0, false⟩,  -- AIR_WB1_PWR
  ⟨0x80030, 1, 0x0, .rw, .stb, 0xA0300, 0xFFFFF1, 0x0, 0x0, false⟩,  -- AIR_SG_CFG
  ⟨0x80034, 1, 0x0, .rw, .stb, 0x0, 0xFF1F, 0x0, 0x0, false⟩,  -- AIR_SG_PWR
  ⟨0x80040, 1, 0x0, .rw, .stb, 0x0, 0x1, 0x0, 0x0, false⟩,  -- AIR_MAP_CTL
  ⟨0x80044, 1, 0x0, .ro, .none, 0x0, 0x0, 0x0, 0x0, false⟩,  -- AIR_MAP_STAT
  ⟨0x80048, 1, 0x0, .ro, .none, 0x0, 0x0, 0x0, 0x0, false⟩,  -- AIR_MAP_SERIAL
  ⟨0x80050, 1, 0x0, .rw, .stb, 0xA04, 0xFF0F, 0x0, 0x0, false⟩,  -- AIR_SYNC_CTL
  ⟨0x80060, 1, 0x0, .rw, .stb, 0x0, 0xFF3F3F, 0x0, 0x0, false⟩,  -- AIR_KEY_CTL
  ⟨0x80070, 1, 0x0, .rw, .none, 0x0, 0xFFFFFFFF, 0x0, 0x0, true⟩,  -- AIR_TX_CNT
  ⟨0x80074, 1, 0x0, .rw, .none, 0x0, 0xFFFFFFFF, 0x0, 0x0, true⟩,  -- AIR_RX_CNT
  ⟨0x80078, 1, 0x0, .rw, .none, 0x0, 0xFFFFFFFF, 0x0, 0x0, true⟩,  -- AIR_TIME_REFUSE_CNT
  ⟨0x8007C, 1, 0x0, .rw, .none, 0x0, 0xFFFFFFFF, 0x0, 0x0, true⟩,  -- AIR_VER_REFUSE_CNT
  ⟨0x80080, 1, 0x0, .rw, .none, 0x0, 0xFFFFFFFF, 0x0, 0x0, true⟩,  -- AIR_GRANT_STALE_CNT
  ⟨0x80084, 1, 0x0, .rw, .none, 0x0, 0xFFFFFFFF, 0x0, 0x0, true⟩,  -- AIR_RTCM_LATE_CNT
  ⟨0x80088, 1, 0x0, .rw, .none, 0x0, 0xFFFFFFFF, 0x0, 0x0, true⟩]  -- AIR_DL_DEFER_CNT

/-- Register rows of AIR, part 1. -/
def rowsAir1 : List RegRow := [
  ⟨0x8008C, 1, 0x0, .rw, .none, 0x0, 0xFFFFFFFF, 0x0, 0x0, true⟩,  -- AIR_DROP_TX_CNT
  ⟨0x80100, 3, 0x20, .rw, .stb, 0x0, 0x3FFFFF, 0x0, 0x0, false⟩,  -- AIR_BUD_LIMIT
  ⟨0x80104, 3, 0x20, .rw, .stb, 0x0, 0x3FFFFF, 0x0, 0x0, false⟩,  -- AIR_BUD_RES
  ⟨0x80108, 3, 0x20, .ro, .none, 0x0, 0x0, 0x0, 0x0, false⟩,  -- AIR_BUD_USED
  ⟨0x8010C, 3, 0x20, .ro, .none, 0x0, 0x0, 0x0, 0x0, false⟩,  -- AIR_BUD_DROP
  ⟨0x80110, 3, 0x20, .rw, .none, 0x0, 0xFFFFFFFF, 0x0, 0x0, true⟩,  -- AIR_BUD_DENY_CNT
  ⟨0x80114, 3, 0x20, .rw, .none, 0x0, 0xFFFFFFFF, 0x0, 0x0, true⟩,  -- AIR_BUD_DROP_DENY_CNT
  ⟨0x80118, 3, 0x20, .ro, .none, 0x0, 0x0, 0x0, 0x0, false⟩,  -- AIR_BUD_DWELL
  ⟨0x80200, 1, 0x0, .grd, .tck, 0x0, 0xFF, 0x0, 0x0, false⟩,  -- AIR_READMIT
  ⟨0x80204, 1, 0x0, .inv, .tck, 0xFFFFFFFF, 0x0, 0x0, 0x0, false⟩,  -- AIR_READMIT_INV
  ⟨0x80210, 7, 0x4, .ro, .none, 0x0, 0x0, 0x0, 0x0, false⟩,  -- AIR_RETIRED
  ⟨0x8FF80, 1, 0x0, .rw, .imm, 0x0, 0x101FFFF, 0x0, 0x0, false⟩,  -- AIR_MBX_SEL
  ⟨0x8FF84, 1, 0x0, .ro, .none, 0x0, 0x0, 0x0, 0x0, false⟩,  -- AIR_MBX_STAT
  ⟨0x8FF88, 1, 0x0, .mbx, .none, 0x0, 0x0, 0x0, 0x0, false⟩]  -- AIR_MBX_DATA

/-- Register rows of AIR. -/
def rowsAir : List RegRow := rowsAir0 ++ rowsAir1

/-- Register rows of SW, part 0. -/
def rowsSw0 : List RegRow := [
  ⟨0x90000, 10, 0x400, .rw, .stb, 0x0, 0xFFF73FF, 0x0, 0x0, false⟩,  -- SW_P_CTL
  ⟨0x90004, 10, 0x400, .rw, .stb, 0x0, 0x3FFF, 0x0, 0x0, false⟩,  -- SW_P_LEARN
  ⟨0x90008, 10, 0x400, .rw, .stb, 0x421FA50, 0xFFFFFFF, 0x0, 0x0, false⟩,  -- SW_P_QOS
  ⟨0x9000C, 10, 0x400, .rw, .stb, 0x5EE, 0x3FFF, 0x0, 0x0, false⟩,  -- SW_P_MTU
  ⟨0x90010, 10, 0x400, .ro, .none, 0x0, 0x0, 0x0, 0x0, false⟩,  -- SW_P_STAT
  ⟨0x90014, 10, 0x400, .rw, .none, 0x0, 0xFFFFFFFF, 0x0, 0x0, true⟩,  -- SW_P_RX_CNT
  ⟨0x90018, 10, 0x400, .rw, .none, 0x0, 0xFFFFFFFF, 0x0, 0x0, true⟩,  -- SW_P_TX_CNT
  ⟨0x9001C, 10, 0x400, .rw, .none, 0x0, 0xFFFFFFFF, 0x0, 0x0, true⟩,  -- SW_P_DROP_CNT
  ⟨0x90020, 10, 0x400, .rw, .none, 0x0, 0xFFFFFFFF, 0x0, 0x0, true⟩,  -- SW_P_LEARN_DROP_CNT
  ⟨0x90024, 10, 0x400, .rw, .none, 0x0, 0xFFFFFFFF, 0x0, 0x0, true⟩,  -- SW_P_MOVE_DROP_CNT
  ⟨0x90030, 10, 0x400, .ro, .none, 0x0, 0x0, 0x0, 0x0, false⟩,  -- SW_P_RXDLY_FAC
  ⟨0x90034, 10, 0x400, .rw, .stb, 0x0, 0xFFFFFFFF, 0x0, 0x0, false⟩,  -- SW_P_RXDLY_USR
  ⟨0x90038, 10, 0x400, .ro, .none, 0x0, 0x0, 0x0, 0x0, false⟩,  -- SW_P_RXDLY_EFF
  ⟨0x90040, 10, 0x400, .ro, .none, 0x0, 0x0, 0x0, 0x0, false⟩,  -- SW_P_TXDLY_FAC
  ⟨0x90044, 10, 0x400, .rw, .stb, 0x0, 0xFFFFFFFF, 0x0, 0x0, false⟩,  -- SW_P_TXDLY_USR
  ⟨0x90048, 10, 0x400, .ro, .none, 0x0, 0x0, 0x0, 0x0, false⟩,  -- SW_P_TXDLY_EFF
  ⟨0x98000, 1, 0x0, .rw, .stb, 0x12C0000, 0xFFFF0007, 0x0, 0x0, false⟩,  -- SW_CTL
  ⟨0x98004, 1, 0x0, .ro, .none, 0x0, 0x0, 0x0, 0x0, false⟩,  -- SW_STAT
  ⟨0x98008, 1, 0x0, .w1c, .none, 0x0, 0x0, 0x1FF, 0x0, false⟩,  -- SW_EVT
  ⟨0x9800C, 1, 0x0, .rw, .imm, 0x0, 0x1FF, 0x0, 0x0, false⟩,  -- SW_EVT_EN
  ⟨0x98010, 1, 0x0, .rw, .stb, 0xA, 0xFFFF, 0x0, 0x0, false⟩,  -- SW_LOOP_CTL
  ⟨0x98014, 1, 0x0, .ro, .none, 0x0, 0x0, 0x0, 0x0, false⟩,  -- SW_MAC_LO
  ⟨0x98018, 1, 0x0, .ro, .none, 0x0, 0x0, 0x0, 0x0, false⟩,  -- SW_MAC_HI
  ⟨0x9801C, 1, 0x0, .ro, .none, 0x0, 0x0, 0x0, 0x0, false⟩]  -- SW_MAC_USE

/-- Register rows of SW, part 1. -/
def rowsSw1 : List RegRow := [
  ⟨0x98020, 1, 0x0, .rw, .none, 0x0, 0xFFFFFFFF, 0x0, 0x0, true⟩,  -- SW_LQ_DROP_CNT
  ⟨0x98024, 1, 0x0, .rw, .none, 0x0, 0xFFFFFFFF, 0x0, 0x0, true⟩,  -- SW_PARITY_CNT
  ⟨0x98028, 1, 0x0, .ro, .none, 0x0, 0x0, 0x0, 0x0, false⟩,  -- SW_PARITY_LOG
  ⟨0x9802C, 1, 0x0, .ro, .none, 0x0, 0x0, 0x0, 0x0, false⟩,  -- SW_ROUTE_USE
  ⟨0x98030, 1, 0x0, .rw, .none, 0x0, 0xFFFFFFFF, 0x0, 0x0, true⟩,  -- SW_NOROUTE_CNT
  ⟨0x98034, 1, 0x0, .rw, .none, 0x0, 0xFFFFFFFF, 0x0, 0x0, true⟩,  -- SW_P9_DROP_CNT
  ⟨0x98040, 1, 0x0, .grd, .tck, 0x0, 0xF, 0x0, 0x0, false⟩,  -- SW_READMIT
  ⟨0x98044, 1, 0x0, .inv, .tck, 0xFFFFFFFF, 0x0, 0x0, 0x0, false⟩,  -- SW_READMIT_INV
  ⟨0x98048, 1, 0x0, .ro, .none, 0x0, 0x0, 0x0, 0x0, false⟩,  -- SW_RETIRED
  ⟨0x98080, 1, 0x0, .rw, .imm, 0x0, 0x3FFFFFF, 0x0, 0x0, false⟩,  -- SW_TBL_SEL
  ⟨0x98084, 1, 0x0, .ro, .none, 0x0, 0x0, 0x0, 0x0, false⟩,  -- SW_TBL_STAT
  ⟨0x980A0, 4, 0x4, .ro, .none, 0x0, 0x0, 0x0, 0x0, false⟩,  -- SW_TBL_DATA
  ⟨0x9FF80, 1, 0x0, .rw, .imm, 0x0, 0x101FFFF, 0x0, 0x0, false⟩,  -- SW_MBX_SEL
  ⟨0x9FF84, 1, 0x0, .ro, .none, 0x0, 0x0, 0x0, 0x0, false⟩,  -- SW_MBX_STAT
  ⟨0x9FF88, 1, 0x0, .mbx, .none, 0x0, 0x0, 0x0, 0x0, false⟩]  -- SW_MBX_DATA

/-- Register rows of SW. -/
def rowsSw : List RegRow := rowsSw0 ++ rowsSw1

/-- Register rows of ROVER, part 0. -/
def rowsRover0 : List RegRow := [
  ⟨0xA0000, 256, 0x100, .rw, .stb, 0x200, 0xFF0F, 0x0, 0x0, false⟩,  -- ROVER_POS_CTL
  ⟨0xA0004, 256, 0x100, .ro, .none, 0x2, 0x0, 0x0, 0x0, false⟩,  -- ROVER_SOL_STAT
  ⟨0xA0008, 256, 0x100, .ro, .none, 0x0, 0x0, 0x0, 0x0, false⟩,  -- ROVER_SOL_PROD
  ⟨0xA000C, 256, 0x100, .ro, .none, 0x0, 0x0, 0x0, 0x0, false⟩,  -- ROVER_SOL_EPOCH
  ⟨0xA0010, 256, 0x100, .ro, .none, 0x0, 0x0, 0x0, 0x0, false⟩,  -- ROVER_SOL_UNC
  ⟨0xA0014, 256, 0x100, .w1c, .none, 0x0, 0x0, 0x3F, 0x0, false⟩,  -- ROVER_SOL_EVT
  ⟨0xA0018, 256, 0x100, .rw, .imm, 0x0, 0x3F, 0x0, 0x0, false⟩,  -- ROVER_SOL_EVT_EN
  ⟨0xA001C, 256, 0x100, .sc, .imm, 0x0, 0x0, 0x0, 0x1, false⟩,  -- ROVER_FILTER_CMD
  ⟨0xA0020, 256, 0x100, .rw, .none, 0x0, 0xFFFFFFFF, 0x0, 0x0, true⟩,  -- ROVER_OBS_CNT
  ⟨0xA0024, 256, 0x100, .rw, .none, 0x0, 0xFFFFFFFF, 0x0, 0x0, true⟩,  -- ROVER_OBS_DROP_CNT
  ⟨0xA0028, 256, 0x100, .rw, .none, 0x0, 0xFFFFFFFF, 0x0, 0x0, true⟩,  -- ROVER_LATE_CNT
  ⟨0xA002C, 256, 0x100, .rw, .none, 0x0, 0xFFFFFFFF, 0x0, 0x0, true⟩,  -- ROVER_FIX_CNT
  ⟨0xA0030, 256, 0x100, .rw, .none, 0x0, 0xFFFFFFFF, 0x0, 0x0, true⟩,  -- ROVER_OVR_CNT
  ⟨0xA0034, 256, 0x100, .ro, .none, 0x0, 0x0, 0x0, 0x0, false⟩,  -- ROVER_OBS_LAST
  ⟨0xA0080, 256, 0x100, .rw, .stb, 0x30000, 0x31F03, 0x0, 0x0, false⟩,  -- ROVER_LINK_CTL
  ⟨0xA0084, 256, 0x100, .ro, .none, 0x0, 0x0, 0x0, 0x0, false⟩,  -- ROVER_LINK_SLOT
  ⟨0xA0088, 256, 0x100, .ro, .none, 0x0, 0x0, 0x0, 0x0, false⟩,  -- ROVER_LINK_STAT
  ⟨0xA008C, 256, 0x100, .w1c, .none, 0x0, 0x0, 0xFF, 0x0, false⟩,  -- ROVER_LINK_EVT
  ⟨0xA0090, 256, 0x100, .rw, .imm, 0x0, 0xFF, 0x0, 0x0, false⟩,  -- ROVER_LINK_EVT_EN
  ⟨0xA0094, 256, 0x100, .sc, .imm, 0x0, 0x0, 0x0, 0x1, false⟩,  -- ROVER_LINK_CMD
  ⟨0xA0098, 256, 0x100, .ro, .none, 0x0, 0x0, 0x0, 0x0, false⟩,  -- ROVER_DRIFT_OFS
  ⟨0xA009C, 256, 0x100, .ro, .none, 0x0, 0x0, 0x0, 0x0, false⟩,  -- ROVER_DRIFT_RATE
  ⟨0xA00A0, 256, 0x100, .rw, .none, 0x0, 0xFFFFFFFF, 0x0, 0x0, true⟩,  -- ROVER_UP_CNT
  ⟨0xA00A4, 256, 0x100, .rw, .none, 0x0, 0xFFFFFFFF, 0x0, 0x0, true⟩]  -- ROVER_MISSLOT_CNT

/-- Register rows of ROVER, part 1. -/
def rowsRover1 : List RegRow := [
  ⟨0xA00A8, 256, 0x100, .rw, .none, 0x0, 0xFFFFFFFF, 0x0, 0x0, true⟩,  -- ROVER_AUTH_FAIL_CNT
  ⟨0xA00AC, 256, 0x100, .rw, .none, 0x0, 0xFFFFFFFF, 0x0, 0x0, true⟩,  -- ROVER_TIME_REFUSE_CNT
  ⟨0xA00B0, 256, 0x100, .rw, .none, 0x0, 0xFFFFFFFF, 0x0, 0x0, true⟩,  -- ROVER_RESYNC_CNT
  ⟨0xA00B4, 256, 0x100, .ro, .none, 0x0, 0x0, 0x0, 0x0, false⟩,  -- ROVER_UP_LAST
  ⟨0xA00B8, 256, 0x100, .ro, .none, 0x0, 0x0, 0x0, 0x0, false⟩,  -- ROVER_UP_RSSI
  ⟨0xA00BC, 256, 0x100, .rw, .none, 0x0, 0xFFFFFFFF, 0x0, 0x0, true⟩]  -- ROVER_GRANT_STALE_CNT

/-- Register rows of ROVER. -/
def rowsRover : List RegRow := rowsRover0 ++ rowsRover1

/-- The rows of the block that an offset lies in (R51). -/
def rowsAt (a : Nat) : List RegRow :=
  if a < 0x1000 then rowsGlb
  else if a < 0x2000 then rowsPwr
  else if a < 0x4000 then rowsTime
  else if a < 0x6000 then rowsRing
  else if a < 0x7000 then rowsPerf
  else if a < 0x8000 then rowsRec
  else if a < 0x9000 then rowsLeash
  else if a < 0xA000 then rowsBrace
  else if a < 0xB000 then rowsKen
  else if a < 0x10000 then rowsUpd
  else if a < 0x20000 then rowsGnss
  else if a < 0x40000 then rowsGnssCh
  else if a < 0x50000 then rowsPack
  else if a < 0x60000 then rowsShep
  else if a < 0x70000 then rowsMot
  else if a < 0x80000 then rowsMotCh
  else if a < 0x90000 then rowsAir
  else if a < 0xA0000 then rowsSw
  else if a < 0xB0000 then rowsRover
  else []

/-- Every row, in ascending order of block. -/
def allRows : List RegRow :=
  rowsGlb ++ rowsPwr ++ rowsTime ++ rowsRing ++ rowsPerf ++ rowsRec ++ rowsLeash ++ rowsBrace ++ rowsKen ++ rowsUpd ++ rowsGnss ++ rowsGnssCh ++ rowsPack ++ rowsShep ++ rowsMot ++ rowsMotCh ++ rowsAir ++ rowsSw ++ rowsRover

/-- Whether an offset is one of the row's instances. -/
def RegRow.hit (r : RegRow) (a : Nat) : Bool :=
  if r.stride = 0 then a == r.base
  else decide (r.base ≤ a) && ((a - r.base) % r.stride == 0) && decide ((a - r.base) / r.stride < r.cnt)

/-- Which instance of the row an offset is. -/
def RegRow.inst (r : RegRow) (a : Nat) : Nat := if r.stride = 0 then 0 else (a - r.base) / r.stride

/-- The row of the register at a BAR0 offset; none where no register lies (R52). -/
def rowOf (a : Nat) : Option RegRow := (rowsAt a).find? (fun r => r.hit a)

/-- Internal queue depth of each ring (R93). -/
def ringDepth : Nat → Nat
  | 0 => 64 | 1 => 256 | 2 => 32 | 3 => 512 | 4 => 4096 | 5 => 16 | 6 => 256 | 7 => 256 | 8 => 512 | 9 => 512 | _ => 0

/-- The reset value of a row's instance: `RING_VEC_MAPk` (R129) and `RING_QLVL` (R130) depend on the instance. -/
def RegRow.resetAt (r : RegRow) (a : Nat) : Nat :=
  if r.base = 0x4020 then 0x03020100 + 0x04040404 * r.inst a
  else if r.base = 0x4134 then ringDepth (r.inst a) * 65536
  else r.reset

/-- What a register reads after a power-on reset; 0 where no register lies. -/
def regReset (a : Nat) : Word := BitVec.ofNat 32 (((rowOf a).map (fun r => r.resetAt a)).getD 0)

end Sys2Proof.Machine
end

