-- ==== Sys2Proof/Machine/StateAir.lean ====
section
/-! DEFINITION. State of the air link (chapter 09) beyond its registers: slots decided, timing, the downlink queue, budgets. -/

namespace Sys2Proof.Machine

/-- An assignment of R364: channel and slot, none where the rover has no slot; whether a lower rover ID holds the slot asked for;
the superframe (counted from the GPS epoch) of EFFECTIVE; grains per slot at the width it was made for. -/
structure SlotAsg where
  chan : Nat
  slot : Option Nat
  conflict : Bool
  eff : Nat
  w : Nat
  deriving DecidableEq, Repr

/-- AIR's part of a rover context (R364 to R392). -/
structure AirRover where
  /-- The assignment in force. -/
  cur : Option SlotAsg
  /-- The assignment decided and waiting for EFFECTIVE (R365). -/
  next : Option SlotAsg
  /-- Last measured offset in ns and the tick counter of its burst (R385, R404). -/
  lastOfs : Int
  /-- The tick counter of that burst (R385). -/
  lastTick : Nat
  /-- The resync window of the last burst or assignment, 0xFF none (R404). -/
  lastWin : Nat
  /-- Superframe number of the last TC entry sent. -/
  tcSf : Nat
  /-- The superframe of the miss that set RESYNC (R388). -/
  missSf : Nat
  /-- Resync windows assigned: superframe and window (R387). -/
  wins : List (Nat × Nat)
  /-- The superframe of the last verified burst (R392). -/
  heardSf : Option Nat
  /-- The last RSTAT element, 8 bytes (R368, R374). -/
  rstat : List Byte
  /-- ROUTE_SERIAL of the last GRANT discarded as stale: its PROFILEs are discarded (R378). -/
  stale : Option Nat
  deriving DecidableEq, Repr

/-- A context nothing has been heard from. -/
def AirRover.fresh : AirRover :=
  { cur := none, next := none, lastOfs := 0, lastTick := 0, lastWin := 255, tcSf := 0, missSf := 0, wins := [], heardSf := none, rstat := [],
    stale := none }

/-- An element that waits for a downlink block (R377): its kind (1 GRANT, 2 PROFILE, 3 TASK, 4 RTCM), the rover or 0, the serial that
a newer one replaces (ROUTE_SERIAL, PROF_SERIAL), the tick it was handed over in, the tick of an RTCM element's instant, the channels
it has still to be sent on. -/
structure AirElem where
  kind : Nat
  rover : Nat
  serial : Nat
  body : List Byte
  inTick : Nat
  instant : Nat
  chans : List Nat
  deriving DecidableEq, Repr

/-- DROP on air (R382 to R384): the trip, and the frames left per path (0 WB0, 1 WB1, 2 SG); a path is listed in `begun` once its
first frame has been sent; the last grain each WB channel used for a DROP frame. -/
structure AirDrop where
  tick : Nat
  cause : Nat
  id : Nat
  tripRaw : Nat
  left : List Nat
  begun : List Nat
  grain : List (Option Nat)
  deriving DecidableEq, Repr

/-- AIR. -/
structure AirSt where
  /-- The 256 rovers (R364). -/
  rover : AMap AirRover
  /-- SEQ of the last frame sent on each path (R369). -/
  seq : List Nat
  /-- Downlink elements waiting (R377). -/
  queue : List AirElem
  /-- Rover after which TC entries and SLOT_ASSIGN elements go on, per WB channel (R365, R385). -/
  tcPtr : List Nat
  asgPtr : List Nat
  /-- Paths that have carried STEP_RESYNC since the last step (R390). -/
  stepDone : List Nat
  /-- The DROP in progress (R382). -/
  drop : Option AirDrop
  /-- The region in force, and whether a new one waits for its superframe boundary (R398). -/
  region : Nat
  /-- A new region waits for its superframe boundary (R398). -/
  regionPend : Bool
  /-- Tick number in which each WB channel's first grains, and its downlink block, were served. -/
  tokTick : List (Option Nat)
  dlTick : List (Option Nat)
  /-- First HOST grain still free on each WB channel, counted from the GPS epoch (R379). -/
  hostFree : List Nat
  /-- Superframe of the last SG_BEACON and of the last CORR_FB; a withheld SG_BEACON withholds the next CORR_FB (R395). -/
  sgSf : Option Nat
  corrSf : Option Nat
  sgHeld : Bool
  /-- RTCM of the newest instant for CORR_FB, with its tick (R367). -/
  rtcm : Option (Nat × List Byte)
  /-- SG airtime by channel: raw count, channel, µs (R396). -/
  dwell : List (Nat × Nat × Nat)
  /-- Airtime of the bands in the superframe in progress, µs (R475). -/
  sfUs : List Nat
  /-- Grain sets that have left the map: channel × 100 + set (R399). -/
  gone : List Nat
  /-- Rovers whose drift the unit has not measured since it took over under Brace version 2: no TC entry goes to them (R479). -/
  noTc : List Nat
  /-- The last superframe whose silence was judged (R392). -/
  judged : Option Nat
  deriving DecidableEq, Repr

def AirSt.reset : AirSt :=
  { rover := [], seq := [0, 0, 0], queue := [], tcPtr := [255, 255], asgPtr := [255, 255], stepDone := [], drop := none, region := 0,
    regionPend := false, tokTick := [none, none], dlTick := [none, none], hostFree := [0, 0], sgSf := none, corrSf := none, sgHeld := false,
    rtcm := none, dwell := [], sfUs := [0, 0, 0], gone := [], noTc := [], judged := none }

end Sys2Proof.Machine
end

