-- ==== Sys2Proof/Machine/StateBrace.lean ====
section
/-! DEFINITION. State of the Brace (chapter 12) beyond its registers: hold lines, heartbeats, the mirror, handovers. -/

namespace Sys2Proof.Machine

/-- What the last verified heartbeat said of the partner (R464, R482, R487). -/
structure Partner where
  unit : Nat
  role : Nat
  eligible : Bool
  synced : Bool
  tstate : Nat
  armed : Bool
  bverMin : Nat
  bverMax : Nat
  fwVer : Nat
  serial : List Word
  tick : Nat
  mac : Option Nat
  braceId : Nat
  /-- The partner's time uncertainty in ns, carried with its time state (R225). -/
  unc : Nat
  deriving DecidableEq, Repr

/-- An orderly handover in progress (R471): its boundary as a tick number, whether this unit gives control away, the command's
header when a command asked, LAST_CAUSE at the end, and the partner's acceptance. -/
structure Handover where
  b : Nat
  giving : Bool
  hdr : Option (Nat × Bool × Nat)
  cause : Nat
  accepted : Bool
  released : Bool
  deriving DecidableEq, Repr

/-- One heartbeat path: consecutive misses, consecutive verified heartbeats, raw count of the last verified one. -/
structure HbPath where
  miss : Nat
  good : Nat
  at_ : Nat
  deriving DecidableEq, Repr

/-- The Brace. -/
structure BraceSt where
  /-- What the partner last said of itself (R464, R487). -/
  partner : Option Partner
  /-- The heartbeat path over LVDS (R463, R464). -/
  lvds : HbPath
  /-- The heartbeat path over P1 (R463, R464). -/
  p1 : HbPath
  /-- Raw count since which BRACE_HOLD_IN has had its level, and since which BRACE_HOLD_OUT has been asserted with
  BRACE_HOLD_IN released (the window of R459). -/
  holdInAt : Nat
  windowAt : Option Nat
  /-- Raw count at which a unit 0 that backed off claims again (R460). -/
  retryAt : Option Nat
  /-- Keep-alive: raw count of the last feed, and whether it has expired (R461). -/
  fedAt : Nat
  kaDead : Bool
  /-- Raw count at which the join began, while it is undecided (R467). -/
  joinAt : Option Nat
  /-- The cause that the next takeover records (R486 LAST_CAUSE). -/
  cause : Nat
  /-- PAIR_MISMATCH holds: the partner is treated as unheard (R457). -/
  mismatch : Bool
  /-- The whole ms at which the last heartbeats were sent (R463). -/
  hbMs : Option Nat
  /-- Partner time minus own time in ns as the last P1 heartbeat showed it, which resolves whole milliseconds in R465. -/
  coarse : Int
  /-- LVDS SEQ, P1 SEQ sent, and the last P1 SEQ accepted (R464, R481). -/
  hbSeq : Nat
  txSeq : Nat
  rxSeq : Option Nat
  /-- Full time in sixteenths of a ns at which the partner's last comma arrived (R464). -/
  stamp : Nat
  /-- Offsets and delays of the last 64 ms in ps, newest first (R465), and the raw count since which |offset| has been 1 ns or less. -/
  ofs : List Int
  dly : List Int
  alignedAt : Option Nat
  /-- The handover in progress (R472). -/
  handover : Option Handover
  /-- Raw count since which a ready preferred partner has been seen (R472). -/
  readySince : Option Nat
  /-- Raw count since which the partner has held the line while not ACTIVE (R468). -/
  heldSince : Option Nat
  /-- ACKs got for the tick held: bit 0 SHEP, bit 1 MOT; the tick whose deltas were sent (R474). -/
  acks : Nat
  ackTick : Option Nat
  /-- The mirror: records by RTYPE × 2^32 + KEY (R475, R483). -/
  mirror : AMap (List Byte)
  /-- Mirrored AUTH bits, Leash state, TRIP_ID and map serial (TICK_END), airtime and base state (SF_SYNC). -/
  auth : List Byte
  leashState : Nat
  /-- The active unit's Leash went from TRIPPED to arming or armed: this unit's Leash arms at the next tick boundary (R426). -/
  armWith : Bool
  tripId : Nat
  mapSerial : Nat
  airSf : List Nat
  baseState : Nat
  /-- A full synchronisation is wanted or under way (R477). -/
  syncing : Bool
  /-- Grants whose plans the shadow window of this tick made (R478). -/
  grants : List Grant
  /-- The airtime of the ending superframe, as the standby enters it (R476), has been entered for this superframe. -/
  sfDone : Option Nat
  /-- The last role changes, newest first, 4 words each (R487). -/
  roleLog : List (List Word)
  /-- The last version the pair agreed on, 0 before any (R479). -/
  ver : Nat
  deriving DecidableEq, Repr

/-- A path on which nothing has been heard. -/
def HbPath.none : HbPath := { miss := 0, good := 0, at_ := 0 }

/-- The Brace after power-on. -/
def BraceSt.reset : BraceSt :=
  { partner := none, lvds := HbPath.none, p1 := HbPath.none, holdInAt := 0, windowAt := none, retryAt := none, fedAt := 0,
    kaDead := false, joinAt := none, cause := 1, mismatch := false, hbMs := none, coarse := 0, hbSeq := 0, txSeq := 0, rxSeq := none, stamp := 0, ofs := [], dly := [],
    alignedAt := none, handover := none, readySince := none, heldSince := none, acks := 0, ackTick := none, mirror := [],
    auth := List.replicate 32 0, leashState := 0, armWith := false, tripId := 0, mapSerial := 0, airSf := [0, 0, 0], baseState := 0,
    syncing := false, grants := [], sfDone := none, roleLog := [], ver := 0 }

end Sys2Proof.Machine
end

