-- ==== Sys2Proof/Machine/StateKen.lean ====
section
/-! DEFINITION. State of the Kennel (chapter 13) beyond its registers: keys, roots, fuses, measurements, the AON tamper log. -/

namespace Sys2Proof.Machine

/-- How a slot was filled, for the rebuild of R503. -/
inductive KeySrc where
  | fixed
  | blob (bytes : List Byte)
  | derived (label context : List Byte)
  deriving DecidableEq, Repr

/-- A slot's key material (R498); its policy and parent stand in KEN_SLOT_STAT. -/
structure KeySlot where
  key : List Byte
  src : KeySrc
  deriving DecidableEq, Repr

/-- A record of the AON tamper log (R514, R517, R522). -/
structure TamperRec where
  source : Nat
  /-- 0 RUN, 1 SLEEP, 2 START-UP. -/
  phase : Nat
  gen : Nat
  aonSec : Nat
  time : Nat
  deriving DecidableEq, Repr

/-- An ERASE whose result waits until its slot is EMPTY (R519). -/
structure EraseWait where
  slot : Nat
  tag : Nat
  noResult : Bool
  acceptTick : Nat
  deriving DecidableEq, Repr

/-- The Kennel. -/
structure KenSt where
  /-- The 64 key slots (R497, R502). -/
  slot : AMap KeySlot
  /-- The BBRAM root (R488). -/
  root : Option (List Byte)
  /-- The four customer fuse roots once programmed, and the current generation (R492, R493). -/
  cfr : Option (List (List Byte))
  gen : Nat
  /-- Measurement registers MEAS0 to MEAS7, 48 bytes each (R494). -/
  meas : AMap (List Byte)
  /-- The uplink key cache by 256 × rover + epoch (R501). -/
  cache : AMap (List Byte)
  /-- The AON tamper log, newest first, at most 4; how many are not yet in the recorder (R514, R516). -/
  log : List TamperRec
  unlogged : Nat
  /-- Source levels, one bit per source (R521). -/
  levels : Nat
  /-- Raw count of a tamper detection whose reset is due (R512). -/
  tamperAt : Option Nat
  /-- The cache has become ORPHAN with its parent (R508). -/
  cacheOrphan : Bool
  /-- ERASE commands waiting for their boundary (R508). -/
  erasing : List EraseWait
  /-- A new root that takes slot 0, and a new STATE, at the next tick boundary (R492, R508). -/
  newRoot : Option (List Byte)
  /-- A new STATE at the next tick boundary (R492). -/
  newState : Option Nat
  /-- RESULT of each key-list entry, by slot, and the entry count (R507, R522). -/
  loadLog : AMap Nat
  loadCnt : Nat
  deriving DecidableEq, Repr

/-- A Kennel as manufactured: no root, fuses blank, measurements 0. -/
def KenSt.reset : KenSt :=
  { slot := [], root := none, cfr := none, gen := 0, meas := [], cache := [], log := [],
    unlogged := 0, levels := 0, tamperAt := none, cacheOrphan := false, erasing := [], newRoot := none, newState := none,
    loadLog := [], loadCnt := 0 }

end Sys2Proof.Machine
end

