-- ==== Sys2Proof/Machine/StateLeash.lean ====
section
/-! DEFINITION. State of the Leash (chapter 10) beyond its registers: inputs and their times, active sources, the self-test, the log. -/

namespace Sys2Proof.Machine

/-- One input channel: the raw count of its last edge, and whether it is de-energised as PULSE_TOL judges it (R408, R413). -/
structure LeashIn where
  at_ : Nat
  off : Bool
  deriving DecidableEq, Repr

/-- The Leash. -/
structure LeashSt where
  /-- Input A (R407, R420). -/
  a : LeashIn
  /-- Input B (R407, R420). -/
  b : LeashIn
  /-- Raw count since which the inputs have differed (R420). -/
  differ : Option Nat
  /-- While DISC is set: both inputs have been de-energised together (R420). -/
  bothOff : Bool
  /-- Software and partner sources that are active (R413). -/
  swReg : Bool
  swCmd : Bool
  partner : Bool
  /-- Monitor conditions that hold, bit MON_SRC each (R412). -/
  mon : Nat
  /-- Raw count of the accepted re-arm request (R423). -/
  armAt : Nat
  /-- Raw count of the last trip (R414), and whether it was the first since the arm (R411). -/
  tripAt : Option Nat
  tripFirst : Bool
  /-- Raw count at which the running self-test began; one that waits for it; raw count of the last one due (R424, R425). -/
  test : Option Nat
  testWaits : Bool
  testAt : Nat
  /-- LEASH_HEEL_N as qualified (R417). -/
  heelPin : Bool
  /-- The last 4 trips, newest first, 4 words each (R431). -/
  log : List (List Word)
  deriving DecidableEq, Repr

/-- The Leash after power-on: nothing energised (R409). -/
def LeashSt.reset : LeashSt :=
  { a := { at_ := 0, off := true }, b := { at_ := 0, off := true }, differ := none, bothOff := false, swReg := false, swCmd := false,
    partner := false, mon := 0, armAt := 0, tripAt := none, tripFirst := false, test := none, testWaits := false, testAt := 0, heelPin := false, log := [] }

end Sys2Proof.Machine
end

