-- ==== Sys2Proof/Machine/StateMot.lean ====
section
/-! DEFINITION. State of MOT (chapter 08): planned motion, moves, homing, step outputs, setpoint frames, groups, switch inputs. -/

namespace Sys2Proof.Machine

/-- A segment of constant jerk (R315): whole microseconds, whole unit/s³; `acc` sets the acceleration at its start, in 10^-6
unit/s² (a Drop ramp has no jerk limit, R330). -/
structure Seg where
  dur : Nat
  jerk : Int
  acc : Option Int
  deriving DecidableEq, Repr

/-- A planned state: position in unit/(6·10^18), velocity in unit/s/(2·10^12), acceleration in unit/s²/10^6, in which the
integration of rounded segments (R316) is exact. -/
structure Kin where
  p : Int
  v : Int
  a : Int
  deriving DecidableEq, Repr

/-- A plan made in a window, with the next tick boundary as its origin (R320). -/
structure Plan where
  kin : Kin
  segs : List Seg
  rev : Bool
  deriving DecidableEq, Repr

/-- A homing sequence (R344, R345): direction, mode, speed in units/s, HOME_OFS, and where it stands: 0 moving off the input,
1 stopping after that, 2 searching, 3 stopping at its end; the position at which the search began. -/
structure Homing where
  pos : Bool
  onLimit : Bool
  speed : Nat
  ofs : Int
  phase : Nat
  from_ : Int
  deriving DecidableEq, Repr

/-- One motion channel. -/
structure MotCh where
  /-- The binding in force (R310, R311). -/
  kind : Nat
  idx : Nat
  port : Nat
  /-- The planned state at the last boundary, the segments from there, and the plan that starts at the next one. -/
  kin : Kin
  segs : List Seg
  plan : Option Plan
  /-- The direction toward the target of a reversal under way, 1 or -1; 0 for none (R317). -/
  turn : Int
  /-- The command that runs, with the STATUS it is to end with, and its limits (0 the channel's). -/
  hdr : Option Handed
  status : Nat
  vlim : Nat
  alim : Nat
  jlim : Nat
  /-- A move stands: its target in 2^-16 unit. -/
  active : Bool
  /-- The target of the move, in 2^-16 unit (R315). -/
  target : Int
  /-- The route planned on (R322), its serial, departure and speed cap, STOP_U in 2^-16 mm. -/
  route : List (Nat × Bool)
  serial : Nat
  dep : Nat
  vcap : Nat
  stopU : Int
  /-- The newest grant that reached the channel during a stop, for its next refresh (R331, R415). -/
  pend : Option Grant
  /-- The rover stays at rest until a new grant or release (R326). -/
  refused : Bool
  /-- PROF_SERIAL of the next message and the last message (R327). -/
  profSerial : Nat
  profile : List Byte
  /-- Steps emitted, as a position in steps, the direction shown and the raw count of the last edge (R337, R338). -/
  step : Int
  dir : Bool
  edgeAt : Option Nat
  /-- Setpoints sent, newest first, at most 16: SEQ, APPLY_TIME in ns, position (R346, R348). -/
  sent : List (Nat × Nat × Int)
  /-- The last APPLY_TIME worked, and that of the last accepted STATUS, in ns. -/
  applied : Nat
  statusAt : Nat
  /-- The homing run (R344). -/
  homing : Option Homing
  /-- Full time of the last qualified edge, its input and its FUNC (R356). -/
  latchNs : Nat
  latchIn : Nat
  latchFn : Nat
  deriving DecidableEq, Repr

/-- An unbound channel that has not moved. -/
def MotCh.fresh : MotCh :=
  { kind := 0, idx := 0, port := 0, kin := { p := 0, v := 0, a := 0 }, segs := [], plan := none, turn := 0, hdr := none, status := 0, vlim := 0,
    alim := 0, jlim := 0, active := false, target := 0, route := [], serial := 0, dep := 0, vcap := 0, stopU := 0, pend := none, refused := false,
    profSerial := 0, profile := [], step := 0, dir := true, edgeAt := none, sent := [], applied := 0, statusAt := 0, homing := none,
    latchNs := 0, latchIn := 0, latchFn := 0 }

/-- A MOT command (R351). -/
inductive MotCmd where
  | move (ch : Nat) (rel : Bool) (target : Int) (vmax amax jmax start : Nat)
  | convoy (group start : Nat) (members : List (Nat × Int))
  | home (ch : Nat) (pos onLimit : Bool) (speed : Nat) (ofs : Int)
  | halt (ch : Nat)
  | setPos (ch : Nat) (p : Int)
  | clear (ch : Nat)
  /-- Settled at its latch: RESULT, STATUS, channel and position of the result that the next window posts in its place (R117). -/
  | done (code status ch : Nat) (pos : Int)
  deriving DecidableEq, Repr

/-- An accepted command with its header. -/
structure MotPend where
  cmd : MotCmd
  h : Handed
  deriving DecidableEq, Repr

/-- A convoy group (R333, R334): its command, its members with their distances in 2^-16 unit and starting positions, the longest
distance D, the state and the segments of the common coordinate from 0 to D, and its plan. -/
structure Group where
  h : Handed
  members : List (Nat × Int × Int)
  long : Nat
  kin : Kin
  segs : List Seg
  plan : Option Plan
  status : Nat
  deriving DecidableEq, Repr

/-- A switch input (R341, R342): its raw level, its qualified level after POL, the raw count of its last transition, the first
transition away from the qualified level with published time and the served channel's position there, and its transitions. -/
structure SwIn where
  raw : Bool
  qual : Bool
  lastAt : Nat
  away : Option (Nat × Int × Int)
  moves : List Nat
  deriving DecidableEq, Repr

def SwIn.low : SwIn := { raw := false, qual := false, lastAt := 0, away := none, moves := [] }

/-- Work of a window (R320). -/
inductive MotWork where
  | heel (c : Nat)
  | spans (c : Nat)
  | grant (g : Grant)
  | cmd (p : MotPend)
  | refresh (c : Nat)
  deriving DecidableEq, Repr

/-- MOT's hidden state. -/
structure MotSt where
  /-- The 256 channels (R313). -/
  ch : AMap MotCh
  /-- The convoy groups (R333). -/
  groups : AMap Group
  /-- The 64 inputs (R340). -/
  inp : AMap SwIn
  /-- Accepted commands that wait for their latch (R26). -/
  cmds : List MotPend
  /-- Latched commands for this tick's window, and commands with a later START_TICK. -/
  due : List MotPend
  later : List MotPend
  /-- Grants and commands carried over, in order, and rovers whose spans changed (R320). -/
  carried : List MotWork
  spans : List Nat
  /-- The tick of the last window. -/
  winTick : Option Nat
  /-- Plans in progress that T+3 ms will discard; the end of the window, ns after T (R321, R353). -/
  cut : Nat
  /-- The end of the window, ns after T (R321, R353). -/
  endNs : Nat
  /-- PROFILE messages handed to AIR in this tick (R327). -/
  toAir : List (Nat × List Byte)
  deriving DecidableEq, Repr

def MotSt.reset : MotSt :=
  { ch := [], groups := [], inp := [], cmds := [], due := [], later := [], carried := [], spans := [], winTick := none, cut := 0, endNs := 0, toAir := [] }

end Sys2Proof.Machine
end

