-- ==== Sys2Proof/Machine/StateRec.lean ====
section
/-! DEFINITION. State of the recorder and of the counters (chapter 16), of the elements of R34 and of the background schedules (R41). -/

namespace Sys2Proof.Machine

/-- A record in the store: its SEQ, trigger and bytes (R578). -/
structure Rcd where
  seq : Nat
  trig : Nat
  bytes : List Byte
  deriving DecidableEq, Repr

/-- A trigger in the record queue (R575), with what its record takes from the trigger instant (R577, R578). -/
structure RecQ where
  trig : Nat
  seq : Nat
  prot : Bool
  payload : List Byte
  opSec : Nat
  cycles : Nat
  tick : Nat
  time : Nat
  tstate : Nat
  coal : Nat
  headerOnly : Bool
  deriving DecidableEq, Repr

/-- The recorder's volatile state. -/
structure RecSt where
  /-- At most 16 triggers, oldest first. -/
  queue : List RecQ
  /-- Protected triggers that found no place: how many, and the last one's payload (R575). -/
  backlog : AMap (Nat × List Byte)
  /-- The live snapshot lists, by number (R576). -/
  lists : AMap (List Nat)
  /-- Coalesced firings per trigger, and the raw count of each trigger's last record (R574). -/
  coal : AMap Nat
  lastAt : AMap Nat
  /-- The record held in the window, with its region (R579). -/
  cursor : Option (Nat × Bool)
  /-- Blocks that have counted an overrun in the whole second held (R572 trigger 9). -/
  ovrSec : AMap Nat
  /-- Records that a reset cut short while they were written: found torn at the next start-up (R571). -/
  torn : Nat
  deriving DecidableEq, Repr

/-- Why a counter dump is due (R585): 0 PERIODIC, 1 COMMAND, 2 START, with the command's header for COMMAND. -/
structure Dump where
  reason : Nat
  tag : Nat
  noResult : Bool
  acceptTick : Nat
  deriving DecidableEq, Repr

/-- PERF's state: accumulators by catalogue index, counts of the tick in progress, the page's header (R582, R588). -/
structure PerfSt where
  /-- The accumulators, by catalogue index (R582, R583). -/
  acc : AMap Nat
  /-- Counts not yet in the accumulators (R582). -/
  pend : AMap Nat
  /-- PSEQ (R588). -/
  pseq : Nat
  /-- TICK of the latch (R588). -/
  latchTick : Nat
  /-- TIME of the latch (R588). -/
  latchTime : Nat
  /-- PWR_OP_SEC at the latch (R588). -/
  latchOp : Nat
  /-- PWR_CYCLE_CNT at the latch (R588). -/
  latchCyc : Nat
  /-- Dumps asked for at the next boundary, and dumps due since the last one, with whether ring 5 was READY there. -/
  asked : List Dump
  due : List (Dump × Bool)
  deriving DecidableEq, Repr

/-- One element of R34: the ticks of its counted faults, whether it is in retry, and the tick in which its restore ended. -/
structure Elem where
  faults : List Nat
  retry : Bool
  restored : Option Nat
  deriving DecidableEq, Repr

/-- An element without a fault. -/
def Elem.good : Elem := { faults := [], retry := false, restored := none }

/-- The background schedules of R41: bursts of the LPDDR pass done, the raw count of the last burst, the thousandths of
the tables checked in the present pass and the tick of the last check, erase blocks refreshed and the raw count of the last. -/
structure BackSt where
  scrubPos : Nat
  scrubAt : Nat
  parityPos : Nat
  parityTick : Nat
  flashPos : Nat
  flashAt : Nat
  deriving DecidableEq, Repr

def RecSt.reset : RecSt := { queue := [], backlog := [], lists := [], coal := [], lastAt := [], cursor := none, ovrSec := [], torn := 0 }

def PerfSt.reset : PerfSt :=
  { acc := [], pend := [], pseq := 0, latchTick := 0, latchTime := 0, latchOp := 0, latchCyc := 0, asked := [], due := [] }

def BackSt.reset : BackSt := { scrubPos := 0, scrubAt := 0, parityPos := 0, parityTick := 0, flashPos := 0, flashAt := 0 }

end Sys2Proof.Machine
end

