-- ==== Sys2Proof/Machine/StatePwr.lean ====
section
/-! DEFINITION. State of PWR (chapter 15) beyond its registers, and what the flash and the MRAM keep (R560). -/

namespace Sys2Proof.Machine

/-- PWR's hidden state. -/
structure PwrSt where
  /-- 0: main power on; 1: HIBERNATE; 2: OFF (R549). -/
  mode : Nat
  /-- The step of R563 last completed, and FAILED (R565). -/
  step : Nat
  failed : Bool
  /-- KIND of the start-up begun (R555), whether it is an activation restart or a trial rollback, and the raw count at which its reset began. -/
  kind : Nat
  activation : Bool
  resetAt : Nat
  /-- PWR_OP_SEC and KEN_AON_SEC at the reset (R568). -/
  opAtReset : Nat
  aonAtReset : Nat
  /-- The tick in which the Heel of DOZE_ENTRY was planned (R550 step 5). -/
  heelTick : Option Nat
  /-- Raw count of the last TOKEN sent (R550 step 6). -/
  lastToken : Nat
  /-- Raw count of the RUN request in DOZE (R552). -/
  wakeAt : Nat
  /-- A HIBERNATE request in DOZE waits for its boundary (R550 step 8). -/
  hibPending : Bool
  /-- Domains switched on and settling, with the apply instant (R548). -/
  settling : AMap Nat
  /-- PWR_DOM_EN as applied in DOZE, held until WAKING (R554). -/
  domHeld : Option Nat
  /-- Raw count of the last watchdog feed (R558). -/
  fedAt : Nat
  /-- Raw count of the last second counted in PWR_OP_SEC (R566). -/
  opAt : Nat
  /-- Blocks soft-reset in this tick, which resume at the next boundary (R559). -/
  softBlocks : Nat
  /-- AON seconds at a raw count (R560, R568). -/
  aonBase : Nat
  aonRaw : Nat
  /-- AON has powered up from nothing since the last start-up: its registers come from the settings store (R521, R555). -/
  aonFresh : Bool
  /-- Raw count at which the TIME domain was powered: the raw counter started at 0 there (R220). -/
  rawBase : Nat
  /-- VBAT is present within 2.5 V to 3.6 V; the AON domain is powered (R555, R560). -/
  vbatOk : Bool
  aonOk : Bool
  deriving DecidableEq, Repr

/-- PWR at the start of a power-on reset. -/
def PwrSt.reset : PwrSt :=
  { mode := 0, step := 0, failed := false, kind := 1, activation := false, resetAt := 0, opAtReset := 0, aonAtReset := 0,
    heelTick := none, lastToken := 0, wakeAt := 0, hibPending := false, settling := [], domHeld := none,
    fedAt := 0, opAt := 0, softBlocks := 0, aonBase := 0, aonRaw := 0, aonFresh := true, rawBase := 0, vbatOk := true, aonOk := true }

/-- What flash, fuses and MRAM keep through every reset and power state (R560), except the Kennel's and UPD's own parts. -/
structure NvSt where
  /-- The settings store: register values by BAR0 offset, snapshot lists and lists (R12, R560). -/
  settings : AMap Word
  snap : AMap (List Nat)
  /-- The key list: a blob per slot (R507). -/
  keys : AMap (List Byte)
  /-- The retirement map: (kind, index) of every retired element (R37). -/
  retired : List (Nat × Nat)
  /-- The recorder's regions, oldest first, and the next SEQ (R569, R570). -/
  prot : List Rcd
  ring : List Rcd
  /-- The next SEQ (R570). -/
  seqNext : Nat
  /-- MRAM copies of the operating counts (R566). -/
  opSec : Nat
  cycles : Nat
  /-- Airtime bins per band: second of elapsed time to microseconds, bands 0 to 2, and 3 to 5 the DROP share of each (R394, R561). -/
  bins : AMap (AMap Nat)
  /-- The last start-ups, newest first, four words each (R568). -/
  resetLog : List (List Word)
  deriving DecidableEq, Repr

/-- The settings store as shipped names only the schedule of PULSE0 (R239): START 0, PERIOD one second, WIDTH 100 ms,
enabled; its registers are written as offsets here because `R` names them alike. -/
def NvSt.asShipped : NvSt :=
  { settings := [(0x2100, 1), (0x210C, 1000000000), (0x2110, 100000000)], snap := [], keys := [], retired := [], prot := [], ring := [], seqNext := 0, opSec := 0, cycles := 0, bins := [], resetLog := [] }

end Sys2Proof.Machine
end

