-- ==== Sys2Proof/Machine/StateSw.lean ====
section
/-! DEFINITION. State of the switch (chapter 11): tables, the learn queue, egress queues, the port P9. -/

namespace Sys2Proof.Machine

/-- An entry of the MAC table (R437, R438, R441, R453). -/
structure MacEnt where
  mac : Nat
  vid : Nat
  port : Nat
  sub : Nat
  static_ : Bool
  hit : Bool
  pinned : Bool
  moves : Nat
  /-- Raw count at which PINNED clears. -/
  pinTill : Nat
  deriving DecidableEq, Repr

/-- A VLAN entry: MEMBER and UNTAG sets (R451). -/
structure Vlan where
  member : Nat
  untag : Nat
  valid : Bool
  deriving DecidableEq, Repr

/-- A router interface (R444, R451). -/
structure Rif where
  v4 : Bool
  v6 : Bool
  vid : Nat
  ip4 : Nat
  len4 : Nat
  ip6 : Nat
  deriving DecidableEq, Repr

/-- A next hop (R444, R451). -/
structure NextHop where
  valid : Bool
  mac : Nat
  vid : Nat
  deriving DecidableEq, Repr

/-- A prefix of a family: its bits left-aligned, its length, its next hop (R445). -/
structure Prefix where
  bits : Nat
  len : Nat
  nh : Nat
  deriving DecidableEq, Repr

/-- An event of the learn queue (R440, R442). -/
inductive SwEvent where
  | learn (port mac vid sub : Nat)
  | linkDown (port : Nat)
  | parity (index : Nat)
  | add (h : Handed) (mac vid port sub : Nat)
  | del (h : Handed) (mac vid : Nat)
  | flush (h : Handed) (port : Nat) (statics : Bool) (vid : Nat)
  deriving DecidableEq, Repr

/-- A frame in an egress queue: its bytes, and published time at its ingress with the ingress port when it is bridged (R247). -/
structure EgFrame where
  data : List Byte
  inTime : Option Int
  inPort : Nat
  deriving DecidableEq, Repr

/-- A frame queued for P9 (R438): its bytes, the raw count of its entry, the rover (0 a broadcast element), and the WB channels it
has still to be sent on. -/
structure AirFrame where
  data : List Byte
  inRaw : Nat
  sub : Nat
  chans : List Nat
  deriving DecidableEq, Repr

/-- The switch's hidden state. -/
structure SwSt where
  /-- MAC table: index 4 × set + way (R437). -/
  mac : AMap MacEnt
  /-- The VLAN table (R435). -/
  vlan : AMap Vlan
  /-- The router interfaces (R444). -/
  rif : AMap Rif
  /-- The next hops (R445). -/
  nh : AMap NextHop
  /-- The IPv4 prefixes (R446). -/
  routes4 : List Prefix
  /-- The IPv6 prefixes (R446). -/
  routes6 : List Prefix
  /-- The learn queue, oldest first (R440). -/
  events : List SwEvent
  /-- Commands that wait for room in the learn queue (R440). -/
  waiting : List SwEvent
  /-- Sources refused by a LIMIT with LIMIT_ACT DROP: port, address, VID (R441). -/
  refused : List (Nat × Nat × Nat)
  /-- Egress queues of P0 to P7, key 4 × port + queue, and bytes each has sent since the port was last idle (R439). -/
  egress : AMap (List EgFrame)
  served : AMap Nat
  /-- Frames queued for P9 (R438). -/
  air : List AirFrame
  /-- The loop log: MAC entry words and tick, newest first (R453). -/
  loops : List (MacEnt × Nat)
  /-- The whole second in which MOVES were last reset (R441). -/
  moveSec : Nat
  /-- Raw count of the last aging pass (R443). -/
  agedAt : Nat
  /-- 48-bit byte counters, key 2 × port + direction (R454). -/
  bytes : AMap Nat
  /-- Table entries that fail parity: table × 2^22 + index (R447). -/
  bad : List Nat
  /-- Residence of a Sync whose Follow_Up is awaited, by its identity and sequence, in 2^-16 ns (R247). -/
  sync : List (Nat × Int)
  deriving DecidableEq, Repr

def SwSt.reset : SwSt :=
  { mac := [], vlan := [], rif := [], nh := [], routes4 := [], routes6 := [], events := [], waiting := [], refused := [], egress := [],
    served := [], air := [], loops := [], moveSec := 0, agedAt := 0, bytes := [], bad := [], sync := [] }

end Sys2Proof.Machine
end

