-- ==== Sys2Proof/Machine/StateTime.lean ====
section
/-! DEFINITION. State of TIME (chapter 06) beyond its registers and the timebase itself. -/

namespace Sys2Proof.Machine

/-- A pulse output in service (R239, R240). -/
structure PulseSt where
  /-- Full time of the next scheduled edge, ns. -/
  next : Option Nat
  /-- The output is at its active level, until the published time held (ns). -/
  activeTill : Option Nat
  /-- Full time of the last scheduled edge that has been emitted or passed (R240: none emitted twice). -/
  last : Option Nat
  deriving DecidableEq, Repr

/-- An output without a schedule. -/
def PulseSt.none : PulseSt := { next := Option.none, activeTill := Option.none, last := Option.none }

/-- One capture (R242): full time in ns, fraction, and whether the edge rose. -/
structure Capture where
  ns : Nat
  frac : Nat
  rise : Bool
  deriving DecidableEq, Repr

/-- One capture input: its FIFO, oldest first (at most 16), and the raw count of its last edge (R243). -/
structure CapIn where
  fifo : List Capture
  lastEdge : Option Nat
  deriving DecidableEq, Repr

/-- A capture input with nothing queued. -/
def CapIn.empty : CapIn := { fifo := [], lastEdge := none }

/-- A step waiting for its whole second: the published time at which it is taken, the change of published time, whether
it is an initial set, whether host software set it, and with what declared uncertainty in ns (R233, R234, R237). -/
structure StepPend where
  at_ : Int
  delta : Int
  initial : Bool
  byHost : Bool
  unc : Nat
  deriving DecidableEq, Repr

/-- What a PTP port holds of the best foreign master heard (R246). -/
structure Foreign where
  /-- Its Announce data set as one comparable number list: priority1, class, accuracy, variance, priority2, identity, steps. -/
  data : List Nat
  /-- Raw count at which its last Announce arrived (R246). -/
  lastRaw : Nat
  /-- Its logMessageInterval, from which the announce timeout follows (R246). -/
  interval : Int
  /-- Its data set is better than this clock's (R246). -/
  better : Bool
  deriving DecidableEq, Repr

/-- TIME's hidden state. -/
structure TimeSt where
  /-- The eight pulse outputs (R239, R240). -/
  pulses : AMap PulseSt
  /-- The four capture inputs (R242, R243). -/
  caps : AMap CapIn
  /-- Frequency and slew parts of `TIME_RATE` (R226, R232). -/
  freq : Int
  slew : Int
  /-- The slew part is that of a return (R233). -/
  slewOn : Bool
  /-- Last error E, published minus source, in ps (R226). -/
  err : Option Int
  /-- A new measurement since the last boundary, in ps, from EXT or PARTNER (R226). -/
  newErr : Option Int
  /-- Consecutive boundaries with a valid measurement, and without (R229, R233). -/
  validRun : Nat
  missRun : Nat
  /-- Raw count since which the source has been valid without a break (R233). -/
  validSince : Option Nat
  /-- Raw count of the last valid source measurement (R231). -/
  lastValid : Nat
  /-- U0 in ps, the temperature at the model's origin and the largest change since, both in 0.01 °C, and the origin's full time (R231, R257). -/
  u0 : Nat
  temp0 : Int
  dT : Nat
  origin : Nat
  /-- Raw count at which the current or last holdover began. -/
  hoStart : Nat
  /-- The step that waits for its whole second (R234, R236). -/
  step : Option StepPend
  /-- Time has been set by hand (R245) and no source has been valid since. -/
  handSet : Bool
  /-- A source has been valid since power-on (R234). -/
  everSource : Bool
  /-- A gross error, or the first source, waits for its initial set (R234). -/
  wantInit : Bool
  /-- Raw count of the last valid PPS_IN edge (R228). -/
  ppsAt : Option Nat
  /-- The partner's time state and uncertainty, as last heard (R225, R229). -/
  partner : Option (Nat × Nat)
  /-- Leap-second data: offset, leap59, leap61 (R245). -/
  leap : Option (Nat × Bool × Bool)
  /-- The best foreign master heard on each PTP port (R246). -/
  foreign : AMap Foreign
  /-- PTP sequence numbers, and raw counts of the last sending, by 4 × port + kind (0 Announce, 1 Sync, 2 Pdelay_Req). -/
  ptpSeq : AMap Nat
  ptpLast : AMap Nat
  /-- MISS reached 3 in DOZE since the last boundary (R229 step 2). -/
  dozeLost : Bool
  /-- The holdover model of R231 runs. -/
  hoOn : Bool
  /-- Raw count since which the configured source has been valid without a break, whatever the role (R249). -/
  cfgSince : Option Nat
  deriving DecidableEq, Repr

/-- TIME after power-on. -/
def TimeSt.reset : TimeSt :=
  { pulses := [], caps := [], freq := 0, slew := 0, slewOn := false, err := none, newErr := none, validRun := 0, missRun := 0,
    validSince := none, lastValid := 0, u0 := 0, temp0 := 0, dT := 0, origin := 0, hoStart := 0, step := none,
    handSet := false, everSource := false, wantInit := false, ppsAt := none, partner := none, leap := none, foreign := [],
    ptpSeq := [], ptpLast := [], dozeLost := false, hoOn := false, cfgSince := none }

end Sys2Proof.Machine
end

