-- ==== Sys2Proof/Machine/StateUpd.lean ====
section
/-! DEFINITION. State of UPD (chapter 14) beyond its registers: bank sets, boot record, staging area, settings copies, schedule. -/

namespace Sys2Proof.Machine

/-- A bank set (R523, R545): its manifest facts and the images of its eight parts, in PART_ID order. -/
structure Bank where
  valid : Bool
  fwVer : Nat
  fwBuild : Nat
  svn : Nat
  setFmt : Nat
  setFrom : Nat
  parts : List (List Byte)
  deriving DecidableEq, Repr

/-- A bank set nothing was installed in. -/
def Bank.none : Bank := { valid := false, fwVer := 0, fwBuild := 0, svn := 0, setFmt := 0, setFrom := 0, parts := List.replicate 8 [] }

/-- The bank set a module is shipped with: Liroron 3.2.0 (R89); what its parts contain the spec does not say (log entry 4). -/
def Bank.shipped : Bank :=
  { valid := true, fwVer := 0x00030200, fwBuild := 0, svn := 0, setFmt := 1, setFrom := 1, parts := List.replicate 8 [] }

/-- One copy of the boot record (R524, R525): the running bank set, the previous one is the other; TRIAL and its boot count. -/
structure BootRec where
  seq : Nat
  valid : Bool
  run : Nat
  trial : Bool
  count : Nat
  deriving DecidableEq, Repr

/-- A copy of the settings store (R536): register values, snapshot lists, and the format they are written in. -/
structure SetCopy where
  regs : AMap Word
  snap : AMap (List Nat)
  keys : AMap (List Byte)
  fmt : Nat
  deriving DecidableEq, Repr

/-- A manifest part entry (R526). -/
structure PartEnt where
  id : Nat
  kind : Nat
  off : Nat
  len : Nat
  imgLen : Nat
  digest : List Byte
  base : List Byte
  deriving DecidableEq, Repr

/-- The header of the INSTALL in progress and the accepting tick (R543). -/
structure UpdHdr where
  tag : Nat
  noResult : Bool
  acceptTick : Nat
  deriving DecidableEq, Repr

/-- UPD. -/
structure UpdSt where
  /-- Bank sets 0 and 1 (R523). -/
  banks : AMap Bank
  /-- The two copies of the boot record. -/
  bootA : BootRec
  bootB : BootRec
  /-- The other bank set is bootable (R524). -/
  prevValid : Bool
  /-- The staging area, and the manifest header of the package that passed VERIFY (R545). -/
  staged : List Byte
  verified : List Byte
  /-- The INSTALL in progress (R543). -/
  inst : Option UpdHdr
  /-- Settings copies other than the one in use: the current copy while a trial runs, and the previous copy (R536, R538). -/
  setCur : Option SetCopy
  setPrev : Option SetCopy
  /-- The format the settings store in use is written in (R536). -/
  fmt : Nat
  /-- The scheduled activation: AT_TICK as a whole tick number, paired, and whether it is a ROLLBACK (R532, R539). -/
  at_ : Option Nat
  pair : Bool
  back : Bool
  /-- From 10 ticks before AT_TICK a firmware restart is in progress (R533). -/
  closed : Bool
  /-- Raw count at which an active unit began to wait for its partner; the handover's boundary once it has begun (R535). -/
  pairAt : Option Nat
  pairB : Option Nat
  /-- Raw count of the trial's first tick. -/
  trialAt : Option Nat
  /-- LAST that the next start-up records, and whether the boot ROM fell back (R537, PWR_RESET_CAUSE). -/
  lastDue : Option Nat
  fellBack : Bool
  /-- A ROLLBACK in a trial waits for the next tick boundary. -/
  rollNow : Bool
  /-- The tick of the last CONFIRM accepted (R540). -/
  confAt : Option Nat
  /-- UPD_STAT.PAIR: the last activation was paired (R544). -/
  paired : Bool
  /-- Fuses blown (R530), and UPD_STAT.LAST as kept through resets (R537). -/
  fused : Nat
  last : Nat
  deriving DecidableEq, Repr

/-- UPD of a module as shipped: bank set A runs, nothing staged. -/
def UpdSt.reset : UpdSt :=
  { banks := [(0, Bank.shipped)], bootA := { seq := 1, valid := true, run := 0, trial := false, count := 0 }
    bootB := { seq := 0, valid := true, run := 0, trial := false, count := 0 }
    prevValid := false, staged := [], verified := [], inst := none, setCur := none, setPrev := none, fmt := 1, at_ := none, pair := false,
    back := false, closed := false, pairAt := none, pairB := none, trialAt := none, lastDue := none, fellBack := false, rollNow := false,
    confAt := none, paired := false, fused := 0, last := 0 }

end Sys2Proof.Machine
end

