-- ==== Sys2Proof/Machine/State.lean ====
section
/-! DEFINITION. The state of the PN-9256: the timebase, the module's registers and internal state, the commands waiting. -/

namespace Sys2Proof.Machine

/-- Everything in the module but the timebase and the queue. -/
structure Mod where
  /-- Live copy of every register, by BAR0 offset; an unlisted offset holds its reset value (R71). -/
  live : AMap Word
  /-- Shadow copy of every STB and TCK register (R71). -/
  shadow : AMap Word
  /-- What the last command put outside the module (log entry 5). -/
  out : List Out
  /-- How many free values have been taken: the model's own field (log entry 2). -/
  seed : Nat
  glb : GlbSt
  ring : RingBlk
  gnss : GnssSt
  time : TimeSt
  pack : PackSt
  shep : ShepSt
  mot : MotSt
  sw : SwSt
  air : AirSt
  leash : LeashSt
  pwr : PwrSt
  rcd : RecSt
  perf : PerfSt
  elem : AMap Elem
  back : BackSt
  ken : KenSt
  brace : BraceSt
  upd : UpdSt
  nv : NvSt
  deriving DecidableEq, Repr

/-- The module right after a power-on reset has begun (R555 kind 1, R563). -/
def Mod.reset : Mod :=
  { live := [], shadow := [], out := [], seed := 0, glb := GlbSt.reset, ring := RingBlk.reset, gnss := GnssSt.reset,
    time := TimeSt.reset, pack := PackSt.reset, shep := ShepSt.reset, mot := MotSt.reset, sw := SwSt.reset, air := AirSt.reset, leash := LeashSt.reset, pwr := PwrSt.reset, rcd := RecSt.reset,
    perf := PerfSt.reset, elem := [], back := BackSt.reset,
    ken := KenSt.reset, brace := BraceSt.reset, upd := UpdSt.reset, nv := NvSt.asShipped }

/-- The machine: the timebase, the module, and the commands that wait, first in, first out. -/
structure State where
  clk : Clock
  m : Mod
  pending : List Instr
  deriving DecidableEq, Repr

/-- Why a command stops the machine. Every command of the table has an effect by the spec, so nothing raises it: safe. -/
inductive Fault where
  /-- The spec gives the command no effect in this state: raised by no command (safe). -/
  | specSilent (what : String)
  deriving DecidableEq, Repr

/-- Why a command is not run. -/
inductive Refusal where
  /-- The model has no meaning for the command yet; raised by the dispatcher alone (safe: the machine stops). -/
  | notModelled (mnemonic : String)
  deriving DecidableEq, Repr

/-- The machine right after power-on: start-up has begun and no command waits (R12, R563). -/
def State.reset : State := { clk := Clock.powerOn, m := Mod.reset, pending := [] }

end Sys2Proof.Machine
end

