-- ==== Sys2Proof/Machine/Ops.lean ====
section
/-! DEFINITION. The named operations over the state that every meaning is written in: register copies and fields,
free values, time, events and interrupts, errors, counters, recorder triggers, items for rings, and R42's outputs. -/

namespace Sys2Proof.Machine

/-- Bits [hi:lo] of a number (R9). -/
def bitsOf (n hi lo : Nat) : Nat := n / 2 ^ lo % 2 ^ (hi + 1 - lo)

/-- A number with bits [hi:lo] replaced (R9). -/
def putBits (n hi lo v : Nat) : Nat := n - bitsOf n hi lo * 2 ^ lo + v % 2 ^ (hi + 1 - lo) * 2 ^ lo

/-- A `w`-bit number read as two's complement. -/
def signed (w n : Nat) : Int := if n % 2 ^ w < 2 ^ (w - 1) then (n % 2 ^ w : Nat) else ((n % 2 ^ w : Nat) : Int) - (2 ^ w : Nat)

/-- The `w`-bit two's complement pattern of a signed number. -/
def unsigned (w : Nat) (i : Int) : Nat := (i % ((2 ^ w : Nat) : Int)).toNat

/-- The signed 32-bit difference of two tick counter values (R188). -/
def tickDiff (a b : Nat) : Int := signed 32 (a % 4294967296 + 4294967296 - b % 4294967296)

/-- A number cut to a signed range. -/
def clampI (lo hi v : Int) : Int := max lo (min hi v)

/-- The `n` bytes of a number, least significant first (R8). -/
def le : Nat → Nat → List Byte
  | 0, _ => []
  | n + 1, v => BitVec.ofNat 8 v :: le n (v / 256)

/-- The number that bytes spell, least significant first (R8). -/
def ofLe : List Byte → Nat
  | [] => 0
  | b :: t => b.toNat + 256 * ofLe t

/-- `n` bytes from an offset, read least significant first. -/
def leAt (d : List Byte) (off n : Nat) : Nat := ofLe ((d.drop off).take n)

/-- One bit of CRC-32C (R81). -/
def crcBit (c : Nat) : Nat := if c % 2 = 1 then (c / 2) ^^^ 0x82F63B78 else c / 2

/-- One byte of CRC-32C. -/
def crcByte (c : Nat) (b : Byte) : Nat :=
  crcBit (crcBit (crcBit (crcBit (crcBit (crcBit (crcBit (crcBit (c ^^^ b.toNat))))))))

/-- CRC-32C: initial value all ones, result inverted (R81). -/
def crc32c (d : List Byte) : Nat := (d.foldl crcByte 0xFFFFFFFF) ^^^ 0xFFFFFFFF

/-! ## Registers and fields -/

/-- The live copy of the register at an offset. -/
def Mod.rd (m : Mod) (a : Nat) : Nat := (AMap.get regReset m.live a).toNat

/-- The shadow copy of the register at an offset (R71). -/
def Mod.rdSh (m : Mod) (a : Nat) : Nat := (AMap.get regReset m.shadow a).toNat

/-- Stores into the live copy of a register. -/
def Mod.wr (m : Mod) (a v : Nat) : Mod := { m with live := AMap.put regReset a (BitVec.ofNat 32 v) m.live }

/-- Stores into the shadow copy of a register. -/
def Mod.wrSh (m : Mod) (a v : Nat) : Mod := { m with shadow := AMap.put regReset a (BitVec.ofNat 32 v) m.shadow }

/-- The live value of a field. -/
def Mod.fld (m : Mod) (f : Fld) : Nat := bitsOf (m.rd f.off) f.hi f.lo

/-- The live value of a field of the given register copy read as two's complement. -/
def Mod.fldI (m : Mod) (f : Fld) : Int := signed (f.hi + 1 - f.lo) (m.fld f)

/-- Whether the live value of a field is not 0. -/
def Mod.on (m : Mod) (f : Fld) : Bool := m.fld f != 0

/-- Replaces a field of the live copy. -/
def Mod.setF (m : Mod) (f : Fld) (v : Nat) : Mod := m.wr f.off (putBits (m.rd f.off) f.hi f.lo v)

/-- Replaces a one-bit field of the live copy. -/
def Mod.setB (m : Mod) (f : Fld) (b : Bool) : Mod := m.setF f (if b then 1 else 0)

/-- Whether a bit of the live copy is 1. -/
def Mod.bit (m : Mod) (a i : Nat) : Bool := (m.rd a).testBit i

/-- Sets a bit of the live copy. -/
def Mod.setBit (m : Mod) (a i : Nat) : Mod := m.wr a (m.rd a ||| 2 ^ i)

/-- Clears a bit of the live copy. -/
def Mod.clrBit (m : Mod) (a i : Nat) : Mod := m.wr a (m.rd a &&& (0xFFFFFFFF - 2 ^ i))

/-- Gives a bit of the live copy a value. -/
def Mod.putBit (m : Mod) (a i : Nat) (b : Bool) : Mod := if b then m.setBit a i else m.clrBit a i

/-- A 32-bit counter adds 1 and wraps (R70). -/
def Mod.inc (m : Mod) (a : Nat) : Mod := m.wr a (m.rd a + 1)

/-- A 32-bit counter adds `n` and wraps (R70). -/
def Mod.incBy (m : Mod) (a n : Nat) : Mod := m.wr a (m.rd a + n)

/-- A counter field adds 1 and wraps modulo its width (R70). -/
def Mod.incF (m : Mod) (f : Fld) : Mod := m.setF f (m.fld f + 1)

/-- A counter field adds 1 and stays at its largest value. -/
def Mod.satF (m : Mod) (f : Fld) : Mod := if m.fld f + 1 < 2 ^ (f.hi + 1 - f.lo) then m.setF f (m.fld f + 1) else m

/-- A signed 32-bit register. -/
def Mod.rdI (m : Mod) (a : Nat) : Int := signed 32 (m.rd a)

/-- Stores a signed number into a 32-bit register. -/
def Mod.wrI (m : Mod) (a : Nat) (v : Int) : Mod := m.wr a (unsigned 32 v)

/-- Applies an update when a condition holds. -/
def Mod.when (m : Mod) (c : Bool) (f : Mod → Mod) : Mod := if c then f m else m

/-- Applies an update for every entry of a list, in order. -/
def Mod.each {α : Type} (m : Mod) (l : List α) (f : Mod → α → Mod) : Mod := l.foldl f m

/-! ## Free values and emissions -/

/-- A free number at a site; `Mod.took` must follow so that the next one differs (log entry 2). -/
def Mod.freeN (m : Mod) (site : Nat) : Nat := Config.freeNat site m.seed

/-- A free signed number (log entry 2). -/
def Mod.freeI (m : Mod) (site : Nat) : Int := Config.freeInt site m.seed

/-- A free choice (log entry 2). -/
def Mod.freeB (m : Mod) (site : Nat) : Bool := Config.freeBool site m.seed

/-- Counts a free value as taken. -/
def Mod.took (m : Mod) : Mod := { m with seed := m.seed + 1 }

/-- Puts something outside the module, after what the same command put out before. -/
def Mod.emit (m : Mod) (o : Out) : Mod := { m with out := m.out ++ [o] }

/-! ## Power domains and blocks (R51, R59, R87, R546) -/

/-- The block bit of R87 that a BAR0 offset belongs to; GLB has none. -/
def blockOf (a : Nat) : Option Nat :=
  if a < 0x1000 then none else if a < 0x2000 then some 0 else if a < 0x4000 then some 1
  else if a < 0x6000 then some 2 else if a < 0x7000 then some 3 else if a < 0x8000 then some 4
  else if a < 0x9000 then some 5 else if a < 0xA000 then some 6 else if a < 0xB000 then some 7
  else if a < 0x10000 then some 8 else if a < 0x40000 then some 9 else if a < 0x50000 then some 10
  else if a < 0x60000 then some 11 else if a < 0x80000 then some 12 else if a < 0x90000 then some 13
  else if a < 0xA0000 then some 14 else some 15

/-- The power domain of each block (R546). -/
def domOf : Nat → Nat
  | 1 => 3 | 5 => 2 | 6 => 2 | 9 => 5 | 10 => 6 | 12 => 11 | 13 => 10 | 14 => 8 | _ => 1

/-- Whether a domain is powered: its bit of PWR_DOM_STAT (R546). -/
def Mod.domOn (m : Mod) (d : Nat) : Bool := m.bit R.PWR_DOM_STAT d

/-- Whether a block's domain is powered (R59). -/
def Mod.blkOn (m : Mod) (b : Nat) : Bool := m.domOn (domOf b)

/-- KEN_AON_SEC: whole seconds since the AON domain last powered up from nothing (R521); 0 while it is unpowered. -/
def Mod.aonSec (m : Mod) (k : Clock) : Nat :=
  if m.pwr.aonOk then (m.pwr.aonBase + (k.raw - m.pwr.aonRaw) / 1250000000) % 4294967296 else 0

/-- BAR0 and BAR2 respond: from step 9 of R563 to the next reset (R565). -/
def Mod.barUp (m : Mod) : Bool := m.pwr.mode == 0 && decide (9 ≤ m.pwr.step)

/-- The first tick has begun: step 10 of R563. -/
def Mod.running (m : Mod) : Bool := m.pwr.mode == 0 && m.pwr.step == 10

/-- Whether a block is powered and Liroron runs. -/
def Mod.live? (m : Mod) (b : Nat) : Bool := m.barUp && m.blkOn b

/-! ## Interrupts and events (R90, R91, R123, R125) -/

/-- A source sends its message on its vector, or sets the vector's pending bit while the vector is masked (R125). -/
def Mod.sendMsg (m : Mod) (src : Nat) : Mod :=
  let v := bitsOf (m.rd (R.RING_VEC_MAP (src / 4))) (8 * (src % 4) + 4) (8 * (src % 4))
  if m.ring.msixMask.testBit v then { m with ring := { m.ring with msixPend := m.ring.msixPend ||| 2 ^ v } }
  else m.emit (.msix v)

/-- An interrupt source is raised: its status bit sets, and a message goes out when the bit was 0 and is enabled (R125). -/
def Mod.raise (m : Mod) (src : Nat) : Mod :=
  let m' := m.setBit R.RING_IRQ_STAT src
  if !m.bit R.RING_IRQ_STAT src && m.bit R.RING_IRQ_EN src then m'.sendMsg src else m'

/-- An event bit sets; the block's source is raised when the bit was 0 and is enabled (log entry 11). -/
def Mod.evt (m : Mod) (reg en bit src : Nat) : Mod :=
  if m.bit reg bit then m
  else if m.bit en bit then (m.setBit reg bit).raise src else m.setBit reg bit

/-- What the first error of GLB_ERR captures in GLB_ERR_ADDR (R91). -/
def errWord (bit off : Nat) : Nat := 2147483648 + bit * 16777216 + off % 16777216

/-- The first error since GLB_ERR read 0 is captured in GLB_ERR_ADDR (R91). -/
def Mod.errCapture (m : Mod) (bit off : Nat) : Mod := if m.rd R.GLB_ERR = 0 then m.wr R.GLB_ERR_ADDR (errWord bit off) else m

/-- A GLB error: its bit of `GLB_ERR`, the first capture in `GLB_ERR_ADDR`, and source 0 (R90, R91). -/
def Mod.glbErr (m : Mod) (bit off : Nat) : Mod := (m.errCapture bit off).evt R.GLB_ERR R.GLB_ERR_IRQ_EN bit 0

def Mod.pwrEvt (m : Mod) (b : Nat) : Mod := m.evt R.PWR_EVT R.PWR_EVT_EN b 12
def Mod.timeEvt (m : Mod) (b : Nat) : Mod := m.evt R.TIME_EVT R.TIME_EVT_EN b 13
def Mod.perfEvt (m : Mod) (b : Nat) : Mod := m.evt R.PERF_EVT R.PERF_EVT_EN b 14
def Mod.recEvt (m : Mod) (b : Nat) : Mod := m.evt R.REC_EVT R.REC_EVT_EN b 15
def Mod.leashEvt (m : Mod) (b : Nat) : Mod := m.evt R.LEASH_EVT R.LEASH_EVT_EN b 16
def Mod.braceEvt (m : Mod) (b : Nat) : Mod := m.evt R.BRACE_EVT R.BRACE_EVT_EN b 17
def Mod.kenEvt (m : Mod) (b : Nat) : Mod := m.evt R.KEN_EVT R.KEN_EVT_EN b 18
def Mod.updEvt (m : Mod) (b : Nat) : Mod := m.evt R.UPD_EVT R.UPD_EVT_EN b 19
def Mod.gnssEvt (m : Mod) (b : Nat) : Mod := m.evt R.GNSS_EVT R.GNSS_EVT_EN b 20
def Mod.packEvt (m : Mod) (b : Nat) : Mod := m.evt R.PACK_EVT R.PACK_EVT_EN b 21
def Mod.shepEvt (m : Mod) (b : Nat) : Mod := m.evt R.SHEP_EVT R.SHEP_EVT_EN b 22
def Mod.motEvt (m : Mod) (b : Nat) : Mod := m.evt R.MOT_EVT R.MOT_EVT_EN b 23
def Mod.motChEvt (m : Mod) (c b : Nat) : Mod := m.evt (R.MOT_CH_EVT c) (R.MOT_CH_EVT_EN c) b 23
def Mod.airEvt (m : Mod) (b : Nat) : Mod := m.evt R.AIR_EVT R.AIR_EVT_EN b 24
def Mod.swEvt (m : Mod) (b : Nat) : Mod := m.evt R.SW_EVT R.SW_EVT_EN b 25
def Mod.linkEvt (m : Mod) (r b : Nat) : Mod := m.evt (R.ROVER_LINK_EVT r) (R.ROVER_LINK_EVT_EN r) b 26

/-- A source of R417 sets its bit of HEEL_SRC: 0 pin, 1 command, 2 configuration check; the first one sets HEEL_START. -/
def Mod.heelSet (m : Mod) (src : Nat) : Mod :=
  let old := m.fld F.LEASH_STAT_HEEL_SRC
  let m := m.setF F.LEASH_STAT_HEEL_SRC (old ||| 2 ^ src)
  if old = 0 then m.leashEvt 6 else m

/-- Sources clear their bits of HEEL_SRC; when the last one clears, HEEL_END sets (R419). -/
def Mod.heelClr (m : Mod) (mask : Nat) : Mod :=
  let old := m.fld F.LEASH_STAT_HEEL_SRC
  let new := old &&& (7 - mask % 8)
  let m := m.setF F.LEASH_STAT_HEEL_SRC new
  if old ≠ 0 ∧ new = 0 then m.leashEvt 7 else m

/-! ## States that R42 combines -/

/-- BRACE_STAT.ROLE: 0 SINGLE, 1 ACTIVE, 2 HOT, 3 WARM (R456, R486). -/
def Mod.role (m : Mod) : Nat := m.fld F.BRACE_STAT_ROLE

/-- PWR_STAT.STATE: 0 RUN, 1 DOZE_ENTRY, 2 DOZE, 3 WAKING, 4 SILENCING (R567). -/
def Mod.pstate (m : Mod) : Nat := m.fld F.PWR_STAT_STATE

/-- TIME_STAT.STATE: 0 LOCKED, 1 HOLDOVER, 2 UNTRACEABLE (R255). -/
def Mod.tstate (m : Mod) : Nat := m.fld F.TIME_STAT_STATE

/-- The role produces outputs: SINGLE or ACTIVE (R43). -/
def Mod.serves (m : Mod) : Bool := m.role == 0 || m.role == 1

/-- The Kennel state allows the outputs of the air link: NORMAL, or ROOT_FALLBACK with VAL_READY (R43). -/
def Mod.kenOk (m : Mod) : Bool := m.fld F.KEN_STAT_STATE == 0 || (m.fld F.KEN_STAT_STATE == 2 && m.on F.KEN_STAT_VAL_READY)

/-- The power state is neither DOZE nor WAKING (R43, R552). -/
def Mod.awake (m : Mod) : Bool := m.pstate != 2 && m.pstate != 3

/-- Beacons and Drop frames are produced (R43). -/
def Mod.mayBeacon (m : Mod) : Bool := m.running && m.serves && m.awake && m.kenOk

/-- Go tokens and grants are produced (R43, R551). -/
def Mod.mayToken (m : Mod) : Bool := m.mayBeacon && m.tstate != 2 && m.pstate != 4

/-- Time serving is produced (R43). -/
def Mod.mayServeTime (m : Mod) : Bool := m.serves

/-- Base corrections are produced, to rings and switch (R43). -/
def Mod.mayCorrect (m : Mod) : Bool := m.serves && m.awake && m.tstate == 0

/-- Base corrections are computed: produced, or shadowed on a hot standby (R43). -/
def Mod.correctsIn (m : Mod) : Bool := (m.serves || m.role == 2) && m.awake && m.tstate == 0

/-- Central solutions are computed (R43). -/
def Mod.solvesIn (m : Mod) : Bool := (m.serves || m.role == 2) && m.awake && m.tstate == 0 && m.kenOk

/-- Central solutions are produced (R43). -/
def Mod.maySolve (m : Mod) : Bool := m.serves && m.solvesIn

/-- Allotment denies every request (R43). -/
def Mod.deniesAll (m : Mod) : Bool := m.tstate == 2 || !m.kenOk

/-! ## Counters of PERF (R582, R583) -/

/-- Catalogue index of the counters of R583. -/
def perfRing (n : Nat) : Nat := n
def perfGnss (n : Nat) : Nat := 10 + n
def perfPack (n : Nat) : Nat := 12 + n
def perfShep (n : Nat) : Nat := 24 + n
def perfMot (n : Nat) : Nat := 26 + n
def perfAir (n : Nat) : Nat := 29 + n
def perfSwRx (n : Nat) : Nat := 34 + n
def perfSwTx (n : Nat) : Nat := 44 + n

/-- A block adds to a counter of its own; PERF takes it up at the next boundary (R582). -/
def Mod.perfAdd (m : Mod) (i n : Nat) : Mod :=
  { m with perf := { m.perf with pend := AMap.put (fun _ => 0) i (AMap.get (fun _ => 0) m.perf.pend i + n) m.perf.pend } }

/-! ## Recorder triggers (R572 to R575) -/

/-- Whether a trigger is fixed: always protected and always enabled (R572). -/
def recFixed (t : Nat) : Bool := decide (1 ≤ t) && decide (t ≤ 4)

/-- Whether a trigger writes records (R573). -/
def Mod.trigOn (m : Mod) (t : Nat) : Bool := recFixed t || (m.on F.REC_CTL_EN && m.on (F.REC_TRIG_CTL_EN (t - 1)))

/-- Whether a trigger is protected (R572, R594). -/
def Mod.recProt (m : Mod) (t : Nat) : Bool := recFixed t || m.on (F.REC_TRIG_CTL_PROT (t - 1))

/-- What the record of a trigger takes from the trigger instant (R578); its SEQ comes from the shared counter (R570, R571). -/
def Mod.recEntry (k : Clock) (m : Mod) (t : Nat) (payload : List Byte) (coal : Nat) (hdr : Bool) : RecQ :=
  { trig := t, seq := m.nv.seqNext, prot := m.recProt t, payload := payload, opSec := m.rd R.PWR_OP_SEC,
    cycles := m.rd R.PWR_CYCLE_CNT, tick := k.tick, time := Clock.fullNs k.now, tstate := m.tstate, coal := min coal 65535,
    headerOnly := hdr }

/-- Queues a record and takes its SEQ (R570, R575). -/
def Mod.recPut (k : Clock) (m : Mod) (t : Nat) (payload : List Byte) (coal : Nat) (hdr : Bool) : Mod :=
  { m with
    rcd := { m.rcd with
      queue := m.rcd.queue ++ [Mod.recEntry k m t payload coal hdr]
      lastAt := AMap.put (fun _ => 0) t k.raw m.rcd.lastAt
      coal := AMap.del t m.rcd.coal }
    nv := { m.nv with seqNext := (m.nv.seqNext + 1) % 4294967296 } }

/-- A trigger that is not protected fires again within REC_CTL.HOLDOFF ms of its last record (R574). -/
def Mod.recHeld (k : Clock) (m : Mod) (t : Nat) : Bool :=
  match AMap.find m.rcd.lastAt t with
  | none => false
  | some r => m.fld F.REC_CTL_HOLDOFF != 0 && decide (k.raw ≤ r + msRaw (m.fld F.REC_CTL_HOLDOFF))

/-- A trigger fires: its record is queued, coalesced, dropped, or added to the backlog (R573 to R575). -/
def Mod.recTrig (m : Mod) (k : Clock) (t : Nat) (payload : List Byte) : Mod :=
  if !m.trigOn t then m
  else if m.recProt t then
    if m.rcd.queue.length < 16 then Mod.recPut k m t payload (AMap.get (fun _ => 0) m.rcd.coal t) false
    else
      let n := ((AMap.find m.rcd.backlog t).map Prod.fst).getD 0
      { m with rcd := { m.rcd with backlog := AMap.ins t (n + 1, payload) m.rcd.backlog } }
  else if m.recHeld k t then
    { m with rcd := { m.rcd with coal := AMap.put (fun _ => 0) t (AMap.get (fun _ => 0) m.rcd.coal t + 1) m.rcd.coal } }
  else if m.rcd.queue.length < 12 then Mod.recPut k m t payload (AMap.get (fun _ => 0) m.rcd.coal t) false
  else (m.inc R.REC_DROP_CNT).recEvt 2

/-- A tick-bound block counts an overrun; the first in a whole second of published time fires trigger 9 (R23, R572, R583). -/
def Mod.overrun (m : Mod) (k : Clock) (block cnt perf n : Nat) : Mod :=
  if n = 0 then m
  else
    let m := (m.incBy cnt n).perfAdd perf n
    let sec := Clock.fullNs k.now / 1000000000
    if AMap.find m.rcd.ovrSec block = some sec then m
    else ({ m with rcd := { m.rcd with ovrSec := AMap.ins block sec m.rcd.ovrSec } }).recTrig k 9 (le 1 block ++ le 1 k.phase)

/-! ## Items for rings to the host (R116, R118) -/

/-- RING_STAT.STATE of a ring: 0 OFF, 1 READY, 2 STOPPED, 3 ERROR (R103). -/
def Mod.ringState (m : Mod) (n : Nat) : Nat := m.fld (F.RING_STAT_STATE n)

/-- A ring's hidden state. -/
def Mod.rng (m : Mod) (n : Nat) : RingSt := AMap.get (fun _ => RingSt.off) m.ring.rings n

/-- Replaces a ring's hidden state. -/
def Mod.setRng (m : Mod) (n : Nat) (r : RingSt) : Mod :=
  { m with ring := { m.ring with rings := AMap.put (fun _ => RingSt.off) n r m.ring.rings } }

/-- A sticky bit of RING_STAT sets and raises the RING error source (R123 source 1). -/
def Mod.ringSticky (m : Mod) (n b : Nat) : Mod :=
  if m.bit (R.RING_STAT n) b then m else (m.setBit (R.RING_STAT n) b).raise 1

/-- An item of a ring is dropped: counted, with RING_STAT.OVF (R118). -/
def Mod.ringDrop (m : Mod) (n : Nat) : Mod := (m.inc (R.RING_DROP_CNT n)).ringSticky n 17

/-- Rings to the module: 0, 6 and 7 (R93). -/
def ringIn (n : Nat) : Bool := n == 0 || n == 6 || n == 7

/-- The items of a ring to the module that wait in its queue: whole chains fetched and not handed on (R119, R130). -/
def itemsIn (l : List Desc) : Nat := (l.filter fun d => !d.handed && d.status.isNone && !d.flags.testBit 1).length

/-- The number of items in a ring's queue (R130). -/
def Mod.ringLevel (m : Mod) (n : Nat) : Nat := if ringIn n then itemsIn (m.rng n).fetched else (m.rng n).queue.length

/-- A block's item for a ring to the host is queued, dropped while the ring is OFF, or handled under OVF (R118). -/
def Mod.enqueue (m : Mod) (k : Clock) (n kind : Nat) (data : List Byte) : Mod :=
  let r := m.rng n
  let it : Item := { kind := kind, data := data, tick := k.tick }
  if m.ringState n = 0 then m.inc (R.RING_DROP_CNT n)
  else if r.queue.length < ringDepth n then m.setRng n { r with queue := r.queue ++ [it] }
  else if bitsOf r.cfg 3 2 = 1 ∧ (r.sent = 0 ∨ 2 ≤ r.queue.length) then
    let q := if r.sent = 0 then r.queue.drop 1 else r.queue.take 1 ++ r.queue.drop 2
    (m.setRng n { r with queue := q ++ [it] }).ringDrop n
  else m.ringDrop n

/-- The 24-byte header of a result and its payload (R116). -/
def resultBytes (block opcode result tag accept done : Nat) (payload : List Byte) : List Byte :=
  le 2 (24 + payload.length) ++ le 1 block ++ le 1 1 ++ le 2 opcode ++ le 2 result ++ le 4 tag ++ le 4 accept ++ le 4 done
    ++ le 4 0 ++ payload

/-- Takes the first handed command that matches away (R114). -/
def dropHanded (block opcode tag : Nat) : List Handed → List Handed
  | [] => []
  | h :: t => if h.block = block ∧ h.opcode = opcode ∧ h.tag = tag then t else h :: dropHanded block opcode tag t

/-- KEN_STAT.BUSY: a host command of the Kennel runs (R521). -/
def Mod.kenBusy (m : Mod) : Mod := m.setB F.KEN_STAT_BUSY ((m.ring.handed.any fun h => h.block == 7) || !m.ken.erasing.isEmpty)

/-- A command finishes: its result goes to ring 1 unless NO_RESULT is set and RESULT is 0 (R115, R116). -/
def Mod.result (m : Mod) (k : Clock) (block opcode result tag : Nat) (noResult : Bool) (accept : Nat) (payload : List Byte) : Mod :=
  let m : Mod := { m with ring := { m.ring with handed := dropHanded block opcode tag m.ring.handed } }
  let m := if block = 7 then m.kenBusy else m
  if noResult ∧ result = 0 then m else m.enqueue k 1 2 (resultBytes block opcode result tag accept k.tick payload)

/-- A command accepted and finished in the same tick. -/
def Mod.reply (m : Mod) (k : Clock) (block opcode code : Nat) (h : Hdr) (payload : List Byte) : Mod :=
  m.result k block opcode code h.tag h.noResult k.tick payload

/-- A command as a block accepts it in a tick (R115, R116). -/
def acceptedIn (block opcode tick : Nat) (h : Hdr) : Handed :=
  { block := block, opcode := opcode, tag := h.tag, noResult := h.noResult, acceptTick := tick }

/-- A command that waited for its latch finishes (R26, R116). -/
def Mod.finish (m : Mod) (k : Clock) (h : Handed) (code : Nat) (payload : List Byte) : Mod :=
  m.result k h.block h.opcode code h.tag h.noResult h.acceptTick payload

/-- A notice: a result header with a tag of 0 that no command asked for, posted by a block (R306). -/
def Mod.notice (m : Mod) (k : Clock) (block opcode code : Nat) (payload : List Byte) : Mod :=
  m.enqueue k 1 2 (resultBytes block opcode code 0 k.tick k.tick payload)

/-! ## Configuration in the live copy (R80, R82) -/

/-- The BLOCK_MBX_SEL registers (R64). -/
def mbxSels : List Nat :=
  [R.GLB_MBX_SEL, R.PWR_MBX_SEL, R.TIME_MBX_SEL, R.PERF_MBX_SEL, R.REC_MBX_SEL, R.LEASH_MBX_SEL, R.BRACE_MBX_SEL, R.KEN_MBX_SEL, R.UPD_MBX_SEL,
   R.GNSS_MBX_SEL, R.PACK_MBX_SEL, R.SHEP_MBX_SEL, R.MOT_MBX_SEL, R.AIR_MBX_SEL, R.SW_MBX_SEL]

/-- Registers a walk never reads although their access and Apply column would select them (R80). -/
def walkSkips (a : Nat) : Bool :=
  mbxSels.contains a || a == R.SHEP_TBL_SEL || a == R.SW_TBL_SEL || a == R.REC_CUR_SEL ||
    (decide (R.RING_CTL 0 ≤ a) && decide (a ≤ R.RING_CTL 9) && decide ((a - R.RING_CTL 0) % 0x40 = 0))

/-- The bits of a register row that a walk covers; the LOOP field of GNSS_CH_CTL is left out (R80). -/
def walkBits (a : Nat) (r : RegRow) : Nat :=
  if r.counter || walkSkips a || r.app == .none then 0
  else if r.acc == .rw || r.acc == .grd || r.acc == .mixed then
    if decide (R.GNSS_CH_CTL 0 ≤ a) && decide (a < R.GNSS_CH_CTL 320) then r.rwm - (r.rwm &&& 3) else r.rwm
  else 0

/-- The bits of a register that a walk covers; 0 where it covers none (R80). A complement word is of access GRD too and covers the bits
of its value word (R60, R80). -/
def walkMask (a : Nat) : Nat :=
  match rowOf a with
  | none => 0
  | some r =>
    if r.acc == .inv then (match rowOf (a - 4) with | some x => walkBits (a - 4) x | none => 0)
    else walkBits a r

/-- What a walk reads of a register: the live copy, the complement of its value word for a complement word, left-out bits as 0 (R80, R81). -/
def Mod.walkWord (m : Mod) (a mask : Nat) : Nat :=
  match rowOf a with
  | some r => if r.acc == .inv then mask - (m.rd (a - 4) &&& mask) else m.rd a &&& mask
  | none => 0

/-- Whether the walk in progress covers a register: its block is selected and it has covered bits (R80). -/
def Mod.covered (m : Mod) (a : Nat) : Bool :=
  match blockOf a with
  | none => false
  | some b => (m.rd R.GLB_CFG_MASK).testBit b && walkMask a != 0

/-- A configuration register's live copy changes; a change of a covered value tears the walk in progress (R82 step 1). -/
def Mod.cfgSet (m : Mod) (a v : Nat) : Mod :=
  let m' := m.wr a v
  if m.glb.walking && (m.rd a &&& walkMask a) != (m'.rd a &&& walkMask a) && m.covered a then
    { m' with glb := { m'.glb with torn := true } }
  else m'

/-! ## Steps of a command -/

/-- A command that arrives `dt` raw counts after the one before it and changes the module. -/
def State.ev (s : State) (dt : Nat) (f : Clock → Mod → Mod) : State :=
  { s with clk := s.clk.adv dt, m := f (s.clk.adv dt) { s.m with out := [] } }

/-- A command that may also change the timebase. -/
def State.evClk (s : State) (dt : Nat) (f : Clock → Mod → Clock × Mod) : State :=
  let r := f (s.clk.adv dt) { s.m with out := [] }
  { s with clk := r.1, m := r.2 }

end Sys2Proof.Machine
end

