-- ==== Sys2Proof/Machine/Registers.lean ====
section
/-! DEFINITION. GLB's mechanisms (chapter 02): guards, the apply strobe, calibration sums, the configuration check. -/

namespace Sys2Proof.Machine

/-! ## Host accesses (R52, R55, R59, R565) -/

/-- A host access to a register: nothing before BAR0 responds (R565); dropped with PWR_OFF_ACCESS while the block's
domain is off (R59); else it acts. -/
def Mod.access (m : Mod) (a : Nat) (f : Mod → Mod) : Mod :=
  if !m.barUp then m
  else match blockOf a with
    | none => f m
    | some b => if m.blkOn b then f m else m.glbErr 2 a

/-! ## Guards (R60 to R63) -/

/-- Values of guarded registers that the spec marks reserved or has the module discard under R61: GLB_CFG_ACT (R84),
GLB_SW_RESET (R88), the re-admission registers (R171, R401, R453, R521), AIR_REGION (R401), LEASH_CTL.ARM_SRC (R429),
LEASH_TRIP and LEASH_ARM (R430), KEN_TAMPER_CTL under its lock (R511), KEN_TAMPER_CLR and KEN_ZEROISE (R521), PWR_REQ
(R567), PWR_SOFT_RESET (R559), the recorder clears (R581). -/
def reservedVal (m : Mod) (a v : Nat) : Bool :=
  if a = R.GLB_CFG_ACT then v % 4 == 3
  else if a = R.GLB_SW_RESET ∨ a = R.LEASH_TRIP ∨ a = R.LEASH_ARM ∨ a = R.KEN_TAMPER_CLR ∨ a = R.KEN_ZEROISE then v != 1
  else if a = R.GNSS_READMIT then decide (319 < v)
  else if a = R.AIR_REGION then decide (3 < v % 256)
  else if a = R.AIR_READMIT then decide (99 < v % 128)
  else if a = R.LEASH_CTL then v % 4 == 3
  else if a = R.SW_READMIT then decide (9 < v % 16)
  else if a = R.KEN_TAMPER_CTL then m.bit a 3 && (bitsOf (m.rd a) 3 0 &&& (15 - v % 16)) != 0
  else if a = R.KEN_READMIT then decide (v % 64 < 4)
  else if a = R.PWR_REQ then v % 4 == 3
  else if a = R.PWR_SOFT_RESET then (v &&& (0xFFFFFFFF - 0x7E08)) != 0
  else if a = R.REC_CLEAR_RING ∨ a = R.REC_CLEAR_PROT then decide (0 < tickDiff v (m.nv.seqNext + 4294967295))
  else false

/-- A guarded write is discarded: counted, GRD_FAIL set, the offset recorded (R61). -/
def Mod.guardFail (m : Mod) (x : Nat) : Mod := (m.inc R.GLB_GRD_CNT).glbErr 3 x

/-- The armed guard is past its 1 ms, its end included (R60). -/
def Guard.late (g : Guard) (k : Clock) : Bool := decide (g.armedAt + msRaw 1 < k.raw)

/-- An armed guard past its 1 ms is discarded (R61). -/
def Mod.guardTick (m : Mod) (k : Clock) : Mod :=
  match m.glb.guard with
  | none => m
  | some g => if g.late k then ({ m with glb := { m.glb with guard := none } }).guardFail g.off else m

/-- A full-width write to a value word arms the guard; a guard already armed is discarded first (R60, R61). -/
def Mod.guardArm (m : Mod) (k : Clock) (x v : Nat) : Mod :=
  let m := m.guardTick k
  let m := match m.glb.guard with
    | none => m
    | some g => m.guardFail g.off
  { m with glb := { m.glb with guard := some { off := x, val := BitVec.ofNat 32 v, armedAt := k.raw } } }

/-- A complement word arrives for the register at `x`; the value commits when the guard armed there is in time, the word
is its exact complement and the value is not reserved (R60, R61). -/
def Mod.guardTake (m : Mod) (k : Clock) (x comp : Nat) : Mod × Option Nat :=
  let m := m.guardTick k
  match m.glb.guard with
  | none => (m.guardFail x, none)
  | some g =>
    if g.off ≠ x then (m.guardFail x, none)
    else
      let m' := { m with glb := { m.glb with guard := none } }
      if BitVec.ofNat 32 comp ≠ ~~~g.val ∨ reservedVal m x g.val.toNat then (m'.guardFail x, none)
      else (m', some g.val.toNat)

/-- A guarded commit of the register at `x`: what follows runs on the committed value (R60 to R63). -/
def Mod.commit (m : Mod) (k : Clock) (x comp : Nat) (f : Mod → Nat → Mod) : Mod :=
  m.access x fun m =>
    match m.guardTake k x comp with
    | (m', none) => m'
    | (m', some v) => f m' v

/-- Whether the register at an offset is guarded; its complement word lies 4 above (R60). -/
def isGuarded (a : Nat) : Bool := match rowOf a with | some r => r.acc == .grd | none => false

/-- A guarded register without a behaviour of its own takes its committed value as its Apply column states (R63, R72). -/
def Mod.commitPlain (m : Mod) (a v : Nat) : Mod :=
  match rowOf a with
  | none => m
  | some r =>
    let w := v &&& r.rwm
    match r.app with
    | .stb => m.wrSh a w
    | .tck => m.wrSh a w
    | _ =>
      if a = R.GLB_CFG_MASK ∧ m.glb.walking = true ∧ m.rd a ≠ w then
        { (m.wr a w) with glb := { m.glb with torn := true } }
      else m.cfgSet a w

/-! ## Calibrated quantities (R78, R79) -/

/-- The _USR offset's range in picoseconds when it belongs to a calibrated quantity; its _FAC lies 4 below and its _EFF 4
above (R78, R162, R241, R448, R466). -/
def calRange (a : Nat) : Option Nat :=
  if a = R.GNSS_ANTDLY_USR then some 2000000
  else if decide (R.GNSS_GD_USR 0 ≤ a) && decide (a ≤ R.GNSS_GD_USR 16) && (a - R.GNSS_GD_USR 0) % 0x10 == 0 then some 2000000
  else if decide (R.GNSS_IFB1_USR 0 ≤ a) && decide (a ≤ R.GNSS_IFB2_USR 13) && (a - R.GNSS_IFB1_USR 0) % 0x10 == 0 then some 2000000
  else if decide (R.TIME_PDLY_USR 0 ≤ a) && decide (a ≤ R.TIME_EVTIN_DLY_USR 3) && (a - R.TIME_PDLY_USR 0) % 0x10 == 0 then some 2000000
  else if decide (R.SW_P_RXDLY_USR 0 ≤ a) && decide (a ≤ R.SW_P_TXDLY_USR 9) && ((a - R.SW_P_RXDLY_USR 0) % 0x400 == 0 || (a - R.SW_P_RXDLY_USR 0) % 0x400 == 0x10) then some 100000
  else if a = R.BRACE_ASYM_USR then some 100000
  else none

/-- A user value applies: the effective value becomes factory plus user, saturated; saturation sets CAL_CLAMP (R79). -/
def Mod.calApply (m : Mod) (a : Nat) : Mod :=
  match calRange a with
  | none => m
  | some lim =>
    let sum := m.rdI (a - 4) + m.rdI a
    let eff := clampI (-(lim : Int)) lim sum
    (m.wrI (a + 4) eff).when (eff != sum) fun m => m.glbErr 8 a

/-! ## Applying shadows (R71, R72, R74) -/

/-- Offsets of an Apply class in a block whose shadow differs from the live copy, ascending; `b` none is GLB. -/
def Mod.dirty (m : Mod) (app : App) (b : Option Nat) : List Nat :=
  let ks := ((m.shadow.map Prod.fst) ++ ((m.live.map Prod.fst).filter fun a => (AMap.find m.shadow a).isNone)).mergeSort (fun x y => decide (x ≤ y))
  ks.filter fun a => decide (blockOf a = b) && (match rowOf a with | some r => r.app == app | none => false) && m.rd a != m.rdSh a

/-- Copies one register's shadow to its live copy (R71), with its calibration sum (R79). -/
def Mod.applyReg (m : Mod) (a : Nat) : Mod := (m.cfgSet a (m.rdSh a)).calApply a

/-- Copies every shadow of a block's STB registers but those held back (R73). -/
def Mod.applyStb (m : Mod) (b : Nat) (hold : Nat → Bool) : Mod :=
  m.each ((m.dirty .stb (some b)).filter fun a => !hold a) Mod.applyReg

/-- Copies every shadow of the TCK registers at a tick boundary (R72). -/
def Mod.applyTck (m : Mod) : Mod :=
  m.each ((none :: (upto 16).map some).flatMap fun b => m.dirty .tck b) Mod.applyReg

/-- Whether a block is in TICK mode (R72). -/
def Mod.tickMode (m : Mod) (b : Nat) : Bool := m.bit R.GLB_APPLY_MODE b

/-- A committed reference becomes live (R85); a change tears the walk in progress (R82). -/
def Mod.refLive (m : Mod) : Mod :=
  match m.glb.refPending with
  | none => m
  | some v =>
    let torn := m.glb.torn || (m.glb.walking && m.rd R.GLB_CFG_REF != v.toNat)
    let m := (m.wr R.GLB_CFG_REF v.toNat).setB F.GLB_CFG_STAT_REF_PENDING false
    { m with glb := { m.glb with refPending := none, torn := torn } }

/-- A write to GLB_APPLY (R73, R75, R76): ignored for a mask of 0, dropped while an apply is pending or strobes are refused. -/
def Mod.applyStart (m : Mod) (k : Clock) (mask : Nat) : Mod :=
  let mask := mask % 65536
  if mask = 0 then m
  else if m.glb.apply.isSome then m.glbErr 6 R.GLB_APPLY
  else if m.on F.GLB_CFG_STAT_REFUSING then m.glbErr 7 R.GLB_APPLY
  else { (m.setB F.GLB_APPLY_STAT_PENDING true) with glb := { m.glb with apply := some (k.raw + usRaw 2, mask) } }

/-- A completed apply is counted and recorded, and a waiting reference becomes live (R77). -/
def Mod.applyDone (m : Mod) (tick sub : Nat) : Mod :=
  let m := (m.setB F.GLB_APPLY_STAT_PENDING false).incF F.GLB_APPLY_STAT_APPLY_CNT
  let m := (m.wr R.GLB_APPLY_TICK tick).wr R.GLB_APPLY_SUB sub
  let m : Mod := { m with glb := { m.glb with apply := none } }
  if m.on F.GLB_CFG_CTL_REF_WITH then m else m.refLive

/-! ## The configuration check (R80 to R86) -/

/-- Every offset that a row's instances occupy and a walk covers, with its mask. -/
def walkCells (r : RegRow) : List (Nat × Nat) :=
  ((upto r.cnt).map fun i => let a := r.base + i * r.stride; (a, walkMask a)).filter fun p => p.2 != 0

/-- The registers a walk covers under a mask, in ascending BAR0 offset order (R80). -/
def walkList (mask : Nat) : List (Nat × Nat) :=
  ((upto 16).filter mask.testBit).flatMap fun b =>
    ((allRows.filter fun r => decide (blockOf r.base = some b)).flatMap walkCells).mergeSort (fun x y => decide (x.1 ≤ y.1))

/-- The CRC of a walk over the live copies; 0 over an empty mask (R81). -/
def Mod.walkCrc (m : Mod) : Nat :=
  let mask := m.rd R.GLB_CFG_MASK % 65536
  if mask = 0 then 0
  else crc32c ((walkList mask).flatMap fun p => le 4 (m.walkWord p.1 p.2))

/-- Strobes are refused from here: a pending apply does not take place (R76, R84). -/
def Mod.refuseStrobes (m : Mod) : Mod :=
  let m := (m.setB F.GLB_CFG_STAT_REFUSING true).setB F.GLB_APPLY_STAT_REFUSING true
  if m.glb.apply.isSome then
    ({ (m.setB F.GLB_APPLY_STAT_PENDING false) with glb := { m.glb with apply := none, refLate := true } }).glbErr 7 R.GLB_APPLY
  else m

/-- The action of GLB_CFG_ACT at a walk that ends in mismatch or starvation (R82, R84): the recorder event and
CFG_MISMATCH, then a Heel request (bit 2 of HEEL_SRC, R417) or refusal. -/
def Mod.cfgAction (m : Mod) (k : Clock) : Mod :=
  let m := m.recTrig k 5 (le 4 (m.rd R.GLB_CFG_CUR) ++ le 4 (m.rd R.GLB_CFG_REF) ++ le 4 (m.rd R.GLB_CFG_STAT) ++ le 4 0)
  let m := m.glbErr 9 0
  match m.rd R.GLB_CFG_ACT % 4 with
  | 1 => m.heelSet 2
  | 2 => m.refuseStrobes
  | _ => m

/-- A selected block is powered off (R82 step 2). -/
def Mod.walkHole (m : Mod) : Bool := (upto 16).any fun b => m.bit R.GLB_CFG_MASK b && !m.blkOn b

/-- The walk in progress ends and is judged by the first condition of R82 that holds. -/
def Mod.walkJudge (m : Mod) (k : Clock) : Mod :=
  let crc := m.walkCrc
  let m := (m.wr R.GLB_CFG_CUR crc).incF F.GLB_CFG_STAT_WALK_CNT
  if m.glb.torn then
    let m : Mod := { (m.incF F.GLB_CFG_STAT_TORN_CNT) with glb := { m.glb with tornRun := m.glb.tornRun + 1 } }
    if 16 ≤ m.glb.tornRun then (m.setB F.GLB_CFG_STAT_STARVED true).cfgAction k else m
  else
    let m : Mod := { m with glb := { m.glb with tornRun := 0 } }
    if m.glb.incomplete || m.walkHole then m.setB F.GLB_CFG_STAT_INCOMPLETE true
    else if crc = m.rd R.GLB_CFG_REF then
      ((m.setB F.GLB_CFG_STAT_LIVE_MATCH true).setB F.GLB_CFG_STAT_REFUSING false).setB F.GLB_APPLY_STAT_REFUSING false
    else ((m.setB F.GLB_CFG_STAT_LIVE_MATCH false).setB F.GLB_CFG_STAT_MISMATCH true).cfgAction k

/-- The boundary of tick number `no`: a walk ends and the next begins when its counter is a multiple of 8, once (R80, R82). -/
def Mod.walkEnd (m : Mod) (k : Clock) (no : Nat) : Mod :=
  if no % 8 ≠ 0 ∨ m.glb.judgedAt = some no ∨ m.barUp = false then m
  else
    let m := if m.glb.walking then m.walkJudge k else m
    { m with glb := { m.glb with walking := true, torn := false, incomplete := m.walkHole, judgedAt := some no } }

/-- Clearing bits of GLB_ERR; when it comes to read 0 the capture re-arms (R90, R91). -/
def Mod.glbErrClear (m : Mod) (mask : Nat) : Mod :=
  let v := m.rd R.GLB_ERR &&& (1023 - mask % 1024)
  let m := m.wr R.GLB_ERR v
  if v = 0 then m.wr R.GLB_ERR_ADDR 0 else m

/-- Writing the enables of GLB_ERR: one that changes to 1 while its bit reads 1 raises source 0 (R90). -/
def Mod.glbErrIrqEn (m : Mod) (v : Nat) : Mod :=
  let old := m.rd R.GLB_ERR_IRQ_EN
  let new := v % 1024
  let m := m.wr R.GLB_ERR_IRQ_EN new
  if (new &&& (1023 - old % 1024) &&& m.rd R.GLB_ERR) ≠ 0 then m.raise 0 else m

/-- A committed reference waits to become live (R85). -/
def Mod.refCommit (m : Mod) (v : Nat) : Mod :=
  { (m.setB F.GLB_CFG_STAT_REF_PENDING true) with glb := { m.glb with refPending := some (BitVec.ofNat 32 v) } }

/-- What a step of the machine answers. -/
abbrev Res := Host.Outcome State Fault Refusal

/-! ## Meanings -/

/-- GUARD_ARM: a full-width write of `v` to the value word at `x` (R60, R61). -/
def execGuardArm (dt x v : Nat) (s : State) : Res :=
  .next (s.ev dt fun k m => m.access x fun m => if isGuarded x then m.guardArm k x v else m)

/-- GUARD_EXPIRY (R60, R61). -/
def execGuardExpiry (dt : Nat) (s : State) : Res := .next (s.ev dt fun k m => m.guardTick k)

/-- GLB_APPLY (R73 to R76). -/
def execGlbApply (dt mask : Nat) (s : State) : Res :=
  .next (s.ev dt fun k m => m.access R.GLB_APPLY fun m => m.applyStart k mask)

/-- GLB_CFG_REF_COMMIT: the complement word of GLB_CFG_REF (R60, R85). -/
def execGlbCfgRefCommit (dt comp : Nat) (s : State) : Res :=
  .next (s.ev dt fun k m => m.commit k R.GLB_CFG_REF comp Mod.refCommit)

/-- CFG_WALK_END: the walk that ends at the boundary now reached (R82 to R86). -/
def execCfgWalkEnd (dt : Nat) (s : State) : Res :=
  .next (s.ev dt fun k m => if k.nextBoundary ≤ k.raw then m.walkEnd k.beginTick k.beginTick.tickNo else m)

/-- GLB_ERR_CLEAR (R90, R91). -/
def execGlbErrClear (dt mask : Nat) (s : State) : Res :=
  .next (s.ev dt fun _ m => m.access R.GLB_ERR fun m => m.glbErrClear mask)

/-- GLB_ERR_IRQ_EN_WRITE (R90). -/
def execGlbErrIrqEnWrite (dt v : Nat) (s : State) : Res :=
  .next (s.ev dt fun _ m => m.access R.GLB_ERR_IRQ_EN fun m => m.glbErrIrqEn v)

end Sys2Proof.Machine
end

