-- ==== Sys2Proof/Machine/Recorder.lean ====
section
/-! DEFINITION. The recorder and the counters (chapter 16): REC and PERF. -/

namespace Sys2Proof.Machine

/-! ## The store (R569 to R571, R578) -/

/-- Bytes a region holds. -/
def rcdUsed (l : List Rcd) : Nat := (l.map fun r => r.bytes.length).foldl (· + ·) 0

/-- A record's 16-byte payload, unlisted bytes 0 (R572). -/
def payload16 (p : List Byte) : List Byte := (p ++ List.replicate 16 0).take 16

/-- One snapshot entry as read: its OFFSET word and VALUE (R577, R578). -/
def snapEntry (m : Mod) (view : Mod → Nat → Nat) (a : Nat) : List Byte :=
  let off := match blockOf a with | none => false | some b => !m.blkOn b
  le 4 (a % 16777216 + (if off then 2147483648 else 0)) ++ le 4 (if off then 0xFFFFFFFF else view m a)

/-- The offsets of the list a trigger uses; none for a header-only record (R576, R594). -/
def Mod.snapOffsets (m : Mod) (q : RecQ) : List Nat :=
  let l := m.fld (F.REC_TRIG_CTL_LIST (q.trig - 1))
  if q.headerOnly || decide (15 < l) then [] else ((AMap.find m.rcd.lists l).getD []).take 64

/-- A record's bytes, its CRC last (R578). `ovf` marks a protected record written to the ring. -/
def recordBytes (q : RecQ) (ovf : Bool) (snap : List (List Byte)) : List Byte :=
  let n := snap.length
  let flags := q.tstate % 4 + (if q.prot && !ovf then 4 else 0) + (if q.prot && ovf then 8 else 0) + (if q.coal = 0 then 0 else 16)
  let body := le 2 (52 + 8 * n) ++ le 1 1 ++ le 1 q.trig ++ le 4 q.seq ++ le 4 q.opSec ++ le 4 q.cycles ++ le 4 q.tick
    ++ le 8 q.time ++ le 1 flags ++ le 1 n ++ le 2 q.coal ++ payload16 q.payload ++ snap.flatten
  body ++ le 4 (crc32c body)

/-- Oldest ring records give way one at a time until the new one fits (R569): the list left and how many went. -/
def makeRoom (need : Nat) : List Rcd → List Rcd × List Nat
  | [] => ([], [])
  | r :: t => if rcdUsed (r :: t) + need ≤ 786432 then (r :: t, []) else
      let p := makeRoom need t
      (p.1, r.seq :: p.2)

/-- A record is written to the ring region (R569). -/
def Mod.ringStore (m : Mod) (r : Rcd) : Mod :=
  let p := makeRoom r.bytes.length m.nv.ring
  let m : Mod := { m with nv := { m.nv with ring := p.1 ++ [r] } }
  let m := m.each p.2 fun m sq =>
    let m := ((m.inc R.REC_OVW_CNT).recEvt 0).setF F.REC_STAT_RING_WRAPPED 1
    if m.rcd.cursor = some (sq, false) ∧ m.on F.REC_CUR_STAT_VALID then m.setB F.REC_CUR_STAT_STALE true else m
  m

/-- The head of the record queue takes its snapshot and is written; a free place takes up the backlog (R575 to R578). -/
def Mod.recWrite (m : Mod) (k : Clock) (view : Mod → Nat → Nat) : Mod :=
  match m.rcd.queue with
  | [] => m
  | q :: rest =>
    let snap := (m.snapOffsets q).map (snapEntry m view)
    let ovf := q.prot && decide (130048 < rcdUsed m.nv.prot + 52 + 8 * snap.length)
    let r : Rcd := { seq := q.seq, trig := q.trig, bytes := recordBytes q ovf snap }
    let m : Mod := { m with rcd := { m.rcd with queue := rest } }
    let m :=
      if q.prot && !ovf then { m with nv := { m.nv with prot := m.nv.prot ++ [r] } }
      else if ovf then ((m.ringStore r).recEvt 1).setF F.REC_STAT_PROT_FULL 1
      else m.ringStore r
    let m := m.recEvt 5
    match m.rcd.backlog with
    | [] => m
    | (t, n, p) :: bl => Mod.recPut k { m with rcd := { m.rcd with backlog := bl } } t p n true

/-! ## The cursor (R579, R580) -/

/-- 32-bit words of a record, padded with 0. -/
def wordsOf (b : List Byte) : Nat → List Nat
  | 0 => []
  | n + 1 => leAt b 0 4 :: wordsOf (b.drop 4) n

/-- A record is copied into the window; without one VALID is 0 and MISSING is 1 (R579). -/
def Mod.curLoad (m : Mod) (hit : Option (Rcd × Bool)) : Mod :=
  match hit with
  | none => m.wr R.REC_CUR_STAT 4
  | some (r, prot) =>
    let n := (r.bytes.length + 3) / 4
    let bad := crc32c (r.bytes.take (r.bytes.length - 4)) != leAt r.bytes (r.bytes.length - 4) 4
    let m := m.wr R.REC_CUR_STAT (1 + (if prot then 16 else 0) + (if bad then 32 else 0) + n % 512 * 65536)
    let m := m.each ((upto 256).zip (wordsOf r.bytes 256)) fun m p => m.wr (R.REC_WIN p.1) p.2
    { (m.wr R.REC_CUR_SEL r.seq) with rcd := { m.rcd with cursor := some (r.seq, prot) } }

/-- The record with a SEQ, in either region. -/
def Mod.recBySeq (m : Mod) (sq : Nat) : Option (Rcd × Bool) :=
  match m.nv.prot.find? (fun r => r.seq == sq) with
  | some r => some (r, true)
  | none => (m.nv.ring.find? fun r => r.seq == sq).map fun r => (r, false)

/-- The oldest record of a region. -/
def Mod.recOldest (m : Mod) (prot : Bool) : Option (Rcd × Bool) :=
  (if prot then m.nv.prot else m.nv.ring).head?.map fun r => (r, prot)

/-- The record with the next higher SEQ in the cursor's region. -/
def Mod.recNext (m : Mod) : Option (Rcd × Bool) :=
  match m.rcd.cursor with
  | none => none
  | some (sq, prot) => ((if prot then m.nv.prot else m.nv.ring).find? fun r => decide (0 < tickDiff r.seq sq)).map fun r => (r, prot)

/-- A write to REC_CUR_CMD: OLDEST_PROT before OLDEST_RING before NEXT (R580). -/
def Mod.curCmd (m : Mod) (v : Nat) : Mod :=
  if v.testBit 2 then m.curLoad (m.recOldest true)
  else if v.testBit 1 then m.curLoad (m.recOldest false)
  else if v.testBit 0 then m.curLoad m.recNext
  else m

/-- Every record of a region whose SEQ is not later than `sq` is cleared (R581). -/
def Mod.recClear (m : Mod) (prot : Bool) (sq : Nat) : Mod :=
  let keep := fun (r : Rcd) => decide (0 < tickDiff r.seq sq)
  if prot then
    let m' : Mod := { m with nv := { m.nv with prot := m.nv.prot.filter keep } }
    if m.nv.prot.all keep then m' else m'.setF F.REC_STAT_PROT_FULL 0
  else { m with nv := { m.nv with ring := m.nv.ring.filter keep } }

/-- An offset that a snapshot list may not name: unmapped, unaligned, or an MBX data register (R576). -/
def snapBad (a : Nat) : Bool :=
  a % 4 != 0 || match rowOf a with | none => true | some r => r.acc == .mbx

/-- Item SNAP_LIST commits: the list is set, or refused whole (R576, R595). -/
def Mod.snapCommit (m : Mod) (list : Nat) (ws : List Nat) : Mod :=
  let n := ws.headD 0 % 128
  let offs := ((ws.drop 1).map fun w => w % 16777216).take n
  if 64 < n ∨ offs.any snapBad then m.recEvt 4
  else { m with rcd := { m.rcd with lists := AMap.ins list offs m.rcd.lists } }

/-! ## The counters (R582 to R589) -/

/-- The IDs of the 54 counters in catalogue order (R583). -/
def perfIds : List Nat :=
  (upto 10).map (0x200 + ·) ++ [0x900, 0x901] ++ (upto 12).map (0xA00 + ·) ++ [0xB00, 0xB01] ++ [0xC00, 0xC01, 0xC02]
    ++ (upto 5).map (0xD00 + ·) ++ (upto 10).map (0xE00 + ·) ++ (upto 10).map (0xE10 + ·)

/-- A counter at the last latch. -/
def Mod.perfGet (m : Mod) (i : Nat) : Nat := AMap.get (fun _ => 0) m.perf.acc i

/-- A counter as a dump entry: ID and 48-bit count (R587, R593). -/
def Mod.perfEntry (m : Mod) (i : Nat) : Nat := perfIds.getD i 0 + m.perfGet i * 65536

/-- At a boundary PERF takes up the counts of every block that is powered and publishes them with the page (R582, R588). -/
def Mod.perfLatch (m : Mod) (k : Clock) : Mod :=
  let acc := (upto 54).foldl (fun acc i =>
    if m.blkOn (perfIds.getD i 0 / 256) then
      AMap.put (fun _ => 0) i ((AMap.get (fun _ => 0) acc i + AMap.get (fun _ => 0) m.perf.pend i) % 281474976710656) acc
    else acc) m.perf.acc
  let m : Mod := { m with
    perf := { m.perf with
      acc := acc
      pend := []
      pseq := (m.perf.pseq + 2) % 4294967296
      latchTick := k.tick
      latchTime := Clock.fullNs k.tickStart
      latchOp := m.rd R.PWR_OP_SEC
      latchCyc := m.rd R.PWR_CYCLE_CNT } }
  m.wr R.PERF_LATCH_TICK k.tick

/-- PERF_DUMP_PERIOD as it acts (R586). -/
def Mod.dumpPeriod (m : Mod) : Nat := max 1 (min 360000 (m.rd R.PERF_DUMP_PERIOD % 524288))

/-- The dumps due at a boundary, with whether ring 5 is READY there (R585, R587). -/
def Mod.dumpDue (m : Mod) (k : Clock) : Mod :=
  let per : List Dump := if m.on F.PERF_CTL_DUMP_EN && decide (k.tickNo % m.dumpPeriod = 0)
    then [{ reason := 0, tag := 0, noResult := true, acceptTick := 0 }] else []
  let due := (per ++ m.perf.asked).map fun d => (d, decide (m.ringState 5 = 1))
  let m : Mod := { m with perf := { m.perf with asked := [], due := m.perf.due ++ due } }
  m.setB F.PERF_STAT_DUMP_PENDING (!m.perf.due.isEmpty)

/-- A dump's bytes (R587). -/
def Mod.dumpBytes (m : Mod) (reason seq : Nat) : List Byte :=
  le 2 (32 + 8 * 54) ++ le 1 1 ++ le 1 reason ++ le 4 seq ++ le 4 m.perf.latchTick ++ le 8 m.perf.latchTime ++ le 4 m.perf.latchOp
    ++ le 4 m.perf.latchCyc ++ le 2 54 ++ le 2 0 ++ ((upto 54).map fun i => le 8 (m.perfEntry i)).flatten

/-- The oldest due dump is queued on ring 5, or not made when ring 5 was not READY (R585, R587). -/
def Mod.dumpOne (m : Mod) (k : Clock) : Mod :=
  match m.perf.due with
  | [] => m
  | (d, ready) :: rest =>
    let m : Mod := { m with perf := { m.perf with due := rest } }
    let m := m.setB F.PERF_STAT_DUMP_PENDING (!rest.isEmpty)
    if ready then
      let m := m.inc R.PERF_DUMP_SEQ
      let m := (m.enqueue k 5 0x40 (m.dumpBytes d.reason (m.rd R.PERF_DUMP_SEQ))).perfEvt 1
      if d.reason = 1 then m.result k 3 1 0 d.tag d.noResult d.acceptTick [] else m
    else
      let m := (m.inc R.PERF_DUMP_SKIP_CNT).perfEvt 0
      if d.reason = 1 then m.result k 3 1 0x102 d.tag d.noResult d.acceptTick [] else m

/-- Every due dump is queued before the next boundary (R41, R585). -/
def Mod.dumpAll (m : Mod) (k : Clock) : Mod := m.each m.perf.due fun m _ => m.dumpOne k

/-- The words of the BAR2 page, which reads 0 while BAR2_EN is 0 (R588). -/
def Mod.page (m : Mod) (off : Nat) : Nat :=
  if !m.on F.PERF_CTL_BAR2_EN then 0
  else if off = 0 then m.perf.pseq
  else if off = 4 then 1 + 54 * 65536
  else if off = 8 then m.perf.latchTick
  else if off = 0x10 then m.perf.latchTime % 4294967296
  else if off = 0x14 then m.perf.latchTime / 4294967296
  else if off = 0x18 then m.perf.latchOp
  else if off = 0x1C then m.perf.latchCyc
  else if 0x40 ≤ off ∧ off < 0x40 + 8 * 54 then
    let e := m.perfEntry ((off - 0x40) / 8)
    if off % 8 = 0 then e % 4294967296 else e / 4294967296
  else 0

/-! ## Meanings -/

/-- REC_CUR_SEL: the record with the SEQ written, in either region (R579). -/
def execRecCurSel (dt sq : Nat) (s : State) : Res :=
  .next (s.ev dt fun _ m => m.access R.REC_CUR_SEL fun m => m.curLoad (m.recBySeq (sq % 4294967296)))

/-- REC_NEXT (R579). -/
def execRecNext (dt : Nat) (s : State) : Res :=
  .next (s.ev dt fun _ m => m.access R.REC_CUR_CMD fun m => m.curCmd 1)

/-- REC_OLDEST_RING (R579). -/
def execRecOldestRing (dt : Nat) (s : State) : Res :=
  .next (s.ev dt fun _ m => m.access R.REC_CUR_CMD fun m => m.curCmd 2)

/-- REC_OLDEST_PROT (R579). -/
def execRecOldestProt (dt : Nat) (s : State) : Res :=
  .next (s.ev dt fun _ m => m.access R.REC_CUR_CMD fun m => m.curCmd 4)

/-- REC_CLEAR_RING: the complement word of the SEQ to clear up to (R581). -/
def execRecClearRing (dt comp : Nat) (s : State) : Res :=
  .next (s.ev dt fun k m => m.commit k R.REC_CLEAR_RING comp fun m v => (m.recClear false v).cfgSet R.REC_CLEAR_RING v)

/-- REC_CLEAR_PROT (R581). -/
def execRecClearProt (dt comp : Nat) (s : State) : Res :=
  .next (s.ev dt fun k m => m.commit k R.REC_CLEAR_PROT comp fun m v => (m.recClear true v).cfgSet R.REC_CLEAR_PROT v)

/-- RECORD: a HOST record with the 16 bytes given, unless trigger 15 is disabled (R591). -/
def execRecord (dt : Nat) (h : Hdr) (payload : List Byte) (s : State) : Res :=
  .next (s.ev dt fun k m =>
    if !m.live? 4 then m
    else if m.trigOn 15 then (m.recTrig k 15 payload).reply k 4 1 0 h []
    else m.reply k 4 1 0x102 h [])

/-- SNAP_LIST_WRITE: item SNAP_LIST commits with its 65 words (R576, R595). -/
def execSnapListWrite (dt list : Nat) (ws : List Nat) (s : State) : Res :=
  .next (s.ev dt fun _ m => m.access R.REC_MBX_DATA fun m => if list ≤ 15 ∧ ws.length = 65 then m.snapCommit list ws else m)

/-- PERF_DUMP: the oldest dump due is made or skipped (R585 to R587). -/
def execPerfDump (dt : Nat) (s : State) : Res := .next (s.ev dt fun k m => m.dumpOne k)

/-- DUMP_NOW: an extra dump at the next boundary (R585, R591). -/
def execDumpNow (dt : Nat) (h : Hdr) (reserved : Nat) (s : State) : Res :=
  .next (s.ev dt fun k m =>
    if !m.live? 3 then m
    else if reserved ≠ 0 then m.reply k 3 1 0x101 h []
    else if m.ringState 5 ≠ 1 then m.reply k 3 1 0x102 h []
    else { m with perf := { m.perf with asked := m.perf.asked ++ [{ reason := 1, tag := h.tag, noResult := h.noResult, acceptTick := k.tick }] } })

end Sys2Proof.Machine
end

