-- ==== Sys2Proof/Machine/KenBase.lean ====
section
/-! DEFINITION. The Kennel's slots, derivation and the checks of every use of a key (R495 to R502, R505), over which its commands and
the blocks that authenticate frames are written. -/

namespace Sys2Proof.Machine

/-- The `n` bytes of a number, most significant first. -/
def be (n v : Nat) : List Byte := (le n v).reverse

/-- The number that bytes spell, most significant first. -/
def ofBe (d : List Byte) : Nat := ofLe d.reverse

/-- The bytes of an ASCII string without a terminator (R495). -/
def ascii (s : String) : List Byte := s.toList.map fun c => BitVec.ofNat 8 c.toNat

/-- The unit serial as 16 bytes: byte 0 is bits [31:24] of word 0 (R92). -/
def serial16 : List Byte := (upto 4).flatMap fun i => be 4 (Config.unitSerial i).toNat

/-- KDF(K, label, context): counter mode with HMAC-SHA-384, 256 bits (R495). -/
def kdf (k label ctx : List Byte) : List Byte := (Config.hmacSha384 k (be 4 1 ++ label ++ [0] ++ ctx ++ be 4 256)).take 32

/-- Measurement register `i` (R494). -/
def Mod.measReg (m : Mod) (i : Nat) : List Byte := AMap.get (fun _ => List.replicate 48 0) m.ken.meas i

/-- A measurement register is extended: M becomes SHA-384(M ‖ D) (R494). -/
def Mod.extend (m : Mod) (i : Nat) (d : List Byte) : Mod :=
  { m with ken := { m.ken with meas := AMap.put (fun _ => List.replicate 48 0) i (Config.sha384 (m.measReg i ++ d)) m.ken.meas } }

/-- The derivation context of a BIND value (R496). -/
def Mod.bindCtx (m : Mod) (b : Nat) : List Byte :=
  match b with
  | 0 => serial16
  | 1 => serial16 ++ m.measReg 3
  | _ => serial16 ++ m.measReg 0 ++ m.measReg 1 ++ m.measReg 3

/-! ## Slots (R497, R498, R502) -/

/-- A slot's state: 0 EMPTY, 1 LOADED, 2 ORPHAN, 3 BAD. -/
def Mod.slotState (m : Mod) (s : Nat) : Nat := m.fld (F.KEN_SLOT_STAT_STATE s)

/-- A slot's key, empty while it has none. -/
def Mod.slotKey (m : Mod) (s : Nat) : List Byte := ((AMap.find m.ken.slot s).map KeySlot.key).getD []

/-- The number of slots LOADED is shown, and whether the keys of AIR and BRACE are ready (R491, R521). -/
def Mod.kenShow (m : Mod) : Mod :=
  let ok := fun (s type use user : Nat) =>
    m.slotState s == 1 && m.fld (F.KEN_SLOT_STAT_TYPE s) == type && (m.fld (F.KEN_SLOT_STAT_USE s)).testBit use
      && (m.fld (F.KEN_SLOT_STAT_USER s)).testBit user
  let val := ok (m.fld F.AIR_KEY_CTL_BCAST) 1 0 1 && ok (m.fld F.AIR_KEY_CTL_UP_ROOT) 2 2 1
  let br := ok (m.rd R.BRACE_KEY % 64) 1 0 2
  let n := ((upto 64).filter fun s => m.slotState s == 1).length
  ((m.setF F.KEN_STAT_LOADED n).setB F.KEN_STAT_VAL_READY val).setB F.KEN_STAT_BRACE_READY br

/-- KEN_SLOT_STAT of a LOADED slot (R521). -/
def slotWord (type use user bind parent source : Nat) : Nat :=
  1 + type % 16 * 16 + use % 128 * 256 + user % 32 * 65536 + bind % 4 * 4194304 + parent % 64 * 16777216 + source % 4 * 1073741824

/-- A key is installed in a slot (R498, R506, R519). -/
def Mod.slotInstall (m : Mod) (s type use user bind parent source : Nat) (key : List Byte) (src : KeySrc) : Mod :=
  let m := m.wr (R.KEN_SLOT_STAT s) (slotWord type use user bind parent source)
  Mod.kenShow { m with ken := { m.ken with slot := AMap.ins s { key := key, src := src } m.ken.slot } }

/-- A slot becomes EMPTY: no key, and its status reads 0 (R502). -/
def Mod.slotEmpty (m : Mod) (s : Nat) : Mod :=
  let m := m.wr (R.KEN_SLOT_STAT s) 0
  Mod.kenShow { m with ken := { m.ken with slot := AMap.del s m.ken.slot } }

/-- A slot's parent (R502). -/
def Mod.slotParent (m : Mod) (s : Nat) : Nat := m.fld (F.KEN_SLOT_STAT_PARENT s)

/-- The slots invalidated with a parent: it, the slots LOADED whose PARENT names one of them, and their children (R508). The
depth of the tree is at most the number of slots. -/
def Mod.family (m : Mod) : Nat → List Nat → List Nat
  | 0, l => l
  | n + 1, l =>
    let more := (upto 64).filter fun s => decide (4 ≤ s) && m.slotState s == 1 && !l.contains s && l.contains (m.slotParent s)
    if more.isEmpty then l else Mod.family m n (l ++ more)

/-- STATE_CHANGE or ORPHAN sets, with its recorder trigger (R492, R508, R572 trigger 12). -/
def Mod.kenStateEvt (m : Mod) (k : Clock) (b : Nat) : Mod :=
  let m := m.kenEvt b
  m.recTrig k 12 (le 4 (m.rd R.KEN_STAT) ++ le 4 (m.rd R.KEN_TAMPER_STAT) ++ le 8 0)

/-- Invalidation of a parent: it and every child become ORPHAN (R508 step 1); `keep` a parent that is BAD itself. -/
def Mod.invalidate (m : Mod) (k : Clock) (s : Nat) (keep : Bool) : Mod :=
  let fam := m.family 64 [s]
  let m := m.each (fam.filter fun x => !(keep && x == s)) fun m x => m.setF (F.KEN_SLOT_STAT_STATE x) 2
  let cache := fam.contains (m.fld F.AIR_KEY_CTL_UP_ROOT)
  let m : Mod := { m with ken := { m.ken with cacheOrphan := m.ken.cacheOrphan || cache } }
  m.kenShow.kenStateEvt k 2

/-! ## Uses (R500, R505, R513) -/

/-- TYPE, USE and USER allow a use, and the slot is LOADED and not in retry (R500, R503). -/
def Mod.slotAllows (m : Mod) (s : Nat) (types : List Nat) (use user : Nat) : Bool :=
  decide (s < 64) && m.slotState s == 1 && !m.on (F.KEN_SLOT_STAT_RETRY s) && types.contains (m.fld (F.KEN_SLOT_STAT_TYPE s))
    && (m.fld (F.KEN_SLOT_STAT_USE s)).testBit use && (m.fld (F.KEN_SLOT_STAT_USER s)).testBit user

/-- A use that fails its check is counted (R500). -/
def Mod.policyFail (m : Mod) : Mod := (m.inc R.KEN_POLICY_FAIL_CNT).kenEvt 5

/-- A block's use of a slot: its key, or none with the failure counted (R500). -/
def Mod.useKey (m : Mod) (s : Nat) (types : List Nat) (use user : Nat) : Mod × Option (List Byte) :=
  if m.slotAllows s types use user then (m.inc R.KEN_OP_CNT, some (m.slotKey s)) else (m.policyFail, none)

/-- The tag of a message under a CMAC slot, cut to `n` bytes. -/
def Mod.tagBy (m : Mod) (s user n : Nat) (msg : List Byte) : Mod × Option (List Byte) :=
  match m.useKey s [1] 0 user with
  | (m, none) => (m, none)
  | (m, some key) => (m, some ((Config.aesCmac key msg).take n))

/-- The context of an uplink key: rover, site tag, epoch, Brace ID (R501). -/
def upContext (rover site epoch braceId : Nat) : List Byte := le 1 rover ++ le 2 site ++ le 1 epoch ++ le 2 braceId

/-- The uplink key of a rover and epoch: derived from the slot of UP_ROOT; the cache holds it (R501). -/
def Mod.upKey (m : Mod) (rover site epoch : Nat) : Mod × Option (List Byte) :=
  if m.ken.cacheOrphan then (m.policyFail, none)
  else match m.useKey (m.fld F.AIR_KEY_CTL_UP_ROOT) [2] 2 1 with
  | (m, none) => (m, none)
  | (m, some root) =>
    let k := kdf root (ascii "VAL-UP") (upContext rover site epoch (m.rd R.BRACE_ID % 65536))
    ({ m with ken := { m.ken with cache := AMap.ins (256 * rover + epoch) k m.ken.cache } }, some k)

/-- The key check value of a ROOT or SECRET256 key (R505). -/
def kcv (key : List Byte) : List Byte := (kdf key (ascii "KEN-KCV") []).take 8

/-- An image's signature verifies under the slot its KEY_ID names (R500). -/
def Mod.imageSigned (m : Mod) (keyId : Nat) (signed sig : List Byte) : Mod × Bool :=
  match m.useKey keyId [6] 4 4 with
  | (m, none) => (m, false)
  | (m, some key) => (m, Config.verify key (Config.sha384 signed) sig)

end Sys2Proof.Machine
end

