-- ==== Sys2Proof/Machine/BraceLink.lean ====
section
/-! DEFINITION. Frames between the two units of a Brace (R464, R481). -/

namespace Sys2Proof.Machine

/-- The Brace protocol version this unit uses for a message: the version in use, or its own highest while none is agreed (R479). -/
def Mod.bverMax (m : Mod) : Nat := if m.fld F.BRACE_CTL_BVER_MAX = 2 then 2 else 3

/-- BVER of a message sent now (R479, R486). -/
def Mod.bver (m : Mod) : Nat := let v := m.fld F.BRACE_STAT_BVER; if v = 0 then m.bverMax else v

/-- The 32-byte header of a Brace frame on P1 (R481). -/
def Mod.braceHeader (m : Mod) (k : Clock) (tick type last seq bodyLen : Nat) : List Byte :=
  le 1 m.bver ++ le 1 type ++ le 2 (48 + bodyLen) ++ le 2 (m.rd R.BRACE_ID % 65536) ++ le 1 (m.fld F.BRACE_CTL_UNIT) ++ le 1 last
    ++ le 4 seq ++ le 8 (Clock.fullNs k.now) ++ le 4 tick ++ le 8 0

/-- The destination address of Brace frames: broadcast until the partner's is known (R481). -/
def Mod.braceDest (m : Mod) : Nat := ((m.brace.partner.bind Partner.mac).getD 281474976710655)

/-- A Brace frame of a tick goes out on P1 with its tag, behind its destination address; nothing goes out when the key's use fails
(R481, R500). -/
def Mod.braceSendAt (m : Mod) (k : Clock) (tick type last : Nat) (body : List Byte) : Mod :=
  let seq := (m.brace.txSeq + 1) % 4294967296
  let msg := m.braceHeader k tick type last seq body.length ++ body
  match m.tagBy (m.rd R.BRACE_KEY % 64) 2 16 msg with
  | (m, none) => m
  | (m, some tag) =>
    ({ (m.inc R.BRACE_TX_CNT) with brace := { m.brace with txSeq := seq } }).emit (.brace false type (be 6 m.braceDest ++ msg ++ tag))

/-- A Brace frame of the tick in progress, the only one of its type (R481). -/
def Mod.braceSend (m : Mod) (k : Clock) (type : Nat) (body : List Byte) : Mod := m.braceSendAt k k.tick type 1 body

/-- Whether this unit runs as one of a pair whose partner is heard on P1 and shares a version (R480). -/
def Mod.paired (m : Mod) : Bool := m.on F.BRACE_CTL_MODE && m.on F.BRACE_STAT_HB_P1 && !m.on F.BRACE_STAT_COLD

end Sys2Proof.Machine
end

