-- ==== Sys2Proof/Machine/Rings.lean ====
section
/-! DEFINITION. The host rings (chapter 03): doorbells, states, descriptors, commands in, items out, completions, errors. -/

namespace Sys2Proof.Machine

/-- The one item kind of a ring to the module (R93). -/
def ringKind (n : Nat) : Nat := if n = 0 then 1 else 0x50

/-- The longest item of a ring (R93). -/
def ringMax (n : Nat) : Nat :=
  match n with | 0 => 65532 | 1 => 4096 | 2 => 8192 | 3 => 512 | 4 => 4096 | 5 => 65532 | _ => 9216

/-- The kinds a ring to the host carries (R93). -/
def ringCarries (n kind : Nat) : Bool :=
  match n with
  | 1 => kind == 2 | 2 => kind == 0x10 || kind == 0x11 | 3 => kind == 0x20 | 4 => kind == 0x30 | 5 => kind == 0x40
  | 8 => kind == 0x50 | 9 => kind == 0x50 | _ => false

/-- An access to one of a ring's registers; rings above 9 have none (R93). -/
def Mod.ringAccess (m : Mod) (n a : Nat) (f : Mod → Mod) : Mod :=
  m.access a fun m => if n < 10 then f m else m.glbErr 5 a

/-- The modulus of a ring's pointers, 2^(n+1) (R97). -/
def RingSt.span (r : RingSt) : Nat := 2 ^ (r.log2 + 1)

/-- Occupancy: (PROD − CONS) modulo 2^(n+1) (R97). -/
def Mod.ringOcc (m : Mod) (n : Nat) : Nat :=
  let s := (m.rng n).span
  (m.rd (R.RING_PROD n) + s - m.rd (R.RING_CONS n) % s) % s

/-- A ring whose RESET is waiting moves nothing (R104). -/
def Mod.ringResetting (m : Mod) (n : Nat) : Bool := m.on (F.RING_CTL_RESET n)

/-- The ring runs in OVERWRITE (R118, R120). -/
def Mod.overwrites (m : Mod) (n : Nat) : Bool := n == 4 && bitsOf (m.rng n).cfg 3 2 == 2

/-! ## Doorbells and states -/

/-- A doorbell is checked and advances PROD, or is refused with BAD_DB (R99 to R101); in OVERWRITE it has no other effect than
the check (R120). -/
def Mod.doorbell (m : Mod) (n v : Nat) : Mod :=
  let r := m.rng n
  let p := v % 131072
  let d := (p + r.span - m.rd (R.RING_CONS n) % r.span) % r.span
  if m.ringState n = 0 ∨ m.ringState n = 3 then m.ringSticky n 16
  else if p < r.span ∧ d ≤ 2 ^ r.log2 ∧ m.ringOcc n ≤ d then if m.overwrites n then m else m.wr (R.RING_PROD n) p
  else m.ringSticky n 16

/-- The power of two from 16 to 65,536 that a size is, as its exponent (R106 step 1). -/
def sizeLog (v : Nat) : Option Nat := (List.range 13).findSome? fun i => if v = 2 ^ (i + 4) then some (i + 4) else none

/-- The versions the catalogue allows on a ring (R93). -/
def verOk (n ver : Nat) : Bool := ver == 2 || (ver == 1 && !(n == 3 || n == 4 || n == 5))

/-- The set-up code of the first check of R106 that fails; 0 when all pass. -/
def Mod.setupCode (m : Mod) (n : Nat) : Nat :=
  let cfg := m.rd (R.RING_CFG n)
  if (sizeLog (m.rd (R.RING_SIZE n))).isNone then 1
  else if !verOk n (cfg % 4) then 2
  else if m.rd (R.RING_BASE_LO n) % 64 ≠ 0 then 3
  else if cfg.testBit 4 && m.rd (R.RING_WB_LO n) % 8 != 0 then 4
  else if bitsOf cfg 3 2 = 3 ∨ (bitsOf cfg 3 2 = 2 ∧ n ≠ 4) then 5
  else 0

/-- EN goes from 0 to 1: an enable from OFF captures the set-up and is checked, one from STOPPED resumes, one in ERROR is
ignored (R104 to R106). -/
def Mod.ringEnable (m : Mod) (n : Nat) : Mod :=
  if m.ringResetting n then m
  else match m.ringState n with
  | 0 =>
    match m.setupCode n with
    | 0 =>
      let r : RingSt := { RingSt.off with
        base := m.rd (R.RING_BASE_LO n) + m.rd (R.RING_BASE_HI n) * 4294967296
        wb := m.rd (R.RING_WB_LO n) + m.rd (R.RING_WB_HI n) * 4294967296
        cfg := m.rd (R.RING_CFG n)
        log2 := (sizeLog (m.rd (R.RING_SIZE n))).getD 4 }
      (((m.setRng n r).setF (F.RING_STAT_STATE n) 1).setB (F.RING_CTL_EN n) true)
    | c => ((m.setF (F.RING_STAT_SETUP n) c).setB (F.RING_CTL_EN n) false).ringSticky n 18
  | 2 => (m.setF (F.RING_STAT_STATE n) 1).setB (F.RING_CTL_EN n) true
  | _ => m

/-- The last filled buffer of the item in progress becomes TRUNC with CHAIN 0 (R121). -/
def truncLast : List Desc → List Desc
  | [] => []
  | d :: t =>
    if t.any fun e => e.status == some 1 then d :: truncLast t
    else if d.status = some 1 then { d with status := some 7, flags := d.flags &&& 0xFD } :: t
    else d :: truncLast t

/-- Gives the first descriptor without a status TRUNC with XFER 0 (R121); none when there is no such descriptor. -/
def truncFirstFree (kind : Nat) : List Desc → Option (List Desc)
  | [] => none
  | d :: t =>
    if d.status.isNone then some ({ d with status := some 7, xfer := 0, kind := kind, flags := d.flags &&& 0xFD } :: t)
    else (truncFirstFree kind t).map (d :: ·)

/-- The item to the host whose DMA has started is cut (R103, R121). -/
def Mod.cutItem (m : Mod) (n : Nat) : Mod :=
  let r := m.rng n
  match r.queue with
  | [] => m
  | it :: rest =>
    if r.sent = 0 then m
    else
      let r1 : RingSt := { r with queue := rest, sent := 0, used := 0 }
      match truncFirstFree it.kind r.fetched with
      | some f => m.setRng n { r1 with fetched := f }
      | none =>
      if r.fetched.length < m.ringOcc n ∨ m.overwrites n = true then
        m.setRng n { r1 with truncNext := some it.kind, flushTo := some (m.rd (R.RING_PROD n)) }
      else m.setRng n { r1 with fetched := truncLast r.fetched }

/-- EN goes from 1 to 0 (R103): in READY the item in progress is finished as a flush states, and the ring is STOPPED. -/
def Mod.ringStop (m : Mod) (n : Nat) : Mod :=
  let m := m.setB (F.RING_CTL_EN n) false
  if m.ringState n = 1 then
    let m := if ringIn n then m else m.cutItem n
    m.setF (F.RING_STAT_STATE n) 2
  else m

/-- Items not yet handed on complete FLUSHED (R121). -/
def flushDescs (l : List Desc) : List Desc :=
  l.map fun d => if d.handed || d.status.isSome then d else { d with status := some 3, xfer := 0 }

/-- FLUSH is written with 1 (R121). -/
def Mod.ringFlush (m : Mod) (n : Nat) : Mod :=
  let m := m.setB (F.RING_CTL_FLUSH n) true
  let r := m.rng n
  if m.ringState n = 3 then
    if ringIn n then m.setRng n { r with fetched := r.fetched.filter fun d => d.handed }
    else (m.incBy (R.RING_DROP_CNT n) (r.queue.length - (if r.sent = 0 then 0 else 1))).setRng n { r with queue := [], sent := 0, used := 0 }
  else if m.ringState n = 0 then m
  else if ringIn n then m.setRng n { r with fetched := flushDescs r.fetched, flushTo := some (m.rd (R.RING_PROD n)) }
  else
    let m := m.cutItem n
    let r := m.rng n
    (m.incBy (R.RING_DROP_CNT n) r.queue.length).setRng n { r with queue := [] }

/-- Everything a flush causes is settled (R121). -/
def Mod.flushSettled (m : Mod) (n : Nat) : Bool :=
  let r := m.rng n
  if m.ringState n = 0 ∨ m.ringState n = 3 then true
  else if ringIn n then
    match r.flushTo with
    | none => true
    | some p => (p + r.span - m.rd (R.RING_CONS n) % r.span) % r.span == 0 || decide (m.ringOcc n < (p + r.span - m.rd (R.RING_CONS n) % r.span) % r.span)
  else r.truncNext.isNone && !(r.fetched.any fun d => d.status == some 7)

/-- RESET is written with 1: the ring stops, EN reads 0, and RESET reads 1 until the ring is OFF (R104). -/
def Mod.ringReset (m : Mod) (n : Nat) : Mod := (m.setB (F.RING_CTL_EN n) false).setB (F.RING_CTL_RESET n) true

/-- The ring's issued DMA has ended: the queue is discarded, both pointers become 0 and the ring is OFF (R103, R104). -/
def Mod.ringOff (m : Mod) (n : Nat) : Mod :=
  let m := m.setRng n RingSt.off
  let m := (m.wr (R.RING_PROD n) 0).wr (R.RING_CONS n) 0
  let m := (m.setF (F.RING_STAT_STATE n) 0).setF (F.RING_STAT_ERR n) 0
  (m.setB (F.RING_CTL_RESET n) false).setB (F.RING_CTL_FLUSH n) false

/-- One write to RING_CTL: RESET before the rest, a stop before a flush (R104). -/
def Mod.ringCtl (m : Mod) (n v : Nat) : Mod :=
  if v.testBit 2 then m.ringReset n
  else
    let en := m.on (F.RING_CTL_EN n)
    let m := if v.testBit 0 && !en then m.ringEnable n else if !v.testBit 0 && en then m.ringStop n else m
    if v.testBit 1 then m.ringFlush n else m

/-- A ring enters ERROR (R126). -/
def Mod.ringError (m : Mod) (n code : Nat) : Mod := ((m.setF (F.RING_STAT_STATE n) 3).setF (F.RING_STAT_ERR n) code).raise 1

/-- A lost write of an RWH register (R69). -/
def Mod.lostWrite (m : Mod) (a : Nat) : Mod := (m.inc R.GLB_LOST_CNT).glbErr 0 a

/-- A write to RING_CONS (R128). -/
def Mod.consWrite (m : Mod) (n v : Nat) : Mod :=
  let r := m.rng n
  if m.ringState n = 2 ∧ v < r.span ∧ (m.rd (R.RING_PROD n) + r.span - v % r.span) % r.span ≤ 2 ^ r.log2 then
    (m.wr (R.RING_CONS n) v).setRng n { r with fetched := [] }
  else m.lostWrite (R.RING_CONS n)

/-! ## Descriptors (R108 to R113, R629) -/

/-- A descriptor's bytes read as the ring's version lays them out (R108, R109). -/
def parseDesc (ver : Nat) (b : List Byte) : Desc :=
  if ver = 1 then
    { addr := leAt b 0 8, len := leAt b 8 2, tag := 0, kind := leAt b 10 1, flags := leAt b 11 1, ver := 2, status := none, xfer := 0, handed := false }
  else
    { addr := leAt b 0 8, len := leAt b 8 4 % 16777216, tag := leAt b 16 4, kind := leAt b 20 2, flags := leAt b 22 1, ver := leAt b 23 1,
      status := none, xfer := 0, handed := false }

/-- Buffers on rings 0 to 5 start at a multiple of 8 bytes (R111). -/
def misaligned (n addr : Nat) : Bool := decide (n ≤ 5) && addr % 8 != 0

/-- Every earlier descriptor of the item that ends the list completes FLUSHED (R629): the item's descriptors are the ones
not handed on and without a status, back to the last one without CHAIN. -/
def flushTail (l : List Desc) : List Desc :=
  let tail := (l.reverse.takeWhile fun d => !d.handed && d.flags.testBit 1).reverse
  l.take (l.length - tail.length) ++ flushDescs tail

/-- A fetched descriptor joins the ring's list with the status its fetch decides: BAD_VER (R629), FLUSHED during a flush
(R121), EMPTY (R112), BAD_ADDR of a posted buffer (R111), TRUNC of a cut item (R121). -/
def Mod.fetchDesc (m : Mod) (n : Nat) (b : List Byte) : Mod :=
  let r := m.rng n
  let d := parseDesc (r.cfg % 4) b
  let left := match r.flushTo with
    | none => false
    | some p => decide (r.fetched.length + (if ringIn n then 0 else 1) < (p + r.span - m.rd (R.RING_CONS n) % r.span) % r.span)
  -- R121: a buffer that cannot be used was the last one posted when the item was cut, so the last filled one is TRUNC instead
  let noMore (f : List Desc) : RingSt :=
    if r.truncNext.isSome && !left && !m.overwrites n then { r with fetched := truncLast r.fetched ++ f, truncNext := none, flushTo := none }
    else { r with fetched := r.fetched ++ f }
  if d.ver ≠ 2 then
    m.setRng n { r with fetched := (if ringIn n then flushTail r.fetched else r.fetched) ++ [{ d with status := some 8, flags := if ringIn n then d.flags else d.flags &&& 0xFD }] }
  else if ringIn n && left then m.setRng n { r with fetched := r.fetched ++ [{ d with status := some 3 }] }
  else if ringIn n then m.setRng n { r with fetched := r.fetched ++ [if d.len = 0 then { d with status := some 2 } else d] }
  else if d.len = 0 then m.setRng n (noMore [{ d with status := some 2, kind := 0, flags := d.flags &&& 0xFD }])
  else if misaligned n d.addr then m.setRng n (noMore [{ d with status := some 6, kind := 0, flags := d.flags &&& 0xFD }])
  else match r.truncNext with
    | some kind => m.setRng n { r with fetched := r.fetched ++ [{ d with status := some 7, kind := kind, flags := d.flags &&& 0xFD }], truncNext := none, flushTo := none }
    | none => m.setRng n { r with fetched := r.fetched ++ [{ d with kind := 0, flags := d.flags &&& 0xFD }] }

/-- The ring may fetch its next descriptor: it is READY (or settles a flush or a stop), the queue has room, a doorbell
covers the descriptor, and nothing fetched has ended the ring (R102, R119, R120, R629). -/
def Mod.mayFetch (m : Mod) (n : Nat) : Bool :=
  let r := m.rng n
  n < 10 && !m.ringResetting n && (m.ringState n == 1 || (m.ringState n == 2 && (r.truncNext.isSome || r.flushTo.isSome)))
    && (if ringIn n then decide (itemsIn r.fetched < ringDepth n) else decide (r.fetched.length < ringDepth n)) && (decide (r.fetched.length < m.ringOcc n) || m.overwrites n)
    && !(r.fetched.any fun d => d.status == some 8 || d.status == some 9)

/-! ## Dispatch of commands (R114 to R117, R628, R629) -/

/-- The descriptors of the first item not handed on: its position, and it with every descriptor up to the one that ends
the chain; none while the chain is incomplete. -/
def firstItem (l : List Desc) : Option (Nat × Nat) :=
  let skip := (l.takeWhile fun d => d.handed || d.status.isSome).length
  let body := l.drop skip
  match body.findIdx? fun d => !d.flags.testBit 1 with
  | none => none
  | some i => some (skip, i + 1)

/-- Gives every descriptor of positions `i … i+c-1` that has no status a status, with its XFER when it is OK. -/
def settle (i c st : Nat) (handed : Bool) (l : List Desc) : List Desc :=
  l.take i ++ ((l.drop i).take c).map (fun d => if d.status.isSome then d else
    { d with status := some st, xfer := if st = 1 then d.len else 0, handed := handed }) ++ l.drop (i + c)

/-- The status of a whole item by the first check of R629 that fails; 1 OK. -/
def judgeItem (n : Nat) (ds : List Desc) : Nat :=
  let real := ds.filter fun d => d.status.isNone
  if (ds.headD { addr := 0, len := 0, tag := 0, kind := 0, flags := 0, ver := 0, status := none, xfer := 0, handed := false }).kind ≠ ringKind n then 4
  else if ringMax n < (real.map fun d => d.len).foldl (· + ·) 0 ∨ 16 < real.length then 5
  else if real.any fun d => misaligned n d.addr then 6
  else 1

/-- FENCE holds the item back until every earlier item has completed, on ring 0 with every earlier result in host
memory (R114). -/
def Mod.fenced (m : Mod) (n i : Nat) (ds : List Desc) : Bool :=
  (ds.any fun d => d.flags.testBit 2)
    && (decide (0 < i) || (n == 0 && (!m.ring.handed.isEmpty || !(m.rng 1).queue.isEmpty)))

/-- The LEN that a block's chapter gives an opcode, from the item's bytes where it depends on them; none where the block
defines no such opcode or accepts no commands (R154, R216, R304, R351, R428, R451, R485, R518, R543, R591). -/
def cmdLen (block op : Nat) (b : List Byte) : Option Nat :=
  match block, op with
  | 3, 1 => some 20 | 4, 1 => some 32
  | 5, 1 => some 20 | 5, 2 => some 20 | 5, 3 => some 20
  | 6, 1 => some 24 | 6, 2 => some 20
  | 7, 1 => some 32 | 7, 2 => some 20 | 7, 3 => some 72 | 7, 4 => some 40 | 7, 5 => some 20 | 7, 6 => some 48
  | 7, 7 => some 68 | 7, 8 => some 68 | 7, 9 => some 164 | 7, 10 => some 148
  | 8, 1 => some 36 | 8, 2 => some 20 | 8, 3 => some 20 | 8, 4 => some 24 | 8, 5 => some 20 | 8, 6 => some 20 | 8, 7 => some 20
  | 9, 1 => some 40 | 9, 2 => some 20 | 9, 3 => some 40 | 9, 4 => some 24
  | 10, 1 => some 32 | 10, 2 => some 20
  | 11, 1 => some 32 | 11, 2 => some 24 | 11, 0x10 => some ((32 + 2 * leAt b 17 1 + 3) / 4 * 4) | 11, 0x11 => some 20 | 11, 0x12 => some 20
  | 11, 0x13 => some 20 | 11, 0x20 => some 40 | 11, 0x21 => some 20 | 11, 0x22 => some 20
  | 12, 1 => some 44 | 12, 2 => some (24 + 12 * leAt b 17 1) | 12, 3 => some 32 | 12, 4 => some 20 | 12, 5 => some 28 | 12, 6 => some 20
  | 14, 1 => some 28 | 14, 2 => some 24 | 14, 3 => some 20 | 14, 0x10 => some 24 | 14, 0x11 => some 48 | 14, 0x20 => some 28
  | 14, 0x21 => some 40 | 14, 0x22 => some 40
  | _, _ => none

/-- The RESULT of the first step of R628 that a command header fails; 0 when it is handed to its block. -/
def Mod.judgeHeader (m : Mod) (b : List Byte) : Nat :=
  let len := leAt b 0 2
  let block := leAt b 2 1
  let op := leAt b 4 2
  if len < 16 ∨ 65532 < len ∨ len ≠ b.length then 3
  else if leAt b 3 1 ≠ 1 ∨ 2 ≤ leAt b 6 2 ∨ leAt b 12 4 ≠ 0 then 5
  else if 15 < block ∨ block = 2 then 2
  else if !m.blkOn block then 4
  else match cmdLen block op b with
    | none => 1
    | some l => if len = l then 0 else 3

/-- A command item is dispatched: judged whole, its header judged, handed to its block (R116, R117, R628, R629). -/
def Mod.dispatch (m : Mod) (k : Clock) (data : List Byte) : Mod :=
  let r := m.rng 0
  match firstItem r.fetched with
  | none => m
  | some (i, c) =>
    let ds := (r.fetched.drop i).take c
    if m.ringState 0 ≠ 1 ∨ m.ringResetting 0 = true ∨ m.fenced 0 i ds = true then m
    else
      let st := judgeItem 0 ds
      let m := m.setRng 0 { r with fetched := settle i c st (st == 1) r.fetched }
      if st ≠ 1 then m
      else
        let total := ((ds.filter fun d => d.status.isNone).map fun d => d.len).foldl (· + ·) 0
        let b := (data ++ List.replicate total 0).take total
        let block := leAt b 2 1
        let op := leAt b 4 2
        let tag := leAt b 8 4
        match m.judgeHeader b with
        | 0 =>
          let h : Handed := { block := block, opcode := op, tag := tag, noResult := (leAt b 6 2).testBit 0, acceptTick := k.tick }
          let m : Mod := { m with ring := { m.ring with handed := m.ring.handed ++ [h] } }
          if block = 7 then m.kenBusy else m
        | code => m.enqueue k 1 2 (resultBytes block op code tag k.tick k.tick [])

/-! ## Items to the host (R113, R118) -/

/-- The position of the first posted buffer not yet used. -/
def freeBuf (l : List Desc) : Option Nat := l.findIdx? fun d => d.status.isNone

/-- The first queued item moves into the next posted buffer (R113). -/
def Mod.fillBuffer (m : Mod) (n : Nat) : Mod :=
  let r := m.rng n
  match r.queue, freeBuf r.fetched with
  | it :: rest, some i =>
    let d := r.fetched.getD i { addr := 0, len := 0, tag := 0, kind := 0, flags := 0, ver := 0, status := none, xfer := 0, handed := false }
    let left := it.data.length - r.sent
    let c := min d.len left
    let last := left ≤ d.len
    let full := !last && decide (r.used + 1 = 16)
    let d' : Desc := { d with
      status := some (if full then 7 else 1)
      xfer := c
      kind := it.kind
      flags := if last || full then d.flags &&& 0xFD else d.flags ||| 2 }
    let r' : RingSt := { r with
      fetched := setAt r.fetched i d'
      queue := if last || full then rest else r.queue
      sent := if last || full then 0 else r.sent + c
      used := if last || full then 0 else r.used + 1 }
    let m := (m.setRng n r').emit (.bufferWrite d.addr ((it.data.drop r.sent).take c))
    if full then m.inc (R.RING_DROP_CNT n) else m
  | _, _ => m

/-! ## Completion (R110, R124) -/

/-- The completed head may still turn TRUNC: it is the last filled buffer of an item not yet whole (R121). -/
def RingSt.holdsHead (r : RingSt) : Bool :=
  (decide (0 < r.sent) || r.truncNext.isSome) && !((r.fetched.drop 1).any fun d => d.status == some 1)

/-- A completion is counted and covered by an interrupt, or not yet (R124). -/
def Mod.cover (m : Mod) (k : Clock) (n : Nat) (irq : Bool) : Mod :=
  let r := m.rng n
  let r' : RingSt := { r with uncovered := r.uncovered + 1, uncoveredAt := if r.uncovered = 0 then k.raw else r.uncoveredAt }
  let cnt := m.fld (F.RING_COAL_COUNT n)
  if irq || (cnt != 0 && decide (cnt ≤ r'.uncovered)) then (m.setRng n { r' with uncovered := 0 }).raise (2 + n)
  else m.setRng n r'

/-- The head of the ring completes: its write-back, then CONS; BAD_VER and DMA_ERR put the ring into ERROR (R110). -/
def Mod.completeHead (m : Mod) (k : Clock) (n : Nat) : Mod :=
  let r := m.rng n
  match r.fetched with
  | [] => m
  | d :: rest =>
    match d.status with
    | none => m
    | some st =>
      let cons := m.rd (R.RING_CONS n)
      let cons' := (cons + 1) % r.span
      let m := m.setRng n { r with fetched := rest }
      let m := m.emit (.descWriteBack n (cons % 2 ^ r.log2) st d.xfer d.kind d.flags d.ver k.tick)
      let m := m.wr (R.RING_CONS n) cons'
      let m := if r.cfg.testBit 4 then m.emit (.consWriteBack r.wb cons') else m
      let m := ((m.inc (R.RING_DONE_CNT n)).perfAdd (perfRing n) 1).cover k n (d.flags.testBit 0)
      if st = 8 then m.ringError n 3
      else if st = 9 then m.ringError n (if ringIn n then 1 else 2)
      else m

/-- The head may complete now (R103, R121). -/
def Mod.mayComplete (m : Mod) (n : Nat) : Bool :=
  n < 10 && !m.ringResetting n && (m.ringState n == 1 || m.ringState n == 2) && !(m.rng n).holdsHead

/-! ## Errors (R126) -/

/-- The first DMA fault while VALID is 0 is captured. -/
def Mod.dmaCapture (m : Mod) (n : Nat) (write : Bool) (cause addr : Nat) : Mod :=
  if m.bit R.RING_DMA_ERR_INFO 31 then m
  else ((m.wr R.RING_DMA_ERR_LO addr).wr R.RING_DMA_ERR_HI (addr / 4294967296)).wr R.RING_DMA_ERR_INFO
    (n % 16 + (if write then 16 else 0) + cause % 8 * 32 + 2147483648)

/-- A DMA fault of a READY ring, on the fetched descriptor at a position or on none of them (R126, R629). -/
def Mod.dmaFault (m : Mod) (n : Nat) (write : Bool) (cause addr : Nat) (on : Option Nat) : Mod :=
  let m := m.dmaCapture n write cause addr
  let r := m.rng n
  match on with
  | none => m.ringError n (if write then 2 else 1)
  | some i =>
    let d : Desc := r.fetched.getD i { addr := 0, len := 0, tag := 0, kind := 0, flags := 0, ver := 2, status := none, xfer := 0, handed := false }
    let before := if ringIn n then flushTail (r.fetched.take i) else r.fetched.take i
    m.setRng n { r with fetched := before ++ [{ d with status := some 9, xfer := 0 }] }

/-- A ring has DMA to do: descriptors to read or complete, or an item for a posted buffer (R126). -/
def Mod.dmaToDo (m : Mod) (n : Nat) : Bool :=
  let r := m.rng n
  m.ringState n == 1 && ((ringIn n && decide (0 < m.ringOcc n)) || r.fetched.any (fun d => d.status.isSome) || (!r.queue.isEmpty && (decide (0 < m.ringOcc n) || m.overwrites n)))

/-- Bus Master Enable is cleared: every ring with DMA to do enters ERROR with NO_BME (R126). -/
def Mod.bmeOff (m : Mod) (addr : Nat) (write : Bool) : Mod :=
  m.each ((upto 10).filter m.dmaToDo) fun m n => (m.dmaCapture n write 6 addr).ringError n 4

/-- Writing the interrupt enables: one that changes to 1 while its status is 1 sends a message (R125). -/
def Mod.irqEnWrite (m : Mod) (v : Nat) : Mod :=
  let old := m.rd R.RING_IRQ_EN
  let m := m.cfgSet R.RING_IRQ_EN (v % 134217728)
  m.each (upto 27) fun m i => if v.testBit i && !old.testBit i && m.bit R.RING_IRQ_STAT i then m.sendMsg i else m

/-- Writing 1 to VALID clears the capture and re-arms it (R126). -/
def Mod.dmaErrClear (m : Mod) : Mod := ((m.wr R.RING_DMA_ERR_LO 0).wr R.RING_DMA_ERR_HI 0).wr R.RING_DMA_ERR_INFO 0

/-- Only outputs the module produces under R42 reach a ring (R95). -/
def Mod.mayItem (m : Mod) (n : Nat) : Bool := if n = 2 then m.mayCorrect else if n = 3 then m.maySolve else true

/-! ## Meanings -/

/-- RING_DOORBELL (R99 to R101). -/
def execRingDoorbell (dt n v : Nat) (s : State) : Res :=
  .next (s.ev dt fun _ m => m.ringAccess n (R.RING_DB n) fun m => m.doorbell n v)

/-- RING_ENABLE: EN goes from 0 to 1 (R104 to R106). -/
def execRingEnable (dt n : Nat) (s : State) : Res :=
  .next (s.ev dt fun _ m => m.ringAccess n (R.RING_CTL n) fun m => if m.on (F.RING_CTL_EN n) then m else m.ringEnable n)

/-- RING_STOP: EN goes from 1 to 0 (R103). -/
def execRingStop (dt n : Nat) (s : State) : Res :=
  .next (s.ev dt fun _ m => m.ringAccess n (R.RING_CTL n) fun m => if m.on (F.RING_CTL_EN n) then m.ringStop n else m)

/-- RING_FLUSH: FLUSH is written with 1 (R121). -/
def execRingFlush (dt n : Nat) (s : State) : Res :=
  .next (s.ev dt fun _ m => m.ringAccess n (R.RING_CTL n) fun m => m.ringFlush n)

/-- RING_FLUSH_DONE: FLUSH clears once every case is settled (R121). -/
def execRingFlushDone (dt n : Nat) (s : State) : Res :=
  .next (s.ev dt fun _ m =>
    if n < 10 ∧ m.on (F.RING_CTL_FLUSH n) = true ∧ m.flushSettled n = true then
      (m.setB (F.RING_CTL_FLUSH n) false).setRng n { m.rng n with flushTo := none }
    else m)

/-- RING_RESET: RESET is written with 1 (R104). -/
def execRingReset (dt n : Nat) (s : State) : Res :=
  .next (s.ev dt fun _ m => m.ringAccess n (R.RING_CTL n) fun m => m.ringReset n)

/-- RING_RESET_DONE: the ring's issued DMA has ended (R103, R104). -/
def execRingResetDone (dt n : Nat) (s : State) : Res :=
  .next (s.ev dt fun _ m => if n < 10 ∧ m.ringResetting n = true then m.ringOff n else m)

/-- RING_CONS_WRITE (R128). -/
def execRingConsWrite (dt n v : Nat) (s : State) : Res :=
  .next (s.ev dt fun _ m => m.ringAccess n (R.RING_CONS n) fun m => m.consWrite n v)

/-- DESCRIPTOR_FETCH: the next descriptor's bytes as read from host memory (R102, R119, R629). -/
def execDescriptorFetch (dt n : Nat) (bytes : List Byte) (s : State) : Res :=
  .next (s.ev dt fun _ m => if m.mayFetch n then m.fetchDesc n bytes else m)

/-- COMMAND_DISPATCH: the next item of ring 0, its buffers' bytes as read from host memory (R116, R117, R628). -/
def execCommandDispatch (dt : Nat) (data : List Byte) (s : State) : Res :=
  .next (s.ev dt fun k m => m.dispatch k data)

/-- ITEM_ENQUEUE: a block's item for a ring to the host (R95, R118). -/
def execItemEnqueue (dt n kind : Nat) (data : List Byte) (s : State) : Res :=
  .next (s.ev dt fun k m => if ringCarries n kind ∧ data.length ≤ ringMax n ∧ m.mayItem n = true then m.enqueue k n kind data else m)

/-- ITEM_DMA_TO_HOST: the first queued item of a ring fills its next posted buffer (R113, R118, R120). -/
def execItemDmaToHost (dt n : Nat) (s : State) : Res :=
  .next (s.ev dt fun _ m => if n < 10 ∧ ringIn n = false ∧ m.ringState n = 1 ∧ m.ringResetting n = false then m.fillBuffer n else m)

/-- DESCRIPTOR_COMPLETE: the head of a ring is written back (R110, R124). -/
def execDescriptorComplete (dt n : Nat) (s : State) : Res :=
  .next (s.ev dt fun k m => if m.mayComplete n then m.completeHead k n else m)

/-- DMA_FAULT (R126, R629). -/
def execDmaFault (dt n : Nat) (write : Bool) (cause addr : Nat) (on : Option Nat) (s : State) : Res :=
  .next (s.ev dt fun _ m => if n < 10 ∧ m.ringState n = 1 then m.dmaFault n write cause addr on else m)

/-- BUS_MASTER_DISABLE, with the access it refuses (R126). -/
def execBusMasterDisable (dt addr : Nat) (write : Bool) (s : State) : Res :=
  .next (s.ev dt fun _ m => m.bmeOff addr write)

/-- RING_COAL_TIMEOUT: TIME µs after the oldest uncovered completion (R124). -/
def execRingCoalTimeout (dt n : Nat) (s : State) : Res :=
  .next (s.ev dt fun k m =>
    let r := m.rng n
    let t := m.fld (F.RING_COAL_TIME n)
    if n < 10 ∧ t ≠ 0 ∧ 0 < r.uncovered ∧ r.uncoveredAt + usRaw t ≤ k.raw then (m.setRng n { r with uncovered := 0 }).raise (2 + n) else m)

/-- RING_IRQ_EN_WRITE (R125). -/
def execRingIrqEnWrite (dt v : Nat) (s : State) : Res :=
  .next (s.ev dt fun _ m => m.access R.RING_IRQ_EN fun m => m.irqEnWrite v)

/-- RING_DMA_ERR_CLEAR (R126). -/
def execRingDmaErrClear (dt : Nat) (s : State) : Res :=
  .next (s.ev dt fun _ m => m.access R.RING_DMA_ERR_INFO fun m => m.dmaErrClear)

/-- MSIX_VECTOR_UNMASK: a vector is unmasked; a pending message is sent (R125). -/
def execMsixVectorUnmask (dt v : Nat) (s : State) : Res :=
  .next (s.ev dt fun _ m =>
    if 32 ≤ v ∨ m.barUp = false then m
    else
      let m : Mod := { m with ring := { m.ring with msixMask := m.ring.msixMask &&& (4294967295 - 2 ^ v) } }
      if m.ring.msixPend.testBit v then
        ({ m with ring := { m.ring with msixPend := m.ring.msixPend &&& (4294967295 - 2 ^ v) } }).emit (.msix v)
      else m)

end Sys2Proof.Machine
end

