-- ==== Sys2Proof/Machine/Gnss.lean ====
section
/-! DEFINITION. The base receiver (chapter 04): bands and antenna, channels, the search engine, measurement sets. -/

namespace Sys2Proof.Machine

/-! ## Signals and satellites (R131, R132) -/

/-- The system of a signal (R131). -/
def sigSys (g : Nat) : Nat :=
  if g ≤ 3 then 0 else if g ≤ 7 then 1 else if g ≤ 11 then 2 else if g ≤ 13 then 3 else 4

/-- Anchor signals (R131). -/
def anchor (g : Nat) : Bool := g == 0 || g == 4 || g == 8 || g == 12 || g == 14

/-- Chips of the primary code (R131). -/
def sigChips (g : Nat) : Nat :=
  match g with
  | 0 => 1023 | 4 => 4092 | 7 => 5115 | 8 => 2046 | 12 => 511 | 13 => 511 | 14 => 1023 | _ => 10230

/-- Centre frequency in kHz for GLONASS frequency channel `k` (R131). -/
def sigKHz (g : Nat) (k : Int) : Int :=
  match g with
  | 2 => 1227600 | 15 => 1227600 | 3 => 1176450 | 5 => 1176450 | 10 => 1176450 | 16 => 1176450 | 6 => 1207140 | 7 => 1278750
  | 8 => 1561098 | 11 => 1268520 | 12 => 1602000 + k * 1125 / 2 | 13 => 1246000 + k * 875 / 2 | _ => 1575420

/-- Pilot signals carry no half-cycle ambiguity (R131, R138). -/
def pilot (g : Nat) : Bool := !(g == 0 || g == 8 || g == 11 || g == 12 || g == 13 || g == 14)

/-- Satellite numbers of a system (R132). -/
def svOk (sys sv : Nat) : Bool :=
  match sys with
  | 0 => decide (1 ≤ sv) && decide (sv ≤ 32) | 1 => decide (1 ≤ sv) && decide (sv ≤ 36) | 2 => decide (1 ≤ sv) && decide (sv ≤ 63)
  | 3 => decide (1 ≤ sv) && decide (sv ≤ 24) | 4 => decide (193 ≤ sv) && decide (sv ≤ 202) | _ => false

/-- The status instance of a satellite (R132). -/
def svInst (sys sv : Nat) : Nat :=
  match sys with | 0 => sv | 1 => 64 + sv | 2 => 128 + sv | 3 => 192 + sv | _ => 224 + (sv - 193)

/-- The satellite of a status instance (R132). -/
def instSv (i : Nat) : Option (Nat × Nat) :=
  (upto 5).findSome? fun sys =>
    let sv := match sys with | 0 => i | 1 => i - 64 | 2 => i - 128 | 3 => i - 192 | _ => i - 224 + 193
    if svOk sys sv && svInst sys sv == i then some (sys, sv) else none

/-- A satellite is excluded (R171). -/
def Mod.svExcl (m : Mod) (sys sv : Nat) : Bool :=
  match sys with
  | 0 => m.bit R.GNSS_EXCL_GPS (sv - 1)
  | 1 => if sv ≤ 32 then m.bit R.GNSS_EXCL_GAL0 (sv - 1) else m.bit R.GNSS_EXCL_GAL1 (sv - 33)
  | 2 => if sv ≤ 32 then m.bit R.GNSS_EXCL_BDS0 (sv - 1) else m.bit R.GNSS_EXCL_BDS1 (sv - 33)
  | 3 => m.bit R.GNSS_EXCL_GLO (sv - 1)
  | _ => m.bit R.GNSS_EXCL_QZS (sv - 193)

/-- The signal is enabled and its satellite not excluded (R143, R145). -/
def Mod.sigUse (m : Mod) (sys sv sig : Nat) : Bool := m.bit R.GNSS_SIG_EN sig && !m.svExcl sys sv

/-! ## Channels (R137 to R146) -/

/-- A channel's assignment word split: VALID, SYS, SV, SIG, GLO_K (R172). -/
def asgValid (w : Nat) : Bool := w.testBit 0
def asgSys (w : Nat) : Nat := bitsOf w 3 1
def asgSv (w : Nat) : Nat := bitsOf w 11 4
def asgSig (w : Nat) : Nat := bitsOf w 16 12
def asgK (w : Nat) : Int := signed 4 (bitsOf w 23 20)

/-- The word of an assignment. -/
def asgWord (sys sv sig : Nat) (k : Int) : Nat := 1 + sys % 8 * 2 + sv % 256 * 16 + sig % 32 * 4096 + unsigned 4 k * 1048576

/-- SIG belongs to SYS, SV is in range, GLO_K is in range for GLONASS (R143). -/
def asgOk (w : Nat) : Bool :=
  decide (asgSig w ≤ 16) && sigSys (asgSig w) == asgSys w && svOk (asgSys w) (asgSv w)
    && (asgSys w != 3 || (decide (-7 ≤ asgK w) && decide (asgK w ≤ 6)))

/-- The same signal of the same satellite. -/
def asgSame (a b : Nat) : Bool := asgSys a == asgSys b && asgSv a == asgSv b && asgSig a == asgSig b

/-- A channel's live assignment. -/
def Mod.asg (m : Mod) (c : Nat) : Nat := m.rd (R.GNSS_CH_ASSIGN c)

/-- A channel's state (R144). -/
def Mod.chState (m : Mod) (c : Nat) : Nat := m.fld (F.GNSS_CH_STAT_STATE c)

/-- A channel's hidden part. -/
def Mod.gch (m : Mod) (c : Nat) : GnssCh := AMap.get (fun _ => GnssCh.idle) m.gnss.ch c

/-- Replaces a channel's hidden part. -/
def Mod.setGch (m : Mod) (c : Nat) (h : GnssCh) : Mod :=
  { m with gnss := { m.gnss with ch := AMap.put (fun _ => GnssCh.idle) c h m.gnss.ch } }

/-- The channel is in the host pool (R139). -/
def Mod.hostPool (m : Mod) (c : Nat) : Bool := decide (min 320 (m.rd R.GNSS_CH_POOL % 512) ≤ c)

/-- The channel runs in loop mode HOST (R150). -/
def Mod.hostLoop (m : Mod) (c : Nat) : Bool := m.fld (F.GNSS_CH_CTL_LOOP c) == 1

/-- A channel enters a state: RETRY, LOST, WAIT and IDLE reset the lock time (R146). -/
def Mod.chEnter (m : Mod) (k : Clock) (c st : Nat) : Mod :=
  let h := m.gch c
  let m := m.setGch c { h with since := k.raw, lockRun := 0, lostRun := 0, lowRun := 0, hit := false, release := false, aided := h.aided && st == 1 }
  let m := m.setF (F.GNSS_CH_STAT_STATE c) st
  let m := if st = 3 then m else m.setF (F.GNSS_CH_STAT_CARR_LOCK c) 0
  if st = 5 ∨ st = 4 ∨ st = 1 ∨ st = 0 then m.wr (R.GNSS_CH_LOCKTIME c) 0 else m

/-- A channel enters WAIT aided from held code and carrier (R145 steps 2 and 14). -/
def Mod.chAided (m : Mod) (k : Clock) (c : Nat) : Mod :=
  let m := m.chEnter k c 1
  m.setGch c { m.gch c with aided := true }

/-- A cycle slip (R146). -/
def Mod.chSlip (m : Mod) (c : Nat) : Mod :=
  let m := (m.inc (R.GNSS_CH_SLIP_CNT c)).wr (R.GNSS_CH_LOCKTIME c) 0
  m.setGch c { m.gch c with lossOfLock := true }

/-- Channels that hold an assignment or a state of their own, in ascending order. -/
def Mod.busyCh (m : Mod) : List Nat :=
  (upto 320).filter fun c => (AMap.find m.live (R.GNSS_CH_ASSIGN c)).isSome || (AMap.find m.live (R.GNSS_CH_STAT c)).isSome
    || (AMap.find m.gnss.ch c).isSome

/-- The assigned signal may be worked: valid, consistent, enabled and not excluded (R145 steps 4 and 5). -/
def Mod.asgLive (m : Mod) (c : Nat) : Bool :=
  let w := m.asg c
  asgValid w && asgOk w && m.sigUse (asgSys w) (asgSv w) (asgSig w) && !m.on (F.GNSS_CH_STAT_BAD_ASSIGN c)

/-- No carrier lock 500 ms into PULLIN: WAIT (R145 step 8). -/
def Mod.pullinTimeout (m : Mod) (k : Clock) (c : Nat) : Mod :=
  if m.chState c = 2 ∧ (m.gch c).since + msRaw 500 ≤ k.raw then m.chEnter k c 1 else m

/-- LOST for 10 s: WAIT (R145 step 12). -/
def Mod.lostTimeout (m : Mod) (k : Clock) (c : Nat) : Mod :=
  if m.chState c = 4 ∧ (m.gch c).since + secRaw 10 ≤ k.raw then m.chEnter k c 1 else m

/-- Advances a 48-bit phase accumulator over the 156,250 samples of 1 ms by a 32-bit word (R133, R137). -/
def phaseAdv (p : BitVec 48) (word : Int) : BitVec 48 := p + BitVec.ofInt 48 (word * 156250)

/-- What a dump measures: accumulations, locks, C/N0, Doppler; in FW the loops set the NCOs (R137, R150, R151). -/
def Mod.dumpTake (m : Mod) (c : Nat) (d : DumpIn) : Mod :=
  let h := m.gch c
  let rate := if m.hostLoop c then m.rd (R.GNSS_CH_CODE_RATE c) else d.fwRate
  let freq := if m.hostLoop c then m.rd (R.GNSS_CH_CARR_FREQ c) else d.fwFreq
  let m := m.setGch c { h with
    acc := d.acc
    dumps := (h.dumps ++ [d.acc]).take 10
    codePhase := phaseAdv h.codePhase (m.rd (R.GNSS_CH_CODE_RATE c))
    carrPhase := phaseAdv h.carrPhase (m.rdI (R.GNSS_CH_CARR_FREQ c)) }
  let m := (m.wr (R.GNSS_CH_CODE_RATE c) rate).wr (R.GNSS_CH_CARR_FREQ c) freq
  let m := (m.wrI (R.GNSS_CH_DOPPLER c) d.doppler).setF (F.GNSS_CH_STAT_CODE_LOCK c) (if d.codeLock then 1 else 0)
  let m := (m.setB (F.GNSS_CH_STAT_CARR_LOCK c) d.carrLock).setB (F.GNSS_CH_STAT_BIT_SYNC c) d.bitSync
  let m := (m.setB (F.GNSS_CH_STAT_TIME_RES c) d.timeRes).setB (F.GNSS_CH_STAT_HALF_RES c) (d.halfRes || pilot (asgSig (m.asg c)))
  if h.cn0Held then m else m.wr (R.GNSS_CH_CN0 c) (d.cn0 % 65536)

/-- PULLIN at a dump (R145 steps 7 and 8). -/
def Mod.dumpPullin (m : Mod) (k : Clock) (c : Nat) (d : DumpIn) : Mod :=
  let h := m.gch c
  let run := if 800 < d.pli then h.lockRun + 1 else 0
  let m := m.setGch c { h with lockRun := run }
  if 20 ≤ run then m.chEnter k c 3 else m.pullinTimeout k c

/-- TRACK at a dump (R145 steps 9 and 10). -/
def Mod.dumpTrack (m : Mod) (k : Clock) (c : Nat) (d : DumpIn) : Mod :=
  let h := m.gch c
  let lost := if d.carrLock then 0 else h.lostRun + 1
  let low := if d.cn0 < 20 * 16 then h.lowRun + 1 else 0
  if 50 ≤ lost ∨ 200 ≤ low then m.chEnter k c 4
  else
    let m := m.setGch c { h with lostRun := lost, lowRun := low }
    if d.carrLock then
      if h.lostRun = 0 then m.wr (R.GNSS_CH_LOCKTIME c) (min 0xFFFFFFFF (m.rd (R.GNSS_CH_LOCKTIME c) + 1)) else m.chSlip c
    else m

/-- A 1 ms dump of a channel: its loops close and its transitions are judged (R145, R150). -/
def Mod.chDump (m : Mod) (k : Clock) (c : Nat) (d : DumpIn) : Mod :=
  match m.chState c with
  | 2 => (m.dumpTake c d).dumpPullin k c d
  | 3 => (m.dumpTake c d).dumpTrack k c d
  | 4 => if d.found then (m.dumpTake c d).chEnter k c 2 else (m.dumpTake c d).lostTimeout k c
  | 5 => if (m.gch c).since + msRaw 10 ≤ k.raw then m.chAided k c else m
  | _ => m

/-! ## The search engine (R147 to R149) -/

/-- Bins of a job's Doppler window: spacing 1 / (2 × coherent time), outward from the centre (R147, R154). -/
def SearchJob.bins (j : SearchJob) : Nat := 1 + 2 * (j.doppHalf * (2 * j.coh) / 1000)

/-- Cells per bin (R147, R154). -/
def SearchJob.cells (j : SearchJob) : Nat := if j.codeCells = 0 then 2 * sigChips j.sig else j.codeCells

/-- Passes of a job (R147). -/
def SearchJob.passes (j : SearchJob) : Nat :=
  let c := max 1 j.cells
  if c ≤ 8192 then (j.bins + 8192 / c - 1) / (8192 / c) else j.bins * ((c + 8191) / 8192)

/-- One dwell in ms: coherent time times non-coherent count (R147). -/
def SearchJob.dwell (j : SearchJob) : Nat := j.coh * j.noncoh

/-- VERIFY dwells (R171). -/
def Mod.verifyN (m : Mod) : Nat := let v := m.fld F.GNSS_SRCH_CTL_VERIFY; if v = 0 then 1 else min v 4

/-- The queue's figures are shown (R171). -/
def Mod.srchStat (m : Mod) : Mod :=
  let m := m.setF F.GNSS_SRCH_STAT_QLVL m.gnss.jobs.length
  let m := m.setF F.GNSS_SRCH_STAT_HOST_Q (m.gnss.jobs.filter fun j => j.host).length
  m.setB F.GNSS_SRCH_STAT_BUSY m.gnss.running.isSome

/-- The next job by owner: alternately while both wait, starting with the owner whose job did not run last (R149). -/
def nextJob (jobs : List SearchJob) (lastHost : Bool) : Option SearchJob :=
  match jobs.find? (fun j => j.host != lastHost) with
  | some j => some j
  | none => jobs.head?

/-- Takes the first job equal to `j` out. -/
def dropJob (j : SearchJob) : List SearchJob → List SearchJob
  | [] => []
  | x :: t => if x = j then t else x :: dropJob j t

/-- The engine takes the next queued job (R149). -/
def Mod.jobStart (m : Mod) (k : Clock) : Mod :=
  match m.gnss.running, nextJob m.gnss.jobs m.gnss.lastHost with
  | none, some j =>
    ({ m with gnss := { m.gnss with running := some (j, k.raw, false), jobs := dropJob j m.gnss.jobs, lastHost := j.host } }).srchStat
  | _, _ => m

/-- Whether another channel tracks the job's signal (R148). -/
def Mod.dupTrack (m : Mod) (j : SearchJob) : Bool :=
  m.busyCh.any fun c => c != j.channel && m.chState c == 3 && asgSame (m.asg c) (asgWord j.sys j.sv j.sig j.gloK)

/-- The 16 payload bytes of a SEARCH result (R154). -/
def searchPayload (found : Bool) (i : SearchIn) (ch : Nat) : List Byte :=
  le 1 (if found then 1 else 0) ++ le 1 0 ++ le 2 i.metric ++ le 4 i.codeCell ++ le 4 (unsigned 32 i.doppler) ++ le 2 ch ++ le 2 0

/-- A job that has completed its passes and verify dwells is judged (R148); a cancelled one ends with its pass (R154). -/
def Mod.jobEnd (m : Mod) (k : Clock) (i : SearchIn) : Mod :=
  match m.gnss.running with
  | none => m
  | some (j, at_, cancelled) =>
    let need := j.dwell * (j.passes + (if i.strong then m.verifyN else 0))
    let m0 : Mod := ({ m with gnss := { m.gnss with running := none } }).srchStat
    let post := fun (m : Mod) (code : Nat) (found : Bool) (ch : Nat) =>
      if j.host then m.result k 9 1 code j.tag j.noResult j.acceptTick (searchPayload found i ch) else m
    if cancelled then if k.raw < at_ then m else post m0 0x106 false 0xFFFF
    else if k.raw < at_ + msRaw need then m
    else
      let m := m0.inc R.GNSS_SRCH_JOB_CNT
      if !(i.strong && i.verified) then post m 0 false 0xFFFF
      else if m.dupTrack j || (m.on F.GNSS_SRCH_CTL_XCORR_REJ && i.xcorr) then post (m.inc R.GNSS_SRCH_REJ_CNT) 0 false 0xFFFF
      else
        let m := m.inc R.GNSS_SRCH_HIT_CNT
        if 320 ≤ j.channel then post m 0 true 0xFFFF
        else if m.chState j.channel = 1 then
          post (m.setGch j.channel { m.gch j.channel with hit := true }) 0 true j.channel
        else post m 0x10A true 0xFFFF

/-- Queues a job while the queue has room for its owner: 64 jobs, 16 of them for the host (R149). -/
def Mod.jobQueue (m : Mod) (j : SearchJob) : Mod :=
  let hosts := (m.gnss.jobs.filter fun x => x.host).length
  let fws := m.gnss.jobs.length - hosts
  if (j.host && decide (16 ≤ hosts)) || (!j.host && decide (48 ≤ fws)) then m
  else ({ m with gnss := { m.gnss with jobs := m.gnss.jobs ++ [j] } }).srchStat

/-! ## Commands (R154, R155) -/

/-- The first code that a SEARCH's fields earn; 0 when it is queued. -/
def Mod.searchCode (m : Mod) (j : SearchJob) (reserved : Nat) : Nat :=
  let okSv := svOk j.sys j.sv || (j.sys == 3 && j.sv == 0)
  let okK := if j.sys = 3 then decide (-7 ≤ j.gloK) && decide (j.gloK ≤ 6) else j.gloK == 0
  if !(decide (j.sig ≤ 16) && sigSys j.sig == j.sys && okSv && okK && decide (1 ≤ j.coh) && decide (j.coh ≤ 20) && decide (1 ≤ j.noncoh)
      && decide (j.noncoh ≤ 64) && reserved == 0 && (decide (j.channel < 320) || j.channel == 0xFFFF)) then 0x105
  else if j.channel < 320 ∧ m.hostPool j.channel = false then 0x101
  else if j.channel < 320 ∧ (m.chState j.channel = 5 ∨ m.chState j.channel = 6) then 0x102
  else if !(m.bit R.GNSS_SIG_EN j.sig && (j.sv == 0 || !m.svExcl j.sys j.sv)) then 0x104
  else if 16 ≤ (m.gnss.jobs.filter fun x => x.host).length then 0x103
  else 0

/-- SEARCH (R154). -/
def Mod.searchCmd (m : Mod) (k : Clock) (h : Handed) (j : SearchJob) (reserved : Nat) : Mod :=
  match m.searchCode j reserved with
  | 0 => m.jobQueue { j with host := true, tag := h.tag, noResult := h.noResult, acceptTick := h.acceptTick }
  | c => m.finish k h c (searchPayload false { strong := false, verified := false, xcorr := false, metric := 0, codeCell := 0, doppler := 0 } 0xFFFF)

/-- CANCEL: a queued job is removed, a running one stops at the end of its current pass (R154). -/
def Mod.cancelCmd (m : Mod) (k : Clock) (h : Handed) (tag : Nat) : Mod :=
  match m.gnss.jobs.find? (fun j => j.host && j.tag == tag) with
  | some j =>
    let m := ({ m with gnss := { m.gnss with jobs := dropJob j m.gnss.jobs } }).srchStat
    let m := m.result k 9 1 0x106 j.tag j.noResult j.acceptTick
      (searchPayload false { strong := false, verified := false, xcorr := false, metric := 0, codeCell := 0, doppler := 0 } 0xFFFF)
    m.finish k h 0 []
  | none =>
    match m.gnss.running with
    | some (j, at_, stopped) =>
      if j.host && j.tag == tag then
        let pass := max 1 (msRaw j.dwell)
        let stop := if stopped then at_ else at_ + (k.raw - at_ + pass - 1) / pass * pass
        ({ m with gnss := { m.gnss with running := some (j, stop, true) } }).finish k h 0 []
      else m.finish k h 0x109 []
    | none => m.finish k h 0x109 []

/-- The code a channel of a STEER or ACC_STREAM earns. -/
def Mod.hostChCode (m : Mod) (c : Nat) : Nat :=
  if 320 ≤ c then 0x105 else if m.hostPool c = false then 0x101
  else if m.chState c = 5 ∨ m.chState c = 6 then 0x102 else if m.hostLoop c = false then 0x101 else 0

/-- STEER reaches its latch; an earlier one for the channel at the same latch completes SUPERSEDED (R151). -/
def Mod.steerCmd (m : Mod) (k : Clock) (h : Handed) (c flags rate freq codeAdj carrAdj reserved : Nat) : Mod :=
  if 3 < flags ∨ reserved ≠ 0 then m.finish k h 0x105 []
  else match m.hostChCode c with
  | 0 =>
    let g := m.gch c
    let m := match g.steer with
      | none => m
      | some o => m.result k 9 3 0x107 o.tag o.noResult o.acceptTick []
    let st : Steer :=
      { tag := h.tag, noResult := h.noResult, flags := flags, codeRate := BitVec.ofNat 32 rate, carrFreq := BitVec.ofNat 32 freq,
        codeAdj := BitVec.ofNat 32 codeAdj, carrAdj := BitVec.ofNat 32 carrAdj, acceptTick := h.acceptTick }
    m.setGch c { g with steer := some st }
  | code => m.finish k h code []

/-- A stream ends: its command awaits no further result (R114, R153). -/
def Mod.streamGone (m : Mod) (s : Stream) : Mod := { m with ring := { m.ring with handed := dropHanded 9 4 s.tag m.ring.handed } }

/-- ACC_STREAM (R153, R154). -/
def Mod.streamCmd (m : Mod) (k : Clock) (h : Handed) (c on reserved : Nat) : Mod :=
  if 1 < on ∨ reserved ≠ 0 then m.finish k h 0x105 []
  else match m.hostChCode c with
  | 0 =>
    let g := m.gch c
    if on = 0 then
      (m.setGch c { g with stream := g.stream.map fun s => { s with stopping := true } }).finish k h 0 []
    else if g.stream.isNone && decide (16 ≤ (m.gnss.ch.filter fun p => p.2.stream.isSome).length) then m.finish k h 0x108 []
    else
      let m := match g.stream with | some s => m.streamGone s | none => m
      m.setGch c { g with stream := some { tag := h.tag, noResult := h.noResult, acceptTick := h.acceptTick, live := false, stopping := false } }
  | code => m.finish k h code []

/-- A command of GNSS is carried out (R154). -/
def Mod.gnssDo (m : Mod) (k : Clock) (c : Handed × GnssCmd) : Mod :=
  match c.2 with
  | .search j reserved => m.searchCmd k c.1 j reserved
  | .cancel tag => m.cancelCmd k c.1 tag
  | .steer ch flags rate freq codeAdj carrAdj reserved => m.steerCmd k c.1 ch flags rate freq codeAdj carrAdj reserved
  | .stream ch on reserved => m.streamCmd k c.1 ch on reserved

/-- The commands accepted before a latch are carried out at it, in their order (R26, R117). -/
def Mod.gnssCmds (m : Mod) (k : Clock) : Mod :=
  let l := m.gnss.cmds
  Mod.each { m with gnss := { m.gnss with cmds := [] } } l fun m c => m.gnssDo k c

/-- A command is accepted: it waits for the next latch (R26). -/
def Mod.gnssTake (m : Mod) (k : Clock) (h : Hdr) (opcode : Nat) (c : GnssCmd) : Mod :=
  { m with gnss := { m.gnss with cmds := m.gnss.cmds ++ [(acceptedIn 9 opcode k.tick h, c)] } }

/-! ## At a tick boundary (R139 to R145, R150 to R153, R156 to R160, R168) -/

/-- Publication: each running stream's result for the ending tick (R153, R154). -/
def Mod.streamOut (m : Mod) (k : Clock) : Mod :=
  m.each (m.gnss.ch.map Prod.fst) fun m c =>
    let g := m.gch c
    match g.stream with
    | none => m
    | some s =>
      let m := if s.live then
          let pad := (g.dumps ++ List.replicate 10 (List.replicate 6 0)).take 10
          let p := le 2 c ++ le 2 0 ++ le 4 k.tick ++ le 4 g.tickRate.toNat ++ le 4 g.tickFreq.toNat
            ++ (pad.flatMap fun d => ((d ++ List.replicate 6 0).take 6).flatMap fun w => le 4 w.toNat)
          m.result k 9 4 0 s.tag s.noResult s.acceptTick p
        else m
      if s.stopping || !m.hostLoop c then (m.streamGone s).setGch c { m.gch c with stream := none } else m

/-- Publication of the measurement set of the ending tick (R156, R159, R160). -/
def Mod.gnssPublish (m : Mod) : Mod :=
  match m.gnss.set_ with
  | none => { m with gnss := { m.gnss with published := none } }
  | some s =>
    let was := m.on F.GNSS_STAT_TIMEFIX
    let wasB := m.on F.GNSS_STAT_BOBS_VALID
    let m : Mod := { m with gnss := { m.gnss with published := some s, set_ := none } }
    let m := (m.setB F.GNSS_STAT_TIMEFIX s.fixValid).setB F.GNSS_STAT_BOBS_VALID s.bobsValid
    let m := m.setF F.GNSS_STAT_SATS s.sats
    let m := m.wr R.GNSS_TIMEFIX (s.used % 256 + s.excl % 256 * 256 + s.rms % 65536 * 65536)
    let m := if was && !s.fixValid then m.gnssEvt 5 else if !was && s.fixValid then m.gnssEvt 6 else m
    let m := if wasB && !s.bobsValid then m.gnssEvt 7 else m
    m.perfAdd (perfGnss 0) 1

/-- A pool change: each channel that changes pool goes IDLE and loses its assignment (R140). -/
def Mod.poolChange (m : Mod) (k : Clock) : Mod :=
  let new := min 320 (m.rd R.GNSS_CH_POOL % 512)
  let old := m.gnss.pool
  let m := m.each (m.busyCh.filter fun c => decide (min old new ≤ c) && decide (c < max old new)) fun m c =>
    let m := (m.wr (R.GNSS_CH_ASSIGN c) 0).wrSh (R.GNSS_CH_ASSIGN c) 0
    if m.chState c = 6 ∨ m.chState c = 5 then m else m.chEnter k c 0
  { m with gnss := { m.gnss with pool := new } }

/-- A retired channel's signal moves to the lowest-numbered IDLE channel of the same pool (R168). -/
def Mod.moveSignal (m : Mod) (k : Clock) (from_ w : Nat) : Mod :=
  let host := m.hostPool from_
  let m := m.gnssEvt 2
  if !asgValid w then m
  else match (upto 320).find? fun c => c != from_ && m.hostPool c == host && m.chState c == 0 && !asgValid (m.asg c) with
  | none =>
    let m : Mod := { m with gnss := { m.gnss with untracked := m.gnss.untracked ++ [w] } }
    (((m.wr R.GNSS_MOVE_LOG (from_ + 0x1FF * 65536 + 2147483648)).setB F.GNSS_STAT_NO_CHANNEL true).gnssEvt 3)
  | some c =>
    let g := m.gch from_
    let m := (m.wr (R.GNSS_CH_ASSIGN c) w).wr R.GNSS_MOVE_LOG (from_ + c * 65536 + 2147483648)
    let m := if host then (m.wrSh (R.GNSS_CH_ASSIGN c) w).setF (F.GNSS_CH_CTL_LOOP c) (m.fld (F.GNSS_CH_CTL_LOOP from_)) else m
    let m := m.setGch c { GnssCh.idle with stream := if host then g.stream else none, codePhase := g.codePhase, carrPhase := g.carrPhase, aided := true }
    let m := if host then m.setGch from_ { m.gch from_ with stream := none } else m
    m.chEnter k c 1

/-- Moves of retired channels wait for the boundary (R168). -/
def Mod.moveAll (m : Mod) (k : Clock) : Mod :=
  let l := m.gnss.moves
  ({ m with gnss := { m.gnss with moves := [] } }).each l fun m p => m.moveSignal k p.1 p.2

/-- A satellite is above the elevation mask, or the base position is not yet known (R141, R157). -/
def Mod.above (m : Mod) (elev : Int) : Bool :=
  m.pack.base.isNone || decide ((min 90 (m.fld F.GNSS_MASK_ELEV) * 100 : Nat) ≤ elev)

/-- A satellite has not fallen more than 1° below the mask (R141). -/
def Mod.aboveKeep (m : Mod) (elev : Int) : Bool :=
  m.pack.base.isNone || decide (((min 90 (m.fld F.GNSS_MASK_ELEV) * 100 : Nat) : Int) - 100 ≤ elev)

/-- The signals Liroron wants tracked by the auto pool, best first: anchors by falling elevation, then by signal ID and
falling elevation (R141). -/
def Mod.wanted (m : Mod) : List (SvView × Nat) :=
  let held := fun (v : SvView) (g : Nat) => m.busyCh.any fun c => !m.hostPool c && asgValid (m.asg c) && asgSame (m.asg c) (asgWord v.sys v.sv g v.gloK)
  let hosted := fun (v : SvView) (g : Nat) => m.busyCh.any fun c => m.hostPool c && asgValid (m.asg c) && asgSame (m.asg c) (asgWord v.sys v.sv g v.gloK)
  let all := m.gnss.sky.flatMap fun v => ((upto 17).filter fun g => sigSys g == v.sys).map fun g => (v, g)
  let ok := all.filter fun p => m.sigUse p.1.sys p.1.sv p.2 && !hosted p.1 p.2 && (m.above p.1.elev || (held p.1 p.2 && m.aboveKeep p.1.elev))
  let anc := (ok.filter fun p => anchor p.2).mergeSort fun a b => decide (b.1.elev ≤ a.1.elev)
  let rest := (ok.filter fun p => !anchor p.2).mergeSort fun a b => decide (a.2 < b.2) || (a.2 == b.2 && decide (b.1.elev ≤ a.1.elev))
  anc ++ rest

/-- Liroron keeps the auto pool assigned (R141): signals no longer wanted are released, wanted ones take the
lowest-numbered IDLE channels. -/
def Mod.autoAssign (m : Mod) (k : Clock) : Mod :=
  if !m.on F.GNSS_CTL_AUTO then m
  else
    let pool := (upto 320).filter fun c => !m.hostPool c && m.chState c != 5 && m.chState c != 6
    let want := m.wanted.take pool.length
    let m := m.each (pool.filter fun c => asgValid (m.asg c)) fun m c =>
      if want.any fun p => asgSame (m.asg c) (asgWord p.1.sys p.1.sv p.2 p.1.gloK) then m
      else (m.wr (R.GNSS_CH_ASSIGN c) 0).chEnter k c 0
    m.each want fun m p =>
      let w := asgWord p.1.sys p.1.sv p.2 p.1.gloK
      if pool.any fun c => asgValid (m.asg c) && asgSame (m.asg c) w then m
      else match pool.find? fun c => !asgValid (m.asg c) && m.chState c == 0 with
        | none => m
        | some c => (m.wr (R.GNSS_CH_ASSIGN c) w).setB (F.GNSS_CH_STAT_BAD_ASSIGN c) false

/-- NO_CHANNEL: a signal left untracked when its channel retired, or one that the auto pool is too small for (R141, R168, R171). -/
def Mod.wantShow (m : Mod) : Mod :=
  let left := m.gnss.untracked.filter fun w => m.sigUse (asgSys w) (asgSv w) (asgSig w) && !m.busyCh.any fun c => asgValid (m.asg c) && asgSame (m.asg c) w
  let small := m.on F.GNSS_CTL_AUTO && decide (((upto 320).filter fun c => !m.hostPool c && m.chState c != 5 && m.chState c != 6).length < m.wanted.length)
  ({ m with gnss := { m.gnss with untracked := left } }).setB F.GNSS_STAT_NO_CHANNEL (!left.isEmpty || small)

/-- Ephemeris held of a satellite. -/
def Mod.ephOf (m : Mod) (sys sv : Nat) : Eph := AMap.get (fun _ => Eph.none) m.gnss.eph (svInst sys sv)

/-- Step 6 of R145: a hit handed over, an anchor of the satellite in TRACK, or ephemeris and time predict the signal. -/
def Mod.mayPullin (m : Mod) (c : Nat) : Bool :=
  let w := m.asg c
  let g := m.gch c
  g.hit || g.aided
    || (m.busyCh.any fun d => d != c && m.chState d == 3 && anchor (asgSig (m.asg d)) && asgSys (m.asg d) == asgSys w && asgSv (m.asg d) == asgSv w)
    || ((m.ephOf (asgSys w) (asgSv w)).current && m.on F.GNSS_STAT_TIMEFIX)

/-- One channel's transitions at a boundary (R145 steps 2, 4, 5, 6 and 14). -/
def Mod.chBoundary (m : Mod) (k : Clock) (c : Nat) : Mod :=
  let st := m.chState c
  let burst := m.gnss.burst.isSome
  let ok := m.asgLive c && (!burst || anchor (asgSig (m.asg c)))
  if st = 5 then (if (m.gch c).since + msRaw 10 ≤ k.raw then m.chAided k c else m)
  else if st = 6 then m
  else if st = 7 then (if burst && !anchor (asgSig (m.asg c)) then m else m.chAided k c)
  else if st = 0 then (if ok then m.chEnter k c 1 else m)
  else if !m.asgLive c || (m.gch c).release then m.chEnter k c 0
  else if st = 1 then (if m.mayPullin c then m.chEnter k c 2 else m)
  else m

/-- A HOST channel without STEER returns to FW (R152). -/
def Mod.coastEnd (m : Mod) (c : Nat) : Mod :=
  let m := (m.setF (F.GNSS_CH_CTL_LOOP c) 0).setGch c { m.gch c with noSteer := 0 }
  m.gnssEvt 4

/-- A HOST channel has gone `GNSS_HOST_COAST` ticks without STEER (R152). -/
def Mod.coastDue (m : Mod) (c : Nat) : Bool :=
  m.hostLoop c && m.hostPool c && (m.gch c).steer.isNone && decide (max 1 (m.rd R.GNSS_HOST_COAST % 256) ≤ (m.gch c).noSteer)

/-- The latch applies a waiting STEER and starts waiting streams (R151, R153). -/
def Mod.steerLatch (m : Mod) (k : Clock) (c : Nat) : Mod :=
  let g := m.gch c
  let m := match g.steer with
    | none => if m.hostLoop c then m.setGch c { g with noSteer := g.noSteer + 1 } else m
    | some st =>
      let m := m.setGch c { g with steer := none, noSteer := 1 }
      match m.hostChCode c with
      | 0 =>
        let g := m.gch c
        let m := (m.wr (R.GNSS_CH_CODE_RATE c) st.codeRate.toNat).wr (R.GNSS_CH_CARR_FREQ c) st.carrFreq.toNat
        let cp := if st.flags.testBit 0 then g.codePhase + BitVec.ofInt 48 (signed 32 st.codeAdj.toNat * 65536) else g.codePhase
        let kp := if st.flags.testBit 1 then g.carrPhase + BitVec.ofInt 48 (signed 32 st.carrAdj.toNat * 65536) else g.carrPhase
        (m.setGch c { g with codePhase := cp, carrPhase := kp }).result k 9 3 0 st.tag st.noResult st.acceptTick []
      | code => m.result k 9 3 code st.tag st.noResult st.acceptTick []
  let g := m.gch c
  m.setGch c { g with
    dumps := []
    tickRate := BitVec.ofNat 32 (m.rd (R.GNSS_CH_CODE_RATE c))
    tickFreq := BitVec.ofNat 32 (m.rd (R.GNSS_CH_CARR_FREQ c))
    stream := g.stream.map fun s => { s with live := true } }

/-- The total delay correction of a channel in ps: antenna, group, inter-frequency and calibration (R158, R163). -/
def Mod.chDelay (m : Mod) (c : Nat) : Int :=
  let w := m.asg c
  let j := (asgK w + 7).toNat
  let ifb := if asgSig w = 12 then m.rdI (R.GNSS_IFB1_EFF j) else if asgSig w = 13 then m.rdI (R.GNSS_IFB2_EFF j) else 0
  m.rdI R.GNSS_ANTDLY_EFF + m.rdI (R.GNSS_GD_EFF (asgSig w)) + ifb + m.rdI (R.GNSS_CH_CAL c)

/-- A channel's measurement is VALID (R157). -/
def Mod.measValid (m : Mod) (c : Nat) : Bool :=
  let w := m.asg c
  let elev := ((m.gnss.sky.find? fun v => v.sys == asgSys w && v.sv == asgSv w).map SvView.elev).getD (-9000)
  m.chState c == 3 && m.on (F.GNSS_CH_STAT_TIME_RES c) && (m.ephOf (asgSys w) (asgSv w)).current
    && decide (m.fld F.GNSS_MASK_CN0_MIN * 16 ≤ m.rd (R.GNSS_CH_CN0 c) % 65536) && m.above elev

/-- The twelve words of a channel's measurement (R173). -/
def Mod.measWords (m : Mod) (k : Clock) (c : Nat) (o : ObsIn) (stepped : Bool) : List Word :=
  let w := m.asg c
  let e := m.ephOf (asgSys w) (asgSv w)
  let g := m.gch c
  let d := m.chDelay c
  let pr : Int := (o.pr : Int) - d * 299792458 * 1024 / 1000000000000
  let ph : Int := o.phase - d * sigKHz (asgSig w) (asgK w) * 65536 / 1000000000
  let fl := (if m.measValid c then 1 else 0) + (if m.on (F.GNSS_CH_STAT_CARR_LOCK c) then 2 else 0) + (if m.on (F.GNSS_CH_STAT_HALF_RES c) then 4 else 0)
    + (if g.lossOfLock then 8 else 0) + (if e.healthy then 0 else 16) + (if e.current then 0 else 32) + (if stepped then 64 else 0)
    + (if g.cn0Held then 128 else 0)
  let b := fun (n : Nat) => BitVec.ofNat 32 n
  [b k.tick, b (asgSig w + asgSv w * 256 + asgSys w * 65536 + unsigned 4 (asgK w) * 1048576), b fl,
   b (unsigned 64 pr), b (unsigned 64 pr / 4294967296), b (unsigned 64 ph), b (unsigned 64 ph / 4294967296),
   b (m.rd (R.GNSS_CH_DOPPLER c)), b (m.rd (R.GNSS_CH_CN0 c) % 65536), b (m.rd (R.GNSS_CH_LOCKTIME c)), b (unsigned 32 d), b 0]

/-- Satellites with an entry in a list, each once. -/
def svsOf (l : List (Nat × Nat)) : List (Nat × Nat) := l.eraseDups

/-- The mode of a system's offset, ESTIMATE when BROADCAST holds no value (R161): 0 BROADCAST, 1 ESTIMATE, 2 FIXED. -/
def Mod.isbMode (m : Mod) (sys : Nat) : Nat :=
  let mode := bitsOf (m.rd R.GNSS_ISB_CTL) (2 * (sys - 1) + 1) (2 * (sys - 1))
  if mode = 0 ∧ (AMap.find m.gnss.isb sys).isNone then 1 else mode

/-- The `GNSS_ISB_` registers show the offset in use; an estimated one is solved by the fix, a free value here (R161). -/
def Mod.isbShow (m : Mod) : Mod :=
  m.each [1, 2, 3, 4] fun m sys =>
    let reg := R.GNSS_ISB_GAL + 4 * (sys - 1)
    match m.isbMode sys with
    | 0 => m.wrI reg ((AMap.find m.gnss.isb sys).getD 0)
    | 2 => m.wr reg (m.rd (R.GNSS_ISB_FIX_GAL + 4 * (sys - 1)))
    | _ => (m.wrI reg (m.freeI 161)).took

/-- The measurement set of instant T with its time fix (R156 to R161). -/
def Mod.measLatch (m : Mod) (k : Clock) (g : GnssIn) (stepped : Bool) : Mod :=
  let chans := m.busyCh.filter fun c => m.chState c == 2 || m.chState c == 3 || m.chState c == 4
  let valid := chans.filter m.measValid
  let sat := fun c => (asgSys (m.asg c), asgSv (m.asg c))
  let sats := svsOf (valid.map sat)
  let healthy := sats.filter fun p => (m.ephOf p.1 p.2).healthy
  let used := healthy.filter fun p => !g.excl.contains p
  let free := ([1, 2, 3, 4].filter fun sys => m.isbMode sys == 1 && used.any fun p => p.1 == sys).length
  let fix := decide (4 ≤ used.length - free)
  let m := m.each chans fun m c =>
    let o := (g.obs.find? fun o => o.ch == c).getD { ch := c, pr := 0, phase := 0 }
    let m := m.setGch c { m.gch c with meas := m.measWords k c o stepped }
    let m := m.setGch c { m.gch c with lossOfLock := false, cn0Held := false }
    m.setB (F.GNSS_CH_STAT_MEAS_VALID c) (valid.contains c)
  let s : MeasSet :=
    { tick := k.tick, valid := valid, track := chans.filter fun c => m.chState c == 3, sats := sats.length, fixValid := fix, used := used.length,
      excl := healthy.length - used.length, rms := g.rms, fixErr := g.fixErr, bobsValid := fix && decide (5 ≤ sats.length) && m.gnss.burst.isNone, clockStep := stepped }
  ({ m with gnss := { m.gnss with set_ := some s } }).isbShow

/-- Every channel IDLE and no measurements while GNSS_CTL.EN is 0 (R171). -/
def Mod.gnssOff (m : Mod) (k : Clock) : Mod :=
  let m := m.each (m.busyCh.filter fun c => m.chState c != 0 && m.chState c != 5 && m.chState c != 6) fun m c => m.chEnter k c 0
  { m with gnss := { m.gnss with set_ := none } }

/-- A band's AGC register (R136). -/
def agcReg (band : Nat) : Nat := R.GNSS_AGC_HI + 4 * band

/-- Bands HI, MID and LO report their AGC gain and in-band power (R136). -/
def Mod.agcShow (m : Mod) (l : List (Nat × Int)) : Mod :=
  m.each ((upto 3).zip l) fun m b => m.wr (agcReg b.1) (putBits (putBits (m.rd (agcReg b.1)) 7 0 b.2.1) 15 8 (unsigned 8 b.2.2))

/-- The receiver's latch at a boundary. -/
def Mod.gnssLatch (m : Mod) (k : Clock) (g : GnssIn) (stepped : Bool) : Mod :=
  if !m.blkOn 9 then m
  else
    let m : Mod := { m with gnss := { m.gnss with sky := g.sky } }
    let m := m.agcShow g.agc
    let m := m.each g.expired fun m p =>
      { m with gnss := { m.gnss with eph := AMap.put (fun _ => Eph.none) (svInst p.1 p.2) { m.ephOf p.1 p.2 with current := false } m.gnss.eph } }
    let m := m.poolChange k
    let m := m.moveAll k
    if !m.on F.GNSS_CTL_EN then m.gnssOff k
    else
      let m := m.each m.busyCh fun m c => m.chBoundary k c
      let m := m.each (m.busyCh.filter m.coastDue) Mod.coastEnd
      let m := m.each m.busyCh fun m c => m.steerLatch k c
      let m := (m.autoAssign k).wantShow
      let m := if m.on F.GNSS_CTL_SKY then m.each (g.jobs.filter fun j => !j.host && anchor j.sig) Mod.jobQueue else m
      m.measLatch k g stepped

/-! ## Applying assignments and loop modes (R142, R143, R150) -/

/-- Assignments that do not apply: SIG, SV or GLO_K inconsistent (R143). -/
def Mod.asgHold (m : Mod) (a : Nat) : Bool :=
  decide (R.GNSS_CH_ASSIGN 0 ≤ a) && decide (a < R.GNSS_CH_ASSIGN 320) && a % 0x100 == 0 && m.rdSh a != m.rd a
    && asgValid (m.rdSh a) && !asgOk (m.rdSh a)

/-- A host channel's applied assignment is judged (R143): BAD_ASSIGN on a second host channel for the signal; an auto channel
releases the signal and hands its code and carrier state over, with a slip. -/
def Mod.asgApplied (m : Mod) (k : Clock) (c : Nat) : Mod :=
  let w := m.asg c
  let dup := (upto 320).any fun d => decide (d < c) && m.hostPool d && asgValid (m.asg d) && asgSame (m.asg d) w
  let m := m.setB (F.GNSS_CH_STAT_BAD_ASSIGN c) (asgValid w && dup)
  let m := if m.chState c = 5 ∨ m.chState c = 6 then m else m.chEnter k c 0
  if !asgValid w || dup then m
  else match (upto 320).find? fun d => !m.hostPool d && asgValid (m.asg d) && asgSame (m.asg d) w with
  | none => m
  | some d =>
    let g := m.gch d
    let m := m.setGch c { m.gch c with codePhase := g.codePhase, carrPhase := g.carrPhase, aided := true }
    let m := (m.wr (R.GNSS_CH_CODE_RATE c) (m.rd (R.GNSS_CH_CODE_RATE d))).wr (R.GNSS_CH_CARR_FREQ c) (m.rd (R.GNSS_CH_CARR_FREQ d))
    ((m.wr (R.GNSS_CH_ASSIGN d) 0).chEnter k d 0).chSlip c

/-- What follows an apply of GNSS: assignments are judged, and LOOP = HOST on an auto channel is refused (R143, R150). -/
def Mod.gnssApplied (m : Mod) (k : Clock) (changed : List Nat) : Mod :=
  m.each changed fun m a =>
    if decide (R.GNSS_CH_ASSIGN 0 ≤ a) && decide (a < R.GNSS_CH_ASSIGN 320) then
      let c := (a - R.GNSS_CH_ASSIGN 0) / 0x100
      if a % 0x100 = 0 then m.asgApplied k c
      else if a % 0x100 = 4 ∧ m.hostLoop c = true then
        if m.hostPool c then m.setGch c { m.gch c with noSteer := 0 } else (m.setF (F.GNSS_CH_CTL_LOOP c) 0).gnssEvt 8
      else m
    else m

/-- A channel whose assignment is held back shows BAD_ASSIGN (R143). -/
def Mod.asgHeld (m : Mod) (a : Nat) : Mod :=
  if m.asgHold a then m.setB (F.GNSS_CH_STAT_BAD_ASSIGN ((a - R.GNSS_CH_ASSIGN 0) / 0x100)) true else m

/-- A host write to GNSS_CH_ASSIGN: shadowed in the host pool, a lost write in the auto pool (R142). -/
def Mod.asgWrite (m : Mod) (c v : Nat) : Mod :=
  if m.hostPool c then m.wrSh (R.GNSS_CH_ASSIGN c) (v &&& 0x00F1FFFF) else m.lostWrite (R.GNSS_CH_ASSIGN c)

/-! ## Antenna and bands (R134 to R136) -/

/-- The state the bias current gives (R134). -/
def Mod.antState (m : Mod) (mA : Nat) (limit : Bool) : Nat :=
  let b := m.fld F.GNSS_ANT_CTL_BIAS
  if b = 0 ∨ b = 3 then 0 else if limit then 3 else if mA < 2 then 2 else 1

/-- The antenna moves to the state its current gives; a short removes the bias while AUTO_OFF is 1 (R134, R135). -/
def Mod.antJudge (m : Mod) (k : Clock) (mA : Nat) (limit : Bool) : Mod :=
  let st := m.antState mA limit
  let old := m.fld F.GNSS_ANT_STAT_STATE
  let cut := st == 3 && m.on F.GNSS_ANT_CTL_AUTO_OFF
  let m := m.setF F.GNSS_ANT_STAT_CURRENT mA
  let m := m.setF F.GNSS_ANT_STAT_STATE (if cut then 0 else st)
  let m := if (st = 2 ∨ st = 3) ∧ st ≠ old then m.gnssEvt 0 else m
  { m with gnss := { m.gnss with biasRemoved := cut, biasAt := if cut then k.raw else m.gnss.biasAt } }

/-! ## Meanings -/

/-- ANTENNA_STATE_CHANGE: the filtered bias current in mA, and whether it is at the limit (R134, R135). -/
def execAntennaStateChange (dt mA : Nat) (limit : Bool) (s : State) : Res :=
  .next (s.ev dt fun k m => if m.domOn 4 && !m.gnss.biasRemoved then m.antJudge k mA limit else m)

/-- ANT_BIAS_RETRY: the bias has been re-applied for 100 ms, 10 s after it was removed (R135). -/
def execAntBiasRetry (dt mA : Nat) (limit : Bool) (s : State) : Res :=
  .next (s.ev dt fun k m => if m.domOn 4 && m.gnss.biasRemoved && decide (m.gnss.biasAt + secRaw 10 ≤ k.raw) then m.antJudge k mA limit else m)

/-- BAND_JAM: a band's power, in dB above the nominal floor, for 100 ms (R136). -/
def execBandJam (dt band : Nat) (power : Int) (s : State) : Res :=
  .next (s.ev dt fun _ m =>
    if m.blkOn 9 ∧ band < 3 ∧ ((m.rd R.GNSS_JAM_THR % 256 : Nat) : Int) < power then
      ((m.wr (agcReg band) (putBits (m.rd (agcReg band)) 15 8 (unsigned 8 power))).setBit (agcReg band) 31).gnssEvt 1
    else m)

/-- BAND_JAM_CLEAR: a band's power for 1 s (R136). -/
def execBandJamClear (dt band : Nat) (power : Int) (s : State) : Res :=
  .next (s.ev dt fun _ m =>
    if m.blkOn 9 ∧ band < 3 ∧ power < ((m.rd R.GNSS_JAM_THR % 256 : Nat) : Int) then
      (m.wr (agcReg band) (putBits (m.rd (agcReg band)) 15 8 (unsigned 8 power))).clrBit (agcReg band) 31
    else m)

/-- GNSS_CH_ASSIGN: a full host write of a channel's assignment (R142). -/
def execGnssChAssign (dt c v : Nat) (s : State) : Res :=
  .next (s.ev dt fun _ m => m.access (R.GNSS_CH_ASSIGN c) fun m => if c < 320 then m.asgWrite c v else m.glbErr 5 (R.GNSS_CH_ASSIGN c))

/-- CHANNEL_DUMP (R145, R150). -/
def execChannelDump (dt c : Nat) (d : DumpIn) (s : State) : Res :=
  .next (s.ev dt fun k m => if m.live? 9 && decide (c < 320) then m.chDump k c d else m)

/-- PULLIN_TIMEOUT (R145 step 8). -/
def execPullinTimeout (dt c : Nat) (s : State) : Res :=
  .next (s.ev dt fun k m => if m.live? 9 && decide (c < 320) then m.pullinTimeout k c else m)

/-- LOST_TIMEOUT (R145 step 12). -/
def execLostTimeout (dt c : Nat) (s : State) : Res :=
  .next (s.ev dt fun k m => if m.live? 9 && decide (c < 320) then m.lostTimeout k c else m)

/-- SEARCH_JOB_START (R149). -/
def execSearchJobStart (dt : Nat) (s : State) : Res :=
  .next (s.ev dt fun k m => if m.live? 9 then m.jobStart k else m)

/-- SEARCH_JOB_END (R147, R148). -/
def execSearchJobEnd (dt : Nat) (i : SearchIn) (s : State) : Res :=
  .next (s.ev dt fun k m => if m.live? 9 then m.jobEnd k i else m)

/-- SEARCH (R154, R155). -/
def execSearch (dt : Nat) (h : Hdr) (j : SearchJob) (reserved : Nat) (s : State) : Res :=
  .next (s.ev dt fun k m => if m.live? 9 then m.gnssTake k h 1 (.search j reserved) else m)

/-- SEARCH_CANCEL: CANCEL of the job with a TAG (R154). -/
def execSearchCancel (dt : Nat) (h : Hdr) (tag : Nat) (s : State) : Res :=
  .next (s.ev dt fun k m => if m.live? 9 then m.gnssTake k h 2 (.cancel tag) else m)

/-- STEER (R151, R154). -/
def execSteer (dt : Nat) (h : Hdr) (c flags rate freq codeAdj carrAdj reserved : Nat) (s : State) : Res :=
  .next (s.ev dt fun k m => if m.live? 9 then m.gnssTake k h 3 (.steer c flags rate freq codeAdj carrAdj reserved) else m)

/-- ACC_STREAM (R153, R154). -/
def execAccStream (dt : Nat) (h : Hdr) (c on reserved : Nat) (s : State) : Res :=
  .next (s.ev dt fun k m => if m.live? 9 then m.gnssTake k h 4 (.stream c on reserved) else m)

/-- HOST_COAST_EXPIRY: at the boundary now reached (R152). -/
def execHostCoastExpiry (dt c : Nat) (s : State) : Res :=
  .next (s.ev dt fun k m =>
    if m.live? 9 && decide (c < 320) && decide (k.nextBoundary ≤ k.raw) && m.coastDue c then m.coastEnd c else m)

/-- GNSS_MEAS_DEADLINE: a set not formed by T+9.5 ms (R156, R28). -/
def execGnssMeasDeadline (dt : Nat) (s : State) : Res :=
  .next (s.ev dt fun k m =>
    if m.live? 9 && k.lateTick && m.gnss.set_.isSome then
      ({ m with gnss := { m.gnss with set_ := none } }).overrun k 9 R.GNSS_OVR_CNT (perfGnss 1) 1
    else m)

/-- EPHEMERIS_DECODED: a satellite's broadcast, with its system's offset from GPS time in ps where it carries one (R161, R169). -/
def execEphemerisDecoded (dt sys sv : Nat) (healthy : Bool) (isb : Option Int) (s : State) : Res :=
  .next (s.ev dt fun k m =>
    if m.live? 9 && svOk sys sv then
      let e : Eph := { current := true, healthy := healthy, at_ := k.raw }
      let isbs := match isb with | none => m.gnss.isb | some v => if sys = 0 then m.gnss.isb else AMap.ins sys v m.gnss.isb
      { m with gnss := { m.gnss with eph := AMap.put (fun _ => Eph.none) (svInst sys sv) e m.gnss.eph, isb := isbs } }
    else m)

end Sys2Proof.Machine
end

