-- ==== Sys2Proof/Machine/Timebase.lean ====
section
/-! DEFINITION. TIME (chapter 06): sources, steering, time states, holdover, return, steps, pulses, captures and PTP. -/

namespace Sys2Proof.Machine

/-! ## Figures in use (R251) -/

/-- LOCK_NS in use: below 5 acts as 5. -/
def Mod.lockNs (m : Mod) : Nat := max 5 (m.fld F.TIME_QUAL_CTL_LOCK_NS)

/-- LOSS_TICKS in use: 1 to 100. -/
def Mod.lossTicks (m : Mod) : Nat := min 100 (max 1 (m.fld F.TIME_QUAL_CTL_LOSS_TICKS))

/-- UNTRACE_NS in use: 100 to 6,000. -/
def Mod.untraceNs (m : Mod) : Nat := min 6000 (max 100 (m.fld F.TIME_QUAL_CTL_UNTRACE_NS))

/-- The source of R225 by role and SRC: 0 GNSS, 1 EXT, 2 PARTNER. -/
def Mod.timeSrc (m : Mod) : Nat :=
  if m.role = 2 ∨ m.role = 3 then 2 else if m.fld F.TIME_SRC_CTL_SRC = 1 then 1 else 0

/-- The source uncertainty in ns (R225). -/
def Mod.srcUnc (m : Mod) : Nat :=
  match m.timeSrc with
  | 0 => 3
  | 1 => m.rd R.TIME_EXT_UNC % 65536
  | _ => ((m.time.partner.map Prod.snd).getD 4294967294) + 1

/-- Published time of `ps` picoseconds in units of 2^-24 ns. -/
def psToU (ps : Int) : Int := ps * uPerNs / 1000

/-- Picoseconds of an interval of published time. -/
def uToPs (u : Int) : Int := u * 1000 / uPerNs

/-! ## Sources at a boundary (R225 to R229) -/

/-- The time fix of the ending tick, while awake; the fix of a burst, in DOZE (R159, R165, R238). -/
def Mod.gnssMeas (m : Mod) : Option Int :=
  if !m.awake then m.time.newErr
  else match m.gnss.published with
    | some s => if s.fixValid then some s.fixErr else none
    | none => none

/-- A valid PPS_IN edge has arrived within the last 1.2 s (R228). -/
def Mod.ppsValid (m : Mod) (k : Clock) : Bool :=
  match m.time.ppsAt with
  | some r => decide (k.raw ≤ r + msRaw 1200)
  | none => false

/-- The new measurement of the source in use, in ps (R226). -/
def Mod.timeMeas (m : Mod) : Option Int := if m.timeSrc = 0 then m.gnssMeas else m.time.newErr

/-- GNSS is valid as a source: a valid fix at this boundary; in DOZE, until MISS counts (R229, R238). -/
def Mod.gnssValid (m : Mod) : Bool :=
  if !m.awake then (m.time.newErr.isSome || m.time.validSince.isSome) && !m.time.dozeLost && m.fld F.GNSS_DOZE_STAT_MISS == 0
  else m.gnssMeas.isSome

/-- The source in use is valid now. -/
def Mod.srcValid (m : Mod) (k : Clock) : Bool :=
  match m.timeSrc with
  | 0 => m.gnssValid
  | 1 => m.ppsValid k
  | _ => m.time.partner.isSome

/-- The source is lost by R229 step 2. -/
def Mod.srcLost (m : Mod) (k : Clock) : Bool :=
  match m.timeSrc with
  | 0 => if !m.awake then m.time.dozeLost else decide (m.lossTicks ≤ m.time.missRun)
  | 1 => !m.ppsValid k
  | _ => m.time.partner.isNone

/-- The source has been valid for 10 s: for GNSS 1,000 consecutive valid fixes (R233). -/
def Mod.srcSteady (m : Mod) (k : Clock) : Bool :=
  if m.timeSrc = 0 && m.awake then decide (1000 ≤ m.time.validRun)
  else match m.time.validSince with
    | some r => decide (r + secRaw 10 ≤ k.raw)
    | none => false

/-! ## Uncertainty (R230, R231) -/

/-- The holdover model in ns rounded up, for `n` raw counts since the last valid measurement: U0 in ps, F0 in ppt, aging in 0.1
ppt per hour, temperature factor in ppt per °C, and the change of temperature in 0.01 °C (R231). -/
def holdoverNs (u0 f0 ag kt n : Nat) (dT : Nat) : Nat :=
  let num := u0 * (18 * 10 ^ 23) + f0 * (4 * n) * (36 * 10 ^ 13) + ag * (16 * n * n) + kt * dT * (4 * n) * (36 * 10 ^ 11)
  (num + (18 * 10 ^ 26 - 1)) / (18 * 10 ^ 26)

/-- The uncertainty of the model now (R231). -/
def Mod.modelUnc (m : Mod) (k : Clock) : Nat :=
  holdoverNs m.time.u0 (m.rd R.TIME_HO_F0 % 65536) (m.rd R.TIME_HO_AGING % 65536) (m.rd R.TIME_HO_TEMP % 65536)
    (k.raw - m.time.lastValid) m.time.dT

/-- The uncertainty at this instant: while the holdover model runs it grows from instant to instant (R231). -/
def Mod.uncNow (m : Mod) (k : Clock) : Nat := if m.time.hoOn then min 4294967295 (m.modelUnc k) else m.rd R.TIME_UNC

/-- `TIME_UNC` saturates (R251). -/
def Mod.setUnc (m : Mod) (n : Nat) : Mod := m.wr R.TIME_UNC (min 4294967295 n)

/-- |E| plus the source uncertainty, in ps (R230). -/
def Mod.measUnc (m : Mod) (e : Int) : Nat := e.natAbs + m.srcUnc * 1000

/-- `TIME_ERR`: the last E in 0.1 ns, saturating (R251). -/
def Mod.setErr (m : Mod) (e : Int) : Mod :=
  { (m.wrI R.TIME_ERR (clampI (-2147483647) 2147483647 (e.tdiv 100))) with time := { m.time with err := some e } }

/-! ## States (R229, R232, R233) -/

/-- Recorder trigger 8 (R572). -/
def Mod.timeRec (m : Mod) (k : Clock) : Mod :=
  m.recTrig k 8 (le 4 (m.rd R.TIME_STAT) ++ le 4 (m.rd R.TIME_UNC) ++ le 4 (m.rd R.TIME_ERR) ++ le 4 0)

/-- A time state is entered, with its event and its record (R229). -/
def Mod.setTState (m : Mod) (k : Clock) (st : Nat) : Mod :=
  if m.tstate = st then m
  else
    let m := m.setF F.TIME_STAT_STATE st
    let m := m.when (st == 0) fun m => m.setB F.TIME_STAT_EVER_LOCKED true
    (m.timeEvt (match st with | 0 => 1 | 1 => 0 | _ => 2)).timeRec k

/-- HOLDOVER: the frequency part is held, any slew part dropped, and the model runs from the last valid measurement (R231, R232). -/
def Mod.enterHoldover (m : Mod) (k : Clock) : Mod :=
  let m : Mod := { m with time := { m.time with slew := 0, slewOn := false, hoOn := true, hoStart := k.raw } }
  let m := (m.inc R.TIME_HO_CNT).wr R.TIME_HO_SEC 0
  ((m.setUnc (m.modelUnc k)).setB F.TIME_STAT_SLEWING false).setTState k 1

/-- The return begins (R233). -/
def Mod.beginReturn (m : Mod) : Mod :=
  { (m.setB F.TIME_STAT_RETURNING true) with time := { m.time with hoOn := false } }

/-- The source is lost during a return: the slew stops and holdover continues from the uncertainty of this moment (R233). -/
def Mod.endReturn (m : Mod) : Mod :=
  let m := (m.setB F.TIME_STAT_RETURNING false).setB F.TIME_STAT_SLEWING false
  { m with time := { m.time with slew := 0, slewOn := false, hoOn := true, u0 := m.rd R.TIME_UNC * 1000 } }

/-- A gross error (R229 step 5, R234). While UNTRACEABLE without a model the uncertainty is one the spec does not state. -/
def Mod.grossError (m : Mod) (k : Clock) : Mod :=
  let m := (m.timeEvt 4).setB F.TIME_STAT_RETURNING false
  let m := (m.setUnc (m.freeN 234)).took
  let m := (m.setB F.TIME_STAT_SLEWING false).setTState k 2
  { m with time := { m.time with wantInit := true, slew := 0, slewOn := false, hoOn := false } }

/-- 0.5 s in ps. -/
def halfSec : Int := 500000000000

/-- 10 ns/s and 100 ns/s in units of 2^-40 (R226, R233). -/
def slewSlow : Int := 10995
def slewFast : Int := 109951

/-- A slew that works `e` off at a rate. -/
def slewOf (e rate : Int) : Int := if e = 0 then 0 else if 0 < e then -rate else rate

/-- A step is scheduled, and the active unit announces it to its partner (R233 to R235, R482). -/
def Mod.stepPlan (m : Mod) (k : Clock) (delta : Int) (initial host : Bool) (unc : Nat) : Mod :=
  let m : Mod := { m with time := { m.time with step := some { at_ := k.stepAt, delta := delta, initial := initial, byHost := host, unc := unc } } }
  if m.role = 1 ∧ m.paired = true then
    m.braceSend k 0x50 (le 8 (Clock.fullNs k.stepAt) ++ le 8 (unsigned 64 (-delta / 1048576)))
  else m

/-- A measurement while returning (R229 step 4, R233, R234). -/
def Mod.returnMeas (m : Mod) (k : Clock) (e : Int) : Mod :=
  let m := m.setUnc ((m.measUnc e + 999) / 1000)
  if m.time.wantInit then
    if m.time.step.isSome then m else m.stepPlan k (psToU (-e)) true false 0
  else if e.natAbs ≤ m.lockNs * 1000 then
    let m := (m.setB F.TIME_STAT_RETURNING false).setTState k 0
    let s := slewOf e slewSlow
    { (m.setB F.TIME_STAT_SLEWING (s != 0)) with time := { m.time with slew := s, slewOn := s != 0 } }
  else if e.natAbs ≤ 1000000 then
    { (m.setB F.TIME_STAT_SLEWING true) with time := { m.time with slew := slewOf e slewSlow, slewOn := true } }
  else if m.on F.TIME_CTL_STEP_ALLOW then
    if m.time.step.isSome then m else m.stepPlan k (psToU (-e)) false false 0
  else
    { (m.setB F.TIME_STAT_SLEWING true) with time := { m.time with slew := slewOf e slewFast, slewOn := true } }

/-- A measurement while LOCKED: the loop sets the frequency part, whose law the spec leaves to its bandwidth, and a phase part of
10 ns/s at most; the slew of a return runs on until E comes to 0 (R226, R233). -/
def Mod.lockedMeas (m : Mod) (e : Int) : Mod :=
  let m := m.setUnc ((m.measUnc e + 999) / 1000)
  let done := m.time.slewOn && (e == 0 || (decide (0 < e) == decide (0 < m.time.slew)))
  let on := m.time.slewOn && !done
  let slew := if on then m.time.slew else clampI (-slewSlow) slewSlow (m.freeI 226)
  let freq := if on then m.time.freq else signed 32 (unsigned 32 (m.freeI 227))
  ({ (m.setB F.TIME_STAT_SLEWING on) with time := { m.time with freq := freq, slew := slew, slewOn := on } }).took

/-- The holdover model's origin moves to a valid measurement while LOCKED or returning (R231). -/
def Mod.originAt (m : Mod) (k : Clock) (at_ : Nat) (e temp : Int) : Mod :=
  { m with time := { m.time with
      lastValid := at_, u0 := m.measUnc e, temp0 := temp, dT := 0, origin := Clock.fullNs (k.timeAt at_) } }

/-- SRC_USE (R225, R237). -/
def Mod.srcUse (m : Mod) : Mod :=
  m.setF F.TIME_STAT_SRC_USE (if m.time.everSource && !m.time.handSet then m.timeSrc else 3)

/-- Validity of the source at this boundary: runs, SRC_VALID and SRC_LOST (R228, R229, R233). -/
def Mod.timeValidity (m : Mod) (k : Clock) : Mod :=
  let ok := m.srcValid k
  let was := m.on F.TIME_STAT_SRC_VALID
  let cfgOk := if m.fld F.TIME_SRC_CTL_SRC = 1 then m.ppsValid k else m.gnssMeas.isSome
  let t := m.time
  let t := { t with
    validRun := if ok then t.validRun + 1 else 0
    missRun := if ok then 0 else t.missRun + 1
    validSince := if ok then some (t.validSince.getD k.raw) else none
    cfgSince := if cfgOk then some (t.cfgSince.getD k.raw) else none
    handSet := t.handSet && !ok
    wantInit := t.wantInit || (ok && !t.everSource)
    everSource := t.everSource || ok }
  let m : Mod := { (m.setB F.TIME_STAT_SRC_VALID ok) with time := t }
  (if was && !ok then m.timeEvt 7 else m).srcUse

/-- The steering loop and the states at a boundary with a new measurement (R226, R229, R233, R234); `at_` its instant. -/
def Mod.timeMeasured (m : Mod) (k : Clock) (at_ : Nat) (e temp : Int) : Mod :=
  let m := m.setErr e
  if halfSec ≤ (e.natAbs : Int) ∧ m.time.wantInit = false then m.grossError k
  else
    let m := if m.tstate != 0 && !m.on F.TIME_STAT_RETURNING && m.srcSteady k then m.beginReturn else m
    let m := if m.tstate = 0 ∨ m.on F.TIME_STAT_RETURNING = true then m.originAt k at_ e temp else m
    if m.tstate = 0 then m.lockedMeas e else if m.on F.TIME_STAT_RETURNING then m.returnMeas k e else m

/-- A boundary without a new measurement: any slew part is dropped (R226). -/
def Mod.timeUnmeasured (m : Mod) : Mod :=
  let m := m.setB F.TIME_STAT_SLEWING false
  { m with time := { m.time with slew := 0, slewOn := false } }

/-- Loss and its consequences at a boundary (R229 steps 2 and 3, R233). -/
def Mod.timeLosses (m : Mod) (k : Clock) : Mod :=
  let m := if m.on F.TIME_STAT_RETURNING && m.srcLost k then m.endReturn else m
  let m := if m.tstate == 0 && m.srcLost k then m.enterHoldover k else m
  let m := if m.time.hoOn then m.setUnc (m.modelUnc k) else m
  let m := if m.tstate = 1 then m.wr R.TIME_HO_SEC ((k.raw - m.time.hoStart) / secRaw 1) else m
  if m.tstate == 1 && !m.on F.TIME_STAT_RETURNING && decide (m.untraceNs < m.rd R.TIME_UNC) then m.setTState k 2 else m

/-- A standby shows its partner's state (R229 step 6). -/
def Mod.standbyState (m : Mod) (k : Clock) : Mod :=
  match m.timeSrc, m.time.partner with
  | 2, some p => if p.1 < 3 then m.setTState k p.1 else m
  | _, _ => m

/-! ## The Announce fields (R245) -/

/-- clockAccuracy for an uncertainty in ns (R245). -/
def clockAccuracy (unc : Nat) : Nat :=
  if unc ≤ 25 then 0x20 else if unc ≤ 100 then 0x21 else if unc ≤ 250 then 0x22 else if unc ≤ 1000 then 0x23
  else if unc ≤ 2500 then 0x24 else if unc ≤ 10000 then 0x25 else 0xFE

/-- clockClass, clockAccuracy and timeSource for a state (R245). -/
def announce (state src unc : Nat) (handSet : Bool) : Nat × Nat × Nat :=
  match state with
  | 0 => (6, clockAccuracy unc, if src = 1 then 0x90 else 0x20)
  | 1 => (7, clockAccuracy unc, 0xA0)
  | _ => (248, 0xFE, if handSet then 0x60 else 0xA0)

/-- `TIME_PTP_ANN` at this instant (R245, R255). -/
def Mod.annWord (m : Mod) (unc : Nat) : Nat :=
  let a := announce m.tstate (m.fld F.TIME_SRC_CTL_SRC) unc m.time.handSet
  a.1 + a.2.1 * 256 + a.2.2 * 65536

/-- `TIME_PTP_ANN` and `TIME_PTP_UTC_USE` (R245, R255). -/
def Mod.annShow (m : Mod) : Mod :=
  let m := m.wr R.TIME_PTP_ANN (m.annWord (m.rd R.TIME_UNC))
  let u := m.rd R.TIME_PTP_UTC
  let b := fun (x : Bool) (n : Nat) => if x then 2 ^ n else 0
  let (l59, l61) := match m.time.leap with | some (_, x, y) => (x, y) | none => (false, false)
  let w := if u.testBit 16 then u % 65536 + 65536 + b l59 17 + b l61 18
    else match m.time.leap with
      | some (off, _, _) => (off + 19) % 65536 + 65536 + b l59 17 + b l61 18
      | none => 0
  m.wr R.TIME_PTP_UTC_USE w

/-! ## PTP (R244 to R248) -/

/-- Lexicographic order of Announce data sets (R246). -/
def dataLess : List Nat → List Nat → Bool
  | [], [] => false
  | [], _ => true
  | _, [] => false
  | a :: x, b :: y => if a < b then true else if b < a then false else dataLess x y

/-- This clock's data set in comparison order: its variance is a value that the spec does not give. -/
def Mod.ownData (m : Mod) : List Nat :=
  let ann := m.rd R.TIME_PTP_ANN
  let pr := m.rd R.TIME_PTP_PRIO
  [pr % 256, ann % 256, ann / 256 % 256, Config.freeNat 246 0, pr / 256 % 256,
   (Config.clockIdentity 0).toNat * 4294967296 + (Config.clockIdentity 1).toNat, 0]

/-- A log2 interval in raw counts. -/
def intvRaw (i : Int) : Nat := if 0 ≤ i then secRaw (2 ^ i.toNat) else secRaw 1 / 2 ^ (-i).toNat

/-- A field of `TIME_PTP_INTV` held to its limits (R255). -/
def Mod.ptpIntv (m : Mod) (kind : Nat) : Int :=
  match kind with
  | 0 => clampI (-3) 3 (m.fldI F.TIME_PTP_INTV_ANNOUNCE)
  | 1 => clampI (-7) 1 (m.fldI F.TIME_PTP_INTV_SYNC)
  | _ => clampI (-7) 5 (m.fldI F.TIME_PTP_INTV_DELAY)

/-- The port originates grandmaster messages: enabled, grandmaster on, time served, gate open (R248, R459). -/
def Mod.gmOn (m : Mod) (p : Nat) : Bool :=
  m.on (F.TIME_PTPP_CTL_EN p) && m.on F.TIME_PTP_CTL_GM_EN && m.mayServeTime && m.on F.BRACE_STAT_GATE_OPEN

/-- portState at a boundary (R246, R248, R256): DISABLED, FAULTY without link, PASSIVE under a better master, LISTENING on
starting, MASTER. -/
def Mod.ptpPorts (m : Mod) : Mod :=
  m.each (upto 9) fun m p =>
    let cur := m.fld (F.TIME_PTPP_STAT_PORT p)
    let st := if !m.gmOn p then 3
      else if !m.on (F.SW_P_STAT_LINK p) then 2
      else if ((AMap.find m.time.foreign p).map Foreign.better).getD false then 7
      else if cur = 3 ∨ cur = 2 then 4 else 6
    m.setF (F.TIME_PTPP_STAT_PORT p) st

/-- An Announce is received: judged by domain and form, then by the best master clock algorithm (R246, R256). -/
def Mod.announceRx (m : Mod) (k : Clock) (p : Nat) (a : AnnounceIn) : Mod :=
  if !m.on (F.TIME_PTPP_CTL_EN p) then m
  else
    let m := m.inc (R.TIME_PTPP_RX_CNT p)
    if !a.wellFormed || a.domain != m.fld F.TIME_PTP_CTL_DOMAIN then m.inc (R.TIME_PTPP_ERR_CNT p)
    else
      let better := dataLess a.data m.ownData
      let f : Foreign := { data := a.data, lastRaw := k.raw, interval := clampI (-10) 20 a.interval, better := better }
      let m : Mod := { m with time := { m.time with foreign := AMap.ins p f m.time.foreign } }
      if better then
        let m := if m.gmOn p then m.setF (F.TIME_PTPP_STAT_PORT p) 7 else m
        m.timeEvt 11
      else if m.fld (F.TIME_PTPP_STAT_PORT p) = 7 then m.setF (F.TIME_PTPP_STAT_PORT p) 6 else m

/-- The better master has not been heard for three of its intervals: the port resumes as MASTER. -/
def Mod.announceTimeout (m : Mod) (k : Clock) (p : Nat) : Mod :=
  match AMap.find m.time.foreign p with
  | none => m
  | some f =>
    if f.lastRaw + 3 * intvRaw f.interval ≤ k.raw then
      let m : Mod := { m with time := { m.time with foreign := AMap.del p m.time.foreign } }
      if m.fld (F.TIME_PTPP_STAT_PORT p) = 7 then m.setF (F.TIME_PTPP_STAT_PORT p) 6 else m
    else m

/-- PTP time in ns: published time plus 315,964,819 s (R245). -/
def ptpNs (k : Clock) : Nat := Clock.fullNs k.now + 315964819 * 1000000000

/-- The 34-byte header of a PTP message, as IEEE 1588-2019 lays it out. -/
def Mod.ptpHeader (m : Mod) (type len flags port seq ctl intv : Nat) : List Byte :=
  be 1 type ++ be 1 0x12 ++ be 2 len ++ be 1 (m.fld F.TIME_PTP_CTL_DOMAIN) ++ be 1 0 ++ be 2 flags ++ be 8 0 ++ be 4 0
    ++ be 4 (Config.clockIdentity 0).toNat ++ be 4 (Config.clockIdentity 1).toNat ++ be 2 (port + 1) ++ be 2 seq ++ be 1 ctl ++ be 1 intv

/-- A timestamp of 10 bytes. -/
def ptpStamp (ns : Nat) : List Byte := be 6 (ns / 1000000000) ++ be 4 (ns % 1000000000)

/-- Sends a PTP message on a port (R256). -/
def Mod.ptpSend (m : Mod) (p : Nat) (data : List Byte) : Mod := (m.inc (R.TIME_PTPP_TX_CNT p)).emit (.frame p data)

/-- The flag bytes of Announce and Sync: twoStep, leap and traceability flags (R245). -/
def Mod.ptpFlags (m : Mod) (kind : Nat) : Nat :=
  let u := m.rd R.TIME_PTP_UTC_USE
  let b := fun (x : Bool) (n : Nat) => if x then 2 ^ n else 0
  if kind = 0 then b (u.testBit 18) 0 + b (u.testBit 17) 1 + b (u.testBit 16) 2 + 8 + b (m.tstate != 2) 4 + b (m.tstate != 2) 5
  else b (m.on F.TIME_PTP_CTL_TWO_STEP) 9

/-- Whether a message of a kind is due on a port. -/
def Mod.ptpDue (m : Mod) (k : Clock) (p kind : Nat) : Bool :=
  match AMap.find m.time.ptpLast (4 * p + kind) with
  | none => true
  | some r => decide (r + intvRaw (m.ptpIntv kind) ≤ k.raw)

/-- A sending is noted: its sequence number is used up, its interval begins. -/
def Mod.ptpSent (m : Mod) (k : Clock) (p kind : Nat) : Mod :=
  let i := 4 * p + kind
  let s := (AMap.get (fun _ => 0) m.time.ptpSeq i + 1) % 65536
  { m with time := { m.time with ptpSeq := AMap.put (fun _ => 0) i s m.time.ptpSeq, ptpLast := AMap.ins i k.raw m.time.ptpLast } }

/-- Announce, or Sync with its Follow_Up in two-step operation (R244, R245). -/
def Mod.gmSend (m : Mod) (k : Clock) (p kind : Nat) : Mod :=
  let seq := AMap.get (fun _ => 0) m.time.ptpSeq (4 * p + kind)
  let intv := unsigned 8 (m.ptpIntv kind)
  let ts := ptpStamp (ptpNs k)
  let m' :=
    if kind = 0 then
      let ann := m.annWord (m.uncNow k)
      let pr := m.rd R.TIME_PTP_PRIO
      m.ptpSend p (m.ptpHeader 0xB 64 (m.ptpFlags 0) p seq 5 intv ++ ts ++ be 2 (m.rd R.TIME_PTP_UTC_USE % 65536) ++ be 1 0
        ++ be 1 (pr % 256) ++ be 1 (ann % 256) ++ be 1 (ann / 256 % 256) ++ be 2 (Config.freeNat 246 0) ++ be 1 (pr / 256 % 256)
        ++ be 4 (Config.clockIdentity 0).toNat ++ be 4 (Config.clockIdentity 1).toNat ++ be 2 0 ++ be 1 (ann / 65536 % 256))
    else
      let m := m.ptpSend p (m.ptpHeader 0 44 (m.ptpFlags 1) p seq 0 intv ++ ts)
      if m.on F.TIME_PTP_CTL_TWO_STEP then m.ptpSend p (m.ptpHeader 8 44 0 p seq 2 intv ++ ts) else m
  m'.ptpSent k p kind

/-! ## Pulse outputs (R239 to R241) -/

def Mod.pulse (m : Mod) (i : Nat) : PulseSt := AMap.get (fun _ => PulseSt.none) m.time.pulses i

def Mod.setPulse (m : Mod) (i : Nat) (p : PulseSt) : Mod :=
  { m with time := { m.time with pulses := AMap.put (fun _ => PulseSt.none) i p m.time.pulses } }

/-- START of an output, and its period (R252). -/
def Mod.pulseStart (m : Mod) (i : Nat) : Nat := m.rd (R.TIME_PULSE_START_LO i) + 4294967296 * m.rd (R.TIME_PULSE_START_HI i)

/-- The first scheduled edge not before `t` (R239). -/
def nextEdge (start period t : Nat) : Option Nat :=
  if t ≤ start then some start
  else if period = 0 then none
  else some (start + (t - start + period - 1) / period * period)

/-- An apply of an output's schedule (R240). -/
def Mod.pulseApplied (m : Mod) (k : Clock) (i : Nat) : Mod :=
  let s := m.pulseStart i
  let per := m.rd (R.TIME_PULSE_PERIOD i)
  let w := m.rd (R.TIME_PULSE_WIDTH i)
  let now := Clock.fullNs k.now
  let bad := w == 0 || (per != 0 && decide (per ≤ w))
  let st := fun (m : Mod) (armed late bad : Bool) =>
    (((m.setB (F.TIME_PULSE_STAT_ARMED i) armed).setB (F.TIME_PULSE_STAT_DONE i) false).setB (F.TIME_PULSE_STAT_LATE i) late).setB
      (F.TIME_PULSE_STAT_BAD_CFG i) bad
  if !m.on (F.TIME_PULSE_CTL_EN i) then (st m false false false).setPulse i { m.pulse i with next := none }
  else if bad then (st m false false true).setPulse i { m.pulse i with next := none }
  else if per = 0 ∧ s < now + 1000 then ((st m false true false).setPulse i { m.pulse i with next := none }).timeEvt 10
  else
    let nx := if now < s then some s else nextEdge s per (now + 1000)
    (st m true false false).setPulse i { m.pulse i with next := nx }

/-- The instant, in units of published time, at which an edge leaves: earlier by the effective delay (R239). -/
def Mod.edgeAt (m : Mod) (i ns : Nat) : Int := (ns : Int) * uPerNs - psToU (m.rdI (R.TIME_PDLY_EFF i))

/-- The output drives its pulses: time is served and the gate is open (R43, R240, R459). -/
def Mod.pulseOut (m : Mod) : Bool := m.mayServeTime && m.on F.BRACE_STAT_GATE_OPEN

/-- A scheduled edge is due: one pulse begins, the schedule moves to the first edge not yet passed; a one-shot is done (R239, R240). -/
def Mod.pulseEdge (m : Mod) (k : Clock) (i : Nat) : Mod :=
  let p := m.pulse i
  match p.next with
  | none => m
  | some e =>
    if k.now < m.edgeAt i e then m
    else
      let per := m.rd (R.TIME_PULSE_PERIOD i)
      let ref := ((k.now + psToU (m.rdI (R.TIME_PDLY_EFF i))) / uPerNs).toNat
      let nx := if per = 0 then none else nextEdge e per (max ref e + 1)
      let w := max 10 (m.rd (R.TIME_PULSE_WIDTH i))
      let m := if per = 0 then m.setB (F.TIME_PULSE_STAT_ARMED i) false else m
      if m.pulseOut then
        let m := if per = 0 then m.setB (F.TIME_PULSE_STAT_DONE i) true else m
        ((m.setPulse i { next := nx, activeTill := some (max ref e + w), last := some e }).incF (F.TIME_PULSE_STAT_EMITTED i)).emit
          (.pulse i true)
      else m.setPulse i { p with next := nx, last := some e }

/-- A pulse has lasted its width: it ends (R239). -/
def Mod.pulseEnd (m : Mod) (k : Clock) (i : Nat) : Mod :=
  let p := m.pulse i
  match p.activeTill with
  | none => m
  | some t =>
    if k.now < m.edgeAt i t then m
    else
      (m.setPulse i { p with activeTill := none }).emit (.pulse i false)

/-- The outputs go to their inactive level when time serving or the gate ends (R240, R459). -/
def Mod.pulsesOff (m : Mod) : Mod :=
  m.each (m.time.pulses.map Prod.fst) fun m i =>
    match (m.pulse i).activeTill with
    | none => m
    | some _ => (m.setPulse i { m.pulse i with activeTill := none }).emit (.pulse i false)

/-! ## Steps (R235, R237) -/

/-- A step is taken at the boundary that ends the tick in progress (R235). -/
def Mod.takeStep (m : Mod) (k : Clock) (st : StepPend) : Clock × Mod :=
  let k' := k.stepEnd st.delta
  let m : Mod := { m with
    time := { m.time with
      step := none, wantInit := m.time.wantInit && !st.initial, handSet := m.time.handSet || st.byHost,
      newErr := none, pulses := m.time.pulses.map fun p =>
        (p.1, { p.2 with activeTill := p.2.activeTill.map fun t => ((t : Int) + st.delta / uPerNs).toNat }) }
    gnss := { m.gnss with stepped := true } }
  let m := if st.byHost then m.setUnc st.unc else m
  let m := (m.inc R.TIME_STEP_CNT).timeEvt 3
  let m := (m.setB F.AIR_STAT_STEP_RESYNC true).srcUse
  (k', m.timeRec k'.beginTick)

/-- The step due at the boundary now reached, if any. -/
def Mod.stepDue (m : Mod) (k : Clock) : Option StepPend :=
  match m.time.step with
  | some st => if st.at_ ≤ k.tickEnd ∧ k.nextBoundary ≤ k.raw then some st else none
  | none => none

/-- SET (R237): accepted in UNTRACEABLE for a whole number of seconds; else SET_REFUSED. -/
def Mod.timeSet (m : Mod) (k : Clock) (ns unc : Nat) : Mod :=
  if m.tstate ≠ 2 ∨ ns % 1000000000 ≠ 0 then m.timeEvt 8
  else m.stepPlan k ((ns : Int) * uPerNs - k.stepAt) true true unc

/-! ## Captures (R242, R243) -/

def Mod.capIn (m : Mod) (n : Nat) : CapIn := AMap.get (fun _ => CapIn.empty) m.time.caps n

def Mod.setCap (m : Mod) (n : Nat) (c : CapIn) : Mod :=
  { m with time := { m.time with caps := AMap.put (fun _ => CapIn.empty) n c m.time.caps } }

/-- The input captures this edge: enabled, and the edge selected (R254). -/
def Mod.capSel (m : Mod) (n : Nat) (rise : Bool) : Bool :=
  m.on (F.TIME_CAP_CTL_EN n) && (m.fld (F.TIME_CAP_CTL_EDGE n)).testBit (if rise then 0 else 1)

/-- An edge on EVT_IN n (R242, R243): 4 ns are 5 raw counts. -/
def Mod.capEdge (m : Mod) (k : Clock) (n : Nat) (rise : Bool) : Mod :=
  if !m.capSel n rise then m
  else
    let c := m.capIn n
    let close := match c.lastEdge with | some r => decide (k.raw < r + 5) | none => false
    if close then m
    else if 16 ≤ c.fifo.length then ((m.setCap n { c with lastEdge := some k.raw }).inc (R.TIME_CAP_DROP_CNT n)).timeEvt 9
    else
      let t := k.now - psToU (m.rdI (R.TIME_EVTIN_DLY_EFF n))
      m.setCap n { fifo := c.fifo ++ [{ ns := Clock.fullNs t, frac := Clock.frac t, rise := rise }], lastEdge := some k.raw }

/-! ## PPS_IN (R228) -/

/-- The edge that marks the second: rising unless PPS_POL. -/
def Mod.ppsEdge (m : Mod) (k : Clock) (rise : Bool) : Mod :=
  if m.fld F.TIME_SRC_CTL_SRC ≠ 1 ∨ rise = m.on F.TIME_SRC_CTL_PPS_POL then m
  else
    let off := match m.time.ppsAt with
      | some r => m.ppsValid k && decide (12500 < ((k.raw : Int) - r - secRaw 1).natAbs)
      | none => false
    if off then m.timeEvt 12
    else
      let t := k.now - psToU (m.rdI R.TIME_PPSIN_DLY_EFF)
      let sec := 1000000000 * uPerNs
      let e := uToPs (t - (t + sec / 2) / sec * sec)
      { m with time := { m.time with ppsAt := some k.raw, newErr := if m.timeSrc = 1 then some e else m.time.newErr } }

/-! ## The boundary -/

/-- Raw count of the instant a measurement is for: the latch of the ending tick for GNSS, the edge for EXT, now for PARTNER. -/
def Mod.measAt (m : Mod) (old k : Clock) : Nat :=
  match m.timeSrc with | 0 => old.tickRaw | 1 => m.time.ppsAt.getD k.raw | _ => k.raw

/-- TIME at a tick boundary: `old` is the clock of the ending tick, `k` of the one beginning (R226 to R235). A measurement made
before a step taken here says nothing of the new time. -/
def Mod.timeBoundary (m : Mod) (old k : Clock) (i : TimeIn) : Clock × Mod :=
  let m : Mod := { m with time := { m.time with dT := max m.time.dT (i.temp - m.time.temp0).natAbs, leap := i.leap } }
  let m := m.wr R.TIME_TEMP (unsigned 16 i.temp)
  let meas := if m.gnss.stepped then none else m.timeMeas
  let m := m.timeValidity k
  let m := match meas with
    | some e => m.timeMeasured k (m.measAt old k) e i.temp
    | none => m.timeUnmeasured
  let m := (m.timeLosses k).standbyState k
  let m : Mod := { m with time := { m.time with newErr := none, dozeLost := false } }
  let rate := m.time.freq + m.time.slew
  let m := m.wrI R.TIME_RATE rate
  (k.setRate (m.rdI R.TIME_RATE), m.annShow.ptpPorts)

/-- After a takeover TIME goes to its configured source (R249). -/
def Mod.timeTakeover (m : Mod) (k : Clock) : Mod :=
  let steady := match m.time.cfgSince with | some r => decide (r + secRaw 10 ≤ k.raw) | none => false
  let m : Mod := { m with time := { m.time with validSince := m.time.cfgSince, validRun := if steady then 1000 else 0, missRun := 0 } }
  let e := if m.fld F.TIME_SRC_CTL_SRC = 1 then m.time.err else m.gnssMeas
  let m := m.srcUse
  if steady then
    let m := m.beginReturn
    match e with
    | some e =>
      if m.tstate = 0 ∧ e.natAbs ≤ m.lockNs * 1000 then (m.setErr e).returnMeas k e
      else if m.tstate = 0 then m.setTState k 1 else m
    | none => m
  else if m.tstate = 0 then m.enterHoldover k else m

/-- A change of reference moves published time by 1 ns at most, by an amount the spec leaves open (R227). -/
def refMove (k : Clock) (m : Mod) : Clock := k.step (clampI (-uPerNs) uPerNs (m.freeI 227000))

/-! ## Meanings -/

/-- REF_QUALIFIED: REF_IN has stayed within ±1 ppm for 10 s (R227). -/
def execRefQualified (dt : Nat) (s : State) : Res :=
  .next (s.evClk dt fun k m =>
    if m.live? 1 && m.on F.TIME_SRC_CTL_REF_EN && !m.on F.TIME_STAT_REF_LOCK then
      (refMove k m, (m.took.setB F.TIME_STAT_REF_LOCK true).timeEvt 6)
    else (k, m))

/-- REF_LOST: REF_IN has stopped or drifted (R227). -/
def execRefLost (dt : Nat) (s : State) : Res :=
  .next (s.evClk dt fun k m =>
    if m.live? 1 && m.on F.TIME_STAT_REF_LOCK then (refMove k m, (m.took.setB F.TIME_STAT_REF_LOCK false).timeEvt 5) else (k, m))

/-- PPS_IN_EDGE: an edge, rising or falling (R228). -/
def execPpsInEdge (dt : Nat) (rise : Bool) (s : State) : Res :=
  .next (s.ev dt fun k m => if m.live? 1 then m.ppsEdge k rise else m)

/-- TIME_SOURCE_LOSS: at the boundary now reached (R229 step 2). -/
def execTimeSourceLoss (dt : Nat) (s : State) : Res :=
  .next (s.ev dt fun k m => if m.live? 1 && k.atBoundary && m.tstate == 0 && m.srcLost k then (m.enterHoldover k).annShow else m)

/-- HOLDOVER_LIMIT: at the boundary now reached (R229 step 3). -/
def execHoldoverLimit (dt : Nat) (s : State) : Res :=
  .next (s.ev dt fun k m =>
    if m.live? 1 && k.atBoundary && m.tstate == 1 && m.time.hoOn && decide (m.untraceNs < m.modelUnc k) then
      ((m.setUnc (m.modelUnc k)).setTState k 2).annShow
    else m)

/-- TIME_RETURN_BEGIN: at the boundary now reached, with the latest measurement (R233). -/
def execTimeReturnBegin (dt : Nat) (s : State) : Res :=
  .next (s.ev dt fun k m =>
    match m.time.err with
    | some e =>
      if m.live? 1 && k.atBoundary && m.tstate != 0 && !m.on F.TIME_STAT_RETURNING && m.srcSteady k then
        (m.beginReturn.returnMeas k e).annShow
      else m
    | none => m)

/-- TIME_STEP: at the whole second now reached (R235). -/
def execTimeStep (dt : Nat) (s : State) : Res :=
  .next (s.evClk dt fun k m =>
    match m.stepDue k with
    | some st => if m.live? 1 then m.takeStep k st else (k, m)
    | none => (k, m))

/-- TIME_SET: item SET commits with a full time in ns and a declared uncertainty (R237, R257). -/
def execTimeSet (dt ns unc : Nat) (s : State) : Res :=
  .next (s.ev dt fun k m => m.access R.TIME_MBX_DATA fun m => m.timeSet k ns unc)

/-- PULSE_EDGE (R239, R240). -/
def execPulseEdge (dt i : Nat) (s : State) : Res :=
  .next (s.ev dt fun k m => if m.live? 1 && decide (i < 8) then m.pulseEdge k i else m)

/-- PULSE_END (R239, R240). -/
def execPulseEnd (dt i : Nat) (s : State) : Res :=
  .next (s.ev dt fun k m => if m.live? 1 && decide (i < 8) then m.pulseEnd k i else m)

/-- CAPTURE_EDGE (R242, R243). -/
def execCaptureEdge (dt n : Nat) (rise : Bool) (s : State) : Res :=
  .next (s.ev dt fun k m => if m.live? 1 && decide (n < 4) then m.capEdge k n rise else m)

/-- TIME_CAP_POP: POP of an input (R243, R254). -/
def execTimeCapPop (dt n : Nat) (s : State) : Res :=
  .next (s.ev dt fun _ m => m.access (R.TIME_CAP_POP n) fun m =>
    if n < 4 then m.setCap n { m.capIn n with fifo := (m.capIn n).fifo.drop 1 } else m)

/-- PTP_ANNOUNCE_RX (R246). -/
def execPtpAnnounceRx (dt p : Nat) (a : AnnounceIn) (s : State) : Res :=
  .next (s.ev dt fun k m => if m.live? 1 && decide (p < 9) then m.announceRx k p a else m)

/-- PTP_GM_TX: kind 0 Announce, 1 Sync, at its interval (R245, R248). -/
def execPtpGmTx (dt p kind : Nat) (s : State) : Res :=
  .next (s.ev dt fun k m =>
    if m.live? 1 && decide (p < 9) && decide (kind < 2) && m.gmOn p && m.fld (F.TIME_PTPP_STAT_PORT p) == 6 && m.ptpDue k p kind then
      m.gmSend k p kind
    else m)

/-- ANNOUNCE_RECEIPT_TIMEOUT (R246). -/
def execAnnounceReceiptTimeout (dt p : Nat) (s : State) : Res :=
  .next (s.ev dt fun k m => if m.live? 1 && decide (p < 9) then m.announceTimeout k p else m)

/-- PDELAY_REQ_TX: a Pdelay_Req goes out, with the mean link delay in ps that its exchange measures, where it completes (R244,
R247, R256). -/
def execPdelayReqTx (dt p : Nat) (delay : Option Nat) (s : State) : Res :=
  .next (s.ev dt fun k m =>
    if m.live? 1 && decide (p < 9) && m.on (F.TIME_PTPP_CTL_EN p) && m.on F.TIME_PTP_CTL_PROFILE && m.ptpDue k p 2 then
      let seq := AMap.get (fun _ => 0) m.time.ptpSeq (4 * p + 2)
      let m := (m.ptpSend p (m.ptpHeader 2 54 0 p seq 5 (unsigned 8 (m.ptpIntv 2)) ++ ptpStamp 0 ++ be 10 0)).ptpSent k p 2
      match delay with
      | some d => (m.wr (R.TIME_PTPP_PDELAY p) d).setB (F.TIME_PTPP_STAT_PDELAY_VALID p) true
      | none => m
    else m)

end Sys2Proof.Machine
end

