-- ==== Sys2Proof/Machine/Pack.lean ====
section
/-! DEFINITION. PACK and the rovers' solution contexts (chapter 05): base position, RTCM, observation sets, flows, solutions. -/

namespace Sys2Proof.Machine

/-! ## Figures in use (R25, R217) -/

/-- A field of PACK's configuration as it stood at the latch (R25). -/
def Mod.cfgAt (m : Mod) (f : Fld) : Nat := bitsOf (AMap.get (fun _ => 0) m.pack.cfg f.off) f.hi f.lo

/-- The registers whose values a tick's work keeps (R25). -/
def packRegs : List Nat := [R.PACK_CTL, R.PACK_ASU_CTL, R.PACK_SOL_CTL, R.PACK_RTCM_CTL, R.PACK_RTCM_RATE]

def Mod.nodeMax (m : Mod) : Nat := max 1024 (m.cfgAt F.PACK_ASU_CTL_NODE_MAX)
def Mod.ratioMin (m : Mod) : Nat := max 15 (m.cfgAt F.PACK_ASU_CTL_RATIO_MIN)
def Mod.fixHold (m : Mod) : Nat := min 4 (max 1 (m.cfgAt F.PACK_ASU_CTL_HOLD))
def Mod.uncK (m : Mod) : Nat := max 30 (m.cfgAt F.PACK_SOL_CTL_UNC_K)
def Mod.uncFloor (m : Mod) : Nat := m.cfgAt F.PACK_SOL_CTL_UNC_FLOOR
def Mod.resetGap (m : Mod) : Nat := max 1 (m.fld F.PACK_SOL_CTL_RESET_GAP)
def Mod.loadLimit (m : Mod) : Nat := min 486 (m.fld F.PACK_SOL_CTL_LOAD_LIMIT)
def Mod.moveThr (m : Mod) : Nat := max 100 (m.fld F.PACK_BASE_CTL_MOVE_THR)

/-- The site tag of a rover: the spec names no register that holds it (log entry 12). -/
def siteTag (r : Nat) : Nat := Config.freeNat 371 r % 65536

/-! ## Contexts -/

def Mod.rv (m : Mod) (r : Nat) : RoverPack := AMap.get (fun _ => RoverPack.fresh) m.pack.rover r

def Mod.setRv (m : Mod) (r : Nat) (c : RoverPack) : Mod :=
  { m with pack := { m.pack with rover := AMap.put (fun _ => RoverPack.fresh) r c m.pack.rover } }

def Mod.solEvt (m : Mod) (r b : Nat) : Mod := m.evt (R.ROVER_SOL_EVT r) (R.ROVER_SOL_EVT_EN r) b 26

/-- A rover's Heel is requested (R210, R272, R292, R294). -/
def Mod.heelRover (m : Mod) (r : Nat) : Mod := m.setB (F.SHEP_RV_STAT_HEEL_REQ r) true

/-- AIR has marked the context LAPSED (R31, R392). -/
def Mod.linkLapsed (m : Mod) (r : Nat) : Bool := m.fld (F.ROVER_LINK_STAT_LINK r) == 2

/-- ROVER_POS_CTL enables a rover: EN is 1 and MODE is none of the reserved ones (R218; log entry 113). -/
def posOn (ctl : Nat) : Bool := ctl.testBit 0 && bitsOf ctl 2 1 != 3

/-- Rovers enabled for solutions, in ascending order. -/
def Mod.posRovers (m : Mod) : List Nat := (upto 256).filter fun r => posOn (m.rd (R.ROVER_POS_CTL r))

/-- A scheduling trace record is written (R215). -/
def Mod.trace (m : Mod) (k : Clock) (event where_ flow op graph arg : Nat) : Mod :=
  if m.on F.PACK_TRACE_CTL_EN && (!m.on F.PACK_TRACE_CTL_ONE_ROVER || flow == 256 || flow == m.fld F.PACK_TRACE_CTL_ROVER) then
    let t : TraceRec := { off := k.subNs k.raw, event := event, where_ := where_, flow := flow, op := op, graph := graph, arg := arg }
    { m with pack := { m.pack with trace := m.pack.trace ++ [t] } }
  else m

/-! ## Graphs (R200 to R203) -/

/-- The declared load in kFLOP, signals, satellites and scratch in KiB of a graph; none when it is not loaded. The spec gives no
scratch, counts or serial of a built-in graph, no MIN_SAT of 0x00 and 0x01 and no MAX_SIG of 0x00: free values. -/
def Mod.graphOf (m : Mod) (g : Nat) : Option Graph :=
  let open_ := fun (i n : Nat) => Config.freeNat 193 (g * 8 + i) % n
  let builtin := fun (kflop sig sat : Nat) (asu : Nat) =>
    some { flags := asu, maxSig := sig, minSat := sat, scratch := open_ 0 1048577, flopDecl := kflop, nOps := open_ 1 65536, nBuf := open_ 2 256,
           serial := open_ 3 4294967296, stateLen := open_ 4 65537, imgLen := 0, minVer := 0 : Graph }
  match g with
  | 0 => builtin 1000 (open_ 5 256) (open_ 6 256) 0
  | 1 => builtin 800 40 (open_ 6 256) 0
  | 2 => builtin 14000 40 5 1
  | 3 => builtin 22000 60 5 1
  | _ => AMap.find m.pack.graphs g

/-- A rover may bind the graph. -/
def Mod.graphReady (m : Mod) (g : Nat) : Bool := g != 0 && (m.graphOf g).isSome

/-- Scratch of a flow in KiB, in units of 4 KiB (R192). -/
def Graph.kib (g : Graph) : Nat := (g.scratch + 4095) / 4096 * 4

/-- Rovers bound to a graph. -/
def Mod.graphUsers (m : Mod) (g : Nat) : Nat := ((upto 256).filter fun r => m.fld (F.ROVER_POS_CTL_GRAPH r) == g).length

/-- The load in kFLOP of a phase, given each rover's ROVER_POS_CTL (R203). -/
def Mod.phaseLoad (m : Mod) (ctl : Nat → Nat) (p : Nat) : Nat :=
  1000 + (((upto 256).filter fun r => r % 10 == p && posOn (ctl r) && bitsOf (ctl r) 2 1 != 1).map fun r =>
    ((m.graphOf (bitsOf (ctl r) 15 8)).map Graph.flopDecl).getD 0).sum

/-- The heaviest phase's load, rounded up to MFLOP, and that phase (R217). -/
def Mod.loadShow (m : Mod) : Mod :=
  let loads := (upto 10).map fun p => (m.phaseLoad (fun r => m.rd (R.ROVER_POS_CTL r)) p, p)
  let best := loads.foldl (fun a b => if a.1 < b.1 then b else a) (0, 0)
  (m.setF F.PACK_LOAD_MFLOP ((best.1 + 999) / 1000)).setF F.PACK_LOAD_PHASE best.2

/-- LOAD_CHECK of an apply with these new values of ROVER_POS_CTL: some phase would exceed LOAD_LIMIT (R203). -/
def Mod.overload (m : Mod) (ctl : Nat → Nat) : Bool :=
  (upto 10).any fun p => decide (m.loadLimit * 1000 < m.phaseLoad ctl p)

/-- A field of the image header. -/
def imgAt (d : List Byte) (off n : Nat) : Nat := leAt d off n

/-- Step 2 of R202 and the sizes that step 1 rests on: the ranges of every field, buffer and operation of R201. -/
def graphRanges (d : List Byte) : Bool :=
  let nOps := imgAt d 12 2
  let nBuf := imgAt d 14 2
  let scr := imgAt d 16 4
  let opsAt := 64 + 8 * nBuf
  let depAt := opsAt + 16 * nOps
  let nDep := (d.length - 96 - depAt) / 2
  let bufOk := (upto nBuf).all fun i => decide (imgAt d (64 + 8 * i) 4 + imgAt d (68 + 8 * i) 4 ≤ scr)
  let opOk := (upto nOps).all fun i =>
    let o := opsAt + 16 * i
    let inOk := fun v => v == 0xFF || decide (v < nBuf)
    decide (1 ≤ imgAt d o 1) && decide (imgAt d o 1 ≤ 0x0E) && decide (imgAt d (o + 1) 1 ≤ 1) && inOk (imgAt d (o + 8) 1) && inOk (imgAt d (o + 9) 1)
      && inOk (imgAt d (o + 10) 1) && decide (imgAt d (o + 11) 1 < nBuf) && decide (imgAt d (o + 14) 1 ≤ 8)
      && decide (imgAt d (o + 12) 2 + imgAt d (o + 14) 1 ≤ nDep) && imgAt d (o + 15) 1 == 0
  d.take 4 == [0x53, 0x47, 0x52, 0x46] && imgAt d 4 2 == 1 && decide (0x80 ≤ imgAt d 6 1) && decide (imgAt d 7 1 ≤ 1) && decide (1 ≤ nOps)
    && decide (nOps ≤ 2048) && decide (1 ≤ nBuf) && decide (nBuf ≤ 255) && decide (scr ≤ 1048576) && decide (1 ≤ imgAt d 24 1)
    && decide (imgAt d 24 1 ≤ 64) && decide (imgAt d 26 2 < 16) && decide (imgAt d 28 4 ≤ 65536) && imgAt d 48 8 == 0 && imgAt d 56 8 == 0
    && decide (depAt + 96 ≤ d.length) && bufOk && opOk

/-- Step 4 of R202: each dependency names a lower-numbered operation. -/
def graphDeps (d : List Byte) : Bool :=
  let nOps := imgAt d 12 2
  let opsAt := 64 + 8 * imgAt d 14 2
  let depAt := opsAt + 16 * nOps
  (upto nOps).all fun i =>
    let o := opsAt + 16 * i
    (upto (imgAt d (o + 14) 1)).all fun j => decide (imgAt d (depAt + 2 * (imgAt d (o + 12) 2 + j)) 2 < i)

/-- Step 5 of R202: STATE_STORE is the last operation, and no other. -/
def graphStore (d : List Byte) : Bool :=
  let nOps := imgAt d 12 2
  let opsAt := 64 + 8 * imgAt d 14 2
  (upto nOps).all fun i => (imgAt d (opsAt + 16 * i) 1 == 0x0E) == (i == nOps - 1)

/-- Steps 1 to 5 of R202. -/
def Mod.graphImageOk (m : Mod) (d : List Byte) : Bool :=
  decide (160 ≤ d.length) && imgAt d 8 4 == d.length && graphRanges d
    && (imgAt d 36 4 / 256 == 0x925600 && (imgAt d 36 1 == 0 || imgAt d 36 1 == 3)) && decide (imgAt d 32 4 ≤ m.rd R.GLB_FW_VER)
    && graphDeps d && graphStore d

/-- The facts of a checked image. -/
def graphFacts (d : List Byte) : Graph :=
  { flags := imgAt d 7 1, maxSig := imgAt d 24 1, minSat := imgAt d 25 1, scratch := imgAt d 16 4, flopDecl := imgAt d 20 4,
    nOps := imgAt d 12 2, nBuf := imgAt d 14 2, serial := imgAt d 40 4, stateLen := imgAt d 28 4, imgLen := d.length, minVer := imgAt d 32 4 }

/-- An accepted image enters the graph store (R202). -/
def Mod.graphStoreImage (m : Mod) (d : List Byte) : Mod :=
  ({ m with pack := { m.pack with graphs := AMap.ins (imgAt d 6 1) (graphFacts d) m.pack.graphs } }).loadShow

/-- LOAD_GRAPH (R202, R216): the image as host memory gave it, none when the read failed. -/
def Mod.loadGraph (m : Mod) (k : Clock) (h : Handed) (addr reserved : Nat) (img : Option (List Byte)) : Mod :=
  let fail := fun (m : Mod) code => m.finish k h code (le 8 0)
  if addr % 8 ≠ 0 ∨ reserved ≠ 0 then fail m 0x105
  else match img with
  | none => fail m 0x106
  | some d =>
    if !m.graphImageOk d then fail m 0x101
    else match m.imageSigned (imgAt d 44 4) (d.take (d.length - 96)) (d.drop (d.length - 96)) with
    | (m, false) => fail m 0x102
    | (m, true) =>
      let g := imgAt d 6 1
      let others := AMap.del g m.pack.graphs
      if (AMap.find m.pack.graphs g).isSome ∧ m.graphUsers g ≠ 0 then fail m 0x103
      else if 64 ≤ others.length ∨ 33554432 < (others.map fun p => p.2.imgLen).sum + d.length then fail m 0x104
      else (m.graphStoreImage d).finish k h 0 (le 1 g ++ le 3 0 ++ le 4 (imgAt d 40 4))

/-- UNLOAD_GRAPH (R216). -/
def Mod.unloadGraph (m : Mod) (k : Clock) (h : Handed) (g reserved : Nat) : Mod :=
  if reserved ≠ 0 ∨ g < 0x80 ∨ (AMap.find m.pack.graphs g).isNone then m.finish k h 0x105 []
  else if m.graphUsers g ≠ 0 then m.finish k h 0x103 []
  else (Mod.loadShow { m with pack := { m.pack with graphs := AMap.del g m.pack.graphs } }).finish k h 0 []

/-- A command of PACK is carried out (R202, R216). -/
def Mod.packDo (m : Mod) (k : Clock) (c : Handed × PackCmd) : Mod :=
  match c.2 with
  | .load addr reserved img => m.loadGraph k c.1 addr reserved img
  | .unload g reserved => m.unloadGraph k c.1 g reserved

/-- The commands accepted before a latch are carried out at it, in their order (R26, R117). -/
def Mod.packCmds (m : Mod) (k : Clock) : Mod :=
  let l := m.pack.cmds
  Mod.each { m with pack := { m.pack with cmds := [] } } l fun m c => m.packDo k c

/-- A command is accepted: it waits for the next latch (R26). -/
def Mod.packTake (m : Mod) (k : Clock) (h : Hdr) (opcode : Nat) (c : PackCmd) : Mod :=
  { m with pack := { m.pack with cmds := m.pack.cmds ++ [(acceptedIn 10 opcode k.tick h, c)] } }

/-! ## The base position (R174 to R179) -/

def Mod.baseState (m : Mod) : Nat := m.fld F.PACK_BASE_STAT_STATE

/-- The base position is good for corrections and solutions. -/
def Mod.baseGood (m : Mod) : Bool := m.baseState == 2 || m.baseState == 3

/-- A base state is entered (R175). -/
def Mod.baseEnter (m : Mod) (st : Nat) : Mod := (m.setF F.PACK_BASE_STAT_STATE st).packEvt 3

/-- The base position in use changes: every rover's filter resets (R179). -/
def Mod.baseUse (m : Mod) (p : BasePos) : Mod :=
  let same := match m.pack.base with | some b => b.x == p.x && b.y == p.y && b.z == p.z | none => false
  let m : Mod := { m with pack := { m.pack with base := some p } }
  if same then m
  else
    let known := m.pack.rover.map Prod.fst
    m.each (known ++ m.posRovers.filter fun r => !known.contains r) fun m r => m.setRv r { m.rv r with reset := true, baseChanged := true }

/-- The survey's mean. -/
def Mod.svyMean (m : Mod) : BasePos :=
  let q := fun i => (nth 0 m.pack.svySum i) / (max 1 m.pack.svyN : Nat)
  { x := q 0, y := q 1, z := q 2, arpH := 0, acc := 0 }

/-- The estimated standard deviation of the mean is at most ACC in an axis, one independent sample per 60 s (R176): the variance of
n samples in (0.1 mm)², divided by n/60. -/
def Mod.svyAxisOk (m : Mod) (i : Nat) : Bool :=
  let n := m.pack.svyN
  let s := (nth 0 m.pack.svySum i).natAbs
  decide (2 ≤ n) && decide (60 * (n * nth 0 m.pack.svySq i - s * s) ≤ 100 * (m.fld F.PACK_SURVEY_CTL_ACC) ^ 2 * n ^ 2 * (n - 1))

/-- One survey sample (R176), then the end criteria. -/
def Mod.svySample (m : Mod) (tickNo : Nat) (x y z : Int) : Mod :=
  let add := fun (l : List Int) => [nth 0 l 0 + x, nth 0 l 1 + y, nth 0 l 2 + z]
  let addQ := fun (l : List Nat) => [nth 0 l 0 + x.natAbs ^ 2, nth 0 l 1 + y.natAbs ^ 2, nth 0 l 2 + z.natAbs ^ 2]
  let m : Mod := { m with pack := { m.pack with
    svyN := m.pack.svyN + 1, svySum := add m.pack.svySum, svySq := addQ m.pack.svySq, svyTick := some tickNo } }
  let m := m.satF F.PACK_BASE_STAT_SURVEY_TIME
  if m.fld F.PACK_SURVEY_CTL_MIN_TIME ≤ m.pack.svyN ∧ (upto 3).all m.svyAxisOk = true then
    { m with pack := { m.pack with svyDone := true } }
  else m

/-- The combined position solution of the instant in work is there: its time fix is valid, and the base flow that takes the sample has
ended (R159, R176, R196, R200). -/
def Mod.fixNow (m : Mod) : Bool := m.pack.rtcmDone && (match m.gnss.published with | some s => s.fixValid | none => false)

/-- The entered position comes into use, or is missing (R175 steps 1, 2 and 7). -/
def Mod.baseEntered (m : Mod) : Mod :=
  match m.pack.entered with
  | some pos => (m.baseUse pos).baseEnter 3
  | none => Mod.baseEnter { m with pack := { m.pack with base := none } } 0

/-- Transitions of the base state at a tick boundary (R175); a write of BASE_POS also leaves MOVED, as R178 says. -/
def Mod.baseBoundary (m : Mod) : Mod :=
  let p := m.pack
  let m : Mod := { m with pack := { p with applied := false, posApplied := false, svyStart := false, svyDone := false, moved := false } }
  if p.applied && m.fld F.PACK_BASE_CTL_SOURCE == 1 then m.baseEntered
  else if p.svyStart && m.fld F.PACK_BASE_CTL_SOURCE == 0 then
    let m : Mod := { m with pack := { m.pack with base := none, svyN := 0, svySum := [0, 0, 0], svySq := [0, 0, 0], svyTick := none } }
    (m.setF F.PACK_BASE_STAT_SURVEY_TIME 0).baseEnter 1
  else if p.svyDone && m.baseState == 1 then (m.baseUse m.svyMean).baseEnter 2
  else if p.posApplied && m.fld F.PACK_BASE_CTL_SOURCE == 1 && (m.baseState == 3 || m.baseState == 4) then m.baseEntered
  else if p.moved && m.baseGood then (m.baseEnter 4).packEvt 4
  else m

/-! ## Observation sets from AIR (R187 to R190) -/

/-- A part dropped and counted. -/
def Mod.obsDrop (m : Mod) (r n : Nat) : Mod := m.incBy (R.ROVER_OBS_DROP_CNT r) n

/-- The position block of a payload. -/
def posBlock (d : List Byte) : PosBlk :=
  { x := signed 64 (leAt d 0 8), y := signed 64 (leAt d 8 8), z := signed 64 (leAt d 16 8), uncH := leAt d 24 2, uncV := leAt d 26 2,
    fix := leAt d 28 1, sats := leAt d 29 1 }

/-- Step 1 of R189: the payload's form. -/
def obsForm (r ver : Nat) (d : List Byte) : Bool :=
  let parts := leAt d 5 1
  let idx := parts % 4
  let cnt := parts / 4 % 4 + 1
  let nsig := leAt d 6 1
  let fl := leAt d 7 1
  let pos := fl.testBit 0
  let recAt := 16 + if pos then 32 else 0
  decide (16 ≤ d.length) && leAt d 4 1 == r && decide (nsig ≤ 64) && decide (parts < 16) && decide (fl < 8) && leAt d 12 4 == 0
    && decide (idx < cnt) && (!pos || idx == 0) && decide (recAt + 16 * nsig ≤ d.length)
    && (!pos || leAt d 46 2 == 0) && ((upto nsig).all fun i => !(leAt d (recAt + 16 * i + 2) 1).testBit 3)
    && (ver != 1 || (cnt == 1 && idx == 0 && pos && nsig == 0))

/-- Step 7 of R189: the part is stored; a whole set takes the pending slot. -/
def Mod.obsStore (m : Mod) (r : Nat) (d : List Byte) (asm : Option ObsSet) : Mod :=
  let parts := leAt d 5 1
  let fl := leAt d 7 1
  let pos := fl.testBit 0
  let recAt := 16 + if pos then 32 else 0
  let recs := (upto (leAt d 6 1)).map fun i => (d.drop (recAt + 16 * i)).take 16
  let a := asm.getD { epoch := leAt d 0 4, parts := parts / 4 % 4 + 1, got := [], pos := none, still := false, recs := [] }
  let a := { a with
    got := if a.got.contains (parts % 4) then a.got else a.got ++ [parts % 4]
    pos := if pos then some (posBlock (d.drop 16)) else a.pos
    still := a.still || fl.testBit 2
    recs := if a.got.contains (parts % 4) then a.recs else a.recs ++ recs }
  let c := m.rv r
  if a.parts ≤ a.got.length then
    let m := if c.pend.isSome then m.obsDrop r 1 else m
    m.setRv r { c with asm := none, pend := some a }
  else m.setRv r { c with asm := some a }

/-- A verified observation payload that AIR hands over, by the first step of R189 that matches. Its age is judged at the boundary
that ends the tick of its arrival, as the worked example of R213 counts it (log entry 14). -/
def Mod.obsFrame (m : Mod) (k : Clock) (r ver : Nat) (d : List Byte) : Mod :=
  let c := m.rv r
  let epoch := leAt d 0 4
  let age := tickDiff (k.tick + 1) epoch
  let newest := match c.pend, c.lastSet with
    | some p, some l => if tickDiff p.epoch l < 0 then [l, p.epoch] else [p.epoch, l]
    | some p, none => [p.epoch]
    | none, some l => [l]
    | none, none => []
  if !obsForm r ver d ∨ age ≤ 0 then (m.obsDrop r 1).solEvt r 5
  else if 10 < age then m.obsDrop r 1
  else if newest.contains epoch then m.obsDrop r 1
  else if newest.any fun e => decide (tickDiff epoch e < 0) then m.obsDrop r 1
  else
    let (asm, m) := match c.asm with
      | none => ((none : Option ObsSet), m)
      | some a => if tickDiff a.epoch epoch < 0 then (none, m.obsDrop r a.got.length) else (some a, m)
    match asm with
    | some a =>
      if a.epoch ≠ epoch then m.obsDrop r 1 else m.obsStore r d (some a)
    | none => m.obsStore r d none

/-! ## Flows (R193 to R196) -/

def Mod.rlLevel (m : Mod) : Nat := (m.pack.flows.map Flow.ready).sum
def Mod.scrUsed (m : Mod) : Nat := (m.pack.flows.map Flow.scratch).sum

/-- The engine's status registers. -/
def Mod.packShow (m : Mod) : Mod :=
  let m := m.setF F.PACK_STAT_FLOWS m.pack.flows.length
  let m := m.setB F.PACK_STAT_ADMIT_WAIT (!m.pack.waiting.isEmpty)
  let lanes := ((upto 32).filter fun i => m.bit R.PACK_LANES i).length
  let m := (m.setF F.PACK_STAT_LANES lanes).setF F.PACK_RL_STAT_LEVEL m.rlLevel
  let m := m.setF F.PACK_SCR_STAT_USED m.scrUsed
  { m with pack := { m.pack with rlPeak := max m.pack.rlPeak m.rlLevel, scrPeak := max m.pack.scrPeak m.scrUsed } }

/-- The first waiting flow may be admitted: 8 MiB of scratch, 3,584 operations (R192, R193). -/
def Mod.mayAdmit (m : Mod) (f : Flow) : Bool := decide (m.scrUsed + f.scratch ≤ 8192) && decide (m.rlLevel ≤ 3584)

/-- Admits the first waiting flow when it fits; `ready` its operations whose inputs are complete. -/
def Mod.admitOne (m : Mod) (k : Clock) (ready : Nat) : Mod :=
  match m.pack.waiting with
  | [] => m
  | f :: rest =>
    if m.mayAdmit f then
      let m : Mod := { m with pack := { m.pack with waiting := rest, flows := m.pack.flows ++ [{ f with ready := ready }] } }
      (m.trace k 1 0 f.rover 0xFFFF f.graph 0).packShow
    else (m.trace k 9 0 f.rover 0xFFFF f.graph 0).packShow

/-- Admits waiting flows in order until one does not fit. -/
def Mod.admitAll (m : Mod) (k : Clock) (ready : List (Nat × Nat)) : Nat → Mod
  | 0 => m
  | n + 1 =>
    match m.pack.waiting with
    | [] => m
    | f :: _ => if m.mayAdmit f then Mod.admitAll (m.admitOne k ((AMap.find ready f.rover).getD 0)) k ready n else m.admitOne k 0

/-- A flow leaves service. -/
def Mod.flowDrop (m : Mod) (r : Nat) : Mod :=
  { m with pack := { m.pack with flows := m.pack.flows.filter fun f => f.rover != r, waiting := m.pack.waiting.filter fun f => f.rover != r } }

/-- The base set of an instant among the 16 kept (R181): whether it was valid. -/
def Mod.baseSet (m : Mod) (epoch : Nat) : Option Bool := AMap.find m.pack.hist epoch

/-- UNC of R208 in mm, from K in tenths and σ in µm. -/
def uncOf (floor_ k sigma : Nat) : Nat := min 65535 (max floor_ ((k * sigma + 9999) / 10000))

/-- FIXED is published only under R199; graph 0x01 gives CODE at best (R200). -/
def Mod.fixOf (m : Mod) (c : RoverPack) (id : Nat) (g : Graph) (s : SolIn) : Nat :=
  if id = 1 then 1
  else match c.search with
  | none => if s.carrier then 2 else 1
  | some q =>
    let prev := c.ints.take (m.fixHold - 1)
    let same := decide (m.fixHold - 1 ≤ prev.length) && prev.all fun e =>
      q.ints.all fun a => match AMap.find e.2 a.1 with | some v => v == a.2 | none => true
    if !q.trunc && decide (10 * m.ratioMin ≤ q.ratio) && decide (g.minSat ≤ q.sats) && same && !c.resetNow then 3 else 2

/-- A rover flow ends with the solver's numbers (R195, R199, R204, R208 to R210). -/
def Mod.flowSolved (m : Mod) (f : Flow) (s : SolIn) : Mod :=
  let c := m.rv f.rover
  match c.latched, m.graphOf f.graph with
  | some o, some g =>
    if c.cause ≠ 0 then m.setRv f.rover { c with search := none }
    else if s.sats < g.minSat ∨ s.sats = 0 then m.setRv f.rover { c with cause := 5, search := none, ints := [] }
    else
      let fix := m.fixOf c f.graph g s
      let uh := uncOf m.uncFloor m.uncK s.sigHmax
      let uv := uncOf m.uncFloor m.uncK s.sigV
      let both := bitsOf (c.ctl.getD 0) 2 1 == 2
      let p := if both then o.pos else none
      let rh := (p.map PosBlk.uncH).getD 0
      let rvv := (p.map PosBlk.uncV).getD 0
      let cmp := p.isSome
      let fail := cmp && (decide (uh + rh < s.dH) || decide (uv + rvv < s.dV))
      let wh := if cmp && !fail then min 65535 (max uh (s.dH + rh)) else uh
      let wv := if cmp && !fail then min 65535 (max uv (s.dV + rvv)) else uv
      let wide := decide (uh < wh) || decide (uv < wv)
      let sol : Sol :=
        { x := s.x, y := s.y, z := s.z, east := s.east, north := s.north, up := s.up, velE := s.velE, velN := s.velN, velU := s.velU,
          sigE := s.sigE, sigN := s.sigN, sigU := s.sigU, uncH := wh, uncV := wv, fix := fix,
          ratio := (c.search.map Search.ratio).getD 0, sats := s.sats, amb := if fix = 3 then s.amb else 0, epoch := o.epoch,
          source := if wide then 2 else 0, xFail := fail, xUnavail := both && !cmp, clockStep := false, filterReset := c.resetNow,
          asuTrunc := (c.search.map Search.trunc).getD false, baseChanged := c.baseChangedNow, still := o.still, widened := wide,
          xchkH := if cmp then min 65535 s.dH else 65535, xchkV := if cmp then min 65535 s.dV else 65535 }
      let ints := match c.search with | some q => ((o.epoch, q.ints) :: c.ints).take 4 | none => []
      m.setRv f.rover { c with made := some sol, search := none, ints := ints, cov := s.cov }
  | _, _ => m

/-- An operation of a flow failed: GRAPH_FAULT (R204, R207). -/
def Mod.flowFault (m : Mod) (r : Nat) : Mod :=
  let m := m.packEvt 2
  if r < 256 then m.setRv r { m.rv r with cause := 6, reset := true, search := none, ints := [] } else m

/-! ## RTCM (R182 to R186) -/

/-- CRC-24Q over bytes, as RTCM 10403.3 frames them. -/
def crc24Bit (c : Nat) : Nat := if c.testBit 23 then ((c * 2) ^^^ 0x1864CFB) % 16777216 else c * 2 % 16777216

def crc24Step (c : Nat) : Nat → Nat
  | 0 => c
  | n + 1 => crc24Step (crc24Bit c) n

def crc24q (d : List Byte) : Nat := d.foldl (fun c b => crc24Step (c ^^^ (b.toNat * 65536)) 8) 0

/-- The frame of a message body: preamble 0xD3, 10-bit length, CRC-24Q (R182). -/
def rtcmFrame (body : List Byte) : List Byte :=
  let h : List Byte := 0xD3 :: be 2 (body.length % 1024) ++ body
  h ++ be 3 (crc24q h)

/-- The system of an MSM message number, and whether it is MSM7. -/
def msmOf (n : Nat) : Option (Nat × Bool) :=
  match n with
  | 1074 => some (0, false) | 1077 => some (0, true) | 1094 => some (1, false) | 1097 => some (1, true) | 1124 => some (2, false)
  | 1127 => some (2, true) | 1084 => some (3, false) | 1087 => some (3, true) | 1114 => some (4, false) | 1117 => some (4, true)
  | _ => none

/-- A whole multiple, never for a field of 0 (R184). -/
def dueEvery (tickNo n : Nat) : Bool := n != 0 && tickNo % n == 0

/-- MSM is due at an instant (R184). -/
def Mod.msmDue (m : Mod) (tickNo : Nat) : Bool :=
  dueEvery tickNo (min 100 (m.cfgAt F.PACK_RTCM_RATE_MSM)) && m.cfgAt F.PACK_RTCM_CTL_MSM_EN != 0

/-- A message is due at an instant (R182, R184). -/
def Mod.rtcmDue (m : Mod) (tickNo n : Nat) : Bool :=
  match n with
  | 1005 => m.cfgAt F.PACK_RTCM_CTL_EN_1005 == 1 && dueEvery tickNo (10 * m.cfgAt F.PACK_RTCM_RATE_STATION)
  | 1006 => m.cfgAt F.PACK_RTCM_CTL_EN_1006 == 1 && dueEvery tickNo (10 * m.cfgAt F.PACK_RTCM_RATE_STATION)
  | 1033 => m.cfgAt F.PACK_RTCM_CTL_EN_1033 == 1 && dueEvery tickNo (10 * m.cfgAt F.PACK_RTCM_RATE_DESC)
  | 1230 => m.cfgAt F.PACK_RTCM_CTL_EN_1230 == 1 && dueEvery tickNo (10 * m.cfgAt F.PACK_RTCM_RATE_BIAS)
  | _ => match msmOf n with
    | some (sys, seven) => m.msmDue tickNo && (m.cfgAt F.PACK_RTCM_CTL_MSM_EN).testBit sys && (m.cfgAt F.PACK_RTCM_CTL_MSM7).testBit sys == seven
    | none => false

/-- The order of production: 1005, 1006, 1033, 1230, then the MSMs in ascending number (R184). -/
def rtcmRank (n : Nat) : Nat := match n with | 1005 => 0 | 1006 => 1 | 1033 => 2 | 1230 => 3 | _ => n

/-- Base corrections may be computed for the instant in work (R185). -/
def Mod.rtcmOk (m : Mod) : Bool :=
  m.cfgAt F.PACK_CTL_EN == 1 && m.baseGood && m.correctsIn && (match m.pack.baseInst with | some (_, ok) => ok | none => false)

/-- The base flow ends with the bodies of its messages (R185). -/
def Mod.baseFlowEnd (m : Mod) (tickNo : Nat) (msgs : List (Nat × List Byte)) : Mod :=
  let m : Mod := { m with pack := { m.pack with rtcmDone := true, rtcm := [] } }
  if !m.rtcmOk then m
  else
    let due := (msgs.filter fun p => m.rtcmDue tickNo p.1).mergeSort fun a b => decide (rtcmRank a.1 ≤ rtcmRank b.1)
    let m : Mod := { m with pack := { m.pack with rtcm := due.map fun p => rtcmFrame p.2, rtcmTick := ((m.pack.baseInst.map Prod.fst).getD 0) } }
    m.incBy R.PACK_RTCM_CNT due.length

/-- A flow ends (R195). -/
def Mod.flowEnd (m : Mod) (k : Clock) (r : Nat) (i : FlowIn) : Mod :=
  match m.pack.flows.find? fun f => f.rover == r with
  | none => m
  | some f =>
    let m := m.flowDrop r
    let m : Mod := { m with pack := { m.pack with lastEnd := max m.pack.lastEnd (k.subNs k.raw) } }
    let m := (m.trace k 2 0 r 0xFFFF f.graph 0).packShow
    let done := fun (m : Mod) => (m.inc R.PACK_FLOW_CNT).perfAdd (perfPack 8) 1
    match i with
    | .solved s => done (if r < 256 then m.flowSolved f s else m)
    | .fault => m.flowFault r
    | .base msgs => done (if r = 256 then m.baseFlowEnd (k.tickNo - 1) msgs else m)

/-- PACK's deadline: every unfinished flow is discarded (R196). -/
def Mod.packDeadline (m : Mod) (k : Clock) : Mod :=
  let all := m.pack.flows ++ m.pack.waiting
  let m : Mod := { m with pack := { m.pack with flows := [], waiting := [], discarded := m.pack.discarded + all.length } }
  let m := m.each all fun m f =>
    let m := m.trace k 3 0 f.rover 0xFFFF f.graph 2
    if f.rover < 256 then
      (m.inc (R.ROVER_OVR_CNT f.rover)).setRv f.rover { m.rv f.rover with cause := if (m.rv f.rover).cause = 0 then 2 else (m.rv f.rover).cause, search := none }
    else m
  let m := (m.setB F.PACK_STAT_ASU_BUSY false).packShow
  if all.isEmpty then m else (m.packEvt 0).overrun k 10 R.PACK_OVR_CNT (perfPack 9) all.length

/-- An ambiguity search of a flow completes or is truncated (R198). -/
def Mod.asuEnd (m : Mod) (k : Clock) (r : Nat) (i : AsuIn) : Mod :=
  match m.pack.flows.find? fun f => f.rover == r with
  | none => m
  | some f =>
    if 64 < i.amb then (m.flowDrop r).packShow.flowFault r
    else
      let trunc := decide (m.nodeMax ≤ i.nodes)
      let nodes := min i.nodes m.nodeMax
      let m := ((m.inc R.PACK_ASU_CNT).when trunc fun m => m.inc R.PACK_ASU_TRUNC_CNT).perfAdd (perfPack 10) nodes
      let m := m.perfAdd (perfPack 11) nodes
      let m := m.when (m.on F.PACK_TRACE_CTL_OPS) fun m => m.trace k 7 0 r i.op f.graph (nodes + if trunc then 2147483648 else 0)
      if r < 256 then
        m.setRv r { m.rv r with search := some { trunc := trunc, ratio := min 65535 i.ratio, ints := i.ints, sats := i.sats } }
      else m

/-! ## Publication (R205 to R212) -/

/-- A rover's record as published (R212). -/
def recBytes (r : Nat) (p : SolRec) : List Byte :=
  let s := p.sol
  let b := fun (x : Bool) (n : Nat) => if x then 2 ^ n else 0
  let fl := b s.xFail 0 + b s.xUnavail 1 + b s.clockStep 2 + b s.filterReset 3 + b s.asuTrunc 4 + b s.baseChanged 5 + b s.still 6 + b s.widened 7
  let age := if p.prodTick = 0 then 65535 else min 65535 ((p.pubTick + 4294967296 - p.prodTick) % 4294967296)
  let i16 := fun v => unsigned 16 (clampI (-32768) 32767 v)
  le 2 96 ++ le 1 r ++ le 1 1 ++ le 2 (siteTag r) ++ le 1 p.state ++ le 1 s.fix ++ le 4 p.prodTick ++ le 4 s.epoch ++ le 4 p.pubTick
    ++ le 1 p.mode ++ le 1 s.source ++ le 1 p.cause ++ le 1 fl ++ le 8 (unsigned 64 s.x) ++ le 8 (unsigned 64 s.y) ++ le 8 (unsigned 64 s.z)
    ++ le 4 (unsigned 32 s.east) ++ le 4 (unsigned 32 s.north) ++ le 4 (unsigned 32 s.up) ++ le 2 (i16 s.velE) ++ le 2 (i16 s.velN)
    ++ le 2 (i16 s.velU) ++ le 2 (min 65535 s.sigE) ++ le 2 (min 65535 s.sigN) ++ le 2 (min 65535 s.sigU) ++ le 2 s.uncH ++ le 2 s.uncV
    ++ le 2 (min 65535 s.ratio) ++ le 1 s.sats ++ le 1 s.amb ++ le 2 age ++ le 1 p.miss ++ le 1 0 ++ le 2 s.xchkH ++ le 2 s.xchkV ++ le 8 0

/-- A record goes to the ROVER registers, to ring 3 where asked, and its changes set events (R211, R218). -/
def Mod.recPublish (m : Mod) (k : Clock) (r : Nat) (ring : Bool) (p : SolRec) : Mod :=
  let old := (m.rv r).record
  let m := m.setRv r { m.rv r with record := p }
  let s := p.sol
  let b := fun (x : Bool) (n : Nat) => if x then 2 ^ n else 0
  let w := p.state + s.fix * 4 + p.miss * 16 + p.cause * 256 + b s.xFail 12 + b s.xUnavail 13 + b s.widened 14 + b s.filterReset 15
    + s.sats % 256 * 65536 + s.amb % 256 * 16777216
  let m := (((m.wr (R.ROVER_SOL_STAT r) w).wr (R.ROVER_SOL_PROD r) p.prodTick).wr (R.ROVER_SOL_EPOCH r) s.epoch).wr (R.ROVER_SOL_UNC r)
    (s.uncH + s.uncV * 65536)
  let m := if old.state ≠ p.state then m.solEvt r (match p.state with | 0 => 2 | 1 => 0 | _ => 1) else m
  let m := if old.sol.fix = 3 ∧ s.fix < 3 then m.solEvt r 4 else m
  if ring && m.serves then m.enqueue k 3 0x20 (recBytes r p) else m

/-- The rover's own position as a solution (R209). -/
def roverSol (floor_ : Nat) (o : ObsSet) (p : PosBlk) (both : Bool) : Sol :=
  { Sol.none with
    x := p.x, y := p.y, z := p.z, uncH := max floor_ p.uncH, uncV := max floor_ p.uncV, fix := min 3 p.fix, sats := p.sats, epoch := o.epoch,
    source := 1, xUnavail := both, still := o.still }

/-- East, north and up of a rover-reported position relative to the base: their geometry is left to the free value (log entry 13). -/
def Mod.enuFree (m : Mod) (s : Sol) : Mod × Sol :=
  ((m.took.took).took, { s with east := signed 32 (unsigned 32 (m.freeI 2121)), north := signed 32 (unsigned 32 (m.took.freeI 2122)),
                                 up := signed 32 (unsigned 32 (m.took.took.freeI 2123)) })

/-- The cause of a solve tick that ended without a solution (R204). -/
def lateCause (on lapsed : Bool) (mode cause : Nat) : Nat :=
  if !on then 7 else if lapsed then 9 else if mode = 1 ∨ cause = 0 then 1 else cause

/-- At the end of a rover's solve tick its record is made and published (R205, R206, R209 to R211); `k` is the ending tick's clock. -/
def Mod.solPublish (m : Mod) (k : Clock) (r : Nat) : Mod :=
  let c := m.rv r
  let ctl := c.ctl.getD 0
  let mode := bitsOf ctl 2 1
  let on := m.cfgAt F.PACK_CTL_EN == 1
  let own := if !on then none else match c.latched with
    | some o => (match o.pos with | some p => some (roverSol m.uncFloor o p (mode == 2)) | none => none)
    | none => none
  let packSol := if mode = 1 then none else c.made
  let (m, sol, fromPack) := match packSol with
    | some s => (m, some s, true)
    | none => match own with
      | some s => if mode = 1 ∨ mode = 2 then (let (m, s) := m.enuFree s; (m, some s, false)) else (m, none, false)
      | none => (m, none, false)
  let lapsed := m.linkLapsed r
  let p := c.record
  let p := match sol with
    | some s =>
      let s := if fromPack && (match m.gnss.published with | some g => g.clockStep | none => false) then { s with clockStep := true } else s
      { p with sol := s, miss := 0, state := if lapsed then 2 else 0, cause := if lapsed then 9 else 0, prodTick := k.tick, ever := true }
    | none =>
      let miss := min 15 (p.miss + 1)
      { p with miss := miss, state := if lapsed ∨ 3 ≤ miss ∨ p.ever = false then 2 else 1, cause := lateCause on lapsed mode c.cause }
  let p := { p with pubTick := k.tick, mode := mode }
  let keep := !fromPack
  let m := m.setRv r { c with
    latched := none, made := none, search := none, cause := 0, ctl := none,
    reset := c.reset || (c.resetNow && keep), baseChanged := c.baseChanged || (c.baseChangedNow && keep), resetNow := false,
    baseChangedNow := false, ints := if fromPack then c.ints else [] }
  let m := match sol with
    | none => m.inc (R.ROVER_LATE_CNT r)
    | some s =>
      let m := if s.fix = 3 then m.inc (R.ROVER_FIX_CNT r) else m
      if s.xFail then (m.solEvt r 3).heelRover r else m
  m.recPublish k r (ctl.testBit 3) p

/-- A context that AIR marked LAPSED in a tick that is not its solve tick (R205, R211). -/
def Mod.solLapse (m : Mod) (k : Clock) (r : Nat) : Mod :=
  let p := (m.rv r).record
  if m.linkLapsed r ∧ p.state ≠ 2 then m.recPublish k r (m.on (F.ROVER_POS_CTL_SOL_RING r)) { p with state := 2, cause := 9, pubTick := k.tick } else m

/-- BASE_OBS items of the set just published (R180). -/
def Mod.baseObs (m : Mod) (k : Clock) (s : MeasSet) : Mod :=
  let recs := s.track.map fun c => ((m.gch c).meas ++ List.replicate 12 0).take 12
  let parts := if recs.length ≤ 170 then 1 else 2
  let b := fun (x : Bool) (n : Nat) => if x then 2 ^ n else 0
  let fl := b s.bobsValid 0 + b s.fixValid 1 + b s.clockStep 2 + b (m.tstate == 1) 3 + m.baseState * 16
  m.each (upto parts) fun m i =>
    let l := (recs.drop (170 * i)).take 170
    m.enqueue k 2 0x10 (le 2 (32 + 48 * l.length) ++ le 1 1 ++ le 1 (i + 16 * parts) ++ le 4 s.tick ++ le 4 fl ++ le 2 l.length ++ le 2 recs.length
      ++ le 1 s.sats ++ le 3 0 ++ le 4 (if s.fixValid then unsigned 32 s.fixErr else 0) ++ le 8 0 ++ l.flatMap fun w => w.flatMap fun x => le 4 x.toNat)

/-- One trace item of a tick (R215). -/
def Mod.traceItem (m : Mod) (k : Clock) (l : List TraceRec) : Mod :=
  if ringDepth 4 ≤ (m.rng 4).queue.length ∧ bitsOf (m.rng 4).cfg 3 2 = 0 then
    let m : Mod := { m with pack := { m.pack with traceLost := m.pack.traceLost + l.length } }
    (m.incBy R.PACK_TRACE_LOST_CNT l.length).packEvt 6
  else
    let body := l.flatMap fun t => le 4 t.off ++ le 1 t.event ++ le 1 t.where_ ++ le 2 t.flow ++ le 2 t.op ++ le 1 t.graph ++ le 1 0 ++ le 4 t.arg
    let m' := m.enqueue k 4 0x30 (le 2 (16 + 16 * l.length) ++ le 1 1 ++ le 1 0 ++ le 4 k.tick ++ le 2 l.length ++ le 2 (min 65535 m.pack.traceLost) ++ le 4 0 ++ body)
    { m' with pack := { m'.pack with traceLost := 0 } }

/-- The trace of the ending tick: at least one item (R215). -/
def Mod.traceOut (m : Mod) (k : Clock) : Mod :=
  if !m.on F.PACK_TRACE_CTL_EN then { m with pack := { m.pack with trace := [] } }
  else
    let l := m.pack.trace
    let n := max 1 ((l.length + 254) / 255)
    let m := m.each (upto n) fun m i => m.traceItem k ((l.drop (255 * i)).take 255)
    { m with pack := { m.pack with trace := [] } }

/-- Lane-cycles of a tick by slot class (R584): 8,000,000 cycles of every lane, retired lanes in OUT, lanes in retry in RETRY, the
classes the engine reports, the rest IDLE. -/
def Mod.slotCount (m : Mod) (l : List Nat) : Mod :=
  let ones := fun (w : Nat) => ((upto 32).filter w.testBit).length
  let out := ones (m.rd R.PACK_RETIRED)
  let inSvc := ones (m.rd R.PACK_LANES)
  let cap := inSvc * 8000000
  let a0 := min cap (nth 0 l 0)
  let a3 := min (cap - a0) (nth 0 l 1)
  let a2 := min (cap - a0 - a3) (nth 0 l 2)
  let a4 := min (cap - a0 - a3 - a2) (nth 0 l 3)
  let a1 := min (cap - a0 - a3 - a2 - a4) (nth 0 l 4)
  let m := ((m.perfAdd (perfPack 0) a0).perfAdd (perfPack 1) a1).perfAdd (perfPack 2) a2
  let m := ((m.perfAdd (perfPack 3) a3).perfAdd (perfPack 4) a4).perfAdd (perfPack 5) (cap - a0 - a3 - a2 - a4 - a1)
  (m.perfAdd (perfPack 6) ((32 - out - inSvc) * 8000000)).perfAdd (perfPack 7) (out * 8000000)

/-- PACK's publication of the ending tick, whose clock is `k` (R180, R185, R186, R205, R211, R215). -/
def Mod.packPublish (m : Mod) (k : Clock) (i : PackIn) : Mod :=
  if !m.blkOn 10 then m
  else
    let m := m.slotCount i.slots
    let m := match m.gnss.published with
      | some s =>
        let m : Mod := { m with pack := { m.pack with hist := ((s.tick, s.bobsValid) :: m.pack.hist).take 16 } }
        if m.serves && m.awake then m.baseObs k s else m
      | none => m
    let made := m.pack.rtcmDone && m.rtcmOk
    let m := if made && m.serves && !m.pack.rtcm.isEmpty then
        m.enqueue k 2 0x11 (le 2 (16 + (m.pack.rtcm.flatMap id).length) ++ le 1 1 ++ le 1 m.pack.rtcm.length ++ le 4 m.pack.rtcmTick ++ le 8 0 ++ m.pack.rtcm.flatMap id)
      else m
    let m := if !made && m.msmDue (k.tickNo - 1) then (m.inc R.PACK_RTCM_SKIP_CNT).packEvt 7 else m
    let m := m.each (upto 256) fun m r =>
      if (m.rv r).ctl.isSome then m.solPublish k r else if posOn (m.rd (R.ROVER_POS_CTL r)) then m.solLapse k r else m
    let m := m.traceOut k
    let m := ((m.setF F.PACK_RL_STAT_PEAK m.pack.rlPeak).setF F.PACK_SCR_STAT_PEAK m.pack.scrPeak).setF F.PACK_LAST_END_DISCARDED m.pack.discarded
    m.setF F.PACK_LAST_END_END (if m.pack.discarded = 0 then m.pack.lastEnd else 0xFFFFFF)

/-- The cause for which a rover's solve tick can have no PACK solution, from what is known at its latch (R204). -/
def Mod.latchCause (m : Mod) (r : Nat) (o : Option ObsSet) : Nat :=
  if !m.on F.PACK_CTL_EN || !m.solvesIn then 7
  else if m.linkLapsed r then 9
  else if !m.graphReady (m.fld (F.ROVER_POS_CTL_GRAPH r)) then 8
  else if !m.baseGood then 4
  else match o with
    | none => 1
    | some s => match m.baseSet s.epoch with | some true => 0 | _ => 3

/-- A rover's solve tick begins: its set is latched, its filter reset judged, its flow lined up (R190, R193, R207, R209). -/
def Mod.solLatch (m : Mod) (k : Clock) (r : Nat) : Mod :=
  let c := m.rv r
  let o := match c.pend with
    | some s => if 1 ≤ tickDiff k.tick s.epoch then some s else none
    | none => none
  let m := match o with
    | some s => (m.inc (R.ROVER_OBS_CNT r)).wr (R.ROVER_OBS_LAST r) s.epoch
    | none => m
  let gap := c.record.ever && decide (10 * (m.resetGap : Int) < tickDiff k.tick c.record.prodTick)
  let reset := c.reset || gap
  let cause := m.latchCause r o
  let m := m.setRv r { c with
    pend := if o.isSome then none else c.pend, lastSet := match o with | some s => some s.epoch | none => c.lastSet
    latched := o, made := none, cause := cause, ctl := some (m.rd (R.ROVER_POS_CTL r)), resetNow := reset, baseChangedNow := c.baseChanged, reset := false, baseChanged := false
    ints := if reset then [] else c.ints, search := none
    lastPos := match o with | some s => (match s.pos with | some p => some p | none => c.lastPos) | none => c.lastPos }
  let g := m.fld (F.ROVER_POS_CTL_GRAPH r)
  if o.isSome && m.fld (F.ROVER_POS_CTL_MODE r) != 1 && (cause == 0 || cause == 3) then
    let f : Flow := { rover := r, graph := g, scratch := ((m.graphOf g).map Graph.kib).getD 0, ready := 0 }
    { m with pack := { m.pack with waiting := m.pack.waiting ++ [f] } }
  else m

/-- Pending sets whose age exceeds 10 are dropped at every boundary (R190). -/
def Mod.obsExpire (m : Mod) (k : Clock) : Mod :=
  m.each (m.pack.rover.map Prod.fst) fun m r =>
    match (m.rv r).pend with
    | some s => if 10 < tickDiff k.tick s.epoch then (m.obsDrop r 1).setRv r { m.rv r with pend := none } else m
    | none => m

/-- A context that is not enabled is LAPSED and publishes no record (R218). -/
def Mod.solDisable (m : Mod) : Mod :=
  m.each (m.pack.rover.map Prod.fst) fun m r =>
    if !posOn (m.rd (R.ROVER_POS_CTL r)) && (m.rv r).record.state != 2 then
      (m.setRv r { m.rv r with record := { (m.rv r).record with state := 2 } }).setF (F.ROVER_SOL_STAT_STATE r) 2
    else m

/-- PACK's latch at a boundary, `k` the beginning tick's clock (R190, R193). -/
def Mod.packLatch (m : Mod) (k : Clock) (i : PackIn) : Mod :=
  if !m.blkOn 10 then m
  else
    let m := (m.baseBoundary.obsExpire k).solDisable
    let inst := m.gnss.published.map fun s => (s.tick, s.bobsValid)
    let m : Mod := { m with pack := { m.pack with
      baseInst := inst, rtcm := [], rtcmDone := false, flows := [], waiting := [], rlPeak := 0, scrPeak := 0, lastEnd := 0, discarded := 0,
      cfg := packRegs.map fun a => (a, m.rd a) } }
    let m : Mod := if m.on F.PACK_CTL_EN then
        { m with pack := { m.pack with waiting := [{ rover := 256, graph := 0, scratch := ((m.graphOf 0).map Graph.kib).getD 0, ready := 0 }] } }
      else m
    let m := m.each (m.posRovers.filter fun r => r % 10 == k.phase) fun m r => m.solLatch k r
    (m.admitAll k i.ready 300).packShow

/-! ## Applies (R203, R218, R219) -/

/-- What follows an apply that covers PACK or ROVER: the base source, BASE_POS, graph changes. `old` is the module before. -/
def Mod.packApplied (m old : Mod) (pack : Bool) : Mod :=
  let m : Mod := if pack then
      { m with pack := { m.pack with
        entered := match m.pack.enteredShadow with | some p => some p | none => m.pack.entered
        enteredShadow := none
        desc := m.pack.descShadow
        applied := m.pack.applied || (m.fld F.PACK_BASE_CTL_SOURCE == 1 && old.fld F.PACK_BASE_CTL_SOURCE != 1)
        posApplied := m.pack.posApplied || m.pack.enteredShadow.isSome } }
    else m
  let m := m.each ((upto 256).filter fun r => m.rd (R.ROVER_POS_CTL r) != old.rd (R.ROVER_POS_CTL r)) fun m r =>
    if m.fld (F.ROVER_POS_CTL_GRAPH r) ≠ old.fld (F.ROVER_POS_CTL_GRAPH r) then m.setRv r { m.rv r with reset := true } else m
  m.loadShow

/-! ## Meanings -/

/-- SURVEY_START: PACK_BASE_CMD.SURVEY_START is written with 1 (R175 step 3, R217). -/
def execSurveyStart (dt : Nat) (s : State) : Res :=
  .next (s.ev dt fun _ m => m.access R.PACK_BASE_CMD fun m =>
    if m.fld F.PACK_BASE_CTL_SOURCE = 0 then { m with pack := { m.pack with svyStart := true } } else m)

/-- SURVEY_SAMPLE: the combined position solution of the instant that was a whole second, in 0.1 mm, taken by the base flow of the tick
that works on that instant's set (R176, R185, R200). -/
def execSurveySample (dt : Nat) (x y z : Int) (s : State) : Res :=
  .next (s.ev dt fun k m =>
    if m.live? 10 && m.baseState == 1 && k.tickNo % 100 == 1 && m.fixNow && m.pack.svyTick != some k.tickNo then m.svySample k.tickNo x y z
    else m)

/-- BASE_MOVE_CHECK: the horizontal and vertical differences in mm between the 60 s mean and the position in use (R178). -/
def execBaseMoveCheck (dt h v : Nat) (s : State) : Res :=
  .next (s.ev dt fun _ m =>
    if m.live? 10 && m.baseGood && (decide (m.moveThr < h) || decide (m.moveThr < v)) then { m with pack := { m.pack with moved := true } } else m)

/-- FLOW_ADMIT: the first waiting flow, with the operations it has ready (R193). -/
def execFlowAdmit (dt ready : Nat) (s : State) : Res :=
  .next (s.ev dt fun k m => if m.live? 10 then m.admitOne k ready else m)

/-- FLOW_END: the flow of a rover, or the base flow as 256 (R195). -/
def execFlowEnd (dt r : Nat) (i : FlowIn) (s : State) : Res :=
  .next (s.ev dt fun k m => if m.live? 10 && !k.lateTick then m.flowEnd k r i else m)

/-- PACK_DEADLINE: T+9.5 ms (R196). -/
def execPackDeadline (dt : Nat) (s : State) : Res :=
  .next (s.ev dt fun k m => if m.live? 10 && k.lateTick then m.packDeadline k else m)

/-- ASU_SEARCH_END (R198). -/
def execAsuSearchEnd (dt r : Nat) (i : AsuIn) (s : State) : Res :=
  .next (s.ev dt fun k m => if m.live? 10 then m.asuEnd k r i else m)

/-- LOAD_GRAPH (R202, R216). -/
def execLoadGraph (dt : Nat) (h : Hdr) (addr reserved : Nat) (img : Option (List Byte)) (s : State) : Res :=
  .next (s.ev dt fun k m => if m.live? 10 then m.packTake k h 1 (.load addr reserved img) else m)

/-- UNLOAD_GRAPH (R216). -/
def execUnloadGraph (dt : Nat) (h : Hdr) (g reserved : Nat) (s : State) : Res :=
  .next (s.ev dt fun k m => if m.live? 10 then m.packTake k h 2 (.unload g reserved) else m)

/-- ROVER_FILTER_RESET: ROVER_FILTER_CMD.RESET is written with 1 (R207). -/
def execRoverFilterReset (dt r : Nat) (s : State) : Res :=
  .next (s.ev dt fun _ m => m.access (R.ROVER_FILTER_CMD r) fun m => if r < 256 then m.setRv r { m.rv r with reset := true } else m)

/-- BASE_POS as entered, to apply with PACK (R219). -/
def Mod.basePosSet (m : Mod) (p : BasePos) : Mod := { m with pack := { m.pack with enteredShadow := some p } }

/-- STATION_DESC as entered, to apply with PACK (R219). -/
def Mod.stationSet (m : Mod) (words : List Word) : Mod := { m with pack := { m.pack with descShadow := (words ++ List.replicate 32 0).take 32 } }

/-- BASE_POS_WRITE: item BASE_POS commits; it applies with PACK (R66, R175 step 7, R219). -/
def execBasePosWrite (dt : Nat) (x y z arpH : Int) (acc : Nat) (s : State) : Res :=
  .next (s.ev dt fun _ m => m.access R.PACK_MBX_DATA fun m =>
    m.basePosSet { x := x, y := y, z := z, arpH := arpH, acc := acc })

/-- STATION_DESC_WRITE: item STATION_DESC commits; it applies with PACK (R66, R219). -/
def execStationDescWrite (dt : Nat) (words : List Word) (s : State) : Res :=
  .next (s.ev dt fun _ m => m.access R.PACK_MBX_DATA fun m => m.stationSet words)

end Sys2Proof.Machine
end

