-- ==== Sys2Proof/Machine/ShepNet.lean ====
section
/-! DEFINITION. The track network (R258 to R266): its image, the projection of a point, footprints as sets of chains. -/

namespace Sys2Proof.Machine

/-- A chain that no network has. -/
def Chain.none : Chain :=
  { len := 1, nodeA := 0, nodeB := 0, vtxOff := 0, nVtx := 0, flags := 8, vmax := 1, xtol := 0, nConf := 0, confOff := 0, access := 0 }

/-- A chain by its ID. -/
def Net.chain (n : Net) (c : Nat) : Chain := nth Chain.none n.chains c

/-- A chain flagged PERCH (R259, R261). -/
def Net.isPerch (n : Net) (c : Nat) : Bool := (n.chain c).flags.testBit 2

/-- The conflict partners of a chain (R260). -/
def Net.partners (n : Net) (c : Nat) : List Nat := (n.conf.drop (n.chain c).confOff).take (n.chain c).nConf

/-- The chain and its partners. -/
def Net.near (n : Net) (c : Nat) : List Nat := c :: n.partners c

/-- The polyline of a chain. -/
def Net.poly (n : Net) (c : Nat) : List (Int × Int) := (n.vtx.drop (n.chain c).vtxOff).take (n.chain c).nVtx

/-- The chain ends at a node: chain, and whether its B end (R259). -/
def Net.slots (n : Net) (node : Nat) : List (Nat × Bool) :=
  ((nth [] n.nodes node).filter fun v => v != 0xFFFF).map fun v => (v % 16384, v.testBit 15)

/-- The perch a chain carries (R261). -/
def Net.perchOf (n : Net) (c : Nat) : Option Nat := (upto n.perch.length).find? fun i => nth 0 n.perch i == c

/-- The perch distance in decimetres, none when unreachable (R261). -/
def Net.perchDist (n : Net) (a b : Nat) : Option Nat :=
  let v := nth 0xFFFFFFFF n.dist (a * n.perch.length + b)
  if v = 0xFFFFFFFF then none else some v

/-! ## The image (R263, R264) -/

/-- Offsets of the tables in an image: chain, node, conflict, vertex, perch, distance, signature. -/
def netOffs (d : List Byte) : List Nat :=
  let nc := leAt d 12 4
  let nn := leAt d 16 4
  let nf := leAt d 20 4
  let nv := leAt d 24 4
  let np := leAt d 28 4
  let o1 := 96 + 32 * nc
  let o2 := o1 + 16 * nn
  let o3 := o2 + 4 * nf
  let o4 := o3 + 8 * nv
  let o5 := o4 + 4 * np
  [96, o1, o2, o3, o4, o5, o5 + 4 * np * np]

/-- A chain entry (R259). -/
def readChain (d : List Byte) : Chain :=
  { len := leAt d 0 4, nodeA := leAt d 4 2, nodeB := leAt d 6 2, vtxOff := leAt d 8 4, nVtx := leAt d 12 1, flags := leAt d 13 1,
    vmax := leAt d 14 2, xtol := leAt d 16 2, nConf := leAt d 18 1, confOff := leAt d 20 4, access := leAt d 24 4 }

/-- The tables of an image. -/
def readNet (d : List Byte) : Net :=
  let o := netOffs d
  let at_ := fun (i : Nat) => d.drop (nth 0 o i)
  { serial := leAt d 40 4, minVer := leAt d 32 4, keyId := leAt d 44 4, base := (signed 64 (leAt d 48 8), signed 64 (leAt d 56 8), signed 64 (leAt d 64 8)),
    baseTol := leAt d 72 4
    chains := (upto (leAt d 12 4)).map fun i => readChain ((at_ 0).drop (32 * i))
    nodes := (upto (leAt d 16 4)).map fun i => (upto 8).map fun j => leAt (at_ 1) (16 * i + 2 * j) 2
    conf := (upto (leAt d 20 4)).map fun i => leAt (at_ 2) (4 * i) 2 % 16384
    vtx := (upto (leAt d 24 4)).map fun i => (signed 32 (leAt (at_ 3) (8 * i) 4), signed 32 (leAt (at_ 3) (8 * i + 4) 4))
    perch := (upto (leAt d 28 4)).map fun i => leAt (at_ 4) (4 * i) 2
    dist := (upto (leAt d 28 4 * leAt d 28 4)).map fun i => leAt (at_ 5) (4 * i) 4 }

/-- Step 1 of R264. -/
def netLength (d : List Byte) : Bool :=
  decide (192 ≤ d.length) && leAt d 8 4 == d.length && nth 0 (netOffs d) 6 + 96 == d.length

/-- Step 2 of R264: MAGIC, FVER and every field's range. -/
def netRanges (d : List Byte) (n : Net) : Bool :=
  let o := netOffs d
  let inR := fun (lo hi v : Nat) => decide (lo ≤ v) && decide (v ≤ hi)
  let nc := n.chains.length
  d.take 4 == [0x53, 0x4E, 0x45, 0x54] && leAt d 4 2 == 1 && leAt d 6 2 == 0 && inR 1 16384 nc && inR 1 16384 n.nodes.length
    && decide (n.conf.length ≤ 65536) && inR 2 262144 n.vtx.length && decide (n.perch.length ≤ 2048) && leAt d 76 10 == 0 && leAt d 86 10 == 0
    && (n.chains.all fun c => inR 1 16777215 c.len && inR 2 64 c.nVtx && decide (c.flags < 16) && decide (1 ≤ c.vmax) && decide (c.nConf ≤ 8))
    && ((upto nc).all fun i => leAt d (96 + 32 * i + 19) 1 == 0 && leAt d (96 + 32 * i + 28) 4 == 0)
    && (n.nodes.all fun l => l.all fun v => v == 0xFFFF || !v.testBit 14)
    && ((upto n.conf.length).all fun i => decide (leAt d (nth 0 o 2 + 4 * i) 4 < 16384))
    && ((upto n.perch.length).all fun i => leAt d (nth 0 o 4 + 4 * i + 2) 2 == 0)

/-- Step 4 of R264: the structure. -/
def netStructure (n : Net) : Bool :=
  let nc := n.chains.length
  let endAt := fun (node c : Nat) (b : Bool) => decide (node < n.nodes.length) && (n.slots node).contains (c, b)
  ((upto nc).all fun c => endAt (n.chain c).nodeA c false && endAt (n.chain c).nodeB c true
      && decide ((n.chain c).vtxOff + (n.chain c).nVtx ≤ n.vtx.length) && decide ((n.chain c).confOff + (n.chain c).nConf ≤ n.conf.length)
      && !(n.partners c).contains c && ((n.partners c).all fun p => decide (p < nc) && (n.partners p).contains c)
      && (n.isPerch c == ((n.perch.filter fun p => p == c).length == 1)))
    && ((upto n.nodes.length).all fun v => (n.slots v).all fun e => decide (e.1 < nc) && (if e.2 then (n.chain e.1).nodeB else (n.chain e.1).nodeA) == v)
    && (n.perch.all fun p => decide (p < nc) && n.isPerch p)
    && ((upto n.perch.length).all fun i => nth 1 n.dist (i * n.perch.length + i) == 0)

/-- Steps 1 to 4 of R264. -/
def Mod.netImageOk (m : Mod) (d : List Byte) : Bool :=
  netLength d && netRanges d (readNet d) && (leAt d 36 4 / 256 == 0x925600 && (leAt d 36 1 == 0 || leAt d 36 1 == 3))
    && decide (leAt d 32 4 ≤ m.rd R.GLB_FW_VER) && netStructure (readNet d)

/-- A chain that holds a span is identical in both images (R265). -/
def chainSame (a b : Net) (c : Nat) : Bool :=
  decide (c < a.chains.length) && decide (c < b.chains.length) && (a.chain c).len == (b.chain c).len && (a.chain c).nodeA == (b.chain c).nodeA
    && (a.chain c).nodeB == (b.chain c).nodeB && (a.chain c).flags == (b.chain c).flags && a.poly c == b.poly c

/-! ## Projection (R262) -/

/-- A square root rounded up. -/
def ceilSqrt (n : Nat) : Nat := let r := Nat.sqrt n; if r * r = n then r else r + 1

/-- Length of a vector in 0.1 mm, scaled by 2^40. -/
def scaledLen (l2 : Nat) : Nat := Nat.sqrt (l2 * 2 ^ 80)

/-- The best foot so far: squared distance as a fraction in (0.1 mm)², and the scaled polyline distance to it. -/
structure Foot where
  num : Nat
  den : Nat
  along : Nat
  deriving DecidableEq, Repr

/-- The foot of the perpendicular from a point to a segment, clamped to it; coordinates in 0.1 mm (R262). -/
def segFoot (p a b : Int × Int) (before : Nat) : Foot :=
  let dx := b.1 - a.1
  let dy := b.2 - a.2
  let wx := p.1 - a.1
  let wy := p.2 - a.2
  let l2 := (dx * dx + dy * dy).toNat
  let dot := wx * dx + wy * dy
  if l2 = 0 ∨ dot ≤ 0 then { num := (wx * wx + wy * wy).toNat, den := 1, along := before }
  else if (l2 : Int) ≤ dot then
    let ux := p.1 - b.1
    let uy := p.2 - b.2
    { num := (ux * ux + uy * uy).toNat, den := 1, along := before + scaledLen l2 }
  else
    let cr := wx * dy - wy * dx
    { num := (cr * cr).toNat, den := l2, along := before + dot.toNat * scaledLen l2 / l2 }

/-- The nearest foot on a polyline; of equal ones the one nearer the A end (R262). -/
def polyFoot (p : Int × Int) : List (Int × Int) → Nat → Option Foot → Option Foot
  | a :: b :: t, before, best =>
    let f := segFoot p a b before
    let best' := match best with
      | none => f
      | some g => if f.num * g.den < g.num * f.den then f else g
    let dx := b.1 - a.1
    let dy := b.2 - a.2
    polyFoot p (b :: t) (before + scaledLen (dx * dx + dy * dy).toNat) (some best')
  | _, _, best => best

/-- Projection of a point, in 0.1 mm east and north, onto a chain: s to the nearest millimetre, d rounded up (R262). -/
def Net.project (n : Net) (c : Nat) (east north : Int) : Nat × Nat :=
  let pts := (n.poly c).map fun v => (v.1 * 10, v.2 * 10)
  match polyFoot (east, north) pts 0 none with
  | none => (0, 0)
  | some f =>
    let s := (f.along + 5 * 2 ^ 40) / (10 * 2 ^ 40)
    (min (n.chain c).len s, ceilSqrt ((f.num + 100 * f.den - 1) / (100 * f.den)))

/-! ## Footprints (R270 to R272) -/

/-- The node at an end of a chain. -/
def Net.nodeAt (n : Net) (c : Nat) (b : Bool) : Nat := if b then (n.chain c).nodeB else (n.chain c).nodeA

/-- The exit node of a traversed chain, and its entry node (R282). -/
def Net.exitNode (n : Net) (e : Nat × Bool) : Nat := n.nodeAt e.1 (!e.2)
def Net.entryNode (n : Net) (e : Nat × Bool) : Nat := n.nodeAt e.1 e.2

/-- For each pair of route chains that meet at a node, where the spill arrives along one of them, the other one (R271 step 3). -/
def routeOther (n : Net) (route : List (Nat × Bool)) (node from_ : Nat) : List Nat :=
  match route with
  | a :: b :: t =>
    let rest := routeOther n (b :: t) node from_
    if n.exitNode a = node ∧ n.entryNode b = node ∧ (a.1 = from_ ∨ b.1 = from_) then (if a.1 = from_ then b.1 else a.1) :: rest else rest
  | _ => []

/-- A spill that reaches a chain: the chain, whether it enters at its B end, and the r with which it enters. -/
structure Spill where
  chain : Nat
  atB : Bool
  r : Nat
  deriving DecidableEq, Repr

/-- The chains a spill of r mm enters at the node of an end of a chain, in the order of the node's slots (R271 step 3). -/
def Net.spill (n : Net) (route : List (Nat × Bool)) (c : Nat) (b : Bool) (r : Nat) : List Spill :=
  if r = 0 then []
  else
    let node := n.nodeAt c b
    let out : List (Nat × Bool) := (n.slots node).filter fun e => e.1 != c
    let out : List (Nat × Bool) := match routeOther n route node c with
      | [] => out
      | l => out.filter fun e => l.contains e.1
    out.map fun e => { chain := e.1, atB := e.2, r := r }

/-- The candidate with the largest r, the earliest discovered among equals, and the rest. -/
def takeBest : List Spill → Option (Spill × List Spill)
  | [] => none
  | a :: t =>
    match takeBest t with
    | none => some (a, t)
    | some (b, rest) => if a.r < b.r then some (b, a :: rest) else some (a, t)

/-- Chains taken nearest first until no spill is left or 33 have been found (R271, R272). -/
def Net.grow (n : Net) (route : List (Nat × Bool)) : Nat → List Spill → List (Nat × Nat) → List (Nat × Nat)
  | 0, _, acc => acc
  | fuel + 1, cand, acc =>
    match takeBest cand with
    | none => acc
    | some (s, rest) =>
      if 33 ≤ acc.length then acc
      else if acc.any fun e => e.1 == s.chain then Net.grow n route fuel rest acc
      else
        let rest_ := s.r - (n.chain s.chain).len
        Net.grow n route fuel (rest ++ n.spill route s.chain (!s.atB) rest_) (acc ++ [(s.chain, s.r)])

/-- The footprint set from the chosen chain, s, the reach beyond s and before it (R270, R271), at most 33 chains. -/
def Net.footprint (n : Net) (route : List (Nat × Bool)) (c s fwd back : Nat) : List (Nat × Nat) :=
  let rA := back - s
  let rB := s + fwd - (n.chain c).len
  n.grow route 2048 (n.spill route c false rA ++ n.spill route c true rB) [(c, 0)]

/-! ## Words of the table window (R307) -/

def chainWords (c : Chain) : List Nat :=
  [c.len, c.nodeA + c.nodeB * 65536, c.vtxOff, c.nVtx + c.flags * 256 + c.vmax * 65536, c.xtol + c.nConf * 65536, c.confOff, c.access, 0]

def spanWords (blocked : Bool) (s : Option Span) : List Nat :=
  let b := if blocked then 4096 else 0
  match s with
  | none => [b, 0, 0, 0]
  | some s => [s.rover + s.kind * 256 + 1024 + (if s.opn then 2048 else 0) + b + s.serial * 65536, s.start, s.lstart, if s.opn then 4294967295 else s.fin]

def taskWords (t : Task) : List Nat :=
  [t.status + t.prio * 4 + (if t.status = 2 then t.rover * 256 + 65536 else 0), t.need, t.from_ + t.to_ * 65536, t.notBefore, t.deadline, t.payload]

end Sys2Proof.Machine
end

