-- ==== Sys2Proof/Machine/Shepherd.lean ====
section
/-! DEFINITION. The Shepherd (chapter 07): spans, footprints, route evaluation, releases, the lapse rule, tasks, commands. -/

namespace Sys2Proof.Machine

/-! ## Figures in use (R307, R308) -/

def Mod.shTries (m : Mod) : Nat := max 1 (m.fld F.SHEP_CTL_TRIES)
def Mod.shSlack (m : Mod) : Nat := m.fld F.SHEP_CTL_SLACK
def Mod.shHorizon (m : Mod) : Nat := min 60000 (max 100 (m.fld F.SHEP_CTL_HORIZON))
def Mod.shCreep (m : Mod) : Nat := max 1 (m.fld F.SHEP_POL_CREEP)
def Mod.heelMax (m : Mod) : Nat := max 1 (m.fld F.SHEP_POL_HEEL_MAX)
def Mod.revokeMin (m : Mod) : Nat := max 60 (m.rd R.SHEP_REV_CTL % 65536)
def Mod.rvFront (m : Mod) (r : Nat) : Nat := m.rd (R.SHEP_RV_DIM r) % 65536
def Mod.rvRear (m : Mod) (r : Nat) : Nat := m.rd (R.SHEP_RV_DIM r) / 65536
def Mod.rvVmax (m : Mod) (r : Nat) : Nat := max 1 (m.rd (R.SHEP_RV_DYN r) % 65536)
def Mod.rvAmax (m : Mod) (r : Nat) : Nat := max 1 (m.rd (R.SHEP_RV_DYN r) / 65536)
def Mod.rvBrake (m : Mod) (r : Nat) : Nat := m.rd (R.SHEP_RV_BRAKE r) % 65536
def Mod.rvEn (m : Mod) (r : Nat) : Bool := m.bit (R.SHEP_RV_CTL r) 0

/-! ## Rovers and spans -/

def Mod.srv (m : Mod) (r : Nat) : ShepRover := AMap.get (fun _ => ShepRover.fresh) m.shep.rover r

def Mod.setSrv (m : Mod) (r : Nat) (s : ShepRover) : Mod :=
  { m with shep := { m.shep with rover := AMap.put (fun _ => ShepRover.fresh) r s m.shep.rover } }

/-- SHEP_RV_STAT.STATE (R288): 0 OFF, 1 UNPLACED, 2 IDLE, 3 ROUTED, 4 HALTED, 5 LAPSED. -/
def Mod.rvState (m : Mod) (r : Nat) : Nat := m.fld (F.SHEP_RV_STAT_STATE r)

def Mod.setRvState (m : Mod) (r st : Nat) : Mod := m.setF (F.SHEP_RV_STAT_STATE r) st

/-- The footprint touches a chain. -/
def Mod.touches (m : Mod) (r c : Nat) : Bool := (m.srv r).foot.any fun e => e.1 == c

/-- The rover's record is CURRENT. -/
def Mod.recCurrent (m : Mod) (r : Nat) : Bool := (m.rv r).record.state == 0

/-- Cells of a chain that hold a span: cell number and span. -/
def Mod.spansAt (m : Mod) (c : Nat) : List (Nat × Span) := m.shep.cells.filter fun e => e.1 / 8 == c

/-- A rover's spans. -/
def Mod.spansOf (m : Mod) (r : Nat) : List (Nat × Span) := m.shep.cells.filter fun e => e.2.rover == r

def Mod.setSpan (m : Mod) (i : Nat) (s : Span) : Mod := { m with shep := { m.shep with cells := AMap.ins i s m.shep.cells } }

def Mod.delSpan (m : Mod) (i : Nat) : Mod := { m with shep := { m.shep with cells := AMap.del i m.shep.cells } }

/-- The cell a rover's span on a chain takes: its own, or the first free one (R284, R292). -/
def Mod.cellFor (m : Mod) (c r : Nat) : Option Nat :=
  match (m.spansAt c).find? fun e => e.2.rover == r with
  | some e => some e.1
  | none => ((upto 8).map fun j => c * 8 + j).find? fun i => (AMap.find m.shep.cells i).isNone

/-- A span's window contains a tick (R273). -/
def Span.holds (s : Span) (n : Nat) : Bool := decide (0 ≤ tickDiff n s.start) && (s.opn || decide (tickDiff n s.fin < 0))

/-- A span's window overlaps one that begins at an offset from `n` and never ends. -/
def Span.after (s : Span) (n : Nat) (from_ : Int) : Bool := s.opn || decide (from_ < tickDiff s.fin n)

/-- A chain is blocked (R305). -/
def Mod.chainBlocked (m : Mod) (c : Nat) : Bool := m.shep.blocked.contains c || m.shep.parityBlocked.contains c

/-- The rover's channel moves: MOVING, HOMING, STOPPING or LIMIT_STOP (R314). -/
def Mod.rvMoving (m : Mod) (r : Nat) : Bool :=
  m.mot.ch.any fun e => e.2.kind == 1 && e.2.idx == r && [2, 3, 4, 5].contains (m.fld (F.MOT_CH_STAT_STATE e.1))

/-- The rover is HALTED, from this tick where it was not before; a rover at rest has no stop left to end (R288). -/
def Mod.haltRover (m : Mod) (k : Clock) (r : Nat) : Mod :=
  if m.rvState r = 4 then m
  else (m.setRvState r 4).setSrv r { m.srv r with haltTick := k.tick, haltDone := !m.rvMoving r }

/-! ## Results and notices (R276, R306) -/

/-- A result waits for the publication boundary. -/
def Mod.shepResult (m : Mod) (k : Clock) (p : ShepPend) (opcode code : Nat) (payload : List Byte) : Mod :=
  let r : ShepRes := { seq := p.seq, opcode := opcode, code := code, tag := p.tag, noResult := p.noResult, acceptTick := p.acceptTick, doneTick := k.tick, payload := payload }
  { m with shep := { m.shep with results := m.shep.results ++ [r] } }

/-- A notice waits for the publication boundary; CONFLICT, LAPSED, OFF_TRACK and REVOKED also fire recorder trigger 10. -/
def Mod.shepNotice (m : Mod) (k : Clock) (opcode rover other chain task info : Nat) : Mod :=
  let body := le 1 rover ++ le 1 other ++ le 2 chain ++ le 2 task
  let r : ShepRes := { seq := 0, opcode := opcode, code := 0, tag := 0, noResult := false, acceptTick := k.tick, doneTick := k.tick,
                       payload := body ++ le 2 0 ++ le 4 info ++ le 4 0 }
  let m : Mod := { m with shep := { m.shep with results := m.shep.results ++ [r] } }
  if opcode ≤ 0x8004 then m.recTrig k 10 (body ++ le 2 opcode ++ le 4 info ++ le 4 0) else m

/-- The opcode of a command (R304). -/
def ShepCmd.opcode : ShepCmd → Nat
  | .bad op _ => op | .load .. => 1 | .activate _ => 2 | .release .. => 0x11 | .place .. => 0x12 | .unblock _ => 0x13 | .taskAdd .. => 0x20 | .taskCancel _ => 0x21 | .taskDone _ => 0x22

/-! ## Conflict and revocation (R292, R293) -/

/-- A conflict of a rover, with another where there is one: both are asked to Heel, and any that is ROUTED becomes HALTED. -/
def Mod.conflict (m : Mod) (k : Clock) (a : Nat) (b : Option Nat) (chain cause : Nat) : Mod :=
  let one := fun (m : Mod) r => let m := m.heelRover r; if m.rvState r = 3 then m.haltRover k r else m
  let m := one m a
  let m := match b with | some r => one m r | none => m
  ((m.shepNotice k 0x8001 a (b.getD 0xFF) chain 0xFFFF cause).shepEvt 0).inc R.SHEP_CONFLICT_CNT

/-- A span of rover b is revoked with every later span of its route (R293). -/
def Mod.revoke (m : Mod) (k : Clock) (a i : Nat) (s : Span) : Mod :=
  let b := s.rover
  let route := (m.srv b).route
  let at_ := (route.findIdx? fun e => e.1 == i / 8).getD route.length
  let gone := (route.drop at_).map Prod.fst
  let m := m.delSpan i
  let m := m.each ((m.spansOf b).filter fun e => gone.contains (e.1 / 8)) fun m e => m.delSpan e.1
  let m := m.setSrv b { m.srv b with route := route.take at_ }
  let m := m.haltRover k b
  ((m.shepNotice k 0x8004 b a (i / 8) 0xFFFF s.start).shepEvt 3).inc R.SHEP_REVOKE_CNT

/-- A span of rover a on a chain has become open: each overlapped later span is judged (R293). -/
def Mod.openRule (m : Mod) (k : Clock) (net : Net) (a chain start : Nat) : Mod :=
  let from_ := tickDiff start k.tick
  let hit := (net.near chain).flatMap fun c => (m.spansAt c).filter fun e => e.2.rover != a && e.2.after k.tick from_
  m.each hit fun m e =>
    match AMap.find m.shep.cells e.1 with
    | none => m
    | some s =>
      if s.kind = 3 then m.conflict k a (some s.rover) chain 2
      else if (m.revokeMin : Int) ≤ tickDiff s.start k.tick ∧ m.touches s.rover (e.1 / 8) = false then m.revoke k a e.1 s
      else m.conflict k a (some s.rover) chain 2

/-- An open span is placed for a rover; false when the chain has no room. -/
def Mod.placeSpan (m : Mod) (k : Clock) (net : Net) (r c kind : Nat) : Mod × Bool :=
  match m.cellFor c r with
  | none => (m, false)
  | some i =>
    let s : Span :=
      { rover := r, kind := kind, opn := true, serial := m.fld (F.SHEP_RV_STAT_ROUTE_SERIAL r), start := k.tick, lstart := k.tick, fin := 0 }
    ((m.setSpan i s).openRule k net r c k.tick, true)

/-! ## Grant records (R284, R285) -/

/-- The record of a denial, or of a release (R285). -/
def Mod.denyRec (m : Mod) (k : Clock) (q : RouteReq) (status tries : Nat) : List Byte :=
  le 1 q.rover ++ le 1 q.chains.length ++ le 1 status ++ le 1 tries ++ le 2 (m.fld (F.SHEP_RV_STAT_ROUTE_SERIAL q.rover)) ++ le 2 q.reqSerial
    ++ le 4 0 ++ le 4 k.tick

/-- A request is answered: on ring 1 when it came from the ring, to AIR in every case (R284). -/
def Mod.answer (m : Mod) (k : Clock) (q : RouteReq) (rec_ : List Byte) : Mod :=
  let m : Mod := { m with shep := { m.shep with toAir := m.shep.toAir ++ [(q.rover, rec_)] } }
  if q.fromAir then m
  else m.shepResult k { cmd := .activate 0, tag := q.tag, noResult := q.noResult, acceptTick := q.acceptTick, seq := q.seq } 0x10 0 rec_

/-- A denial: counted, no span changes (R284). -/
def Mod.denyReq (m : Mod) (k : Clock) (q : RouteReq) (status tries : Nat) : Mod :=
  (m.inc R.SHEP_DENY_CNT).answer k q (m.denyRec k q status tries)

/-- The pending slot of a rover is emptied. -/
def Mod.dropReq (m : Mod) (r : Nat) : Mod := m.setSrv r { m.srv r with req := none, carry := false }

/-! ## Phase 3 (R267 to R272, R288 to R295) -/

/-- A in ticks (R268). -/
def Mod.recAge (m : Mod) (k : Clock) (r : Nat) : Nat :=
  let p := (m.rv r).record
  if p.ever then min 16777215 (tickDiff (k.tick + 1) p.sol.epoch).toNat else 16777215

def ceilDiv (a b : Nat) : Nat := (a + b - 1) / b

/-- The growth g in mm (R268). -/
def Mod.growth (m : Mod) (r a : Nat) (off : Bool) : Nat :=
  let p := (m.rv r).record
  let unc := p.sol.uncH
  let v := m.rvVmax r
  let first := (p.state == 0 && !off) || (p.state == 1 && m.rvState r != 5 && !off)
  let al := (m.srv r).ageL
  min 16777215 (if first then unc + ceilDiv (v * a) 100
    else unc + ceilDiv (v * al) 100 + m.rvBrake r + ceilDiv (m.shCreep * (a - al)) 100)

/-- Lapse entry (R294). -/
def Mod.lapseEnter (m : Mod) (k : Clock) (net : Net) (r a c d : Nat) : Mod :=
  let lapsed := (m.rv r).record.state == 2
  let m := (m.setRvState r 5).setSrv r { m.srv r with ageL := min 16777215 (a + 3) }
  let mine := m.spansOf r
  let m := m.each mine fun m e => m.setSpan e.1 { e.2 with kind := 3, opn := true }
  let m := match (m.srv r).req with
    | some q => (m.denyReq k q 8 0).dropReq r
    | none => m
  let m := m.heelRover r
  let m := if lapsed then (m.shepNotice k 0x8002 r 0xFF c 0xFFFF (a + 3)).shepEvt 1 else (m.shepNotice k 0x8003 r 0xFF c 0xFFFF (min 4294967295 d)).shepEvt 2
  m.each (mine.filter fun e => !e.2.opn) fun m e => m.openRule k net r (e.1 / 8) e.2.start

/-- The chain of the previous footprint set on which the rover stands: smallest d, lower chain on a tie (R269). -/
def Mod.chosen (m : Mod) (net : Net) (r : Nat) : Nat × Nat × Nat :=
  let sol := (m.rv r).record.sol
  let cs := match (m.srv r).foot with | [] => [m.fld (F.SHEP_RV_LOC_CHAIN r)] | l => l.map Prod.fst
  let best := cs.foldl (fun (b : Option (Nat × Nat × Nat)) c =>
    let p := net.project c sol.east sol.north
    match b with
    | none => some (p.2, c, p.1)
    | some o => if p.2 < o.1 ∨ (p.2 = o.1 ∧ c < o.2.1) then some (p.2, c, p.1) else some o) none
  best.getD (0, 0, 0)

/-- The reach of the footprint forward and back of s, before growth (R270). -/
def Mod.reach (m : Mod) (r c : Nat) : Nat × Nat :=
  let f := m.rvFront r
  let b := m.rvRear r
  if m.rvState r = 3 then
    match (m.srv r).route.find? fun e => e.1 == c with
    | some e => if e.2 then (b, f) else (f, b)
    | none => (max f b, max f b)
  else (max f b, max f b)

/-- A footprint set is taken: at most 32 chains; a 33rd sets FP_FULL (R272). -/
def Mod.setFoot (m : Mod) (r c s g : Nat) (fp : List (Nat × Nat)) : Mod :=
  let full := decide (32 < fp.length)
  let fp := fp.take 32
  let m := m.setSrv r { m.srv r with foot := fp }
  let m := (m.setF (F.SHEP_RV_LOC_CHAIN r) c).setB (F.SHEP_RV_LOC_CHAIN_VALID r) true
  let m := ((m.wr (R.SHEP_RV_S r) s).wr (R.SHEP_RV_FP r) g).setF (F.SHEP_RV_STAT_FP_CHAINS r) fp.length
  let m := m.setB (F.SHEP_RV_STAT_FP_FULL r) full
  if full then (m.heelRover r).shepEvt 6 else m

/-- The footprint set is exactly one perch chain. -/
def Mod.onPerch (m : Mod) (net : Net) (r : Nat) : Option Nat :=
  match (m.srv r).foot with
  | [e] => if net.isPerch e.1 then some e.1 else none
  | _ => none

/-- Arrival at the final perch chain (R289 step 6). -/
def Mod.arrive (m : Mod) (net : Net) (r : Nat) : Mod :=
  match m.onPerch net r, (m.srv r).route.getLast? with
  | some c, some e =>
    if m.rvState r = 3 ∧ e.1 = c then
      let m := m.each ((m.spansOf r).filter fun x => x.2.kind == 0) fun m x =>
        if x.1 / 8 = c then m.setSpan x.1 { x.2 with kind := 1, opn := true } else m.delSpan x.1
      (m.setRvState r 2).setSrv r { m.srv r with route := [] }
    else m
  | _, _ => m

/-- ROUTE spans behind a ROUTED rover are released (R290). -/
def Mod.releaseBehind (m : Mod) (r : Nat) : Mod :=
  if m.rvState r ≠ 3 then m
  else
    let route := (m.srv r).route
    let c := m.fld (F.SHEP_RV_LOC_CHAIN r)
    let i := (route.findIdx? fun e => e.1 == c).getD 0
    let gone := ((route.take i).map Prod.fst).filter fun x => !m.touches r x
    m.each ((m.spansOf r).filter fun e => e.2.kind == 0 && gone.contains (e.1 / 8)) fun m e => m.delSpan e.1

/-- A ROUTE span whose END has passed under the footprint becomes OCCUPY (R291). -/
def Mod.overstay (m : Mod) (k : Clock) (net : Net) (r i : Nat) : Mod :=
  match AMap.find m.shep.cells i with
  | none => m
  | some s =>
    if s.rover = r ∧ s.kind = 0 ∧ s.opn = false ∧ 0 ≤ tickDiff k.tick s.fin ∧ m.touches r (i / 8) = true then
      let m := m.setSpan i { s with kind := 2, opn := true }
      ((m.shepNotice k 0x8005 r 0xFF (i / 8) 0xFFFF s.fin).shepEvt 4).openRule k net r (i / 8) s.start
    else m

/-- Placement and conflict on one chain of the footprint set (R292). -/
def Mod.coverChain (m : Mod) (k : Clock) (net : Net) (r x : Nat) : Mod :=
  if m.chainBlocked x then m.conflict k r none x 1
  else if (m.spansAt x).any fun e => e.2.rover == r && e.2.holds k.tick then m
  else
    let others := ((net.near x).flatMap fun c => (m.spansAt c).filter fun e => e.2.rover != r && e.2.holds k.tick).map fun e => e.2.rover
    match others.eraseDups with
    | [] =>
      match m.placeSpan k net r x (if m.rvState r = 5 then 3 else 2) with
      | (m', true) => m'
      | (_, false) => Mod.conflict { m with shep := { m.shep with blocked := m.shep.blocked ++ [x] } } k r none x 1
    | l => m.each l fun m o => m.conflict k r (some o) x 1

/-- Phase 3 of one rover (R276, R289 to R295). -/
def Mod.footRover (m : Mod) (k : Clock) (net : Net) (r : Nat) : Mod :=
  let st := m.rvState r
  if st = 0 ∨ st = 1 then m
  else
    let a := m.recAge k r
    let m := m.wr (R.SHEP_RV_AGE r) a
    let (d, c, s) := m.chosen net r
    let off := decide ((net.chain c).xtol + (m.rv r).record.sol.uncH < d)
    let m := m.setB (F.SHEP_RV_STAT_OFF_TRACK r) off
    let c := if off then m.fld (F.SHEP_RV_LOC_CHAIN r) else c
    let s := if off then m.rd (R.SHEP_RV_S r) else s
    let m := if m.rvState r ≠ 5 ∧ ((m.rv r).record.state = 2 ∨ off = true) then m.lapseEnter k net r a c d else m
    let g := m.growth r a off
    let (f, b) := m.reach r c
    let fp := net.footprint (if m.rvState r = 3 then (m.srv r).route else []) c s (f + g) (b + g)
    let m := m.setFoot r c s g fp
    let m := (m.arrive net r).releaseBehind r
    let m := m.each ((m.spansOf r).map Prod.fst) fun m i => m.overstay k net r i
    m.each ((m.srv r).foot.map Prod.fst) fun m x => m.coverChain k net r x

/-- The rover has no place on the network: no footprint, no route, neither OFF_TRACK nor FP_FULL (R269, R272, R308). -/
def Mod.unplace (m : Mod) (r : Nat) : Mod :=
  let m := m.setSrv r { m.srv r with foot := [], route := [] }
  let m := ((m.setB (F.SHEP_RV_LOC_CHAIN_VALID r) false).setF (F.SHEP_RV_STAT_FP_CHAINS r) 0).setB (F.SHEP_RV_STAT_OFF_TRACK r) false
  m.setB (F.SHEP_RV_STAT_FP_FULL r) false

/-- EN as it applies in phase 3 (R289 steps 1 to 3). -/
def Mod.rvEnable (m : Mod) (r : Nat) : Mod :=
  let st := m.rvState r
  if m.rvEn r then (if st = 0 then m.setRvState r 1 else m)
  else if st = 0 then m
  else if (m.spansOf r).isEmpty then
    let m := ((m.unplace r).setRvState r 0).setF (F.SHEP_RV_LOC_CHAIN r) 0
    m.setSrv r { m.srv r with ageL := 0, haltTick := 0, haltDone := false }
  else (m.cfgSet (R.SHEP_RV_CTL r) (m.rd (R.SHEP_RV_CTL r) ||| 1)).shepEvt 11

/-! ## Releases (R286, R296) -/

/-- A release; `cmd` for a RELEASE command, which alone ends LAPSED spans. An IDLE rover stays IDLE: R289 gives it no such step. -/
def Mod.release (m : Mod) (k : Clock) (net : Net) (r : Nat) (cmd : Bool) : Mod :=
  let st := m.rvState r
  if st = 0 ∨ st = 1 then m
  else
    let lapsed := st == 5
    let free := cmd && m.recCurrent r
    let mine := m.spansOf r
    let m := m.each (mine.filter fun e => !m.touches r (e.1 / 8) && (cmd || e.2.kind != 3)) fun m e => m.delSpan e.1
    if lapsed && !free then m
    else
      let keep := mine.filter fun e => m.touches r (e.1 / 8)
      let m := m.each keep fun m e => m.setSpan e.1 { e.2 with kind := if net.isPerch (e.1 / 8) then 1 else 2, opn := true }
      let m := m.each (keep.filter fun e => !e.2.opn) fun m e => m.openRule k net r (e.1 / 8) e.2.start
      let m := m.setSrv r { m.srv r with route := [] }
      if st = 2 then m else if (m.onPerch net r).isSome then m.setRvState r 2 else m.haltRover k r

/-- A rover's task returns to OPEN. -/
def Mod.taskReopen (m : Mod) (r : Nat) : Mod :=
  match (m.srv r).task with
  | none => m
  | some t =>
    let e := AMap.get (fun _ => Task.free) m.shep.tasks t
    let m : Mod := { m with shep := { m.shep with tasks := AMap.put (fun _ => Task.free) t { e with status := 1, rover := 0 } m.shep.tasks } }
    ((m.setF (F.SHEP_RV_LOC_TASK r) 0).setB (F.SHEP_RV_LOC_TASK_VALID r) false).setSrv r { m.srv r with task := none }

/-- RELEASE with FORCE: every span goes, the rover is UNPLACED, its task OPEN again (R296). -/
def Mod.releaseForce (m : Mod) (r : Nat) : Mod :=
  if m.rvState r = 0 then m
  else
    let m := m.each (m.spansOf r) fun m e => m.delSpan e.1
    let m := m.taskReopen r
    (m.unplace r).setRvState r 1

/-! ## Route evaluation (R281 to R284) -/

/-- A route window relative to the tick of evaluation: chain with direction, START, LSTART, END where not open. -/
structure Win where
  e : Nat × Bool
  start : Int
  lstart : Int
  fin : Option Int
  deriving DecidableEq, Repr

/-- The windows of R281 for a departure D; offsets from the tick of evaluation. -/
def windows (slack tAcc len_ : Nat) (l : List ((Nat × Bool) × Nat × Nat)) (d : Int) : List Win :=
  let n := l.length
  let t := fun (x : (Nat × Bool) × Nat × Nat) => (ceilDiv (100 * (x.2.1 + len_)) x.2.2 : Int)
  let hop := fun (x : (Nat × Bool) × Nat × Nat) => (ceilDiv (100 * x.2.1) x.2.2 : Int)
  (l.foldl (fun (a : Nat × Int × List Win) x =>
    let (i, ei, out) := a
    let last := i + 1 == n
    let w : Win :=
      { e := x.1, start := if i = 0 then 0 else ei - slack, lstart := ei + slack,
        fin := if last then none else some (ei + (if i = 0 then (tAcc : Int) else 0) + t x + slack) }
    (i + 1, ei + (if i = 0 then (tAcc : Int) else 0) + hop x, out ++ [w])) (0, d, [])).2.2

/-- Spans of other rovers that overlap a window, on its chain and its partners (R283). -/
def Mod.winHits (m : Mod) (net : Net) (n r : Nat) (w : Win) : List (Span × Win) :=
  (((net.near w.e.1).flatMap fun c => m.spansAt c).filter fun x =>
    x.2.rover != r && (match w.fin with | some f => decide (tickDiff x.2.start n < f) | none => true) && x.2.after n w.start).map fun x => (x.2, w)

/-- The outcome of the departure trials: STATUS, trials run, departure offset, windows. -/
structure Verdict where
  status : Nat
  tries : Nat
  dep : Int
  wins : List Win
  deriving DecidableEq, Repr

/-- Departure trials (R283). -/
def Mod.trials (m : Mod) (net : Net) (n r : Nat) (mk : Int → List Win) (latest : Int) : Nat → Nat → Int → Verdict
  | 0, done, d => { status := 1, tries := done, dep := d, wins := [] }
  | fuel + 1, done, d =>
    let ws := mk d
    let done := done + 1
    let hz : Int := m.shHorizon
    if hz < d ∨ ws.any (fun w => match w.fin with | some f => decide (hz < f) | none => false) then { status := 7, tries := done, dep := d, wins := [] }
    else
      let hits := ws.flatMap fun w => m.winHits net n r w
      if hits.isEmpty then { status := 0, tries := done, dep := d, wins := ws }
      else if hits.any fun h => h.1.opn then { status := 1, tries := done, dep := d, wins := [] }
      else
        let inc := hits.foldl (fun (a : Int) h => max a (tickDiff h.1.fin n - h.2.start)) 0
        if latest < d + inc then { status := 1, tries := done, dep := d, wins := [] }
        else Mod.trials m net n r mk latest fuel done (d + inc)

/-- Direction, CLOSED and blocked, in route order (R282 step 6): 0 when all pass. -/
def Mod.dirCheck (m : Mod) (net : Net) : List (Nat × Bool) → Nat
  | [] => 0
  | e :: t =>
    let fl := (net.chain e.1).flags
    if !fl.testBit (if e.2 then 1 else 0) then 4
    else if fl.testBit 3 || m.chainBlocked e.1 then 13
    else m.dirCheck net t

/-- Consecutive chains meet (R282 step 4). -/
def routeLinked (net : Net) : List (Nat × Bool) → Bool
  | a :: b :: t => net.exitNode a == net.entryNode b && routeLinked net (b :: t)
  | _ => true

/-- The checks of R282 in order, then the trials. -/
def Mod.judge (m : Mod) (k : Clock) (net : Net) (q : RouteReq) : Verdict :=
  let n := k.tick
  let r := q.rover
  let fail := fun s => { status := s, tries := 0, dep := 0, wins := [] : Verdict }
  let st := m.rvState r
  if m.on F.SHEP_STAT_DENY_ALL then fail 10
  else if st = 5 then fail 8
  else if st = 0 ∨ st = 1 then fail 9
  else if !(q.chains.all fun e => decide (e.1 < net.chains.length)) || ((q.chains.head?.map Prod.fst) != some (m.fld (F.SHEP_RV_LOC_CHAIN r))) || !routeLinked net q.chains then fail 3
  else if !((q.chains.getLast?.map fun e => net.isPerch e.1).getD false) then fail 2
  else if m.dirCheck net q.chains ≠ 0 then fail (m.dirCheck net q.chains)
  else if !(q.chains.all fun e => ((net.chain e.1).access &&& m.rd (R.SHEP_RV_CLASS r)) != 0) then fail 5
  else if tickDiff q.depLatest n < 0 then fail 11
  else if !(q.chains.all fun e => (m.cellFor e.1 r).isSome) then fail 6
  else
    let v := fun c => let x := min (net.chain c).vmax (m.rvVmax r); max 1 (if q.vcap = 0 then x else min x q.vcap)
    let l := q.chains.map fun e => (e, (net.chain e.1).len, v e.1)
    let tAcc := ceilDiv (100 * ((l.head?.map fun x => x.2.2).getD 1)) (2 * m.rvAmax r)
    let len_ := m.rvFront r + m.rvRear r + 2 * (m.rv r).record.sol.uncH
    m.trials net n r (windows m.shSlack tAcc len_ l) (tickDiff q.depLatest n) m.shTries 0 (max 0 (tickDiff q.dep n))

/-- A tick at an offset. -/
def tickAt (n : Nat) (d : Int) : Nat := unsigned 32 ((n : Int) + d)

/-- A grant writes every span in one cycle (R284). -/
def Mod.grant (m : Mod) (k : Clock) (q : RouteReq) (v : Verdict) : Mod :=
  let n := k.tick
  let r := q.rover
  let serial := (m.fld (F.SHEP_RV_STAT_ROUTE_SERIAL r) + 1) % 65536
  let on := q.chains.map Prod.fst
  let m := m.each ((m.spansOf r).filter fun e => !on.contains (e.1 / 8) && !m.touches r (e.1 / 8)) fun m e => m.delSpan e.1
  let m := m.each v.wins fun m w =>
    match m.cellFor w.e.1 r with
    | none => m
    | some i => m.setSpan i { rover := r, kind := 0, opn := w.fin.isNone, serial := serial, start := tickAt n w.start, lstart := tickAt n w.lstart, fin := tickAt n (w.fin.getD 0) }
  let m := (m.setRvState r 3).setF (F.SHEP_RV_STAT_ROUTE_SERIAL r) serial
  let m := m.setSrv r { m.srv r with route := q.chains }
  let body := v.wins.flatMap fun w =>
    le 2 (w.e.1 + if w.e.2 then 32768 else 0) ++ le 2 (if w.fin.isNone then 1 else 0) ++ le 4 (tickAt n w.start) ++ le 4 (tickAt n w.lstart)
      ++ le 4 (match w.fin with | some f => tickAt n f | none => 0xFFFFFFFF)
  let rec_ := le 1 r ++ le 1 q.chains.length ++ le 1 0 ++ le 1 v.tries ++ le 2 serial ++ le 2 q.reqSerial ++ le 4 (tickAt n v.dep) ++ le 4 n ++ body
  let g : Grant := { rover := r, serial := serial, dep := tickAt n v.dep, vcap := q.vcap, chains := q.chains }
  let m : Mod := { m with shep := { m.shep with toMot := m.shep.toMot ++ [g] } }
  (m.inc R.SHEP_GRANT_CNT).answer k q rec_

/-- One evaluation (R282 to R284). -/
def Mod.evaluate (m : Mod) (k : Clock) (net : Net) (q : RouteReq) : Mod :=
  let m := ((m.dropReq q.rover).inc R.SHEP_EVAL_CNT).perfAdd (perfShep 0) 1
  let v := m.judge k net q
  if v.status = 0 then m.grant k q v else m.denyReq k q v.status v.tries

/-! ## Requests (R278 to R280) -/

/-- The layout of a route request; none when malformed (R279). -/
def parseReq (d : List Byte) : Option RouteReq :=
  let n := leAt d 1 1
  let len := 16 + 2 * n
  let chains := (upto n).map fun i => leAt d (16 + 2 * i) 2
  if 16 ≤ d.length ∧ n ≤ 64 ∧ leAt d 2 1 ≤ 3 ∧ leAt d 3 1 = 0 ∧ d.length = (len + 3) / 4 * 4 ∧ leAt d len (d.length - len) = 0 ∧ chains.all (fun c => !c.testBit 14) = true then
    some { rover := leAt d 0 1, prio := leAt d 2 1, dep := leAt d 4 4, depLatest := leAt d 8 4, vcap := leAt d 12 2, reqSerial := leAt d 14 2,
           chains := chains.map fun c => (c % 16384, c.testBit 15), fromAir := true, tag := 0, noResult := false, acceptTick := 0, seq := 0 }
  else none

/-- PENDING: requests in the slots (R307). -/
def Mod.pendShow (m : Mod) : Mod := m.setF F.SHEP_STAT_PENDING ((m.shep.rover.filter fun e => e.2.req.isSome).length)

/-- A request takes the rover's pending slot; one replaced waits for the next latch, where it is denied SUPERSEDED (R26, R280). -/
def Mod.reqAccept (m : Mod) (k : Clock) (q : RouteReq) : Mod :=
  let q := { q with acceptTick := k.tick, seq := m.shep.seq }
  let m : Mod := { m with shep := { m.shep with seq := m.shep.seq + 1 } }
  let m := match (m.srv q.rover).req with
    | some o => { m with shep := { m.shep with superseded := m.shep.superseded ++ [o] } }
    | none => m
  (m.setSrv q.rover { m.srv q.rover with req := some q, carry := false }).pendShow

/-- A route request in an uplink of a rover (R279). -/
def Mod.airRequest (m : Mod) (k : Clock) (r : Nat) (d : List Byte) : Mod :=
  match parseReq d with
  | none => m.inc R.SHEP_DENY_CNT
  | some q =>
    if q.rover ≠ r ∨ m.on F.SHEP_CTL_AIR_REQ = false ∨ m.on F.SHEP_CTL_EN = false then m.inc R.SHEP_DENY_CNT
    else m.reqAccept k { q with fromAir := true }

/-- A command waits for its latch (R26). -/
def Mod.shepAccept (m : Mod) (k : Clock) (h : Hdr) (c : ShepCmd) : Mod :=
  let p : ShepPend := { cmd := c, tag := h.tag, noResult := h.noResult, acceptTick := k.tick, seq := m.shep.seq }
  { m with shep := { m.shep with seq := m.shep.seq + 1, cmds := m.shep.cmds ++ [p] } }

/-- A command with a fault in its fields: its result comes at its latch too, REFUSED while EN is 0 (R304). -/
def Mod.shepReject (m : Mod) (k : Clock) (h : Hdr) (opcode code : Nat) : Mod := m.shepAccept k h (.bad opcode code)

/-! ## Networks (R264 to R266) -/

/-- The network's status. -/
def Mod.netShow (m : Mod) : Mod :=
  let m := (m.setB F.SHEP_STAT_NET_ACTIVE m.shep.active.isSome).setB F.SHEP_STAT_NET_LOADED m.shep.loaded.isSome
  m.setB F.SHEP_STAT_NET_PENDING (m.shep.cmds.any fun p => match p.cmd with | .activate _ => true | _ => false)

/-- An image becomes active (R265, R630). -/
def Mod.netActivate (m : Mod) (k : Clock) (net : Net) (other : Option Net) : Mod :=
  let m : Mod := { m with shep := { m.shep with active := some net, loaded := other } }
  let m := (m.wr R.SHEP_NET_SERIAL net.serial).wr R.SHEP_NET_TICK k.tick
  ((m.shepNotice k 0x8008 0xFF 0xFF 0xFFFF 0xFFFF net.serial).shepEvt 8).netShow

/-- ACTIVATE_NET when its tick has come (R265). -/
def Mod.activateNow (m : Mod) (k : Clock) (p : ShepPend) : Mod :=
  match m.shep.loaded with
  | none => m.shepResult k p 2 0x102 []
  | some net =>
    let clash := match m.shep.active with
      | none => false
      | some a => m.shep.cells.any fun e => !chainSame a net (e.1 / 8)
    if clash then m.shepResult k p 2 0x105 [] else (m.netActivate k net m.shep.active).shepResult k p 2 0 []

/-- Why every request is denied (R266, R272, R298). -/
def Mod.denyShow (m : Mod) : Mod :=
  let mis := match m.shep.active, m.pack.base with
    | some n, some b =>
      let far := fun (x y : Int) => decide (10 * n.baseTol < (x - y).natAbs)
      far b.x n.base.1 || far b.y n.base.2.1 || far b.z n.base.2.2
    | _, _ => false
  let m := if mis && !m.shep.mismatch then m.shepEvt 7 else m
  let ovf := (m.shep.rover.map Prod.fst).any fun r => m.on (F.SHEP_RV_STAT_FP_FULL r)
  let m : Mod := { m with shep := { m.shep with mismatch := mis } }
  let cause := if m.deniesAll then 1 else if mis then 2 else if ovf then 3 else 0
  (m.setF F.SHEP_STAT_DENY_CAUSE cause).setB F.SHEP_STAT_DENY_ALL (cause != 0)

/-! ## Tasks (R299 to R302) -/

def Mod.taskAt (m : Mod) (t : Nat) : Task := AMap.get (fun _ => Task.free) m.shep.tasks t

def Mod.setTask (m : Mod) (t : Nat) (e : Task) : Mod := { m with shep := { m.shep with tasks := AMap.put (fun _ => Task.free) t e m.shep.tasks } }

/-- A task entry returns to FREE; the rover it was matched to is free of it. -/
def Mod.taskFree (m : Mod) (t : Nat) : Mod :=
  let e := m.taskAt t
  let m := if e.status = 2 then
      ((m.setF (F.SHEP_RV_LOC_TASK e.rover) 0).setB (F.SHEP_RV_LOC_TASK_VALID e.rover) false).setSrv e.rover { m.srv e.rover with task := none }
    else m
  m.setTask t Task.free

/-- An OPEN task whose DEADLINE has passed returns to FREE (R299). -/
def Mod.taskExpire (m : Mod) (k : Clock) (t : Nat) : Mod :=
  let e := m.taskAt t
  if e.status = 1 ∧ e.deadline ≠ 0 ∧ 0 < tickDiff k.tick e.deadline then
    ((m.shepNotice k 0x8007 0xFF 0xFF 0xFFFF t e.deadline).shepEvt 10).setTask t Task.free
  else m

/-- The perch an idle rover stands on, when it may be matched (R300). -/
def Mod.idlePerch (m : Mod) (net : Net) (r : Nat) : Option Nat :=
  if m.rvState r = 2 ∧ (m.srv r).task.isNone ∧ m.recCurrent r = true then
    match (m.spansOf r).find? fun e => e.2.opn && net.isPerch (e.1 / 8) with
    | some e => net.perchOf (e.1 / 8)
    | none => none
  else none

/-- The nearest qualifying idle rover for a task: distance and rover (R301). -/
def Mod.nearestRover (m : Mod) (net : Net) (t : Task) : Option (Nat × Nat) :=
  (m.shep.rover.map Prod.fst).foldl (fun (b : Option (Nat × Nat)) r =>
    match m.idlePerch net r with
    | none => b
    | some p =>
      if (m.rd (R.SHEP_RV_CLASS r) &&& t.need) ≠ t.need then b
      else match net.perchDist p t.from_ with
        | none => b
        | some d => match b with
          | none => some (d, r)
          | some o => if d < o.1 then some (d, r) else b) none

/-- One match (R301, R302). -/
def Mod.matchTask (m : Mod) (k : Clock) (t r dist : Nat) : Mod :=
  let e := m.taskAt t
  let m := (m.setTask t { e with status := 2, rover := r }).setSrv r { m.srv r with task := some t }
  let m := (m.setF (F.SHEP_RV_LOC_TASK r) t).setB (F.SHEP_RV_LOC_TASK_VALID r) true
  let msg := le 2 t ++ le 2 e.from_ ++ le 2 e.to_ ++ le 1 e.prio ++ le 1 0 ++ le 4 e.payload
  let m : Mod := { m with shep := { m.shep with toAirTask := m.shep.toAirTask ++ [(r, msg)] } }
  (m.inc R.SHEP_MATCH_CNT).shepNotice k 0x8006 r 0xFF 0xFFFF t dist

/-- Tasks in the order of R301. -/
def Mod.taskOrder (m : Mod) (n : Nat) : List Nat :=
  let l := m.shep.tasks.filter fun e => e.2.status == 1 && decide (0 ≤ tickDiff n e.2.notBefore)
  let key := fun (a b : Nat × Task) =>
    if a.2.prio ≠ b.2.prio then decide (a.2.prio < b.2.prio)
    else if a.2.deadline = b.2.deadline then decide (a.1 ≤ b.1)
    else if a.2.deadline = 0 then false
    else if b.2.deadline = 0 then true
    else decide (tickDiff a.2.deadline b.2.deadline < 0)
  (l.mergeSort key).map Prod.fst

/-- Phase 6 (R301, R302). -/
def Mod.phase6 (m : Mod) (k : Clock) (net : Net) (most : Nat) : Mod :=
  if m.on F.SHEP_CTL_TASK_EN = false ∨ m.deniesAll = true then m
  else ((m.taskOrder k.tick).foldl (fun (a : Mod × Nat) t =>
    if a.2 = 0 then a
    else match a.1.nearestRover net (a.1.taskAt t) with
      | none => a
      | some (d, r) => (a.1.matchTask k t r d, a.2 - 1)) (m, min 32 most)).1

/-! ## The phases (R276) -/

/-- PLACE in phase 2 (R305). -/
def Mod.placeCmd (m : Mod) (k : Clock) (net : Net) (p : ShepPend) (r c : Nat) : Mod :=
  let done := fun (m : Mod) code => m.shepResult k p 0x12 code []
  if net.chains.length ≤ c then done m 0x101
  else if m.rvState r ≠ 1 then done m 0x109
  else
    let sol := (m.rv r).record.sol
    let (s, d) := net.project c sol.east sol.north
    let a := m.recAge k r
    let g := m.growth r a false
    let reach := max (m.rvFront r) (m.rvRear r) + g
    let fp := net.footprint [] c s reach reach
    let clear := (fp.take 32).all fun e => ((m.spansAt e.1).all fun x => x.2.rover == r || !x.2.holds k.tick) && (m.cellFor e.1 r).isSome
    if m.recCurrent r = false ∨ (net.chain c).xtol + sol.uncH < d ∨ clear = false then done m 0x10A
    else
      let m := m.setFoot r c s g fp
      let m := m.wr (R.SHEP_RV_AGE r) a
      let st := if (m.onPerch net r).isSome then 2 else 4
      let m := if st = 2 then m.setRvState r 2 else m.haltRover k r
      let m := m.each ((m.srv r).foot.map Prod.fst) fun m x => (m.placeSpan k net r x (if net.isPerch x then 1 else 2)).1
      done m 0

/-- Commands that act at a latch outside the numbered phases, in acceptance order: tasks and UNBLOCK. -/
def Mod.tableCmd (m : Mod) (k : Clock) (p : ShepPend) : Mod :=
  let done := fun (m : Mod) code => m.shepResult k p p.cmd.opcode code []
  match p.cmd with
  | .bad _ code => done m code
  | .unblock c =>
    if ((m.shep.active.map fun n => n.chains.length).getD 16384) ≤ c then done m 0x101
    else if m.shep.blocked.contains c then done { m with shep := { m.shep with blocked := m.shep.blocked.filter fun x => x != c } } 0 else done m 0x108
  | .taskAdd t e =>
    match m.shep.active with
    | none => done m 0x102
    | some n =>
      if n.perch.length ≤ e.from_ ∨ n.perch.length ≤ e.to_ then done m 0x101
      else if (m.taskAt t).status ≠ 0 then done m 0x107 else done (m.setTask t { e with status := 1, rover := 0 }) 0
  | .taskCancel t => if (m.taskAt t).status = 0 then done m 0x108 else done (m.taskFree t) 0
  | .taskDone t => if (m.taskAt t).status = 0 then done m 0x108 else done (m.taskFree t) 0
  | _ => m

/-- A release of phase 4: a RELEASE command or a request of zero chains (R276). -/
inductive Rel where
  | cmd (p : ShepPend) (r : Nat) (force : Bool) (tag : Nat)
  | req (q : RouteReq)
  deriving DecidableEq, Repr

def Rel.seq : Rel → Nat
  | .cmd p _ _ _ => p.seq
  | .req q => q.seq

/-- One release of phase 4 (R280, R286, R296). -/
def Mod.relDo (m : Mod) (k : Clock) (net : Net) : Rel → Mod
  | .cmd p r force tag =>
    if force then
      if tag ≠ siteTag r then m.shepResult k p 0x11 0x109 [] else (m.releaseForce r).shepResult k p 0x11 0 []
    else (m.release k net r true).shepResult k p 0x11 0 []
  | .req q =>
    let m := m.dropReq q.rover
    if m.rvState q.rover = 0 ∨ m.rvState q.rover = 1 then m.denyReq k q 9 0
    else
      let m := m.release k net q.rover false
      m.answer k q (m.denyRec k q 0 0)

/-- The releases of phase 4 in acceptance order. -/
def Mod.relList (m : Mod) : List Rel :=
  let cs := m.shep.cmds.filterMap fun p => match p.cmd with | .release r f t => some (Rel.cmd p r f t) | _ => none
  let qs := m.shep.rover.filterMap fun e => match e.2.req with | some q => if q.chains.isEmpty then some (Rel.req q) else none | none => none
  (cs ++ qs).mergeSort fun a b => decide (a.seq ≤ b.seq)

/-- The requests of phase 5 in order: carried over, PRIO, acceptance (R276). -/
def Mod.evalOrder (m : Mod) : List RouteReq :=
  let l := m.shep.rover.filterMap fun e => match e.2.req with | some q => if q.chains.isEmpty then none else some (e.2.carry, q) | none => none
  (l.mergeSort fun a b =>
    if a.1 ≠ b.1 then a.1 else if a.2.prio ≠ b.2.prio then decide (a.2.prio < b.2.prio) else decide (a.2.seq ≤ b.2.seq)).map Prod.snd

/-- A status register of a rover: STAT, LOC, S, FP, SPANS or AGE (R308). -/
def isRvShown (a : Nat) : Bool :=
  decide (R.SHEP_RV_STAT 0 ≤ a) && decide (a ≤ R.SHEP_RV_AGE 255) && decide (0x14 ≤ (a - 0x52000) % 0x40) && decide ((a - 0x52000) % 0x40 ≤ 0x28)

/-- SHEP_STAT and the status registers of the rovers are published as they stand (R276). -/
def Mod.rvPublish (m : Mod) : Mod := { m with shep := { m.shep with shown := m.live.filter fun e => e.1 == R.SHEP_STAT || isRvShown e.1 } }

/-- Registers that show what the phases left (R307, R308). -/
def Mod.shepShow (m : Mod) : Mod :=
  let m := m.wr R.SHEP_SPAN_USE m.shep.cells.length
  let m := m.each (m.shep.rover.map Prod.fst) fun m r => m.wr (R.SHEP_RV_SPANS r) (m.spansOf r).length
  m.pendShow.netShow

/-- A part-evaluated request is discarded and goes first at the next tick (R277). -/
def Mod.shepCut (m : Mod) (k : Clock) : Mod :=
  match m.shep.partEval with
  | none => m
  | some r =>
    let m : Mod := { m with shep := { m.shep with partEval := none, discarded := true } }
    let m := if (m.srv r).req.isSome then m.setSrv r { m.srv r with carry := true } else m
    (m.shepEvt 5).overrun k 11 R.SHEP_OVR_CNT (perfShep 1) 1

/-- LOAD_NET (R264, R305): the image as host memory gave it, none when the read failed. -/
def Mod.loadNet (m : Mod) (k : Clock) (p : ShepPend) (addr reserved : Nat) (img : Option (List Byte)) : Mod :=
  let fail := fun (m : Mod) code => m.shepResult k p 1 code (le 8 0)
  if addr % 8 ≠ 0 ∨ reserved ≠ 0 then fail m 0x101
  else match img with
  | none => fail m 0x106
  | some d =>
    if !m.netImageOk d then fail m 0x103
    else match m.imageSigned (leAt d 44 4) (d.take (d.length - 96)) (d.drop (d.length - 96)) with
    | (m, false) => fail m 0x104
    | (m, true) =>
      (Mod.netShow { m with shep := { m.shep with loaded := some (readNet d) } }).shepResult k p 1 0 (le 4 (leAt d 40 4) ++ le 4 0)

/-- LOAD_NET and ACTIVATE_NET at the latch, in acceptance order (R26, R264, R265). -/
def Mod.netCmd (m : Mod) (k : Clock) (p : ShepPend) : Mod :=
  match p.cmd with
  | .load addr reserved img => m.loadNet k p addr reserved img
  | .activate _ => m.activateNow k p
  | _ => m

/-- A LOAD_NET (R264). -/
def ShepCmd.isLoad : ShepCmd → Bool
  | .load .. => true
  | _ => false

/-- The Shepherd runs its phases: enabled, not a warm standby, awake (R298, R307). -/
def Mod.shepRuns (m : Mod) : Bool := m.on F.SHEP_CTL_EN && m.role != 3 && m.awake

/-- While SHEP_CTL.EN is 0 every waiting command but LOAD_NET is refused (R304). -/
def Mod.shepRefuse (m : Mod) (k : Clock) : Mod :=
  let cmds := m.shep.cmds
  let gone := m.shep.superseded
  let m : Mod := { m with shep := { m.shep with cmds := [], superseded := gone.filter fun q => q.fromAir } }
  let m := m.each cmds fun m p => if p.cmd.isLoad then m.netCmd k p else m.shepResult k p p.cmd.opcode 1 []
  let refuse := fun (m : Mod) (q : RouteReq) =>
    m.shepResult k { cmd := .activate 0, tag := q.tag, noResult := q.noResult, acceptTick := q.acceptTick, seq := q.seq } 0x10 1 []
  let m := m.each (gone.filter fun q => !q.fromAir) refuse
  m.each (m.shep.rover.map Prod.fst) fun m r =>
    match (m.srv r).req with
    | none => m
    | some q => if q.fromAir then m else refuse (m.dropReq r) q

/-- Rovers the Shepherd has anything of. -/
def Mod.shepRovers (m : Mod) : List Nat := (upto 256).filter fun r => m.rvEn r || m.rvState r != 0

/-- Phases 1 to 6 of a tick (R276). -/
def Mod.shepPhases (m : Mod) (k : Clock) (i : ShepIn) : Mod :=
  let gone := m.shep.superseded
  let m : Mod := { m with shep := { m.shep with superseded := [] } }
  let m := m.each gone fun m q => m.denyReq k q 12 0
  let due := m.shep.cmds.filter fun p => match p.cmd with | .activate t => t == 0 || decide (0 ≤ tickDiff k.tick t) | c => c.isLoad
  let m := m.each due fun m p => m.netCmd k p
  let cmds := m.shep.cmds.filter fun p => !due.contains p
  let m : Mod := { m with shep := { m.shep with cmds := cmds } }
  let m := m.each cmds fun m p => m.tableCmd k p
  let m := m.each (m.shep.tasks.map Prod.fst) fun m t => m.taskExpire k t
  let net := m.shep.active.getD { serial := 0, minVer := 0, keyId := 0, base := (0, 0, 0), baseTol := 0, chains := [], nodes := [], conf := [], vtx := [], perch := [], dist := [] }
  let m := m.each cmds fun m p =>
    match p.cmd with
    | .place r c => if m.shep.active.isNone then m.shepResult k p 0x12 0x102 [] else m.placeCmd k net p r c
    | _ => m
  let cells := m.shep.cells
  let m := m.each m.shepRovers fun m r => (m.rvEnable r).footRover k net r
  let held := fun (l : AMap Span) r => (l.filter fun e => e.2.rover == r).map Prod.fst
  let changed := m.shepRovers.filter fun r => held cells r != held m.shep.cells r
  let m : Mod := { m with shep := { m.shep with spanChanged := changed } }
  let rels := m.relList
  let m : Mod := { m with shep := { m.shep with cmds := cmds.filter fun p => match p.cmd with | .activate _ => true | _ => false } }
  let m := m.each rels fun m x => m.relDo k net x
  let rl := rels.map fun x => match x with | .cmd _ r _ _ => r | .req q => q.rover
  let m : Mod := { m with shep := { m.shep with spanChanged := m.shep.spanChanged ++ rl.filter fun r => !m.shep.spanChanged.contains r } }
  let m := m.denyShow
  let reqs := m.evalOrder
  let n := min 256 i.evals
  let m := m.each (reqs.take n) fun m q => m.evaluate k net q
  let part := if i.cut then (reqs.drop n).head?.map RouteReq.rover else none
  let m : Mod := { m with shep := { m.shep with partEval := part, evals := min n reqs.length, endNs := i.endNs, discarded := false } }
  (m.phase6 k net i.matches_).shepShow

/-- The Shepherd at the latch of a tick. -/
def Mod.shepLatch (m : Mod) (k : Clock) (i : ShepIn) : Mod :=
  if !m.blkOn 11 then m
  else
    let m := m.shepCut k
    let m : Mod := { m with shep := { m.shep with toMot := [], spanChanged := [], parityBlocked := [] } }
    let m := match m.shep.restore with
      | some n => (Mod.netActivate { m with shep := { m.shep with restore := none } } k n m.shep.loaded)
      | none => m
    if m.shepRuns then m.shepPhases k i
    else if m.on F.SHEP_CTL_EN then
      let cmds := m.shep.cmds
      let m : Mod := { m with shep := { m.shep with cmds := cmds.filter fun p => !p.cmd.isLoad } }
      (m.each (cmds.filter fun p => p.cmd.isLoad) fun m p => m.netCmd k p).denyShow.netShow
    else (m.shepRefuse k).denyShow.shepShow

/-- The AUTH bit of a rover: none while the Leash is TRIPPED or ARMING (R288, R297, R415). -/
def Mod.authOf (m : Mod) (k : Clock) (r : Nat) : Bool :=
  m.on F.SHEP_CTL_EN && m.fld F.LEASH_STAT_STATE == 2 && (m.rvState r == 3
    || (m.rvState r == 4 && !(m.srv r).haltDone && decide (tickDiff k.tick (m.srv r).haltTick < m.heelMax)))

/-- The Shepherd's publication of the ending tick (R276, R297): AUTH bits, results in acceptance order, then notices; then the status
registers of the rovers. -/
def Mod.shepPublish (m : Mod) (k : Clock) : Mod :=
  if !m.blkOn 11 then m
  else
    let m := m.shepCut k
    let m := m.each m.shepRovers fun m r =>
      let m := if m.mot.ch.any fun e => e.2.kind == 1 && e.2.idx == r then m else m.setB (F.SHEP_RV_STAT_HEEL_REQ r) false
      m.setB (F.SHEP_RV_STAT_AUTH r) (m.authOf k r)
    let l := m.shep.results
    let res := (l.filter fun r => r.opcode < 0x8000).mergeSort fun a b => decide (a.seq ≤ b.seq)
    let m : Mod := { m with shep := { m.shep with results := [] } }
    let m := m.each (res ++ l.filter fun r => !decide (r.opcode < 0x8000)) fun m r =>
      let m : Mod := { m with ring := { m.ring with handed := dropHanded 11 r.opcode r.tag m.ring.handed } }
      if (r.noResult && r.code == 0) || !(m.serves || m.role == 3) then m
      else m.enqueue k 1 2 (resultBytes 11 r.opcode r.code r.tag r.acceptTick r.doneTick r.payload)
    let m := if m.shepRuns then
        (m.setF F.SHEP_LAST_END_END (if m.shep.discarded then 0xFFFFFF else m.shep.endNs)).setF F.SHEP_LAST_END_EVALS (min 255 m.shep.evals)
      else m
    m.rvPublish

/-! ## Commands (R304, R305) -/


/-- ROUTE (R279, R280, R304): the request at offset 16 of the command. -/
def Mod.routeCmd (m : Mod) (k : Clock) (h : Hdr) (d : List Byte) : Mod :=
  match parseReq d with
  | none => m.shepReject k h 0x10 0x101
  | some q =>
    if m.shep.active.isNone then m.shepReject k h 0x10 0x102
    else m.reqAccept k { q with fromAir := false, tag := h.tag, noResult := h.noResult }

/-- The words of the selected table entry; none when INDEX is beyond the table or TABLE reserved (R307). -/
def Mod.tblWords (m : Mod) (table i : Nat) : Option (List Nat) :=
  match table with
  | 7 => if i < 4096 then some (taskWords (m.taskAt i)) else none
  | _ =>
    match m.shep.active with
    | none => none
    | some n =>
      match table with
      | 0 => if i < n.chains.length then some (chainWords (n.chain i)) else none
      | 1 => if i < n.nodes.length then
          let l := nth [] n.nodes i
          some ((upto 4).map fun j => nth 0 l (2 * j) + nth 0 l (2 * j + 1) * 65536) else none
      | 2 => if i < n.conf.length then some [nth 0 n.conf i] else none
      | 3 => if i < n.vtx.length then let v := nth (0, 0) n.vtx i; some [unsigned 32 v.1, unsigned 32 v.2] else none
      | 4 => if i < n.perch.length then some [nth 0 n.perch i] else none
      | 5 => if i < n.dist.length then some [nth 0 n.dist i] else none
      | 6 => if i < n.chains.length * 8 then some (spanWords (m.chainBlocked (i / 8)) (AMap.find m.shep.cells i)) else none
      | _ => none

/-- A write to SHEP_TBL_SEL takes its snapshot (R307). -/
def Mod.shepSel (m : Mod) (v : Nat) : Mod :=
  let m := m.wr R.SHEP_TBL_SEL (v % 67108864)
  let w := m.tblWords (m.fld F.SHEP_TBL_SEL_TABLE) (m.fld F.SHEP_TBL_SEL_INDEX)
  let m := (m.setB F.SHEP_TBL_STAT_VALID w.isSome).setB F.SHEP_TBL_STAT_ERR w.isNone
  let m := m.setB F.SHEP_TBL_STAT_PARITY (m.fld F.SHEP_TBL_SEL_TABLE == 0 && m.shep.parityBlocked.contains (m.fld F.SHEP_TBL_SEL_INDEX))
  m.each (upto 8) fun m i => m.wr (R.SHEP_TBL_DATA i) (nth 0 (w.getD []) i)

/-- SHEP works: started, powered. -/
def Mod.shepUp (m : Mod) : Bool := m.live? 11

/-! ## Meanings -/

/-- LOAD_NET: the image as host memory gave it (R264, R304). -/
def execLoadNet (dt : Nat) (h : Hdr) (addr reserved : Nat) (img : Option (List Byte)) (s : State) : Res :=
  .next (s.ev dt fun k m => if m.shepUp then m.shepAccept k h (.load addr reserved img) else m)

/-- ACTIVATE_NET (R265, R304). -/
def execActivateNet (dt : Nat) (h : Hdr) (atTick reserved : Nat) (s : State) : Res :=
  .next (s.ev dt fun k m =>
    if m.shepUp then (if reserved ≠ 0 then m.shepReject k h 2 0x101 else (m.shepAccept k h (.activate atTick)).netShow) else m)

/-- ROUTE (R279, R280). -/
def execRoute (dt : Nat) (h : Hdr) (d : List Byte) (s : State) : Res :=
  .next (s.ev dt fun k m => if m.shepUp then m.routeCmd k h d else m)

/-- RELEASE (R296, R304). -/
def execRelease (dt : Nat) (h : Hdr) (rover flags tag : Nat) (s : State) : Res :=
  .next (s.ev dt fun k m =>
    if m.shepUp then (if 1 < flags then m.shepReject k h 0x11 0x101 else m.shepAccept k h (.release (rover % 256) (flags == 1) tag)) else m)

/-- PLACE (R305). -/
def execPlace (dt : Nat) (h : Hdr) (rover reserved chain : Nat) (s : State) : Res :=
  .next (s.ev dt fun k m =>
    if m.shepUp then (if reserved ≠ 0 then m.shepReject k h 0x12 0x101 else m.shepAccept k h (.place (rover % 256) chain)) else m)

/-- UNBLOCK (R305). -/
def execUnblock (dt : Nat) (h : Hdr) (chain reserved : Nat) (s : State) : Res :=
  .next (s.ev dt fun k m => if m.shepUp then (if reserved ≠ 0 then m.shepReject k h 0x13 0x101 else m.shepAccept k h (.unblock chain)) else m)

/-- TASK_ADD (R299, R304). -/
def execTaskAdd (dt : Nat) (h : Hdr) (task prio reserved need from_ to_ notBefore deadline payload : Nat) (s : State) : Res :=
  .next (s.ev dt fun k m =>
    if m.shepUp then
      if 4096 ≤ task ∨ 7 < prio ∨ reserved ≠ 0 then m.shepReject k h 0x20 0x101
      else m.shepAccept k h (.taskAdd task
        { status := 1, prio := prio, need := need, from_ := from_, to_ := to_, notBefore := notBefore, deadline := deadline, payload := payload, rover := 0 })
    else m)

/-- TASK_CANCEL (R299, R304). -/
def execTaskCancel (dt : Nat) (h : Hdr) (task reserved : Nat) (s : State) : Res :=
  .next (s.ev dt fun k m =>
    if m.shepUp then (if 4096 ≤ task ∨ reserved ≠ 0 then m.shepReject k h 0x21 0x101 else m.shepAccept k h (.taskCancel task)) else m)

/-- TASK_DONE (R299, R304). -/
def execTaskDone (dt : Nat) (h : Hdr) (task reserved : Nat) (s : State) : Res :=
  .next (s.ev dt fun k m =>
    if m.shepUp then (if 4096 ≤ task ∨ reserved ≠ 0 then m.shepReject k h 0x22 0x101 else m.shepAccept k h (.taskDone task)) else m)

/-- SHEP_DEADLINE: T+1 ms (R277). -/
def execShepDeadline (dt : Nat) (s : State) : Res :=
  .next (s.ev dt fun k m => if m.shepUp && decide (1000000 ≤ k.subNs k.raw) then m.shepCut k else m)

/-- SPAN_OVERSTAY: the span in a cell of a chain (R291). -/
def execSpanOverstay (dt chain cell : Nat) (s : State) : Res :=
  .next (s.ev dt fun k m =>
    match m.shep.active, AMap.find m.shep.cells (chain * 8 + cell) with
    | some n, some sp => if m.shepUp && m.shepRuns && decide (cell < 8) then m.overstay k n sp.rover (chain * 8 + cell) else m
    | _, _ => m)

/-- TASK_EXPIRY (R299). -/
def execTaskExpiry (dt task : Nat) (s : State) : Res :=
  .next (s.ev dt fun k m => if m.shepUp && m.shepRuns then m.taskExpire k task else m)

/-- SPAN_POISON: a span cell fails its ECC (R305). -/
def execSpanPoison (dt chain cell : Nat) (s : State) : Res :=
  .next (s.ev dt fun _ m =>
    if m.shepUp && decide (chain < 16384) && decide (cell < 8) then
      let m := m.delSpan (chain * 8 + cell)
      let m : Mod := { m with shep := { m.shep with blocked := if m.shep.blocked.contains chain then m.shep.blocked else m.shep.blocked ++ [chain] } }
      ((m.shepEvt 9).inc R.SHEP_PARITY_CNT).wr R.SHEP_SPAN_USE m.shep.cells.length
    else m)

/-- NET_PARITY_ERROR: an entry of the chain's network data fails its parity (R305). -/
def execNetParityError (dt chain : Nat) (s : State) : Res :=
  .next (s.ev dt fun _ m =>
    if m.shepUp && decide (chain < 16384) then
      Mod.inc { m with shep := { m.shep with parityBlocked := if m.shep.parityBlocked.contains chain then m.shep.parityBlocked else m.shep.parityBlocked ++ [chain] } } R.SHEP_PARITY_CNT
    else m)

/-- SHEP_TBL_SEL: a full write (R307). -/
def execShepTblSel (dt v : Nat) (s : State) : Res :=
  .next (s.ev dt fun _ m => m.access R.SHEP_TBL_SEL fun m => m.shepSel v)

end Sys2Proof.Machine
end

