-- ==== Sys2Proof/Machine/ElemBase.lean ====
section
/-! DEFINITION. The elements of R34: counting faults, retry, retirement. What each kind does out of service is its block's. -/

namespace Sys2Proof.Machine

/-- Key of an element: kind (0 GNSS channel, 1 PACK lane, 2 switch port, 3 motion channel, 4 grain set, 5 LPDDR page,
6 key slot) and index (R572 trigger 4). -/
def elemKey (kind i : Nat) : Nat := kind * 1048576 + i

def Mod.elemAt (m : Mod) (kind i : Nat) : Elem := AMap.get (fun _ => Elem.good) m.elem (elemKey kind i)

def Mod.setElem (m : Mod) (kind i : Nat) (e : Elem) : Mod := { m with elem := AMap.put (fun _ => Elem.good) (elemKey kind i) e m.elem }

/-- Whether an element is retired: listed in the retirement map (R37). -/
def Mod.isRetired (m : Mod) (kind i : Nat) : Bool := m.nv.retired.contains (kind, i)

/-- Faults counted in the window of 1,000 consecutive ticks that ends with this one (R34). -/
def Elem.recent (e : Elem) (n : Nat) : List Nat := e.faults.filter fun f => decide (n < f + 1000)

/-- What a detected fault leads to. -/
inductive Verdict3 where
  | ignored
  | retry
  | retired
  deriving DecidableEq, Repr

/-- A fault of an element is detected: it starts the retry, or retires the element after three faults in the window, a fault
during its retry, or one in the tick of its re-admission (R34 to R38). Two faults of one tick count as one (R36). -/
def Mod.elemJudge (m : Mod) (k : Clock) (kind i : Nat) : Mod × Verdict3 :=
  let e := m.elemAt kind i
  let l := e.recent k.tickNo
  if m.isRetired kind i ∨ l.contains k.tickNo then (m, .ignored)
  else
    let l := l ++ [k.tickNo]
    if e.retry ∨ e.restored = some k.tickNo ∨ 3 ≤ l.length then
      let m := m.setElem kind i { faults := l, retry := false, restored := none }
      let m : Mod := { m with nv := { m.nv with retired := (kind, i) :: m.nv.retired } }
      (m.recTrig k 4 (le 1 kind ++ le 1 0 ++ le 2 (if kind = 5 then 0 else i) ++ le 4 (if kind = 5 then i else 0)), .retired)
    else (m.setElem kind i { faults := l, retry := true, restored := none }, .retry)

/-- A retry ends at the end of one whole tick of work without a fault (R35); `k` is the clock of the ending tick. A GNSS channel is
restored only one tick after its fault (R145 step 2), so its whole tick is the one after that. -/
def Mod.elemRetryEnd (m : Mod) (k : Clock) (kind i : Nat) : Mod × Bool :=
  let e := m.elemAt kind i
  let lag := if kind = 0 then 2 else 1
  if e.retry && e.faults.all (fun f => decide (f + lag ≤ k.tickNo)) then (m.setElem kind i { e with retry := false }, true) else (m, false)

/-- Re-admission clears the fault history and takes the element from the retirement map (R37, R38). -/
def Mod.elemReadmit (m : Mod) (k : Clock) (kind i : Nat) : Mod :=
  let m := m.setElem kind i { faults := [], retry := false, restored := some k.tickNo }
  { m with nv := { m.nv with retired := m.nv.retired.filter fun e => e != (kind, i) } }

end Sys2Proof.Machine
end

