-- ==== Sys2Proof/Machine/MotPlan.lean ====
section
/-! DEFINITION. Planning of motion (R315 to R317, R322 to R324): the integration of segments, plans of constant jerk, the span clamp.
Numbers are exact where the module computes in FP64; square roots are rounded down (log entry 15). -/

namespace Sys2Proof.Machine

/-! ## Integration (R316) -/

/-- The planned state after `t` µs at a jerk. -/
def Kin.go (k : Kin) (j : Int) (t : Nat) : Kin :=
  { p := k.p + 3 * k.v * t + 3 * k.a * t * t + j * t * t * t, v := k.v + 2 * k.a * t + j * t * t, a := k.a + j * t }

/-- The state with a segment's own acceleration taken. -/
def Kin.enter (k : Kin) (s : Seg) : Kin := match s.acc with | some a => { k with a := a } | none => k

/-- At rest where it is. -/
def Kin.still (k : Kin) : Kin := { k with v := 0, a := 0 }

/-- The state and the segments left after `t` µs; at their end the planned velocity and acceleration are zero. -/
def advance : List Seg → Nat → Kin → Kin × List Seg
  | [], _, k => (k.still, [])
  | s :: l, t, k =>
    if s.dur ≤ t then advance l (t - s.dur) ((k.enter s).go s.jerk s.dur)
    else ((k.enter s).go s.jerk t, { dur := s.dur - t, jerk := s.jerk, acc := none } :: l)

/-- The first `t` µs of a list of segments. -/
def cutSegs : List Seg → Nat → List Seg
  | [], _ => []
  | s :: l, t => if s.dur ≤ t then s :: cutSegs l (t - s.dur) else if t = 0 then [] else [{ s with dur := t }]

/-- How long segments last, µs. -/
def segsDur (l : List Seg) : Nat := (l.map Seg.dur).foldl (· + ·) 0

/-- The state at the end of segments, before it comes to rest there. -/
def endKin (l : List Seg) (k : Kin) : Kin := l.foldl (fun k s => (k.enter s).go s.jerk s.dur) k

/-- The state `t` tenths of a nanosecond after a segment's start, to a tenth of a nanosecond. -/
def Kin.fine (k : Kin) (j : Int) (t : Nat) : Kin :=
  { p := k.p + 3 * k.v * t / 10000 + 3 * k.a * t * t / 100000000 + j * t * t * t / 1000000000000
    v := k.v + 2 * k.a * t / 10000 + j * t * t / 100000000
    a := k.a + j * t / 10000 }

/-- The state `t` tenths of a nanosecond after the start of segments. -/
def kinAt : List Seg → Nat → Kin → Kin
  | [], _, k => k.still
  | s :: l, t, k => if s.dur * 10000 ≤ t then kinAt l (t - s.dur * 10000) ((k.enter s).go s.jerk s.dur) else (k.enter s).fine s.jerk t

/-- Units of `Kin.p` in 2^-16 unit, of `Kin.v` in 2^-8 unit/s and in 1 unit/s, of `Kin.a` in 1 unit/s². -/
def posU : Int := 6000000000000000000
def velU : Int := 2000000000000
def accU : Int := 1000000

def Kin.pos (k : Kin) : Int := k.p * 65536 / posU
def Kin.vel (k : Kin) : Int := k.v * 256 / velU
def Kin.acc (k : Kin) : Int := k.a * 256 / accU

/-- A position of 2^-16 unit as `Kin.p` holds it: the least one that reads so. -/
def ofPos (p : Int) : Int := -((-(p * posU)) / 65536)

/-! ## Plans (R315, R317) -/

/-- A signed quotient rounded up. -/
def ceilQ (a b : Int) : Nat := (-((-a) / b)).toNat

/-- The limits of a plan: velocity as `Kin.v`, acceleration as `Kin.a`, jerk in unit/s³. -/
structure Lim where
  v : Nat
  a : Nat
  j : Nat
  deriving DecidableEq, Repr

/-- Segments that bring velocity `v0` with acceleration `a0` to `v1` with none, peak acceleration `A`, jerk `J` (R315): durations
rounded up to whole µs, empty segments omitted. -/
def velSegs (v0 a0 v1 : Int) (A J : Nat) : List Seg :=
  let j : Int := max 1 J
  let vz := v0 + a0 * a0.natAbs / j
  let s : Int := if vz ≤ v1 then 1 else -1
  let dv := s * (v1 - v0)
  let b := s * a0
  let ap : Int := min (A : Int) (Nat.sqrt ((j * dv + b * b) / 2).toNat)
  let up : Bool := decide (b ≤ ap)
  let rem := dv - (if up then 2 * ap * ap - b * b else b * b) / j
  let t1 := if up then ceilQ (ap - b) j else ceilQ (b - ap) j
  let tc := if ap ≤ 0 ∨ rem ≤ 0 ∨ (up && decide (ap < A)) = true then 0 else ceilQ rem (2 * ap)
  let t3 := if ap ≤ 0 then 0 else ceilQ ap j
  [({ dur := t1, jerk := if up then s * j else -(s * j), acc := none } : Seg), { dur := tc, jerk := 0, acc := none },
    { dur := t3, jerk := -(s * j), acc := none }].filter fun x => x.dur != 0

/-- A stop within limits (R329). -/
def stopSegs (k : Kin) (A J : Nat) : List Seg := velSegs k.v k.a 0 A J

/-- The largest number of `bits` bits that passes a test which holds from 0 up to some number. -/
def largest (f : Nat → Bool) : Nat → Nat → Nat
  | 0, acc => acc
  | b + 1, acc => if f (acc + 2 ^ b) then largest f b (acc + 2 ^ b) else largest f b acc

/-- Segments from a state that moves toward a target at least its stopping distance ahead: the peak velocity is the largest, in steps
of 2^-13 unit/s and at most the limit, that does not pass the target; at the limit a cruise covers what is left (R315). -/
def aheadSegs (k : Kin) (target : Int) (l : Lim) : List Seg :=
  let d := target - k.p
  let s : Int := if 0 ≤ d then 1 else -1
  let step : Int := velU / 8192
  let up := fun (n : Nat) => velSegs k.v k.a (s * n * step) l.a l.j
  let down := fun (n : Nat) => velSegs (s * n * step) 0 0 l.a l.j
  let peak := fun (n : Nat) => { p := (endKin (up n) k).p, v := s * n * step, a := 0 : Kin }
  let fits := fun (n : Nat) => decide (s * ((endKin (down n) (peak n)).p - k.p) ≤ s * d)
  let top := l.v / step.toNat
  let n := if fits top then top else largest (fun n => decide (n ≤ top) && fits n) 48 0
  let left := s * d - s * ((endKin (down n) (peak n)).p - k.p)
  let cruise := if n < top ∨ n = 0 ∨ left ≤ 0 then 0 else ceilQ left (3 * n * step)
  up n ++ ([({ dur := cruise, jerk := 0, acc := none } : Seg)].filter fun x => x.dur != 0) ++ down n

/-- A plan to a target, and whether it turns round first (R315, R317). -/
def planTo (k : Kin) (target : Int) (l : Lim) : List Seg × Bool :=
  let stop := stopSegs k l.a l.j
  let e := endKin stop k
  let s : Int := if 0 ≤ target - k.p then 1 else -1
  if k.v = 0 ∧ k.a = 0 then (if target = k.p then [] else aheadSegs k target l, false)
  else if s * k.v < 0 ∨ s * (target - e.p) < 0 then
    let e := e.still
    (stop ++ (if target = e.p then [] else aheadSegs e target l), true)
  else (aheadSegs k target l, false)

/-! ## The span clamp (R322, R324) -/

/-- A chain of a planned route: its entry U_i and end in mm, and what the rover holds on it: nothing, a span without times, or
START and LSTART as µs after the origin. -/
structure Leg where
  entry : Nat
  fin : Nat
  held : Bool
  times : Option (Int × Int)
  deriving DecidableEq, Repr

/-- Millimetres as `Kin.p` holds them. -/
def mmP (n : Int) : Int := n * posU

/-- The front's position `t` µs after the origin. -/
def frontAt (k : Kin) (segs : List Seg) (lead : Nat) (t : Int) : Int := (kinAt segs (t.toNat * 10000) k).p + mmP lead

/-- A plan brings the front past a leg's entry before its START (R324 item 3). -/
def tooEarly (k : Kin) (segs : List Seg) (lead : Nat) (x : Leg) : Bool :=
  match x.times with
  | none => false
  | some (s, _) => decide (0 < s) && decide (mmP x.entry < frontAt k segs lead s)

/-- A plan brings the front to a leg's entry, later than its LSTART (R324 item 4). -/
def tooLate (k : Kin) (segs : List Seg) (lead : Nat) (x : Leg) : Bool :=
  match x.times with
  | none => false
  | some (_, l) => decide (mmP x.entry < (endKin segs k).p + mmP lead) && decide (frontAt k segs lead l < mmP x.entry)

/-- Cruise speeds of n/64 of the limit, from `n` down, until none of the legs is entered too early; else the first such leg. -/
def slower (k : Kin) (target : Int) (l : Lim) (lead : Nat) (legs : List Leg) : Nat → Except Leg (List Seg × Bool)
  | 0 =>
    let (segs, _) := planTo k target { l with v := l.v / 64 }
    match legs.find? (tooEarly k segs lead) with
    | some x => .error x
    | none => .ok (planTo k target { l with v := l.v / 64 })
  | n + 1 =>
    let t := planTo k target { l with v := l.v * (n + 1) / 64 }
    if legs.any (tooEarly k t.1 lead) then slower k target l lead legs n else .ok t

/-- What the clamp leaves: segments, turning round, STOP_U in 2^-16 mm, clamped by item 2 or 4, a span missed, the leg whose START the
plan is to wait for with the front at its entry. -/
structure Clamped where
  segs : List Seg
  rev : Bool
  stopU : Int
  clamp : Bool
  missed : Bool
  wait : Option Leg
  deriving DecidableEq, Repr

/-- A plan to a target, never turning back for a limit nearer than the stopping distance. -/
def planSafe (k : Kin) (target : Int) (l : Lim) : List Seg × Bool :=
  let stop := stopSegs k l.a l.j
  if 0 < k.v ∧ target < (endKin stop k).p then (stop, false) else planTo k target l

/-- A hundredth of a millimetre: a stop that ends as near to its goal as this is a plan under way, not one to turn round (R316, R317). -/
def nearP : Nat := 60000000000000000

/-- Items 2 to 4 of R324, and the stop of item 5: `lim` is u_lim in mm, `w` the leg at whose entry the front is to stop for its START,
and `ahead` the legs whose entry the front has not passed. -/
def clampPlan (k : Kin) (target : Int) (l : Lim) (lead : Nat) (ahead : List Leg) : Nat → Nat → Option Leg → Bool → Bool → Clamped
  | 0, lim, w, c, m =>
    let t := planSafe k (min target (mmP lim - mmP lead)) l
    { segs := t.1, rev := t.2, stopU := ((lim : Int) - lead) * 65536, clamp := c, missed := m, wait := w }
  | fuel + 1, lim, w, c, m =>
    let cap := mmP lim - mmP lead
    let goal := min (min target cap) (match w with | some x => mmP x.entry - mmP lead | none => cap)
    let legs := ahead.filter fun x => decide (mmP x.entry - mmP lead < goal)
    let out := fun (t : List Seg × Bool) =>
      ({ segs := t.1, rev := t.2, stopU := ((lim : Int) - lead) * 65536, clamp := c || decide (cap < target), missed := m, wait := w } : Clamped)
    let stop := stopSegs k l.a l.j
    let e := (endKin stop k).p
    if (k.v ≠ 0 ∧ (goal - e).natAbs ≤ nearP) ∨ (0 < k.v ∧ goal < e ∧ goal < target) then out (stop, false)
    else if 0 < k.v ∧ goal < e then out (planTo k goal l)
    else match slower k goal l lead legs 64 with
      | .error x => clampPlan k target l lead ahead fuel lim (some x) c m
      | .ok t =>
        match legs.find? (tooLate k t.1 lead) with
        | some x => clampPlan k target l lead ahead fuel (min lim x.entry) none true true
        | none => out t

/-- Nothing moves for a time. -/
def holdSegs (t : Nat) : List Seg := ([{ dur := t, jerk := 0, acc := none }] : List Seg).filter fun s => s.dur != 0

/-- The whole clamp (R324): where even 1/64 arrives too early, the plan stops with the front at U_i and starts again at START_i. -/
def clampAll (target : Int) (l : Lim) (lead lim : Nat) : Nat → Kin → List Leg → Clamped
  | 0, k, ahead => clampPlan k target l lead ahead ((ahead.length + 1) * (ahead.length + 2)) lim none false false
  | n + 1, k, ahead =>
    let r := clampPlan k target l lead ahead ((ahead.length + 1) * (ahead.length + 2)) lim none false false
    match r.wait with
    | none => r
    | some x =>
      let t := segsDur r.segs
      let hold := (((x.times.map Prod.fst).getD 0) - t).toNat
      let later := (ahead.filter fun y => decide (x.entry < y.entry)).map fun y =>
        { y with times := y.times.map fun e => (e.1 - (t + hold : Nat), e.2 - (t + hold : Nat)) }
      let r2 := clampAll target l lead lim n (endKin r.segs k).still later
      { segs := if r2.segs.isEmpty then r.segs else r.segs ++ holdSegs hold ++ r2.segs, rev := r.rev, stopU := r2.stopU, clamp := r2.clamp,
        missed := r.missed || r2.missed, wait := none }

/-! ## Messages (R327) -/

/-- Segments that cover at least 500 ms, at most eight, whole ones. -/
def profSegs : Nat → Nat → List Seg → List Seg
  | 0, _, _ => []
  | _, _, [] => []
  | n + 1, t, s :: l => if 500000 ≤ t then [] else s :: profSegs n (t + s.dur) l

/-- The message's segments, and whether they are all, so that the message is FINAL; a plan at rest sends one segment of 500 ms. -/
def profCut (segs : List Seg) : List Seg × Bool :=
  let l := profSegs 8 0 segs
  if l.length < segs.length then (l, false) else (if l.isEmpty then holdSegs 500000 else l, true)

/-- The bytes of a PROFILE message (R327). -/
def profBytes (rover : Nat) (heel convoy final rev : Bool) (route serial origin : Nat) (k : Kin) (stopU : Int) (segs : List Seg) : List Byte :=
  let bit := fun (b : Bool) n => if b then n else 0
  le 1 rover ++ le 1 (bit heel 1 + bit convoy 2 + bit final 4 + bit rev 8) ++ le 2 route ++ le 2 serial ++ le 1 segs.length ++ le 1 0
    ++ le 4 origin ++ le 4 0 ++ le 8 (unsigned 64 k.pos) ++ le 4 (unsigned 32 k.vel) ++ le 4 (unsigned 32 k.acc) ++ le 8 (unsigned 64 stopU)
    ++ segs.flatMap fun s => le 4 s.dur ++ le 4 (unsigned 32 s.jerk)

end Sys2Proof.Machine
end

