-- ==== Sys2Proof/Machine/SwBase.lean ====
section
/-! DEFINITION. What other blocks use of the switch: the egress queues (R439), the module's own address. -/

namespace Sys2Proof.Machine

/-- The switch forwards on a port: the SW domain is on and the port FORWARDING (R434, R450). -/
def Mod.swPortOn (m : Mod) (p : Nat) : Bool := m.blkOn 14 && m.on F.SW_CTL_EN && m.fld (F.SW_P_STAT_STATE p) == 1

/-- The module's MAC address as a 48-bit number, byte 0 first (R453). -/
def Mod.ownMac (m : Mod) : Nat := m.rd R.SW_MAC_HI % 65536 * 4294967296 + m.rd R.SW_MAC_LO

/-- The queue of a port that a priority goes to (R439). -/
def Mod.swQueueOf (m : Mod) (p pcp : Nat) : Nat := m.fld (F.SW_P_QOS_QMAP p) / 4 ^ (pcp % 8) % 4

def Mod.egq (m : Mod) (p q : Nat) : List EgFrame := AMap.get (fun _ => []) m.sw.egress (4 * p + q)

def Mod.setEgq (m : Mod) (p q : Nat) (l : List EgFrame) : Mod :=
  { m with sw := { m.sw with egress := AMap.put (fun _ => []) (4 * p + q) l m.sw.egress } }

/-- Bytes that frames hold. -/
def egBytes (l : List EgFrame) : Nat := (l.map fun f => f.data.length).foldl (· + ·) 0

/-- Bytes held in the shared buffer. -/
def Mod.swHeld (m : Mod) : Nat := (m.sw.egress.map fun e => egBytes e.2).foldl (· + ·) 0 + (m.sw.air.map fun f => f.data.length).foldl (· + ·) 0

/-- A frame enters an egress queue, or is dropped at its tail: 256 KiB a queue, 2 MiB in all (R439). -/
def Mod.swPut (m : Mod) (p q : Nat) (f : EgFrame) : Mod :=
  if !m.swPortOn p || decide (262144 < egBytes (m.egq p q) + f.data.length) || decide (2097152 < m.swHeld + f.data.length) then m.inc (R.SW_P_DROP_CNT p)
  else m.setEgq p q (m.egq p q ++ [f])

/-- A frame of the module's own enters a port's queue by priority (R439). -/
def Mod.swSend (m : Mod) (p pcp : Nat) (data : List Byte) : Mod :=
  m.swPut p (m.swQueueOf p pcp) { data := data, inTime := none, inPort := 8 }

end Sys2Proof.Machine
end

