-- ==== Sys2Proof/Machine/MotBase.lean ====
section
/-! DEFINITION. MOT's channels (chapter 08): limits, results, ends of motion, Drop, limit stops, faults, bindings, groups. -/

namespace Sys2Proof.Machine

/-! ## Channels and limits -/

def Mod.mch (m : Mod) (c : Nat) : MotCh := AMap.get (fun _ => MotCh.fresh) m.mot.ch c

def Mod.setMch (m : Mod) (c : Nat) (x : MotCh) : Mod := { m with mot := { m.mot with ch := AMap.put (fun _ => MotCh.fresh) c x m.mot.ch } }

/-- MOT_CH_STAT.STATE (R313): 0 UNBOUND, 1 IDLE, 2 MOVING, 3 HOMING, 4 STOPPING, 5 LIMIT_STOP, 6 DROPPED, 7 RETRY, 8 FAULTED. -/
def Mod.mst (m : Mod) (c : Nat) : Nat := m.fld (F.MOT_CH_STAT_STATE c)

def Mod.setMst (m : Mod) (c st : Nat) : Mod := m.setF (F.MOT_CH_STAT_STATE c) st

/-- MOT plans: enabled, powered, not a warm standby, awake (R332, R353). -/
def Mod.motPlans (m : Mod) : Bool := m.live? 12 && m.on F.MOT_CTL_EN && m.role != 3 && m.awake

/-- MOT's outputs leave the module: not in standby (R332). -/
def Mod.motOut (m : Mod) : Bool := m.live? 12 && m.serves && m.on F.MOT_CTL_EN && m.awake

/-- The channel's velocity limit, whole units: the rover's VMAX, or VMAX held to 8,000,000 steps/s for a LOCAL channel (R310, R338). -/
def Mod.chVmax (m : Mod) (c : Nat) : Nat :=
  let x := m.mch c
  if x.kind = 1 then m.rvVmax x.idx else if x.kind = 2 then min 8000000 (max 1 (m.rd (R.MOT_CH_VMAX c))) else max 1 (m.rd (R.MOT_CH_VMAX c))

def Mod.chAmax (m : Mod) (c : Nat) : Nat := if (m.mch c).kind = 1 then m.rvAmax (m.mch c).idx else max 1 (m.rd (R.MOT_CH_AMAX c))
def Mod.chJmax (m : Mod) (c : Nat) : Nat := max 1 (m.rd (R.MOT_CH_JMAX c))

/-- HEEL_DEC, not below AMAX (R329). -/
def Mod.chHeel (m : Mod) (c : Nat) : Nat := max (m.rd (R.MOT_CH_HEEL_DEC c)) (m.chAmax c)
def Mod.chHeelJ (m : Mod) (c : Nat) : Nat := max 1 (m.rd (R.MOT_CH_HEEL_JERK c))

/-- LIM_DEC, not below HEEL_DEC (R355). -/
def Mod.chLimDec (m : Mod) (c : Nat) : Nat := max (m.rd (R.MOT_CH_LIM_DEC c)) (m.chHeel c)

/-- A command's limit lowered to the channel's; 0 is the channel's (R315, R351). -/
def lowered (cmd lim : Nat) : Nat := if cmd = 0 then lim else min cmd lim

/-- The limits of a channel's move. -/
def Mod.moveLim (m : Mod) (c : Nat) : Lim :=
  let x := m.mch c
  { v := lowered x.vlim (m.chVmax c) * velU.toNat, a := lowered x.alim (m.chAmax c) * accU.toNat, j := lowered x.jlim (m.chJmax c) }

/-- Whole microseconds of the tick so far, and of the whole tick. -/
def Clock.usNow (k : Clock) : Nat := ((k.now - k.tickStart) / (1000 * uPerNs)).toNat
def Clock.usTick (k : Clock) : Nat := ((k.tickEnd - k.tickStart) / (1000 * uPerNs)).toNat

/-- The planned state at the boundary that ends the tick: the origin of a plan made now (R316, R320). -/
def Mod.chNext (m : Mod) (k : Clock) (c : Nat) : Kin × List Seg := advance (m.mch c).segs k.usTick (m.mch c).kin

/-- The planned state at an instant of published time in this tick or the next (R337, R341, R346). -/
def Mod.chAt (m : Mod) (k : Clock) (c : Nat) (t : Int) : Kin :=
  let x := m.mch c
  let tenth := fun (d : Int) => (d * 10 / uPerNs).toNat
  match x.plan with
  | some p => if k.tickEnd ≤ t then kinAt p.segs (tenth (t - k.tickEnd)) p.kin else kinAt x.segs (tenth (t - k.tickStart)) x.kin
  | none => kinAt x.segs (tenth (t - k.tickStart)) x.kin

/-- The planned state now. -/
def Mod.chNow (m : Mod) (k : Clock) (c : Nat) : Kin := m.chAt k c k.now

/-- The channel that drives a rover: the lowest-numbered one bound to it (R311). -/
def Mod.roverCh (m : Mod) (r : Nat) : Option Nat := (m.mot.ch.find? fun e => e.2.kind == 1 && e.2.idx == r).map Prod.fst

/-- A fleet Heel holds the channel at rest (R418); outside RUN it holds every channel (R551). -/
def Mod.fleetHeld (m : Mod) (c : Nat) : Bool :=
  (m.fld F.LEASH_STAT_HEEL_SRC != 0 && ((m.mch c).kind == 1 || (m.on F.LEASH_CTL_HEEL_LOCAL && (m.mch c).kind != 0)))
    || (m.pstate != 0 && (m.mch c).kind != 0)

/-! ## Results (R352) -/

/-- A result of MOT with its 16 bytes. -/
def Mod.motResult (m : Mod) (k : Clock) (h : Handed) (code status ch : Nat) (pos : Int) : Mod :=
  m.result k 12 h.opcode code h.tag h.noResult h.acceptTick (le 2 status ++ le 2 ch ++ le 8 (unsigned 64 pos) ++ le 4 k.tick)

/-- The command that runs on a channel ends. -/
def Mod.motEnd (m : Mod) (k : Clock) (c status : Nat) : Mod :=
  let x := m.mch c
  match x.hdr with
  | none => m
  | some h => (m.setMch c { x with hdr := none }).motResult k h 0 status c (m.chNow k c).pos

/-- A channel is at rest: no Heel is asked for any more, and a HALTED rover's stop has ended (R288, R314, R329). -/
def Mod.restEnd (m : Mod) (c : Nat) : Mod :=
  let x := m.mch c
  let m := (m.setB (F.MOT_CH_STAT_HEEL_REQ c) false).setB (F.MOT_CH_STAT_PENDING_LOWER c) false
  let m := (m.setMch c { x with turn := 0 }).setB (F.MOT_CH_STAT_REVERSING c) false
  if x.kind = 1 then
    let m := m.setB (F.SHEP_RV_STAT_HEEL_REQ x.idx) false
    m.setSrv x.idx { m.srv x.idx with haltDone := true }
  else m

/-! ## Groups (R333 to R336) -/

def Mod.inGroup (m : Mod) (c : Nat) : Bool := m.on (F.MOT_CH_STAT_IN_GROUP c)
def Mod.groupOf (m : Mod) (c : Nat) : Nat := m.fld (F.MOT_CH_STAT_GROUP c)

/-- A group is dissolved. -/
def Mod.groupEnd (m : Mod) (g : Nat) : Mod :=
  match AMap.find m.mot.groups g with
  | none => m
  | some x =>
    let m := m.each x.members fun m e => m.setB (F.MOT_CH_STAT_IN_GROUP e.1) false
    let m : Mod := { m with mot := { m.mot with groups := AMap.del g m.mot.groups } }
    (m.setF (F.MOT_GRP_STAT_STATE g) 0).setF (F.MOT_GRP_STAT_MEMBERS g) x.members.length

/-- A segment of the common coordinate as a member moves it (R334). -/
def scaleSeg (d : Int) (long : Nat) (s : Seg) : Seg :=
  { dur := s.dur, jerk := (2 * s.jerk * d + long) / (2 * long), acc := s.acc.map fun a => a * d / long }

/-- The smallest of a member's figure carried to the common coordinate, over members with d not 0. -/
def groupLim (l : List (Nat × Int)) (long : Nat) (f : Nat → Nat) : Nat :=
  (l.filter fun e => e.2 != 0).foldl (fun b e => let v := f e.1 * long / e.2.natAbs; if b = 0 then v else min b v) 0

/-- The limits of a group's common coordinate from a figure of each member's velocity, acceleration and jerk (R334). -/
def Mod.groupLims (m : Mod) (l : List (Nat × Int)) (long : Nat) : Lim :=
  { v := groupLim l long fun c => m.chVmax c * velU.toNat, a := groupLim l long fun c => m.chAmax c * accU.toNat
    j := max 1 (groupLim l long fun c => m.chJmax c) }

/-- How long a group still waits at rest before its common coordinate moves (R334). -/
def leadWait (x : Kin) : List Seg → Nat
  | s :: _ => if x.v = 0 ∧ x.a = 0 ∧ s.jerk = 0 then s.dur else 0
  | [] => 0

/-- The common coordinate of a group goes on by other segments, from now or from the next boundary, and every member with it; a
plan not yet begun is replaced from its origin, and members still being brought to rest first come to rest (R334, R335). -/
def Mod.groupTurn (m : Mod) (k : Clock) (g status : Nat) (atOnce : Bool) (f : Kin → List Seg) : Mod :=
  match AMap.find m.mot.groups g with
  | none => m
  | some x =>
    let st := if x.status = 0x000B then x.status else status
    let l := x.members.map fun e => (e.1, e.2.1)
    let put := fun (m : Mod) (y : Group) => { m with mot := { m.mot with groups := AMap.ins g { y with status := st } m.mot.groups } }
    match x.plan with
    | some p =>
      let w := leadWait p.kin p.segs
      let new := f p.kin
      let m := put m { x with plan := some { p with segs := holdSegs w ++ new } }
      m.each l fun m e => match (m.mch e.1).plan with
        | some q => m.setMch e.1 { m.mch e.1 with plan := some { q with segs := cutSegs q.segs w ++ new.map (scaleSeg e.2 x.long) } }
        | none => m
    | none =>
      let t := if atOnce then k.usNow else k.usTick
      let (x0, rest) := advance x.segs t x.kin
      let w := leadWait x0 rest
      let new := f x0
      if atOnce then
        let m := put m { x with segs := cutSegs x.segs (t + w) ++ new }
        m.each l fun m e => m.setMch e.1 { m.mch e.1 with segs := cutSegs (m.mch e.1).segs (t + w) ++ new.map (scaleSeg e.2 x.long) }
      else
        let m := put m { x with plan := some { kin := x0, segs := holdSegs w ++ new, rev := false } }
        m.each l fun m e =>
          let (kin, segs) := m.chNext k e.1
          m.setMch e.1 { m.mch e.1 with plan := some { kin := kin, segs := cutSegs segs w ++ new.map (scaleSeg e.2 x.long), rev := false } }

/-- The whole group stops within every member's Heel ramp, at once for a limit or from the next boundary (R335). -/
def Mod.groupStop (m : Mod) (k : Clock) (g status : Nat) (atOnce : Bool) : Mod :=
  match AMap.find m.mot.groups g with
  | none => m
  | some x =>
    let l := x.members.map fun e => (e.1, e.2.1)
    let a := groupLim l x.long fun c => m.chHeel c * accU.toNat
    let j := max 1 (groupLim l x.long fun c => m.chHeelJ c)
    let m := (m.groupTurn k g status atOnce fun x0 => stopSegs x0 a j).setF (F.MOT_GRP_STAT_STATE g) 2
    m.each l fun m e => m.setMst e.1 4

/-- A member faults or drops: the others Heel, and each result carries GROUP_ABORT (R335). The member itself is out of the group. -/
def Mod.groupAbort (m : Mod) (k : Clock) (c : Nat) : Mod :=
  if !m.inGroup c then m
  else
    let g := m.groupOf c
    match AMap.find m.mot.groups g with
    | none => m
    | some x =>
      let others := x.members.filter fun e => e.1 != c
      let m := (m.motResult k x.h 0 0x000B c (m.chNow k c).pos).setB (F.MOT_CH_STAT_IN_GROUP c) false
      let m : Mod := { m with mot := { m.mot with groups := AMap.ins g { x with members := others, status := 0x000B } m.mot.groups } }
      if others.isEmpty then (m.motResult k x.h 0 0x000B 0xFFFF 0).groupEnd g
      else m.each others fun m e => m.setB (F.MOT_CH_STAT_HEEL_REQ e.1) true

/-! ## Drop (R330, R331, R415) -/

/-- The segments of a Drop at an instant: a ramp without jerk limit, or none. -/
def dropSegs (v : Int) (dec : Nat) : List Seg :=
  if dec = 0 ∨ v = 0 then []
  else [{ dur := ceilQ v.natAbs (2 * dec * accU), jerk := 0, acc := some (if 0 < v then -(dec * accU : Int) else (dec * accU : Int)) }]

/-- Motion of a channel ends under Drop, from this instant; no PROFILE message of a rover waits on (R330). -/
def Mod.dropMotion (m : Mod) (k : Clock) (c : Nat) : Mod :=
  let x := m.mch c
  let m : Mod := if x.kind ≠ 1 then m
    else { m with
      mot := { m.mot with toAir := m.mot.toAir.filter fun e => e.1 != x.idx }
      air := { m.air with queue := m.air.queue.filter fun e => !(e.kind == 2 && e.rover == x.idx) } }
  let dec := if x.kind = 1 then 0 else m.rd (R.MOT_CH_DROP_DEC c)
  m.setMch c { x with segs := cutSegs x.segs k.usNow ++ dropSegs (m.chNow k c).v dec, plan := none, turn := 0, homing := none, active := x.kind == 1 && x.active }

/-- Drop of a channel (step 4 of R314): its command ends with DROPPED. -/
def Mod.dropCh (m : Mod) (k : Clock) (c : Nat) : Mod :=
  let st := m.mst c
  if st = 0 ∨ st = 6 ∨ st = 7 ∨ st = 8 then m
  else ((m.motEnd k c 4).dropMotion k c).setMst c 6 |>.setB (F.MOT_CH_STAT_REVERSING c) false

/-- Drop of every bound channel at a trip: each member of a group ends with DROPPED, and its group (R335, R415). -/
def Mod.dropAll (m : Mod) (k : Clock) : Mod :=
  let m := m.each m.mot.groups fun m e =>
    let m := m.each e.2.members fun m x => m.motResult k e.2.h 0 4 x.1 (m.chNow k x.1).pos
    (m.motResult k e.2.h 0 4 0xFFFF 0).groupEnd e.1
  m.each (m.mot.ch.map Prod.fst) fun m c => m.dropCh k c

/-! ## Switch inputs and limits (R340 to R343) -/

def Mod.swin (m : Mod) (i : Nat) : SwIn := AMap.get (fun _ => SwIn.low) m.mot.inp i

def Mod.setSwin (m : Mod) (i : Nat) (x : SwIn) : Mod := { m with mot := { m.mot with inp := AMap.put (fun _ => SwIn.low) i x m.mot.inp } }

/-- FUNC of an input as it acts: NONE for a ROVER or UNBOUND channel and for the reserved values (R340). -/
def Mod.inFunc (m : Mod) (i : Nat) : Nat :=
  let f := m.fld (F.MOT_IN_CTL_FUNC i)
  if f < 5 ∧ 2 ≤ (m.mch (m.fld (F.MOT_IN_CTL_CHANNEL i))).kind then f else 0

/-- An input's function is asserted: its qualified level, or CHATTER for a limit (R342). -/
def Mod.inAsserted (m : Mod) (i : Nat) : Bool :=
  m.on (F.MOT_IN_STAT_LEVEL i) || ((m.inFunc i == 1 || m.inFunc i == 2) && m.on (F.MOT_IN_STAT_CHATTER i))

/-- Some input with a function on a channel is asserted. -/
def Mod.funcOn (m : Mod) (c f : Nat) : Bool :=
  (upto 64).any fun i => m.fld (F.MOT_IN_CTL_CHANNEL i) == c && m.inFunc i == f && m.inAsserted i

/-- The function a homing sequence looks for: HOME, or the limit in its direction (R344). -/
def Homing.target (h : Homing) : Nat := if h.onLimit then (if h.pos then 1 else 2) else 3

/-- The motion of a channel is replaced from this instant by segments. -/
def Mod.replaceNow (m : Mod) (k : Clock) (c : Nat) (l : List Seg) : Mod :=
  m.setMch c { m.mch c with segs := cutSegs (m.mch c).segs k.usNow ++ l, plan := none }

/-- A stop on the limit ramp from this instant, with the STATUS its command is to end with (R343, R345). -/
def Mod.limitRamp (m : Mod) (k : Clock) (c status : Nat) : Mod :=
  let l := stopSegs (advance (m.mch c).segs k.usNow (m.mch c).kin).1 (m.chLimDec c * accU.toNat) (m.chHeelJ c)
  let m := (m.replaceNow k c l).setMst c 5
  m.setMch c { m.mch c with status := status, homing := none, active := false }

/-- Homing is aborted: HOMED clears (R345). -/
def Mod.homeAbort (m : Mod) (k : Clock) (c status : Nat) : Mod := (m.limitRamp k c status).setB (F.MOT_CH_STAT_HOMED c) false

/-- The direction in which the first segment that has a jerk moves a channel at rest. -/
def segDir (l : List Seg) : Int := ((l.find? fun s => s.jerk != 0).map Seg.jerk).getD 0

/-- The direction in which a channel moves, or is about to move where it stands still: by velocity, acceleration, the segments in
force, and the plan that starts at the next boundary (R343). -/
def Mod.chDir (m : Mod) (k : Clock) (c : Nat) : Int :=
  let (x, l) := advance (m.mch c).segs k.usNow (m.mch c).kin
  if x.v ≠ 0 then x.v else if x.a ≠ 0 then x.a else
    let held := match l with | s :: _ => s.jerk == 0 | [] => true
    if !held then segDir l else match (m.mch c).plan with
      | some p => if p.kin.v ≠ 0 then p.kin.v else (match p.segs with | s :: _ => s.jerk | [] => 0)
      | none => 0

/-- A limit is asserted: a channel that moves toward it stops on the limit ramp, homing aborts unless the limit is its target,
and a stop of higher precedence only notes it (R331, R335, R343, R345). -/
def Mod.limitCheck (m : Mod) (k : Clock) (c f : Nat) : Mod :=
  let st := m.mst c
  let v := m.chDir k c
  let toward := (f == 1 && decide (0 < v)) || (f == 2 && decide (v < 0))
  if !m.funcOn c f then m
  else if st = 3 then
    match (m.mch c).homing with
    | some h => if h.target = f then m else (m.homeAbort k c 8).motChEvt c 1
    | none => m
  else if !toward then m
  else if st = 2 then
    if m.inGroup c then (m.groupStop k (m.groupOf c) 7 true).motChEvt c 1 else (m.limitRamp k c 7).motChEvt c 1
  else if st = 4 ∨ st = 6 then m.setB (F.MOT_CH_STAT_PENDING_LOWER c) true
  else m

/-- While a limit is asserted, a channel that comes to move toward it stops (R343); a limit that is the target of homing does not. -/
def Mod.limitLevel (m : Mod) (k : Clock) (c f : Nat) : Mod :=
  let v := m.chDir k c
  let toward := (f == 1 && decide (0 < v)) || (f == 2 && decide (v < 0))
  if toward && m.funcOn c f && (m.mst c == 2 || m.mst c == 3) then m.limitCheck k c f else m

/-- Both limits of a channel. -/
def Mod.limitLevels (m : Mod) (k : Clock) (c : Nat) : Mod := (m.limitLevel k c 1).limitLevel k c 2

/-! ## Faults (R34, R349) -/

/-- A motion channel faults (R314 step 1, R335, R349). -/
def Mod.motFault (m : Mod) (k : Clock) (c : Nat) : Mod :=
  let st := m.mst c
  if 255 < c ∨ st = 8 then m
  else match m.elemJudge k 3 c with
  | (m, .ignored) => m
  | (m, v) =>
    let m := (m.inc (R.MOT_CH_FAULT_CNT c)).motChEvt c 6
    let m := m.setF (F.MOT_CH_STAT_FAULTS c) (min 3 ((m.elemAt 3 c).recent k.tickNo).length)
    let m := (m.groupAbort k c).motEnd k c 4
    let m := m.dropMotion k c
    match v with
    | .retired => ((m.setMst c 8).setBit (R.MOT_RETIRED (c / 32)) (c % 32)).motEvt 2
    | _ => m.setMst c 7

/-- The retry of a channel ends: IDLE with HOMED cleared, at rest where it stands (R314 step 2). -/
def Mod.motRetryEnd (m : Mod) (k : Clock) (c : Nat) : Mod :=
  match m.elemRetryEnd k 3 c with
  | (m, false) => m
  | (m, true) => (m.setMst c (if (m.mch c).kind = 0 then 0 else 1)).setB (F.MOT_CH_STAT_HOMED c) false

/-- A FAULTED channel is re-admitted: UNBOUND (R314 step 3). -/
def Mod.motReadmit (m : Mod) (k : Clock) (c : Nat) : Mod :=
  if m.isRetired 3 c then
    let m := (m.elemReadmit k 3 c).clrBit (R.MOT_RETIRED (c / 32)) (c % 32)
    ((m.setMst c 0).setF (F.MOT_CH_STAT_FAULTS c) 0).setMch c { m.mch c with kind := 0, segs := [], kin := (m.chNow k c).still }
  else m

/-! ## Bindings (R310, R311) -/

/-- Two bindings name the same rover or the same output pair. -/
def sameTarget (k1 i1 k2 i2 : Nat) : Bool := k1 == k2 && (k1 == 1 || k1 == 2) && i1 == i2

/-- A channel becomes bound, or UNBOUND for KIND 0. -/
def Mod.bindTo (m : Mod) (k : Clock) (c kind idx port : Nat) : Mod :=
  let x := m.mch c
  let kin := (m.chNow k c).still
  let m := m.setMch c { x with kind := kind, idx := idx, port := port, kin := kin, segs := [], plan := none, route := [], active := false, pend := none,
                               refused := false, target := kin.pos, step := (2 * kin.p + posU) / (2 * posU), sent := [] }
  (m.setMst c (if kind = 0 then 0 else 1)).setB (F.MOT_CH_STAT_BIND_CONFLICT c) false

/-- MOT_CH_BIND of a channel applies (R311). -/
def Mod.motBind (m : Mod) (k : Clock) (c : Nat) : Mod :=
  let kind := m.fld (F.MOT_CH_BIND_KIND c)
  let idx := m.fld (F.MOT_CH_BIND_INDEX c)
  let port := m.fld (F.MOT_CH_BIND_PORT c)
  let st := m.mst c
  if (st ≠ 0 ∧ st ≠ 1) ∨ (kind = 2 ∧ 31 < idx) ∨ (kind = 3 ∧ 7 < port) then
    let x := m.mch c
    (m.wr (R.MOT_CH_BIND c) (x.kind + x.idx * 256 + x.port * 65536)).motEvt 1
  else
    let clash := m.mot.ch.filter fun e => e.1 != c && sameTarget kind idx e.2.kind e.2.idx
    match clash.find? fun e => decide (e.1 < c) || (m.mst e.1 != 0 && m.mst e.1 != 1) with
    | some _ => ((m.bindTo k c 0 0 0).setB (F.MOT_CH_STAT_BIND_CONFLICT c) true)
    | none =>
      let m := m.each (clash.map Prod.fst) fun m e => (m.bindTo k e 0 0 0).setB (F.MOT_CH_STAT_BIND_CONFLICT e) true
      m.bindTo k c kind idx port

end Sys2Proof.Machine
end

