-- ==== Sys2Proof/Machine/Motion.lean ====
section
/-! DEFINITION. MOT at work (chapter 08): commands, the window, ends of motion, step outputs, switch inputs, homing, setpoint frames. -/

namespace Sys2Proof.Machine

/-! ## Plans and messages (R320, R327) -/

/-- A plan is made: its origin is the next boundary; it is counted (R316, R353, R583). -/
def Mod.setPlan (m : Mod) (c : Nat) (kin : Kin) (segs : List Seg) (rev : Bool) : Mod :=
  let m := m.setMch c { m.mch c with plan := some { kin := kin, segs := segs, rev := rev } }
  (m.inc R.MOT_PLAN_CNT).perfAdd (perfMot 0) 1

/-- The direction in which a plan that turns round moves toward its target: against the motion it starts with (R317). -/
def Plan.turn (p : Plan) : Int :=
  if !p.rev then 0 else if 0 < p.kin.v ∨ (p.kin.v = 0 ∧ 0 < p.kin.a) then -1 else 1

/-- A reversal toward a direction is under way until motion in that direction (R317). -/
def turning (turn : Int) (k : Kin) : Bool := turn != 0 && decide (k.v * turn ≤ 0)

/-- The PROFILE message of a ROVER channel for its motion from the next boundary (R327); shadowed in standby (R332). -/
def Mod.sendProfile (m : Mod) (k : Clock) (c : Nat) : Mod :=
  let x := m.mch c
  if x.kind ≠ 1 ∨ 6 ≤ m.mst c then m
  else
    let (kin, segs) := match x.plan with | some p => (p.kin, p.segs) | none => m.chNext k c
    let (l, final) := profCut segs
    let rev := match x.plan with | some p => p.rev | none => turning x.turn kin
    let d := profBytes x.idx (m.mst c == 4) (m.inGroup c) final rev x.serial x.profSerial ((k.tick + 1) % 4294967296) kin x.stopU l
    let m := m.setMch c { x with profSerial := (x.profSerial + 1) % 65536, profile := d }
    if m.motOut then { m with mot := { m.mot with toAir := m.mot.toAir ++ [(x.idx, d)] } } else m

/-- The chains of a route as legs: entries, ends, and the spans a rover holds on them (R322, R324). -/
def Mod.legsOf (m : Mod) (net : Net) (r origin : Nat) : List (Nat × Bool) → Nat → List Leg
  | [], _ => []
  | e :: l, u =>
    let fin := u + (net.chain e.1).len
    let sp := (m.spansOf r).find? fun x => x.1 / 8 == e.1
    let leg : Leg := { entry := u, fin := fin, held := sp.isSome
                       times := match sp with
                         | some x => if x.2.kind = 0 then some (tickDiff x.2.start origin * 10000, tickDiff x.2.lstart origin * 10000) else none
                         | none => none }
    leg :: Mod.legsOf m net r origin l fin

/-- The position in a route of the chain on which a coordinate lies. -/
def legAt (legs : List Leg) (p : Int) : Nat := (legs.findIdx? fun x => decide (p < mmP x.fin)).getD (legs.length - 1)

/-- Plans a ROVER channel from a state at the origin to its target under the span clamp (R323, R324). -/
def Mod.roverGo (m : Mod) (k : Clock) (net : Net) (c : Nat) (kin : Kin) : Mod :=
  let x := m.mch c
  let origin := (k.tick + 1) % 4294967296
  let legs := m.legsOf net x.idx origin x.route 0
  let cur := legAt legs kin.p
  let lead := if (nth (0, false) x.route cur).2 then m.rvRear x.idx else m.rvFront x.idx
  let total := ((legs.map Leg.fin).getLast?).getD 0
  let lim := (((legs.drop cur).find? fun l => !l.held).map Leg.entry).getD total
  let waitUs := if kin.v = 0 ∧ kin.a = 0 then (max 0 (tickDiff x.dep origin * 10000)).toNat else 0
  let ahead := (legs.filter fun l => decide (kin.p + mmP lead < mmP l.entry)).map fun l =>
    { l with times := l.times.map fun t => (t.1 - waitUs, t.2 - waitUs) }
  let res := clampAll (ofPos x.target) (m.moveLim c) lead lim legs.length kin ahead
  let segs := if waitUs = 0 ∨ res.segs.isEmpty then res.segs else { dur := waitUs, jerk := 0, acc := none } :: res.segs
  let m := m.setMch c { x with stopU := res.stopU, status := if res.clamp then 5 else 0 }
  let m := m.setPlan c kin segs res.rev
  let m := m.when res.missed fun m => m.motChEvt c 2
  if segs.isEmpty then m else m.setMst c 2

/-- A ROVER channel planned to a stop where the ramp of its move ends. -/
def Mod.roverStop (m : Mod) (c : Nat) (kin : Kin) (status : Nat) : Mod :=
  let l := m.moveLim c
  let segs := stopSegs kin l.a l.j
  let m := m.setMch c { m.mch c with status := status }
  let m := m.setPlan c kin segs false
  if segs.isEmpty then m else m.setMst c 2

/-- u of a rover at rest on chain 1 of a route, from its most recent record (R323). -/
def Mod.recordU (m : Mod) (net : Net) (r : Nat) (route : List (Nat × Bool)) : Int :=
  let e := nth (0, false) route 0
  let s := m.rd (R.SHEP_RV_S r)
  mmP (if e.2 then ((net.chain e.1).len : Int) - s else (s : Int))

/-- A moving rover's state in a new route's coordinate: by the chain it stands on (R323). -/
def Mod.reexpress (m : Mod) (net : Net) (r : Nat) (old new : List (Nat × Bool)) (kin : Kin) : Kin :=
  let lo := m.legsOf net r 0 old 0
  let ln := m.legsOf net r 0 new 0
  let i := legAt lo kin.p
  let e := nth (0, false) old i
  let off := kin.p - mmP (((lo.map Leg.entry).getD i 0 : Nat))
  match new.findIdx? fun x => x.1 == e.1 with
  | none => { kin with p := m.recordU net r new }
  | some j =>
    let base := mmP (((ln.map Leg.entry).getD j 0 : Nat))
    if (nth (0, false) new j).2 = e.2 then { kin with p := base + off }
    else { p := base + mmP (net.chain e.1).len - off, v := -kin.v, a := -kin.a : Kin }

/-- A rover that moves against its new route may turn round (R326): the chain allows the new direction, and a span on it holds the
tick of the reversal. -/
def Mod.mayTurn (m : Mod) (k : Clock) (net : Net) (c : Nat) (kin : Kin) : Bool :=
  let x := m.mch c
  let e := nth (0, false) x.route 0
  let l := m.moveLim c
  let at_ : Nat := (k.tick + 1 + segsDur (stopSegs kin l.a l.j) / 10000) % 4294967296
  (net.chain e.1).flags.testBit (if e.2 then 1 else 0) && (m.spansOf x.idx).any fun s => s.1 / 8 == e.1 && s.2.holds at_

/-! ## The window's work (R320) -/

/-- A Heel (R329): from the planned state at the origin along the Heel ramp; at rest it ends at once. -/
def Mod.heelWork (m : Mod) (k : Clock) (c : Nat) : Mod :=
  let st := m.mst c
  let x := m.mch c
  let m := m.setB (F.MOT_CH_STAT_HEEL_REQ c) true
  if st = 6 then m.setB (F.MOT_CH_STAT_PENDING_LOWER c) true
  else if st = 4 then m
  else if m.inGroup c then
    let ms := ((AMap.find m.mot.groups (m.groupOf c)).map fun x => x.members.map Prod.fst).getD []
    (m.groupStop k (m.groupOf c) 3 false).each ms fun m e => (m.setB (F.MOT_CH_STAT_HEEL_REQ e) true).sendProfile k e
  else
    let kin := (m.chNext k c).1
    let running := st == 2 || st == 3 || st == 5
    if !running ∨ (kin.v = 0 ∧ kin.a = 0) then
      let m := if running then
          let m := m.motEnd k c 3
          ((m.setMch c { m.mch c with homing := none, active := x.kind == 1 && x.active }).setPlan c kin [] false).setMst c 1
        else m
      (m.restEnd c).sendProfile k c
    else
      let m := m.setMch c { x with status := if x.status = 0x000A then 0x000A else 3, homing := none, active := x.kind == 1 && x.active }
      ((m.setMst c 4).setPlan c kin (stopSegs kin (m.chHeel c * accU.toNat) (m.chHeelJ c)) false).sendProfile k c

/-- A target held to the software limits, for channels with SLIM_EN that drive no rover (R355). -/
def Mod.softLimit (m : Mod) (c : Nat) (t : Int) : Int :=
  if m.on (F.MOT_CH_CTL_SLIM_EN c) && (m.mch c).kind != 1 then
    max (m.rdI (R.MOT_CH_SLIM_NEG c) * 65536) (min (m.rdI (R.MOT_CH_SLIM_POS c) * 65536) t)
  else t

/-- STOP_U of a rover's channel at a position on its route, in 2^-16 mm (R324, R327). -/
def Mod.spanStop (m : Mod) (k : Clock) (net : Net) (c : Nat) (p : Int) : Int :=
  let x := m.mch c
  let legs := m.legsOf net x.idx ((k.tick + 1) % 4294967296) x.route 0
  let cur := legAt legs (ofPos p)
  let lead := if (nth (0, false) x.route cur).2 then m.rvRear x.idx else m.rvFront x.idx
  let total := ((legs.map Leg.fin).getLast?).getD 0
  ((((((legs.drop cur).find? fun l => !l.held).map Leg.entry).getD total : Nat) : Int) - lead) * 65536

/-- How far along 0 to D a member's clamp lets the group go (R324, R335): STOP_U of a ROVER member, the software limits of others. -/
def Mod.memberReach (m : Mod) (k : Clock) (net : Net) (c : Nat) (p d : Int) (long : Nat) : Int :=
  if d = 0 then long
  else if (m.mch c).kind = 1 then
    if 0 < d then min (long : Int) (max 0 ((m.spanStop k net c p - p) * long / d)) else long
  else
    let t := m.softLimit c (p + d)
    min (long : Int) (max 0 ((t - p) * long / d))

/-- A group whose member's spans changed goes no further than the member's clamp now lets it (R324, R335). -/
def Mod.groupSpans (m : Mod) (k : Clock) (net : Net) (g : Nat) : Mod :=
  match AMap.find m.mot.groups g with
  | none => m
  | some x =>
    let fin := match x.plan with | some p => endKin p.segs p.kin | none => endKin x.segs x.kin
    let reach := x.members.foldl (fun b e => min b (m.memberReach k net e.1 e.2.2 e.2.1 x.long)) (x.long : Int)
    if fin.p ≤ ofPos reach ∨ m.fld (F.MOT_GRP_STAT_STATE g) ≠ 1 then m
    else
      let l := m.groupLims (x.members.map fun e => (e.1, e.2.1)) x.long
      let turn := fun (x0 : Kin) => if ofPos reach ≤ x0.p then stopSegs x0 l.a l.j else (planSafe x0 (ofPos reach) l).1
      let m := m.each (x.members.map Prod.fst) fun m c => m.when ((m.mch c).kind == 1) fun m =>
        m.setMch c { m.mch c with stopU := m.spanStop k net c (m.chNext k c).1.pos }
      (m.groupTurn k g 5 false turn).each (x.members.map Prod.fst) fun m c => m.sendProfile k c

/-- A rover whose spans changed is planned again where it moves (R320). -/
def Mod.spansWork (m : Mod) (k : Clock) (net : Net) (c : Nat) : Mod :=
  if m.inGroup c then m.groupSpans k net (m.groupOf c)
  else if m.mst c = 2 ∧ (m.mch c).kind = 1 ∧ m.inGroup c = false ∧ (m.mch c).refused = false then
    (m.roverGo k net c (m.chNext k c).1).sendProfile k c
  else m

/-- A grant reaches MOT (R323, R326); a stale one is passed over (R275), and one that comes during a stop waits for the refresh that
follows it (R331, R415). -/
def Mod.grantWork (m : Mod) (k : Clock) (net : Net) (g : Grant) : Mod :=
  match m.roverCh g.rover with
  | none => m
  | some c =>
    let st := m.mst c
    let x := m.mch c
    let serial := match x.pend with | some p => p.serial | none => x.serial
    if st = 0 ∨ st = 8 ∨ (x.route.isEmpty = false ∧ signed 16 (unsigned 16 ((g.serial : Int) - serial)) ≤ 0) then m
    else if 3 ≤ st ∨ m.inGroup c then m.setMch c { x with pend := some g }
    else
      let m := m.motEnd k c 2
      let x := { m.mch c with pend := none }
      let kin := (m.chNext k c).1
      let rest := kin.v = 0 ∧ kin.a = 0
      let kin := if rest then { p := m.recordU net g.rover g.chains, v := 0, a := 0 } else m.reexpress net g.rover x.route g.chains kin
      let total : Nat := (g.chains.map fun e => (net.chain e.1).len).foldl (fun (a b : Nat) => a + b) 0
      let last := (net.chain (g.chains.getLast?.getD (0, false)).1).len
      let m := m.setMch c { x with route := g.chains, serial := g.serial, dep := g.dep, vcap := g.vcap, vlim := g.vcap, alim := 0, jlim := 0,
                                   active := true, refused := false, target := (2 * (total : Int) - last) * 32768 }
      let m := if m.fleetHeld c then m.roverStop c kin 3
        else if kin.v < 0 ∧ m.mayTurn k net c kin = false then
          ((m.setMch c { m.mch c with refused := true, stopU := kin.pos }).roverStop c kin 6).motChEvt c 3
        else m.roverGo k net c kin
      m.sendProfile k c

/-- Why a MOVE to a channel is refused (R319, R343, R352); none when it is not. -/
def Mod.moveRefused (m : Mod) (c : Nat) : Option Nat :=
  let st := m.mst c
  if st = 0 ∨ st = 8 then some 0x102
  else if 3 ≤ st ∨ m.inGroup c then some 0x103
  else if (m.mch c).kind = 1 ∧ (m.rvState (m.mch c).idx ≠ 3 ∨ (m.mch c).route.isEmpty = true) then some 0x106
  else none

/-- A MOVE is planned (R315, R318, R319, R343). -/
def Mod.moveWork (m : Mod) (k : Clock) (net : Net) (h : Handed) (c : Nat) (rel : Bool) (t : Int) (vmax amax jmax : Nat) : Mod :=
  let kin := (m.chNext k c).1
  let goal := m.softLimit c (if rel then kin.pos + t else t)
  match m.moveRefused c with
  | some code => m.motResult k h code 0 c kin.pos
  | none =>
    if (m.funcOn c 1 && decide (kin.pos < goal)) || (m.funcOn c 2 && decide (goal < kin.pos)) then m.motResult k h 0x104 0 c kin.pos
    else if m.fleetHeld c then m.motResult k h 0 3 c kin.pos
    else
      let m := m.motEnd k c 2
      let zero := goal = kin.pos ∧ kin.v = 0 ∧ kin.a = 0
      let m := m.setMch c { m.mch c with hdr := some h, status := if zero then 1 else 0, vlim := vmax, alim := amax, jlim := jmax, active := true,
                                         target := goal, refused := false, dep := (k.tick + 1) % 4294967296 }
      if zero then m.setMst c 1
      else if (m.mch c).kind = 1 then (m.roverGo k net c kin).sendProfile k c
      else
        let p := planTo kin (ofPos goal) (m.moveLim c)
        (m.setPlan c kin p.1 p.2).setMst c 2

/-- Motion at a constant speed, up to it at AMAX and JMAX, until an edge ends it (R344). -/
def Mod.runAt (m : Mod) (c : Nat) (v : Int) : List Seg :=
  velSegs 0 0 (v * velU) (m.chAmax c * accU.toNat) (m.chJmax c) ++ [{ dur := 4294967295, jerk := 0, acc := none }]

/-- A HOME is planned (R344). -/
def Mod.homeWork (m : Mod) (k : Clock) (h : Handed) (c : Nat) (pos onLimit : Bool) (speed : Nat) (ofs : Int) : Mod :=
  let kin := (m.chNext k c).1
  let st := m.mst c
  let res := fun (m : Mod) code status => m.motResult k h code status c kin.pos
  if (m.mch c).kind = 1 then res m 0x101 0
  else if st = 0 ∨ st = 8 then res m 0x102 0
  else if st ≠ 1 then res m 0x103 0
  else if m.fleetHeld c then res m 0 3
  else
    let v : Int := min (max 1 speed) (m.chVmax c)
    let v := if pos then v else -v
    let hm : Homing := { pos := pos, onLimit := onLimit, speed := v.natAbs, ofs := ofs, phase := 2, from_ := kin.p }
    let off := m.funcOn c hm.target
    let hm := if off then { hm with phase := 0 } else hm
    let m := m.setMch c { m.mch c with hdr := some h, status := 0, homing := some hm, active := true }
    (m.setPlan c kin (m.runAt c (if off then -v else v)) false).setMst c 3

/-- Why a CONVOY is refused: GROUP_BUSY, UNBOUND, BUSY, NOT_ROUTED (R333, R352). -/
def Mod.convoyRefused (m : Mod) (g : Nat) (l : List (Nat × Int)) : Option Nat :=
  if (AMap.find m.mot.groups g).isSome then some 0x105
  else if l.any fun e => m.mst e.1 == 0 || m.mst e.1 == 8 then some 0x102
  else if l.any fun e => decide (3 ≤ m.mst e.1) || m.inGroup e.1 then some 0x103
  else if l.any fun e => (m.mch e.1).kind == 1 && (m.rvState (m.mch e.1).idx != 3 || (m.mch e.1).route.isEmpty) then some 0x106
  else none

/-- A CONVOY is planned (R333 to R335). -/
def Mod.convoyWork (m : Mod) (k : Clock) (net : Net) (h : Handed) (g : Nat) (l : List (Nat × Int)) : Mod :=
  let all := fun (m : Mod) code status => (m.each l fun m e => m.motResult k h code status e.1 (m.chNow k e.1).pos).motResult k h code status 0xFFFF 0
  match m.convoyRefused g l with
  | some code => m.motResult k h code 0 0xFFFF 0
  | none =>
    if l.any fun e => m.fleetHeld e.1 then all m 0 3
    else
      let m := m.each l fun m e => m.motEnd k e.1 2
      let long := l.foldl (fun b e => max b e.2.natAbs) 0
      let stops := l.map fun e =>
        let kin := (m.chNext k e.1).1
        let s := stopSegs kin (m.chAmax e.1 * accU.toNat) (m.chJmax e.1)
        (e, kin, s, (endKin s kin).still)
      let wait := stops.foldl (fun b s => max b (segsDur s.2.2.1)) 0
      let lim := m.groupLims l long
      let reach := stops.foldl (fun b s => min b (m.memberReach k net s.1.1 s.2.2.2.pos s.1.2 long)) (long : Int)
      let x0 : Kin := { p := 0, v := 0, a := 0 }
      let xs := if reach ≤ 0 then [] else (planTo x0 (ofPos reach) lim).1
      let grp : Group := { h := h, members := stops.map fun s => (s.1.1, s.1.2, s.2.2.2.pos), long := long, kin := x0, segs := []
                           plan := some { kin := x0, segs := holdSegs wait ++ xs, rev := false }
                           status := if long = 0 then 1 else if reach < long then 5 else 0 }
      let m : Mod := { m with mot := { m.mot with groups := AMap.ins g grp m.mot.groups } }
      let m := (m.setF (F.MOT_GRP_STAT_STATE g) 1).setF (F.MOT_GRP_STAT_MEMBERS g) l.length
      m.each stops fun m s =>
        let c := s.1.1
        let segs := s.2.2.1 ++ holdSegs (wait - segsDur s.2.2.1) ++ (if long = 0 then [] else xs.map (scaleSeg s.1.2 long))
        let m := (m.setB (F.MOT_CH_STAT_IN_GROUP c) true).setF (F.MOT_CH_STAT_GROUP c) g
        let m := m.setMch c { m.mch c with hdr := none, status := 0, active := true, target := s.2.2.2.pos + s.1.2 }
        let m := m.when ((m.mch c).kind == 1) fun m => m.setMch c { m.mch c with stopU := m.spanStop k net c s.2.2.2.pos }
        ((m.setPlan c s.2.1 segs false).setMst c 2).sendProfile k c

/-- A refresh (R320): a ROUTED rover takes a grant that waited, or is planned again; one that is stopping, HALTED or in a group
repeats its plan. -/
def Mod.refreshWork (m : Mod) (k : Clock) (net : Net) (c : Nat) : Mod :=
  let x := m.mch c
  let st := m.mst c
  let takes := m.rvState x.idx == 3 && (st == 1 || st == 2) && !m.inGroup c
  match if takes then x.pend else none with
  | some g => Mod.grantWork (m.setMch c { x with pend := none }) k net g
  | none =>
  if m.rvState x.idx = 3 ∧ (st = 1 ∨ st = 2) ∧ x.active ∧ x.refused = false ∧ m.inGroup c = false ∧ m.fleetHeld c = false then
    (m.roverGo k net c (m.chNext k c).1).sendProfile k c
  else m.sendProfile k c

/-- One piece of a window's work (R320). -/
def Mod.motDo (m : Mod) (k : Clock) (net : Net) : MotWork → Mod
  | .heel c => m.heelWork k c
  | .spans c => m.spansWork k net c
  | .grant g => m.grantWork k net g
  | .refresh c => m.refreshWork k net c
  | .cmd p =>
    match p.cmd with
    | .move c rel t v a j _ => m.moveWork k net p.h c rel t v a j
    | .convoy g _ l => m.convoyWork k net p.h g l
    | .home c pos onL v ofs => m.homeWork k p.h c pos onL v ofs
    | .done code status c q => m.motResult k p.h code status c q
    | _ => m

/-- A command that was settled at its latch: only its result is left, and no plan is made for it. -/
def MotWork.free : MotWork → Bool
  | .cmd p => (match p.cmd with | .done .. => true | _ => false)
  | _ => false

/-- The work that one window takes, at most `n` plans, and the rest (R320). -/
def takeWork : Nat → List MotWork → List MotWork × List MotWork
  | _, [] => ([], [])
  | n, w :: t =>
    if w.free then let r := takeWork n t; (w :: r.1, r.2)
    else match n with
      | 0 => ([], w :: t)
      | n' + 1 => let r := takeWork n' t; (w :: r.1, r.2)

/-- START_TICK of a command; 0 is the next origin (R351). -/
def MotCmd.start : MotCmd → Nat
  | .move _ _ _ _ _ _ s => s
  | .convoy _ s _ => s
  | _ => 0

/-- Channels that have a Heel to plan (R320 order 1, R418). -/
def Mod.heelList (m : Mod) : List Nat :=
  (m.mot.ch.filter fun e =>
    m.on (F.MOT_CH_STAT_HEEL_REQ e.1) || (e.2.kind == 1 && m.on (F.SHEP_RV_STAT_HEEL_REQ e.2.idx)) || (m.fleetHeld e.1 && (m.mst e.1 == 2 || m.mst e.1 == 3))).map Prod.fst

/-- Rovers to refresh in a tick of this phase (R320 order 5). -/
def Mod.refreshList (m : Mod) (phase : Nat) : List Nat :=
  ((m.mot.ch.filter fun e => e.2.kind == 1 && e.2.idx % 10 == phase && (m.rvState e.2.idx == 3 || m.rvState e.2.idx == 4)
    && decide (1 ≤ m.mst e.1) && decide (m.mst e.1 < 6)).mergeSort fun a b => decide (a.2.idx ≤ b.2.idx)).map Prod.fst

/-- The window: work in order, at most 512 plans, the rest for the next one (R320, R321). -/
def Mod.motWindow (m : Mod) (k : Clock) (i : MotIn) : Mod :=
  match m.shep.active with
  | none => go { serial := 0, minVer := 0, keyId := 0, base := (0, 0, 0), baseTol := 0, chains := [], nodes := [], conf := [], vtx := [], perch := [], dist := [] }
  | some n => go n
where
  go (net : Net) : Mod :=
    let origin := (k.tick + 1) % 4294967296
    let ready := fun (p : MotPend) => p.cmd.start == 0 || decide (tickDiff p.cmd.start origin ≤ 0)
    let due := (m.mot.later ++ m.mot.due).filter ready
    let spans := m.mot.spans.filterMap fun r => m.roverCh r
    let work := m.heelList.map MotWork.heel ++ spans.map MotWork.spans ++ m.shep.toMot.map MotWork.grant ++ due.map MotWork.cmd
      ++ (m.refreshList k.phase).map MotWork.refresh ++ m.mot.carried
    let r := takeWork (min 512 i.plans) work
    let rest := r.2
    let m : Mod := { m with
      shep := { m.shep with toMot := [] }
      mot := { m.mot with
        due := [], later := (m.mot.later ++ m.mot.due).filter fun p => !ready p
        carried := rest.filter fun w => match w with | .grant _ => true | .cmd _ => true | _ => false
        spans := rest.filterMap fun w => match w with | .spans c => some (m.mch c).idx | _ => none
        winTick := some k.tickNo, cut := i.cut, endNs := i.endNs, toAir := [] } }
    (m.each r.1 fun m w => m.motDo k net w).setB F.MOT_STAT_WINDOW_BUSY true

/-- The window ends: plans in progress are discarded and counted (R321, R353). -/
def Mod.motWindowEnd (m : Mod) (k : Clock) : Mod :=
  if !m.on F.MOT_STAT_WINDOW_BUSY then m
  else
    let n := m.mot.cut
    let m := (m.setB F.MOT_STAT_WINDOW_BUSY false).setF F.MOT_LAST_END_END (if n = 0 then min 0xFFFFFF m.mot.endNs else 0xFFFFFF)
    let m := m.setF F.MOT_LAST_END_DISCARDED (min 255 n)
    let m : Mod := { m with mot := { m.mot with cut := 0 } }
    if n = 0 then m else (m.motEvt 0).overrun k 12 R.MOT_OVR_CNT (perfMot 1) n

/-! ## The boundary -/

/-- A channel's planned motion has come to its end. -/
def Mod.chDone (m : Mod) (k : Clock) (c : Nat) : Bool :=
  let x := m.mch c
  x.plan.isNone && decide (segsDur x.segs ≤ k.usNow) && !m.inGroup c

/-- The end of a move or of homing (R314 step 11, R318). -/
def Mod.moveEnd (m : Mod) (k : Clock) (c : Nat) : Mod :=
  let x := m.mch c
  let st := m.mst c
  if !m.chDone k c then m
  else if st = 1 ∧ x.hdr.isSome ∧ k.usNow = 0 then m.motEnd k c x.status
  else if st = 2 then
    let m := ((m.setMst c 1).motEnd k c x.status).restEnd c
    let m := (m.motChEvt c 0).inc (R.MOT_CH_MOVE_CNT c)
    m.setMch c { m.mch c with active := x.kind == 1 }
  else if st = 3 then
    match x.homing with
    | some h => if h.phase = 3 then
        let m := ((m.setMst c 1).motEnd k c x.status).restEnd c
        (m.setMch c { m.mch c with homing := none, active := false }).motChEvt c 5
      else m
    | none => m
  else m

/-- A Heel or a limit stop has come to rest: IDLE (R314 step 8, R329). -/
def Mod.stopEnd (m : Mod) (k : Clock) (c : Nat) : Mod :=
  let st := m.mst c
  if m.chDone k c && (st == 4 || st == 5) then (((m.setMst c 1).motEnd k c (m.mch c).status).restEnd c) else m

/-- A group completes at a boundary at which its plan has ended (R336). -/
def Mod.groupDone (m : Mod) (k : Clock) (g : Nat) (x : Group) : Mod :=
  if x.plan.isSome ∨ x.segs.isEmpty = false ∨ (x.members.any fun e => (m.mch e.1).plan.isSome || !(m.mch e.1).segs.isEmpty) then m
  else
    let m := m.each x.members fun m e =>
      let c := e.1
      let moved := m.mst c == 2 && x.long != 0
      let m := m.motResult k x.h 0 x.status c (m.mch c).kin.pos
      let m := (m.setMst c 1).restEnd c
      let m := m.setMch c { m.mch c with active := (m.mch c).kind == 1 }
      m.when moved fun m => (m.motChEvt c 0).inc (R.MOT_CH_MOVE_CNT c)
    (m.motResult k x.h 0 x.status 0xFFFF 0).groupEnd g

/-- The registers of a channel at the boundary (R312, R355). -/
def Mod.chShow (m : Mod) (c : Nat) : Mod :=
  let x := m.mch c
  let p := unsigned 64 x.kin.pos
  let t := unsigned 64 x.target
  let m := (m.wr (R.MOT_CH_POS_LO c) (p % 4294967296)).wr (R.MOT_CH_POS_HI c) (p / 4294967296)
  let m := m.wrI (R.MOT_CH_VEL c) x.kin.vel
  let m := (m.wr (R.MOT_CH_TARGET_LO c) (t % 4294967296)).wr (R.MOT_CH_TARGET_HI c) (t / 4294967296)
  let s := (m.srv x.idx)
  if x.kind = 1 ∧ m.mst c = 1 ∧ s.haltDone = false then m.setSrv x.idx { s with haltDone := true } else m

/-- A channel moves on by a tick of `us` µs; a plan made in the window takes over (R316, R320); REVERSING shows a reversal (R317). -/
def Mod.chTick (m : Mod) (us : Nat) (c : Nat) : Mod :=
  let x := m.mch c
  let y : MotCh := match x.plan with
    | some p => { x with kin := p.kin, segs := p.segs, plan := none, turn := p.turn }
    | none => let r := advance x.segs us x.kin; { x with kin := r.1, segs := r.2 }
  let on := turning y.turn y.kin
  (m.setMch c (if on then y else { y with turn := 0 })).setB (F.MOT_CH_STAT_REVERSING c) on

/-- MOT at a tick boundary, after a tick of `us` µs: `k` is the clock of the tick that begins. -/
def Mod.motPublish (m : Mod) (k : Clock) (us : Nat) : Mod :=
  if !m.blkOn 12 then m
  else
    let cs := m.mot.ch.map Prod.fst
    let m := m.each cs fun m c => m.chTick us c
    let gs := m.mot.groups.map fun e => (e.1, match e.2.plan with
      | some p => { e.2 with kin := p.kin, segs := p.segs, plan := none }
      | none => let r := advance e.2.segs us e.2.kin; { e.2 with kin := r.1, segs := r.2 })
    let m : Mod := { m with mot := { m.mot with groups := gs } }
    let m := m.each gs fun m e => m.groupDone k e.1 e.2
    let m := m.each cs fun m c => m.limitLevels k c
    m.each cs fun m c => ((m.moveEnd k c).stopEnd k c).chShow c

/-- Whether a later command for the same channel supersedes this one at the same latch (R319). -/
def MotCmd.chan : MotCmd → Option Nat
  | .move c _ _ _ _ _ _ => some c
  | .home c _ _ _ _ => some c
  | _ => none

/-- A command settled at its latch: its result waits for the window, in its place in ring order (R117). -/
def Mod.motSettle (m : Mod) (h : Handed) (code status c : Nat) (pos : Int) : Mod :=
  { m with mot := { m.mot with due := m.mot.due ++ [{ cmd := .done code status c pos, h := h }] } }

/-- A command applies at its latch (R26, R351): HALT, SET_POS and CLEAR at once, the others in the window. -/
def Mod.motApply (m : Mod) (k : Clock) (p : MotPend) : Mod :=
  let res := fun (m : Mod) code c => m.motSettle p.h code 0 c (m.chNow k c).pos
  match p.cmd with
  | .halt c =>
    if c = 0xFFFF then
      let m := m.each (m.mot.ch.map Prod.fst) fun m c => if m.mst c = 0 ∨ m.mst c = 8 then m else m.setB (F.MOT_CH_STAT_HEEL_REQ c) true
      m.motSettle p.h 0 0 0xFFFF 0
    else if m.mst c = 0 ∨ m.mst c = 8 then res m 0x102 c
    else res (m.setB (F.MOT_CH_STAT_HEEL_REQ c) true) 0 c
  | .setPos c q =>
    if (m.mch c).kind = 1 then res m 0x101 c
    else if m.mst c = 0 ∨ m.mst c = 8 then res m 0x102 c
    else if m.mst c ≠ 1 then res m 0x103 c
    else
      let kin : Kin := { p := ofPos q, v := 0, a := 0 }
      let m := m.setMch c { m.mch c with kin := kin, segs := [], plan := none, target := q, step := (2 * kin.p + posU) / (2 * posU) }
      res ((m.setB (F.MOT_CH_STAT_HOMED c) true).chShow c) 0 c
  | .clear c =>
    if m.mst c = 0 ∨ m.mst c = 8 then res m 0x102 c
    else if m.fld F.LEASH_STAT_STATE ≠ 2 ∨ (m.chNow k c).v ≠ 0 then res m 0x107 c
    else if m.mst c = 6 then
      res ((m.setMst c 1).setB (F.MOT_CH_STAT_PENDING_LOWER c) false) 0 c
    else res m 0 c
  | cmd =>
    let due := match cmd.chan with
      | none => m.mot.due
      | some c => m.mot.due.map fun (q : MotPend) =>
        if q.cmd.chan == some c && q.h.acceptTick == p.h.acceptTick then { q with cmd := .done 0 2 c (m.chNow k c).pos } else q
    { m with mot := { m.mot with due := due ++ [p] } }

/-- MOT at the latch of a tick: commands apply, rovers whose spans changed are noted (R26, R320). -/
def Mod.motLatch (m : Mod) (k : Clock) : Mod :=
  if !m.blkOn 12 then m
  else
    let cmds := m.mot.cmds
    let new := m.shep.spanChanged.filter fun r => !m.mot.spans.contains r
    let m : Mod := { m with mot := { m.mot with cmds := [], spans := m.mot.spans ++ new, toAir := [] } }
    m.each cmds fun m p => m.motApply k p

/-! ## Commands (R351) -/

/-- MOT works: started, powered. -/
def Mod.motUp (m : Mod) : Bool := m.live? 12

/-- A command is accepted, to apply at its first latch; one whose fields are wrong is settled, and answers in its place (R117). -/
def Mod.motTake (m : Mod) (k : Clock) (h : Hdr) (opcode : Nat) (bad : Bool) (c : Nat) (cmd : MotCmd) : Mod :=
  let hd : Handed := { block := 12, opcode := opcode, tag := h.tag, noResult := h.noResult, acceptTick := k.tick }
  if !m.motUp then m
  else { m with mot := { m.mot with cmds := m.mot.cmds ++ [{ cmd := if bad then .done 0x101 0 c 0 else cmd, h := hd }] } }

/-! ## Step outputs (R337 to R339) -/

/-- Step pulse and set-up figures in ns, as they act (R338). -/
def Mod.stepW (m : Mod) (c : Nat) : Nat := min 60 (max 10 (m.fld (F.MOT_CH_STEP_CFG_STEP_W c)))
def Mod.dirSu (m : Mod) (c : Nat) : Nat := min 1000 (m.fld (F.MOT_CH_STEP_CFG_DIR_SU c))

/-- The step count that follows the count `s` at a position: ties keep the previous count (R337). -/
def stepTo (s p : Int) : Int := if (2 * s + 1) * posU < 2 * p then s + 1 else if 2 * p < (2 * s - 1) * posU then s - 1 else s

/-- The planned position has crossed a half-step: one edge, unless the direction must first be set up (R337, R338). -/
def Mod.stepEdge (m : Mod) (k : Clock) (c : Nat) : Mod :=
  let m := m.limitLevels k c
  let x := m.mch c
  let s := stepTo x.step (m.chNow k c).p
  if x.kind ≠ 2 ∨ s = x.step then m
  else if !(m.motOut && m.on F.BRACE_STAT_GATE_OPEN) then m.setMch c { x with step := s }
  else
    let dir := decide (x.step < s)
    let early := match x.edgeAt with
      | some r => dir != x.dir && decide (k.raw < r + ((m.stepW c + m.dirSu c) * 5 + 3) / 4)
      | none => false
    if early then m.setB (F.MOT_CH_STAT_DIR_DELAYED c) true
    else
      let m := m.setMch c { x with step := s, dir := dir, edgeAt := some k.raw }
      (m.perfAdd (perfMot 2) 1).emit (.stepEdge x.idx (dir != m.on (F.MOT_CH_CTL_DIR_INV c)))

/-- Steps emitted are compared with the step count: more than one apart is a fault (R339). -/
def Mod.stepTrack (m : Mod) (k : Clock) (c : Nat) : Mod :=
  let x := m.mch c
  let d := 2 * (m.chNow k c).p - 2 * x.step * posU
  if x.kind = 2 ∧ m.motOut ∧ 3 * posU < d.natAbs ∧ m.mst c < 7 then m.motFault k c else m

/-! ## Switch inputs (R341 to R345) -/

/-- A homing sequence meets an edge of its target: it moves on (R344). -/
def Mod.homeEdge (m : Mod) (k : Clock) (c : Nat) (h : Homing) (asserted : Bool) (at_ : Int) : Mod :=
  let x := m.mch c
  let now := (advance x.segs k.usNow x.kin).1
  let v : Int := if h.pos then (h.speed : Int) else -(h.speed : Int)
  if h.phase = 0 ∧ asserted = false then
    let stop := stopSegs now (m.chAmax c * accU.toNat) (m.chJmax c)
    let m := m.replaceNow k c (stop ++ m.runAt c v)
    m.setMch c { m.mch c with homing := some { h with phase := 2, from_ := (endKin stop now).p } }
  else if h.phase = 2 ∧ asserted = true then
    let dec := if h.onLimit then m.chLimDec c else m.chAmax c
    let stop := stopSegs now (dec * accU.toNat) (if h.onLimit then m.chHeelJ c else m.chJmax c)
    let m := m.replaceNow k c stop
    let shift := ofPos h.ofs - at_
    let x := m.mch c
    let m := m.setMch c { x with homing := some { h with phase := 3 }, status := 0, kin := { x.kin with p := x.kin.p + shift }
                                 step := (2 * (now.p + shift) + posU) / (2 * posU) }
    m.setB (F.MOT_CH_STAT_HOMED c) true
  else m

/-- A limit that has come to be asserted acts on its channel (R343, R345). -/
def Mod.inputActs (m : Mod) (k : Clock) (i : Nat) : Mod :=
  let f := m.inFunc i
  if f = 1 ∨ f = 2 then m.limitCheck k (m.fld (F.MOT_IN_CTL_CHANNEL i)) f else m

/-- An edge qualifies (R341): level, timestamp, latched position, and what its function does. -/
def Mod.inputQualify (m : Mod) (k : Clock) (i : Nat) : Mod :=
  let x := m.swin i
  let f := m.inFunc i
  let c := m.fld (F.MOT_IN_CTL_CHANNEL i)
  let filt := (m.fld (F.MOT_IN_CTL_FILT i) * 25 + 1) / 2
  match x.away with
  | none => m
  | some (_, t, p) =>
    if x.raw = x.qual ∨ k.raw < x.lastAt + filt ∨ (m.on (F.MOT_IN_STAT_CHATTER i) && (f == 3 || f == 4)) then m
    else
      let m := m.setSwin i { x with qual := x.raw, away := none }
      let lvl := x.raw != m.on (F.MOT_IN_CTL_POL i)
      let m := ((m.setB (F.MOT_IN_STAT_LEVEL i) lvl).incF (F.MOT_IN_STAT_EDGES i)).wr (R.MOT_IN_EDGE_NS i) (Clock.word t)
      if f = 0 then m
      else
        let pos := unsigned 64 (p * 65536 / posU)
        let m := (m.wr (R.MOT_CH_LATCH_LO c) (pos % 4294967296)).wr (R.MOT_CH_LATCH_HI c) (pos / 4294967296)
        let m := m.wr (R.MOT_CH_LATCH_NS c) (Clock.word t)
        let m := m.setMch c { m.mch c with latchNs := Clock.fullNs t, latchIn := i, latchFn := f }
        let m := m.when (f == 4) fun m => m.motChEvt c 4
        match (m.mch c).homing with
        | some h => if m.mst c = 3 ∧ h.target = f then m.homeEdge k c h lvl p else m.inputActs k i
        | none => m.inputActs k i

/-- More than CHAT_N transitions within CHAT_WIN: CHATTER (R342); a HOME input in homing aborts it (R345). -/
def Mod.chatterStart (m : Mod) (k : Clock) (i : Nat) : Mod :=
  let x := m.swin i
  if m.on (F.MOT_IN_STAT_CHATTER i) ∨ x.moves.length ≤ max 1 (m.fld (F.MOT_IN_CHAT_CHAT_N i)) then m
  else
    let m := (m.setB (F.MOT_IN_STAT_CHATTER i) true).motEvt 3
    let c := m.fld (F.MOT_IN_CTL_CHANNEL i)
    let f := m.inFunc i
    match (m.mch c).homing with
    | some h =>
      if m.mst c = 3 ∧ f = 3 ∧ h.onLimit = false then m.homeAbort k c 9
      else if m.mst c = 3 ∧ (f = 1 ∨ f = 2) ∧ h.target = f then m
      else m.inputActs k i
    | none => m.inputActs k i

/-- A transition on a pin (R341, R342). -/
def Mod.inputEdge (m : Mod) (k : Clock) (i : Nat) (level : Bool) : Mod :=
  let x := m.swin i
  if x.raw = level then m
  else
    let m := m.putBit (if i < 32 then R.MOT_IN_LEVEL0 else R.MOT_IN_LEVEL1) (i % 32) level
    let c := m.fld (F.MOT_IN_CTL_CHANNEL i)
    let filt := (m.fld (F.MOT_IN_CTL_FILT i) * 25 + 1) / 2
    let win := msRaw (max 1 (m.fld (F.MOT_IN_CHAT_CHAT_WIN i)))
    let held := x.raw == x.qual && decide (x.lastAt + filt ≤ k.raw)
    let away := if level = x.qual then x.away
      else match x.away with
        | some a => if held then some (k.raw, k.now, (m.chNow k c).p) else some a
        | none => some (k.raw, k.now, (m.chNow k c).p)
    let moves := (x.moves.filter fun r => decide (k.raw ≤ r + win)) ++ [k.raw]
    let m := m.setSwin i { x with raw := level, lastAt := k.raw, away := away, moves := moves }
    let m := m.chatterStart k i
    if m.fld (F.MOT_IN_CTL_FILT i) = 0 then m.inputQualify k i else m

/-- An input that has held one level for CHAT_STABLE leaves CHATTER (R342). -/
def Mod.chatterEnd (m : Mod) (k : Clock) (i : Nat) : Mod :=
  let x := m.swin i
  if m.on (F.MOT_IN_STAT_CHATTER i) && decide (x.lastAt + msRaw (max 1 (m.fld (F.MOT_IN_CHAT_CHAT_STABLE i))) ≤ k.raw) then
    ((m.setB (F.MOT_IN_STAT_CHATTER i) false).setSwin i { x with moves := [] }).inputQualify k i
  else m

/-- The distance HOME_RANGE, for which the spec names no register, in units: a free value (log entry 16). -/
def homeRange (c : Nat) : Nat := Config.freeNat 344 c

/-- The search has covered HOME_RANGE without a qualified edge: a Heel, with HOMING_RANGE (R344 step 4). -/
def Mod.homingRange (m : Mod) (k : Clock) (c : Nat) : Mod :=
  match (m.mch c).homing with
  | none => m
  | some h =>
    if m.mst c = 3 ∧ h.phase = 2 ∧ (homeRange c : Int) * posU ≤ ((m.chNow k c).p - h.from_).natAbs then
      ((m.setMch c { m.mch c with status := 0x000A }).setB (F.MOT_CH_STAT_HEEL_REQ c) true).setB (F.MOT_CH_STAT_HOMED c) false
    else m

/-! ## Setpoint frames (R346 to R348) -/

/-- The period in ns, and LEAD in ns. -/
def Mod.remPeriod (m : Mod) (c : Nat) : Nat := nth 10000000 [250000, 500000, 1000000, 2000000, 5000000] (m.fld (F.MOT_CH_REM_CFG_PERIOD c))
def Mod.remLead (m : Mod) (c : Nat) : Nat := min 2000 (max 50 (m.fld (F.MOT_CH_REM_CFG_LEAD c))) * 1000

/-- MODE of a setpoint: 0 RUN, 1 HEEL, 2 DROP, 3 HOLD (R330, R332, R349, R353). -/
def Mod.remMode (m : Mod) (c : Nat) : Nat :=
  let st := m.mst c
  if 6 ≤ st then 2 else if !m.awake || !m.on F.MOT_CTL_EN then 3 else if st = 4 then 1 else 0

/-- Bytes 0 to 35 of a setpoint (R346). -/
def Mod.setpointBody (m : Mod) (c seq apply_ : Nat) (x : Kin) : List Byte :=
  le 1 1 ++ le 1 1 ++ le 2 c ++ le 4 seq ++ le 8 apply_ ++ le 8 (unsigned 64 x.pos) ++ le 4 (unsigned 32 x.vel) ++ le 4 (unsigned 32 x.acc)
    ++ le 1 (m.remMode c) ++ le 1 (if m.on (F.MOT_CH_STAT_HOMED c) then 1 else 0) ++ le 2 0

/-- A frame of the module's to a drive, padded to 60 bytes (R346, R433). -/
def Mod.driveFrame (m : Mod) (c : Nat) (payload : List Byte) : List Byte :=
  let dst := m.rd (R.MOT_CH_REM_MAC_HI c) % 65536 * 4294967296 + m.rd (R.MOT_CH_REM_MAC_LO c)
  let tag := if m.on (F.MOT_CH_REM_VLAN_TAGGED c) then
      be 2 0x8100 ++ be 2 (m.fld (F.MOT_CH_REM_VLAN_PRIO c) * 8192 + m.fld (F.MOT_CH_REM_VLAN_VID c))
    else []
  let d := be 6 dst ++ be 6 m.ownMac ++ tag ++ be 2 0x88B5 ++ payload
  d ++ List.replicate (60 - d.length) 0

/-- The setpoint whose hand-over is due is sent, or skipped when it is late by more than LEAD/2 (R347). -/
def Mod.setpointTx (m : Mod) (k : Clock) (c : Nat) : Mod :=
  let x := m.mch c
  let now := Clock.fullNs k.now
  let per := m.remPeriod c
  let lead := m.remLead c
  let g := (now + lead) / per * per
  if x.kind ≠ 3 ∨ !m.live? 12 ∨ !m.serves ∨ !m.on F.BRACE_STAT_GATE_OPEN ∨ g ≤ x.applied then m
  else
    let missed := if x.applied = 0 then 0 else (g - x.applied) / per - 1
    let m := m.setMch c { x with applied := g }
    let m := m.setF (F.MOT_CH_STAT_SKIP c) (m.fld (F.MOT_CH_STAT_SKIP c) + missed)
    let skip := fun (m : Mod) => m.setF (F.MOT_CH_STAT_SKIP c) (m.fld (F.MOT_CH_STAT_SKIP c) + 1)
    if g < now + lead - lead / 2 then skip m
    else
      let kin := m.chAt k c ((g : Int) * uPerNs)
      let seq := (m.rd (R.MOT_CH_SEQ c) + 1) % 4294967296
      let body := m.setpointBody c seq g kin
      let (m, tag) := if m.on (F.MOT_CH_REM_CFG_AUTH_EN c) then m.tagBy (m.rd (R.MOT_CH_REM_KEY c) % 64) 3 8 body else (m, some (le 8 0))
      match tag with
      | none => skip m
      | some t =>
        let x := m.mch c
        let m := m.setMch c { x with sent := ((seq, g, kin.pos) :: x.sent).take 16, statusAt := if x.sent.isEmpty then now else x.statusAt }
        (m.wr (R.MOT_CH_SEQ c) seq).swSend x.port (m.fld (F.MOT_CH_REM_VLAN_PRIO c)) (m.driveFrame c (body ++ t))

/-- A STATUS payload of a drive (R348): refused on form, CMAC or SEQ; else judged for following error and DRIVE_FAULT. -/
def Mod.statusRx (m : Mod) (k : Clock) (d : List Byte) : Mod :=
  let c := leAt d 2 2
  let x := m.mch c
  if d.length < 44 ∨ leAt d 0 1 ≠ 1 ∨ leAt d 1 1 ≠ 2 ∨ 255 < c ∨ x.kind ≠ 3 ∨ m.on (F.MOT_CH_REM_CFG_STATUS_EN c) = false ∨ !m.live? 12 then m
  else
    let (m, ok) := if m.on (F.MOT_CH_REM_CFG_AUTH_EN c) then
        match m.tagBy (m.rd (R.MOT_CH_REM_KEY c) % 64) 3 8 (d.take 36) with
        | (m, some t) => (m, t == (d.drop 36).take 8)
        | (m, none) => (m, false)
      else (m, true)
    match x.sent.find? fun e => e.1 == leAt d 4 4 with
    | none => m
    | some e =>
      if !ok then m
      else
        let m := m.setMch c { m.mch c with statusAt := Clock.fullNs k.now }
        let err := (signed 64 (leAt d 16 8) - e.2.2).natAbs
        if m.rd (R.MOT_CH_FERR_MAX c) * 65536 < err ∨ (leAt d 33 1).testBit 1 = true then m.motFault k c else m

/-- No accepted STATUS within TIMEOUT periods (R348). -/
def Mod.statusTimeout (m : Mod) (k : Clock) (c : Nat) : Mod :=
  let x := m.mch c
  let t := max 1 (m.fld (F.MOT_CH_REM_CFG_TIMEOUT c)) * m.remPeriod c
  if x.kind = 3 ∧ m.on (F.MOT_CH_REM_CFG_STATUS_EN c) = true ∧ x.sent.isEmpty = false ∧ m.motOut ∧ m.mst c < 7 ∧ x.statusAt + t < Clock.fullNs k.now then
    (m.setMch c { x with statusAt := Clock.fullNs k.now }).motFault k c
  else m

/-! ## Meanings -/

/-- MOVE (R351). -/
def execMove (dt : Nat) (h : Hdr) (ch flags target vmax amax jmax start : Nat) (s : State) : Res :=
  .next (s.ev dt fun k m => m.motTake k h 1 (decide (255 < ch) || decide (1 < flags)) ch (.move ch (flags == 1) (signed 64 target) vmax amax jmax start))

/-- CONVOY (R333, R351): members as channel, reserved bytes, distance. -/
def execConvoy (dt : Nat) (h : Hdr) (group n reserved start : Nat) (members : List (Nat × Nat × Nat)) (s : State) : Res :=
  .next (s.ev dt fun k m =>
    let chs := members.map Prod.fst
    let bad := decide (15 < group) || n != members.length || decide (n < 2) || decide (16 < n) || reserved != 0
      || (members.any fun e => decide (255 < e.1) || e.2.1 != 0) || decide (chs.eraseDups.length < chs.length)
    m.motTake k h 2 bad 0xFFFF (.convoy group start (members.map fun e => (e.1, signed 64 e.2.2))))

/-- HOME (R344, R351). -/
def execHome (dt : Nat) (h : Hdr) (ch dir mode speed ofs : Nat) (s : State) : Res :=
  .next (s.ev dt fun k m =>
    m.motTake k h 3 (decide (255 < ch) || decide (1 < dir) || decide (1 < mode)) ch (.home ch (dir == 1) (mode == 1) speed (signed 64 ofs)))

/-- HALT (R329, R351). -/
def execHalt (dt : Nat) (h : Hdr) (ch kind reserved : Nat) (s : State) : Res :=
  .next (s.ev dt fun k m => m.motTake k h 4 ((decide (255 < ch) && ch != 0xFFFF) || kind != 0 || reserved != 0) ch (.halt ch))

/-- SET_POS (R345, R351). -/
def execSetPos (dt : Nat) (h : Hdr) (ch reserved pos : Nat) (s : State) : Res :=
  .next (s.ev dt fun k m => m.motTake k h 5 (decide (255 < ch) || reserved != 0) ch (.setPos ch (signed 64 pos)))

/-- CLEAR (R314 step 5, R351). -/
def execClear (dt : Nat) (h : Hdr) (ch reserved : Nat) (s : State) : Res :=
  .next (s.ev dt fun k m => m.motTake k h 6 (decide (255 < ch) || reserved != 0) ch (.clear ch))

/-- MOT_WINDOW_END: T+3 ms (R321). -/
def execMotWindowEnd (dt : Nat) (s : State) : Res :=
  .next (s.ev dt fun k m => if m.motUp && decide (3000000 ≤ k.subNs k.raw) then m.motWindowEnd k else m)

/-- STEP_EDGE (R337, R338). -/
def execStepEdge (dt ch : Nat) (s : State) : Res := .next (s.ev dt fun k m => if m.motUp then m.stepEdge k ch else m)

/-- STEP_TRACK_CHECK (R339). -/
def execStepTrackCheck (dt ch : Nat) (s : State) : Res := .next (s.ev dt fun k m => if m.motUp then m.stepTrack k ch else m)

/-- SWITCH_INPUT_EDGE (R341, R342). -/
def execSwitchInputEdge (dt i : Nat) (level : Bool) (s : State) : Res :=
  .next (s.ev dt fun k m => if m.motUp && decide (i < 64) then m.inputEdge k i level else m)

/-- INPUT_QUALIFIED (R341). -/
def execInputQualified (dt i : Nat) (s : State) : Res :=
  .next (s.ev dt fun k m => if m.motUp && decide (i < 64) then m.inputQualify k i else m)

/-- CHATTER_END (R342). -/
def execChatterEnd (dt i : Nat) (s : State) : Res :=
  .next (s.ev dt fun k m => if m.motUp && decide (i < 64) then m.chatterEnd k i else m)

/-- HOMING_RANGE (R344). -/
def execHomingRange (dt ch : Nat) (s : State) : Res := .next (s.ev dt fun k m => if m.motUp then m.homingRange k ch else m)

/-- MOVE_END (R314, R336). -/
def execMoveEnd (dt ch : Nat) (s : State) : Res := .next (s.ev dt fun k m => if m.motUp then m.moveEnd k ch else m)

/-- STOP_END (R314, R329). -/
def execStopEnd (dt ch : Nat) (s : State) : Res := .next (s.ev dt fun k m => if m.motUp then m.stopEnd k ch else m)

/-- SETPOINT_FRAME_TX (R346, R347). -/
def execSetpointFrameTx (dt ch : Nat) (s : State) : Res := .next (s.ev dt fun k m => m.setpointTx k ch)

/-- STATUS_FRAME_RX: the payload of a STATUS frame (R348). -/
def execStatusFrameRx (dt : Nat) (d : List Byte) (s : State) : Res := .next (s.ev dt fun k m => m.statusRx k d)

/-- STATUS_TIMEOUT (R348). -/
def execStatusTimeout (dt ch : Nat) (s : State) : Res := .next (s.ev dt fun k m => m.statusTimeout k ch)

end Sys2Proof.Machine
end

