-- ==== Sys2Proof/Machine/Switch.lean ====
section
/-! DEFINITION. The site switch and router (chapter 11): ports, learning, bridging, routing, parity, commands, packet rings. -/

namespace Sys2Proof.Machine

/-! ## Frames -/

/-- What a frame's header says: addresses, tag control (none when untagged), EtherType, and where its payload begins. -/
structure EthHdr where
  dst : Nat
  src : Nat
  tci : Option Nat
  etype : Nat
  body : Nat
  deriving DecidableEq, Repr

/-- A number of `n` bytes, most significant first, at an offset. -/
def beAt (d : List Byte) (off n : Nat) : Nat := ofBe ((d.drop off).take n)

def ethHdr (d : List Byte) : EthHdr :=
  if beAt d 12 2 = 0x8100 then { dst := beAt d 0 6, src := beAt d 6 6, tci := some (beAt d 14 2), etype := beAt d 16 2, body := 18 }
  else { dst := beAt d 0 6, src := beAt d 6 6, tci := none, etype := beAt d 12 2, body := 14 }

/-- A group address: the low bit of its first byte. -/
def isGroup (mac : Nat) : Bool := (mac / 1099511627776).testBit 0

/-- A frame as it leaves: with the VLAN entry's tagging, PCP kept (R435 step 8). -/
def tagged (d : List Byte) (untag : Bool) (pcp vid : Nat) : List Byte :=
  let h := ethHdr d
  d.take 12 ++ (if untag then [] else be 2 0x8100 ++ be 2 (pcp * 8192 + vid)) ++ be 2 h.etype ++ d.drop h.body

/-- SW_P_MTU as it acts (R433, R452). -/
def Mod.swMtu (m : Mod) (p : Nat) : Nat := min 9200 (max 64 (m.fld (F.SW_P_MTU_BYTES p)))

def Mod.swDrop (m : Mod) (p : Nat) : Mod := m.inc (R.SW_P_DROP_CNT p)

/-- A 48-bit byte counter of a port: direction 0 received, 1 sent (R454). -/
def Mod.swBytes (m : Mod) (p dir n : Nat) : Mod :=
  let i := 2 * p + dir
  let m : Mod := { m with sw := { m.sw with bytes := AMap.put (fun _ => 0) i ((AMap.get (fun _ => 0) m.sw.bytes i + n) % 281474976710656) m.sw.bytes } }
  m.perfAdd (if dir = 0 then perfSwRx p else perfSwTx p) n

/-! ## The MAC table (R437, R441) -/

/-- The set of an address and VID. -/
def macSet (mac vid : Nat) : Nat := Config.macHash mac vid % 2048

/-- The entry of an address and VID, with its index; an entry that fails parity misses (R447). -/
def Mod.macFind (m : Mod) (mac vid : Nat) : Option (Nat × MacEnt) :=
  let s := macSet mac vid
  m.sw.mac.find? fun e => decide (e.1 / 4 = s) && e.2.mac == mac && e.2.vid == vid && !m.sw.bad.contains e.1

/-- The counts that the MAC table's registers show (R452, R453). -/
def Mod.macShow (m : Mod) : Mod :=
  let m := (m.setF F.SW_MAC_USE_USED m.sw.mac.length).setF F.SW_MAC_USE_STATIC ((m.sw.mac.filter fun e => e.2.static_).length)
  m.each (upto 10) fun m p => m.setF (F.SW_P_STAT_LEARNED p) ((m.sw.mac.filter fun e => e.2.port == p && !e.2.static_).length)

def Mod.macPut (m : Mod) (i : Nat) (e : MacEnt) : Mod := { m with sw := { m.sw with mac := AMap.ins i e m.sw.mac } }
def Mod.macDel (m : Mod) (i : Nat) : Mod := { m with sw := { m.sw with mac := AMap.del i m.sw.mac, bad := m.sw.bad.filter fun x => x != i } }

/-- A lookup that hits sets HIT (R443). -/
def Mod.macHit (m : Mod) (mac vid : Nat) : Mod :=
  match m.macFind mac vid with
  | some (i, e) => if e.hit then m else m.macPut i { e with hit := true }
  | none => m

/-- The first free way of a set. -/
def Mod.freeWay (m : Mod) (s : Nat) : Option Nat := ((upto 4).map fun w => 4 * s + w).find? fun i => (AMap.find m.sw.mac i).isNone

/-- An entry goes in where there is room. -/
def Mod.macInstall (m : Mod) (e : MacEnt) : Mod × Bool :=
  match m.freeWay (macSet e.mac e.vid) with
  | some i => ((m.macPut i e).macShow, true)
  | none => (m, false)

/-- The learn queue's level shows (R453). -/
def Mod.lqShow (m : Mod) : Mod := m.setF F.SW_STAT_LEVEL m.sw.events.length

/-- A learn event enters the queue, or is dropped when it is full (R440). -/
def Mod.learnPut (m : Mod) (e : SwEvent) : Mod :=
  if 256 ≤ m.sw.events.length then (m.inc R.SW_LQ_DROP_CNT).swEvt 3
  else Mod.lqShow { m with sw := { m.sw with events := m.sw.events ++ [e] } }

/-- A command or flush event enters the queue, or waits for room (R440, R442). -/
def Mod.swQueue (m : Mod) (e : SwEvent) : Mod :=
  if 256 ≤ m.sw.events.length ∨ m.sw.waiting.isEmpty = false then { m with sw := { m.sw with waiting := m.sw.waiting ++ [e] } }
  else Mod.lqShow { m with sw := { m.sw with events := m.sw.events ++ [e] } }

/-- LIMIT of a port as it acts. -/
def Mod.learnLimit (m : Mod) (p : Nat) : Nat := min 8192 (m.fld (F.SW_P_LEARN_LIMIT p))

/-- HOLD in raw counts. -/
def Mod.holdRaw (m : Mod) : Nat := secRaw (max 1 (m.fld F.SW_LOOP_CTL_HOLD))

/-- The two words of an entry that the loop log and the window share (R453). -/
def macWords (e : MacEnt) : List Nat :=
  let b := fun (x : Bool) n => if x then 2 ^ n else 0
  [e.mac % 4294967296, e.mac / 4294967296 + e.vid * 65536,
    e.port + e.sub * 16 + 4096 + b e.static_ 13 + b e.hit 14 + b e.pinned 15 + e.moves * 65536]

/-- A learn event is handled by the first case that applies (R441). -/
def Mod.learnDo (m : Mod) (k : Clock) (p mac vid sub : Nat) : Mod :=
  let moveDrop := fun (m : Mod) => m.inc (R.SW_P_MOVE_DROP_CNT p)
  match m.macFind mac vid with
  | some (i, e) =>
    if e.static_ then moveDrop m
    else if e.port = p then m
    else if e.pinned then moveDrop m
    else if m.on (F.SW_P_CTL_MOVE_LOCK e.port) then moveDrop m
    else if 4 ≤ e.moves then
      let e := { e with pinned := true, pinTill := k.raw + m.holdRaw }
      let m := ((moveDrop m).macPut i e).swEvt 1
      let m : Mod := { m with sw := { m.sw with loops := ((e, k.tick) :: m.sw.loops).take 8 } }
      m.recTrig k 13 ((macWords e ++ [k.tick]).flatMap fun w => le 4 w)
    else (m.macPut i { e with port := p, sub := sub, moves := e.moves + 1, hit := true }).macShow
  | none =>
    let held := (m.sw.mac.filter fun e => e.2.port == p && !e.2.static_).length
    if m.learnLimit p ≤ held then
      let m := (m.inc (R.SW_P_LEARN_DROP_CNT p)).swEvt 2
      if m.on (F.SW_P_CTL_LIMIT_ACT p) ∨ m.sw.refused.contains (p, mac, vid) then m
      else { m with sw := { m.sw with refused := m.sw.refused ++ [(p, mac, vid)] } }
    else
      match m.macInstall { mac := mac, vid := vid, port := p, sub := sub, static_ := false, hit := true, pinned := false, moves := 0, pinTill := 0 } with
      | (m, true) => { m with sw := { m.sw with refused := m.sw.refused.filter fun x => x.2 != (mac, vid) } }
      | (m, false) => m.swEvt 6

/-- Removes every entry that satisfies a test. -/
def Mod.macRemove (m : Mod) (f : Nat → MacEnt → Bool) : Mod :=
  let gone := (m.sw.mac.filter fun e => f e.1 e.2).map Prod.fst
  (m.each gone fun m i => m.macDel i).macShow

/-- A result of the switch. -/
def Mod.swResult (m : Mod) (k : Clock) (h : Handed) (code : Nat) : Mod := m.result k 14 h.opcode code h.tag h.noResult h.acceptTick []

/-- The event at the head of the queue is handled (R440 to R442). -/
def Mod.eventDo (m : Mod) (k : Clock) : SwEvent → Mod
  | .learn p mac vid sub => m.learnDo k p mac vid sub
  | .linkDown p => m.macRemove fun _ e => e.port == p && !e.static_
  | .parity i => (m.macDel i).macShow
  | .add h mac vid port sub =>
    let e : MacEnt := { mac := mac, vid := vid, port := port, sub := sub, static_ := true, hit := false, pinned := false, moves := 0, pinTill := 0 }
    match m.macFind mac vid with
    | some (i, _) => ((m.macPut i e).macShow).swResult k h 0
    | none =>
      match m.macInstall e with
      | (m, true) => Mod.swResult { m with sw := { m.sw with refused := m.sw.refused.filter fun x => x.2 != (mac, vid) } } k h 0
      | (m, false) => (m.swEvt 6).swResult k h 0x102
  | .del h mac vid =>
    match m.macFind mac vid with
    | some (i, _) => ((m.macDel i).macShow).swResult k h 0
    | none => m.swResult k h 0x103
  | .flush h port statics vid =>
    (m.macRemove fun _ e => (port == 0xFF || e.port == port) && (vid == 0xFFFF || e.vid == vid) && (statics || !e.static_)).swResult k h 0

/-- The learn queue moves on by one event; a waiting command takes the room (R440). -/
def Mod.learnStep (m : Mod) (k : Clock) : Mod :=
  match m.sw.events with
  | [] => m
  | e :: l =>
    let (add, wait) := match m.sw.waiting with | [] => (([] : List SwEvent), ([] : List SwEvent)) | w :: t => ([w], t)
    Mod.lqShow (Mod.eventDo { m with sw := { m.sw with events := l ++ add, waiting := wait } } k e)

/-! ## Egress (R435 step 8, R438, R439, R449) -/

/-- AIR transmits for P9 (R42, R434). -/
def Mod.airData (m : Mod) : Bool := m.mayBeacon && m.blkOn 13 && m.on F.AIR_CTL_EN

/-- The enabled WB channels. -/
def Mod.wbOn (m : Mod) : List Nat := (if m.on F.AIR_CTL_WB0_EN then [0] else []) ++ (if m.on F.AIR_CTL_WB1_EN then [1] else [])

/-- A frame for a rover, or for every rover (0), is queued for P9 (R434, R438). -/
def Mod.p9Put (m : Mod) (k : Clock) (sub : Nat) (d : List Byte) : Mod :=
  if !m.airData || decide (64 ≤ m.sw.air.length) || decide (2097152 < m.swHeld + d.length) then (m.inc R.SW_P9_DROP_CNT).swEvt 7
  else
    let chans := if sub = 0 then m.wbOn else [m.fld (F.ROVER_LINK_SLOT_CHAN sub)]
    let m := (m.inc (R.SW_P_TX_CNT 9)).swBytes 9 1 d.length
    { m with sw := { m.sw with air := m.sw.air ++ [{ data := d, inRaw := k.raw, sub := sub, chans := chans }] } }

/-- A frame goes to the host on ring 9 for priorities 4 to 7, ring 8 otherwise, as it was received (R94, R449). -/
def Mod.p8Put (m : Mod) (k : Clock) (t : Int) (p sub reason pcp vid : Nat) (d : List Byte) : Mod :=
  let item := le 2 (16 + d.length) ++ le 1 p ++ le 1 sub ++ le 1 reason ++ le 1 pcp ++ le 2 vid ++ le 4 (Clock.word t) ++ le 2 (Clock.wrap t) ++ le 2 0 ++ d
  ((m.inc (R.SW_P_TX_CNT 8)).swBytes 8 1 d.length).enqueue k (if 4 ≤ pcp then 9 else 8) 0x50 item

/-- What travels with a frame through the switch: ingress port, rover, time, PCP and VID as classified. -/
structure Pass where
  port : Nat
  sub : Nat
  time : Int
  pcp : Nat
  vid : Nat
  deriving DecidableEq, Repr

/-- A frame leaves on one port. `orig` is the frame as received, which P8 delivers. -/
def Mod.swOut (m : Mod) (k : Clock) (x : Pass) (p sub : Nat) (d orig : List Byte) : Mod :=
  let v := AMap.get (fun _ => ({ member := 0, untag := 0, valid := false } : Vlan)) m.sw.vlan x.vid
  if !m.swPortOn p then m
  else if p = 8 then m.p8Put k x.time x.port x.sub 0 x.pcp x.vid orig
  else
    let out := tagged d (v.untag.testBit p) x.pcp x.vid
    if m.swMtu p < out.length then m.swDrop p
    else if p = 9 then m.p9Put k sub out
    else m.swPut p (m.swQueueOf p x.pcp) { data := out, inTime := some x.time, inPort := x.port }

/-- Bridging by destination address (R437, R438). -/
def Mod.bridge (m : Mod) (k : Clock) (x : Pass) (d orig : List Byte) : Mod :=
  let dst := beAt d 0 6
  match if isGroup dst then none else m.macFind dst x.vid with
  | some (_, e) =>
    let m := m.macHit dst x.vid
    if e.port = x.port then m else m.swOut k x e.port e.sub d orig
  | none =>
    let v := AMap.get (fun _ => ({ member := 0, untag := 0, valid := false } : Vlan)) m.sw.vlan x.vid
    m.each ((upto 10).filter fun p => v.member.testBit p && p != x.port) fun m p => m.swOut k x p 0 d orig

/-! ## Routing (R444, R445) -/

/-- The longest prefix that matches an address of `w` bits. -/
def lpm (w addr : Nat) (l : List Prefix) : Option Prefix :=
  l.foldl (fun b p => if addr / 2 ^ (w - p.len) = p.bits / 2 ^ (w - p.len) then
      (match b with | some q => if q.len < p.len then some p else b | none => some p) else b) none

/-- The ones' complement sum of 16-bit words. -/
def sum16 : List Byte → Nat → Nat
  | a :: b :: t, s => sum16 t (s + a.toNat * 256 + b.toNat)
  | [a], s => s + a.toNat * 256
  | [], s => s

/-- The Internet checksum of bytes. -/
def inetSum (d : List Byte) : Nat :=
  let s := sum16 d 0
  let s := s % 65536 + s / 65536
  let s := s % 65536 + s / 65536
  65535 - s

/-- An IPv4 packet with its TTL decremented and its header checksum updated. -/
def ttlDown4 (p : List Byte) : List Byte :=
  let n := 4 * (leAt p 0 1 % 16)
  let h := p.take 8 ++ le 1 (leAt p 8 1 - 1) ++ (p.drop 9).take 1 ++ [0, 0] ++ (p.drop 12).take (n - 12)
  h.take 10 ++ be 2 (inetSum h) ++ h.drop 12 ++ p.drop n

/-- An IPv6 packet with its hop limit decremented. -/
def ttlDown6 (p : List Byte) : List Byte := p.take 7 ++ le 1 (leAt p 7 1 - 1) ++ p.drop 8

/-- The router interface that serves a VID. -/
def Mod.rifOf (m : Mod) (vid : Nat) : Option Rif := (m.sw.rif.find? fun e => e.2.vid == vid && (e.2.v4 || e.2.v6)).map Prod.snd

/-- A packet to PTP's UDP ports (R244, R444). -/
def isPtpUdp (v6 : Bool) (p : List Byte) : Bool :=
  let off := if v6 then 40 else 4 * (leAt p 0 1 % 16)
  leAt p (if v6 then 6 else 9) 1 == 17 && (beAt p (off + 2) 2 == 319 || beAt p (off + 2) 2 == 320)

/-- An IP frame to the module's MAC address is routed, punted or dropped (R444). -/
def Mod.route (m : Mod) (k : Clock) (x : Pass) (d : List Byte) (v6 : Bool) : Mod :=
  let h := ethHdr d
  let p := d.drop h.body
  let punt := fun (m : Mod) reason => m.p8Put k x.time x.port x.sub reason x.pcp x.vid d
  let w := if v6 then 64 else 32
  let full := if v6 then beAt p 24 16 else beAt p 16 4
  let addr := if v6 then full / 2 ^ 64 else full
  let mine := m.sw.rif.any fun e => if v6 then e.2.v6 && e.2.ip6 == full else e.2.v4 && e.2.ip4 == full
  let ttl := if v6 then leAt p 7 1 else leAt p 8 1
  if mine then (if isPtpUdp v6 p then m else punt m 1)
  else if (if v6 then leAt p 6 1 == 0 else decide (5 < leAt p 0 1 % 16)) then punt m 6
  else if ttl ≤ 1 then punt m 3
  else
    let r := lpm w addr (if v6 then m.sw.routes6 else m.sw.routes4)
    let nh := r.bind fun r => AMap.find m.sw.nh r.nh
    match nh.filter fun n => n.valid with
    | none =>
      let m := (m.inc R.SW_NOROUTE_CNT).swEvt 8
      if m.on F.SW_CTL_MISS_PUNT then punt m (if r.isSome then 5 else 2) else m.swDrop x.port
    | some n =>
      let out := be 6 n.mac ++ be 6 m.ownMac ++ be 2 h.etype ++ (if v6 then ttlDown6 p else ttlDown4 p)
      let x' := { x with vid := n.vid }
      match m.macFind n.mac n.vid with
      | some (_, e) =>
        let v := AMap.get (fun _ => ({ member := 0, untag := 0, valid := false } : Vlan)) m.sw.vlan n.vid
        if m.swMtu e.port < out.length + (if v.untag.testBit e.port then 0 else 4) then punt m 4 else m.bridge k x' out out
      | none => m.bridge k x' out out

/-! ## Reception (R435, R436) -/

/-- The PTP message in a frame: its offset, when the frame is PTP over Ethernet or UDP (R244). -/
def ptpOff (d : List Byte) : Option Nat :=
  let h := ethHdr d
  let p := d.drop h.body
  if h.etype = 0x88F7 then some h.body
  else if h.etype = 0x0800 ∧ isPtpUdp false p then some (h.body + 4 * (leAt p 0 1 % 16) + 8)
  else if h.etype = 0x86DD ∧ isPtpUdp true p then some (h.body + 48)
  else none

/-- A PTP message that the module takes rather than passes: peer delay messages always, and everything while its transparent
clock is off (R244, R247, R436). -/
def Mod.ptpTaken (m : Mod) (p : Nat) (d : List Byte) : Bool :=
  match ptpOff d with
  | none => false
  | some o =>
    let t := leAt d o 1 % 16
    decide (p < 9) && m.on (F.TIME_PTPP_CTL_EN p) && (t == 2 || t == 3 || t == 10 || !m.on F.TIME_PTP_CTL_TC_EN)

/-- Steps 2 to 7 of R435 for a frame on a FORWARDING port. -/
def Mod.classify (m : Mod) (k : Clock) (p sub : Nat) (d : List Byte) : Mod :=
  let h := ethHdr d
  let vidIn := (h.tci.map fun t => t % 4096).getD 0
  let isTag := vidIn != 0
  let pcp := match h.tci with | some t => t / 8192 | none => m.fld (F.SW_P_CTL_DEF_PCP p)
  let vid := if isTag then vidIn else m.fld (F.SW_P_CTL_PVID p)
  let acc := m.fld (F.SW_P_CTL_ACCEPT p)
  if vidIn = 4095 ∨ (acc = 1 ∧ isTag = false) ∨ (acc = 2 ∧ isTag = true) then m.swDrop p
  else
    let x : Pass := { port := p, sub := sub, time := k.now - psToU (m.rdI (R.SW_P_RXDLY_EFF p)), pcp := pcp, vid := vid }
    if h.etype = 0x88B6 ∧ p = 1 then m
    else if h.etype = 0x88B5 ∧ h.dst = m.ownMac ∧ leAt d (h.body + 1) 1 = 2 then m.statusRx k ((d.drop h.body).take 44)
    else if m.ptpTaken p d then m
    else if h.dst / 16 = 0x0180C200000 ∧ (ptpOff d).isNone then m.p8Put k x.time p sub 7 pcp vid d
    else
      let v := AMap.get (fun _ => ({ member := 0, untag := 0, valid := false } : Vlan)) m.sw.vlan vid
      if !v.valid || (m.on (F.SW_P_CTL_INGRESS_FILTER p) && !v.member.testBit p) then m.swDrop p
      else
        let known := m.macFind h.src vid
        let m := m.macHit h.src vid
        let m := if isGroup h.src || !m.on (F.SW_P_CTL_LEARN_EN p) || ((known.map fun e => e.2.port) == some p) then m
          else m.learnPut (.learn p h.src vid sub)
        if m.sw.refused.contains (p, h.src, vid) && known.isNone && !m.on (F.SW_P_CTL_LIMIT_ACT p) then m.swDrop p
        else if h.dst = m.ownMac ∧ m.on F.SW_CTL_ROUTE_EN = true ∧ (m.rifOf vid).isSome = true ∧ (h.etype = 0x0800 ∨ h.etype = 0x86DD) then
          m.route k x d (h.etype == 0x86DD)
        else m.bridge k x d d

/-- A frame arrives on a port (R433, R435). -/
def Mod.swReceive (m : Mod) (k : Clock) (p sub : Nat) (d : List Byte) (badFcs : Bool) : Mod :=
  if !m.blkOn 14 ∨ !m.on F.SW_CTL_EN then m
  else if badFcs || decide (d.length < 60) || decide (m.swMtu p < d.length) then m.swDrop p
  else
    let m := (m.inc (R.SW_P_RX_CNT p)).swBytes p 0 d.length
    if m.swPortOn p then m.classify k p sub d else m.swDrop p

/-! ## Transmission (R247, R439, R448) -/

/-- Bytes `b` put into `d` at an offset. -/
def patch (d : List Byte) (off : Nat) (b : List Byte) : List Byte := d.take off ++ b ++ d.drop (off + b.length)

/-- Residence time added to the correction of an event message that leaves, or to the Follow_Up of a two-step Sync; the
mean link delay of the ingress port to Sync in the Peer-to-Peer profile (R247). Units of 2^-16 ns. -/
def Mod.tcFix (m : Mod) (k : Clock) (p : Nat) (f : EgFrame) : Mod × List Byte :=
  match ptpOff f.data, f.inTime with
  | some o, some t =>
    if !m.on F.TIME_PTP_CTL_TC_EN then (m, f.data)
    else
      let typ := leAt f.data o 1 % 16
      let twoStep := (leAt f.data (o + 6) 1).testBit 1
      let id := beAt f.data (o + 20) 10 * 1048576 + beAt f.data (o + 30) 2 * 16 + p
      let link : Int := if typ = 0 ∧ m.on F.TIME_PTP_CTL_PROFILE ∧ f.inPort < 9 then m.rdI (R.TIME_PTPP_PDELAY f.inPort) * 65536 else 0
      let res := (k.now + psToU (m.rdI (R.SW_P_TXDLY_EFF p)) - t) / 256 + link
      let fix := fun (v : Int) =>
        let d := patch f.data (o + 8) (be 8 (unsigned 64 (signed 64 (beAt f.data (o + 8) 8) + v)))
        let u := o - 2
        if o < 22 then d else if (ethHdr d).etype = 0x0800 then patch d u [0, 0] else d
      if typ = 0 ∧ twoStep then
        ({ m with sw := { m.sw with sync := ((id, res) :: m.sw.sync.filter fun e => e.1 != id).take 64 } }, f.data)
      else if typ = 8 then
        match m.sw.sync.find? fun e => e.1 == id with
        | some e => ({ m with sw := { m.sw with sync := m.sw.sync.filter fun e => e.1 != id } }, fix e.2)
        | none => (m, f.data)
      else if typ < 2 then (m, fix res)
      else (m, f.data)
  | _, _ => (m, f.data)

/-- The queue an egress port serves next: 3 first, else the one whose bytes served per weight are least (R439). -/
def Mod.nextQueue (m : Mod) (p : Nat) : Option Nat :=
  if !(m.egq p 3).isEmpty then some 3
  else
    let w := fun q => max 1 (m.fld (if q = 0 then F.SW_P_QOS_W0 p else if q = 1 then F.SW_P_QOS_W1 p else F.SW_P_QOS_W2 p))
    let s := fun q => AMap.get (fun _ => 0) m.sw.served (4 * p + q)
    ([0, 1, 2].filter fun q => !(m.egq p q).isEmpty).foldl (fun b q =>
      match b with | none => some q | some o => if s q * w o < s o * w q then some q else b) none

/-- An egress port takes its next frame and sends it (R439, R448). -/
def Mod.egressTx (m : Mod) (k : Clock) (p : Nat) : Mod :=
  match m.nextQueue p with
  | none => m
  | some q =>
    match m.egq p q with
    | [] => m
    | f :: l =>
      let m := m.setEgq p q l
      let (m, d) := m.tcFix k p f
      let idle := (m.nextQueue p).isNone
      let served := if idle then m.sw.served.filter fun e => e.1 / 4 != p
        else AMap.put (fun _ => 0) (4 * p + q) (AMap.get (fun _ => 0) m.sw.served (4 * p + q) + d.length) m.sw.served
      let m : Mod := { m with sw := { m.sw with served := served } }
      ((m.inc (R.SW_P_TX_CNT p)).swBytes p 1 d.length).emit (.frame p d)

/-! ## Links, faults, aging, parity -/

/-- A port's STATE as its enable, retry and retirement leave it (R450). -/
def Mod.portShow (m : Mod) (p : Nat) : Mod :=
  let st := if m.isRetired 2 p then 3 else if (m.elemAt 2 p).retry then 2 else if m.on (F.SW_P_CTL_EN p) then 1 else 0
  m.setF (F.SW_P_STAT_STATE p) st

/-- A link goes up or down (R442, R450). -/
def Mod.linkChange (m : Mod) (p : Nat) (up : Bool) (speed : Nat) : Mod :=
  if m.on (F.SW_P_STAT_LINK p) = up then m
  else
    let m := ((m.setB (F.SW_P_STAT_LINK p) up).setF (F.SW_P_STAT_SPEED p) (if up then speed else 0)).swEvt 0
    if !up && m.on (F.SW_P_CTL_FLUSH_ON_DOWN p) then m.swQueue (.linkDown p) else m

/-- A port faults: reset and relink, or retired (R450). Its queues are lost. -/
def Mod.portFault (m : Mod) (k : Clock) (p : Nat) : Mod :=
  if 9 < p then m
  else match m.elemJudge k 2 p with
  | (m, .ignored) => m
  | (m, v) =>
    let m := m.setF (F.SW_P_STAT_FAULTS p) (min 3 ((m.elemAt 2 p).recent k.tickNo).length)
    let m := m.each (upto 4) fun m q => m.setEgq p q []
    let m := m.linkChange p false 0
    let m := m.when (v == .retired) fun m => (m.setBit R.SW_RETIRED p).swEvt 5
    m.portShow p

def Mod.portRetryEnd (m : Mod) (k : Clock) (p : Nat) : Mod :=
  match m.elemRetryEnd k 2 p with
  | (m, true) => m.portShow p
  | (m, false) => m

def Mod.portReadmit (m : Mod) (k : Clock) (p : Nat) : Mod :=
  if m.isRetired 2 p then (((m.elemReadmit k 2 p).clrBit R.SW_RETIRED p).setF (F.SW_P_STAT_FAULTS p) 0).portShow p else m

/-- Every dynamic entry is visited once per AGE seconds (R443). -/
def Mod.macAge (m : Mod) (k : Clock) : Mod :=
  let age := m.fld F.SW_CTL_AGE
  if age = 0 ∨ k.raw < m.sw.agedAt + secRaw age then m
  else
    let m : Mod := { m with sw := { m.sw with agedAt := k.raw } }
    let m := m.macRemove fun _ e => !e.static_ && !e.hit
    { m with sw := { m.sw with mac := m.sw.mac.map fun e => if e.2.static_ then e else (e.1, { e.2 with hit := false }) } }

/-- MOVES return to 0 at a whole second of published time (R441). -/
def Mod.movesReset (m : Mod) (k : Clock) : Mod :=
  let sec := Clock.fullNs k.now / 1000000000
  if sec = m.sw.moveSec then m
  else { m with sw := { m.sw with moveSec := sec, mac := m.sw.mac.map fun e => (e.1, { e.2 with moves := 0 }) } }

/-- PINNED clears after HOLD (R441). -/
def Mod.pinExpire (m : Mod) (k : Clock) (i : Nat) : Mod :=
  match AMap.find m.sw.mac i with
  | some e => if e.pinned && decide (e.pinTill ≤ k.raw) then m.macPut i { e with pinned := false } else m
  | none => m

/-- Frames queued for P9 for 500 ms are dropped (R438). -/
def Mod.p9Expire (m : Mod) (k : Clock) : Mod :=
  let old := m.sw.air.filter fun f => decide (f.inRaw + msRaw 500 ≤ k.raw)
  if old.isEmpty then m
  else Mod.swEvt ({ (m.incBy R.SW_P9_DROP_CNT old.length) with sw := { m.sw with air := m.sw.air.filter fun f => !decide (f.inRaw + msRaw 500 ≤ k.raw) } }) 7

/-- A table entry fails its parity: counted and logged; a MAC entry is removed through the queue, any other rewritten from its
copy (R447). -/
def Mod.swParity (m : Mod) (table index : Nat) : Mod :=
  let m := (m.inc R.SW_PARITY_CNT).wr R.SW_PARITY_LOG (2147483648 + table % 16 + index % 2097152 * 16)
  let m := m.swEvt 4
  if table = 0 ∧ (AMap.find m.sw.mac index).isSome = true ∧ m.sw.bad.contains index = false then
    Mod.swQueue { m with sw := { m.sw with bad := index :: m.sw.bad } } (.parity index)
  else m

/-! ## The table window (R453) -/

/-- The words of an entry whose layout the spec does not give: free values of what the entry holds (R453, log entry 18). -/
def openWords (table : Nat) (l : List Nat) : List Nat :=
  (upto 4).map fun j => Config.freeNat (4530 + 4 * table + j) (l.foldl (fun a x => a * 2 ^ 128 + x) 1) % 4294967296

/-- The words of a table entry; none where TABLE or INDEX is beyond the tables. Trie nodes stand where the module chose, so
their words are free values (log entry 18). -/
def Mod.swTblWords (m : Mod) (k : Clock) (table i : Nat) : Option (List Nat) :=
  match table with
  | 0 => if 8191 < i then none else
      match AMap.find m.sw.mac i with
      | some e => some (macWords e ++ [if e.pinned then (e.pinTill - k.raw + 1249999999) / 1250000000 else 0])
      | none => some [0, 0, 0, 0]
  | 1 => if 4095 < i then none else
      match AMap.find m.sw.vlan i with
      | some v => some (openWords 1 [v.member, v.untag, if v.valid then 1 else 0])
      | none => some (openWords 1 [0, 0, 0])
  | 2 => if 1023 < i then none else
      match AMap.find m.sw.nh i with
      | some n => some (openWords 2 [n.mac, n.vid, if n.valid then 1 else 0])
      | none => some (openWords 2 [0, 0, 0])
  | 3 => if 15 < i then none else
      match AMap.find m.sw.rif i with
      | some r => some (openWords 3 [r.vid, if r.v4 then 1 else 0, if r.v6 then 1 else 0, r.ip4, r.len4, r.ip6])
      | none => some (openWords 3 [0, 0, 0, 0, 0, 0])
  | 4 => if 7 < i then none else
      match m.sw.loops[i]? with
      | some e => some (macWords e.1 ++ [e.2])
      | none => some [0, 0, 0, 0]
  | 5 => if i < 4096 + 20480 * 16 then some [Config.freeNat 4455 i % 4294967296, 0, 0, 0] else none
  | 6 => if i < 65536 + 12288 * 16 then some [Config.freeNat 4456 i % 4294967296, 0, 0, 0] else none
  | _ => none

/-- A write to SW_TBL_SEL takes its snapshot (R307, R453). -/
def Mod.swSel (m : Mod) (k : Clock) (v : Nat) : Mod :=
  let m := m.wr R.SW_TBL_SEL (v % 67108864)
  let table := m.fld F.SW_TBL_SEL_TABLE
  let i := m.fld F.SW_TBL_SEL_INDEX
  let w := m.swTblWords k table i
  let m := ((m.setB F.SW_TBL_STAT_VALID w.isSome).setB F.SW_TBL_STAT_ERR w.isNone).setB F.SW_TBL_STAT_PARITY (table == 0 && m.sw.bad.contains i)
  m.each (upto 4) fun m j => m.wr (R.SW_TBL_DATA j) (nth 0 (w.getD []) j)

/-! ## Commands (R451) -/

/-- The switch works: started, powered. -/
def Mod.swUp (m : Mod) : Bool := m.live? 14

/-- The handed form of a switch command. -/
def swHd (h : Hdr) (k : Clock) (opcode : Nat) : Handed :=
  { block := 14, opcode := opcode, tag := h.tag, noResult := h.noResult, acceptTick := k.tick }

/-- A command whose fields are checked, and which acts at once. -/
def Mod.swNow (m : Mod) (k : Clock) (h : Hdr) (op : Nat) (bad : Bool) (f : Mod → Mod × Nat) : Mod :=
  if !m.swUp then m
  else if bad then m.swResult k (swHd h k op) 0x101
  else let r := f m; r.1.swResult k (swHd h k op) r.2

def vidBad (v : Nat) : Bool := v == 0 || decide (4094 < v)

/-- The prefix counts show (R453). -/
def Mod.routeShow (m : Mod) : Mod := (m.setF F.SW_ROUTE_USE_V4 m.sw.routes4.length).setF F.SW_ROUTE_USE_V6 m.sw.routes6.length

/-- The prefix of a ROUTE command as its bits: of 32 or 64, from the 16 bytes of PREFIX. -/
def prefixBits (v6 : Bool) (pfx : Nat) : Nat := if v6 then pfx / 2 ^ 64 else pfx / 2 ^ 96

/-- Fields of ROUTE_ADD and ROUTE_DEL out of range, or host bits set. -/
def routeBad (family plen nh reserved pfx : Nat) : Bool :=
  let v6 := family == 6
  let w := if v6 then 64 else 32
  (family != 4 && family != 6) || decide (w < plen) || decide (1023 < nh) || reserved != 0 || pfx % 2 ^ (128 - min plen w) != 0

/-- A prefix is added, or its next hop replaced (R446). -/
def Mod.routeAdd (m : Mod) (v6 : Bool) (p : Prefix) : Mod × Nat :=
  let l := if v6 then m.sw.routes6 else m.sw.routes4
  let set := fun (m : Mod) l => Mod.routeShow (if v6 then { m with sw := { m.sw with routes6 := l } } else { m with sw := { m.sw with routes4 := l } })
  let same := fun (q : Prefix) => q.bits == p.bits && q.len == p.len
  if l.any same then (set m (l.map fun q => if same q then p else q), 0)
  else if (if v6 then 1024 else 4096) ≤ l.length then (m, 0x102)
  else (set m (l ++ [p]), 0)

/-- A prefix is removed (R446). -/
def Mod.routeDel (m : Mod) (v6 : Bool) (bits len : Nat) : Mod × Nat :=
  let l := if v6 then m.sw.routes6 else m.sw.routes4
  let same := fun (q : Prefix) => q.bits == bits && q.len == len
  if l.any same then
    let l := l.filter fun q => !same q
    (Mod.routeShow (if v6 then { m with sw := { m.sw with routes6 := l } } else { m with sw := { m.sw with routes4 := l } }), 0)
  else (m, 0x103)

/-- A FRAME item of ring 6 or 7: judged whole, then sent on its port or switched as from P8 (R94, R449). -/
def Mod.packetTx (m : Mod) (k : Clock) (n : Nat) (data : List Byte) : Mod :=
  let r := m.rng n
  match firstItem r.fetched with
  | none => m
  | some (i, c) =>
    let ds := (r.fetched.drop i).take c
    if m.ringState n ≠ 1 ∨ m.ringResetting n = true ∨ m.fenced n i ds = true then m
    else
      let total := ((ds.filter fun d => d.status.isNone).map fun d => d.len).foldl (· + ·) 0
      let b := (data ++ List.replicate total 0).take total
      let port := leAt b 2 1
      let st : Nat := match judgeItem n ds with
        | 1 => if leAt b 0 2 ≠ total ∨ total < 16 then 5 else if 9 < port ∧ port ≠ 0xFF then 4 else 1
        | s => s
      let m := m.setRng n { r with fetched := settle i c st (st == 1) r.fetched }
      if st ≠ 1 ∨ !m.swUp ∨ !m.on F.SW_CTL_EN then m
      else
        let d := b.drop 16
        let sub := leAt b 3 1
        if port = 0xFF then m.swReceive k 8 0 d false
        else if m.swMtu port < d.length ∨ !m.swPortOn port then m.swDrop port
        else if port = 9 then m.p9Put k sub d
        else if port = 8 then m.p8Put k k.now 8 0 0 0 0 d
        else m.swPut port (if n = 7 then 3 else 0) { data := d, inTime := none, inPort := 8 }

/-! ## Meanings -/

/-- FRAME_RECEIVE: a frame without FCS arrives on a port; `sub` is the rover of a frame on P9 (R435). -/
def execFrameReceive (dt port sub : Nat) (d : List Byte) (badFcs : Bool) (s : State) : Res :=
  .next (s.ev dt fun k m => if m.swUp && decide (port < 10) then m.swReceive k port sub d badFcs else m)

/-- LEARN_EVENT (R440 to R442). -/
def execLearnEvent (dt : Nat) (s : State) : Res := .next (s.ev dt fun k m => if m.swUp then m.learnStep k else m)

/-- MAC_AGING (R443). -/
def execMacAging (dt : Nat) (s : State) : Res := .next (s.ev dt fun k m => if m.swUp then m.macAge k else m)

/-- MOVE_COUNT_RESET (R441). -/
def execMoveCountReset (dt : Nat) (s : State) : Res := .next (s.ev dt fun k m => if m.swUp then m.movesReset k else m)

/-- PIN_HOLD_EXPIRY: the entry at an index (R441). -/
def execPinHoldExpiry (dt i : Nat) (s : State) : Res := .next (s.ev dt fun k m => if m.swUp then m.pinExpire k i else m)

/-- LINK_CHANGE (R442, R450). -/
def execLinkChange (dt port : Nat) (up : Bool) (speed : Nat) (s : State) : Res :=
  .next (s.ev dt fun _ m => if m.swUp && decide (port < 10) then m.linkChange port up speed else m)

/-- P9_FRAME_EXPIRY (R438). -/
def execP9FrameExpiry (dt : Nat) (s : State) : Res := .next (s.ev dt fun k m => if m.swUp then m.p9Expire k else m)

/-- MAC_ADD (R442, R451). -/
def execMacAdd (dt : Nat) (h : Hdr) (mac vid port sub reserved : Nat) (s : State) : Res :=
  .next (s.ev dt fun k m =>
    if !m.swUp then m
    else if vidBad vid || decide (9 < port) || reserved != 0 then m.swResult k (swHd h k 1) 0x101
    else m.swQueue (.add (swHd h k 1) mac vid port sub))

/-- MAC_DEL (R451). -/
def execMacDel (dt : Nat) (h : Hdr) (mac vid : Nat) (s : State) : Res :=
  .next (s.ev dt fun k m => if !m.swUp then m else if vidBad vid then m.swResult k (swHd h k 2) 0x101 else m.swQueue (.del (swHd h k 2) mac vid))

/-- MAC_FLUSH (R451). -/
def execMacFlush (dt : Nat) (h : Hdr) (port flags vid : Nat) (s : State) : Res :=
  .next (s.ev dt fun k m =>
    if !m.swUp then m
    else if (decide (9 < port) && port != 0xFF) || decide (1 < flags) || (vidBad vid && vid != 0xFFFF) then m.swResult k (swHd h k 3) 0x101
    else m.swQueue (.flush (swHd h k 3) port (flags == 1) vid))

/-- VLAN_SET (R451). -/
def execVlanSet (dt : Nat) (h : Hdr) (vid member untag flags : Nat) (s : State) : Res :=
  .next (s.ev dt fun k m => m.swNow k h 0x10 (vidBad vid || decide (1023 < member) || decide (1023 < untag) || decide (1 < flags)) fun m =>
    let v : Vlan := { member := member, untag := untag, valid := flags == 1 }
    ({ m with sw := { m.sw with vlan := AMap.put (fun _ => ({ member := 0, untag := 0, valid := false } : Vlan)) vid v m.sw.vlan } }, 0))

/-- RIF_SET (R444, R451). -/
def execRifSet (dt : Nat) (h : Hdr) (rif flags vid ip4 len4 reserved ip6 : Nat) (s : State) : Res :=
  .next (s.ev dt fun k m => m.swNow k h 0x11 (decide (15 < rif) || decide (3 < flags) || (flags != 0 && vidBad vid) || decide (32 < len4) || reserved != 0) fun m =>
    let v : Rif := { v4 := flags.testBit 0, v6 := flags.testBit 1, vid := vid, ip4 := ip4, len4 := len4, ip6 := ip6 }
    ({ m with sw := { m.sw with rif := AMap.put (fun _ => ({ v4 := false, v6 := false, vid := 0, ip4 := 0, len4 := 0, ip6 := 0 } : Rif)) rif v m.sw.rif } }, 0))

/-- NH_SET (R444, R451). -/
def execNhSet (dt : Nat) (h : Hdr) (nh flags mac vid : Nat) (s : State) : Res :=
  .next (s.ev dt fun k m => m.swNow k h 0x20 (decide (1023 < nh) || decide (1 < flags) || (flags == 1 && vidBad vid)) fun m =>
    let v : NextHop := { valid := flags == 1, mac := mac, vid := vid }
    ({ m with sw := { m.sw with nh := AMap.put (fun _ => ({ valid := false, mac := 0, vid := 0 } : NextHop)) nh v m.sw.nh } }, 0))

/-- ROUTE_ADD (R445, R446, R451). -/
def execRouteAdd (dt : Nat) (h : Hdr) (family plen nh pfx reserved : Nat) (s : State) : Res :=
  .next (s.ev dt fun k m => m.swNow k h 0x21 (routeBad family plen nh reserved pfx) fun m =>
    m.routeAdd (family == 6) { bits := prefixBits (family == 6) pfx, len := plen, nh := nh })

/-- ROUTE_DEL (R446, R451). -/
def execRouteDel (dt : Nat) (h : Hdr) (family plen nh pfx reserved : Nat) (s : State) : Res :=
  .next (s.ev dt fun k m => m.swNow k h 0x22 (routeBad family plen 0 reserved pfx || nh != 0) fun m =>
    m.routeDel (family == 6) (prefixBits (family == 6) pfx) plen)

/-- SW_PARITY_FAIL (R447). -/
def execSwParityFail (dt table index : Nat) (s : State) : Res :=
  .next (s.ev dt fun _ m => if m.swUp then m.swParity table index else m)

/-- PACKET_TX: the next item of ring 6 or 7, its buffers' bytes as read from host memory (R449). -/
def execPacketTx (dt n : Nat) (data : List Byte) (s : State) : Res :=
  .next (s.ev dt fun k m => if m.barUp && (n == 6 || n == 7) then m.packetTx k n data else m)

/-- SW_TBL_SEL: a full write (R453). -/
def execSwTblSel (dt v : Nat) (s : State) : Res :=
  .next (s.ev dt fun k m => m.access R.SW_TBL_SEL fun m => m.swSel k v)

/-- EGRESS_TRANSMIT (R439). -/
def execEgressTransmit (dt port : Nat) (s : State) : Res :=
  .next (s.ev dt fun k m => if m.swUp && decide (port < 8) && m.swPortOn port then m.egressTx k port else m)

end Sys2Proof.Machine
end

