-- ==== Sys2Proof/Machine/AirBase.lean ====
section
/-! DEFINITION. The air link (chapter 09), its parts: airtime, budgets, regions, the grain map, slots, frames. Paths and WB channels are
numbered 0 WB0, 1 WB1, 2 SG; bands 0 SG, 1 WB0, 2 WB1. -/

namespace Sys2Proof.Machine

/-! ## Contexts and lists -/

def Mod.arv (m : Mod) (r : Nat) : AirRover := AMap.get (fun _ => AirRover.fresh) m.air.rover r

def Mod.setArv (m : Mod) (r : Nat) (c : AirRover) : Mod :=
  { m with air := { m.air with rover := AMap.put (fun _ => AirRover.fresh) r c m.air.rover } }

/-- Rovers that take part in the map (R403). -/
def Mod.airRovers (m : Mod) : List Nat := (upto 256).filter fun r => m.on (F.ROVER_LINK_CTL_EN r)

/-- The channel of a rover: in force, or decided, or named in its link control (R364, R377). -/
def Mod.chanOf (m : Mod) (r : Nat) : Nat :=
  let c := m.arv r
  match c.cur, c.next with
  | some a, _ => a.chan
  | none, some a => a.chan
  | none, none => m.fld (F.ROVER_LINK_CTL_CHAN r)

/-- VER_MAX; 0 is reserved and acts as 3 (R403). -/
def Mod.verMax (m : Mod) (r : Nat) : Nat := let v := m.fld (F.ROVER_LINK_CTL_VER_MAX r); if v = 0 then 3 else v

/-- A rover's version: recorded, or its VER_MAX before it has been heard (R375). -/
def Mod.roverVer (m : Mod) (r : Nat) : Nat := let v := m.fld (F.ROVER_LINK_STAT_VER r); if v = 0 then m.verMax r else v

/-- Enabled rovers whose assignment in force is on a channel (R364, R375). -/
def Mod.assigned (m : Mod) (c : Nat) : List Nat :=
  m.airRovers.filter fun r => match (m.arv r).cur with | some a => a.chan == c | none => false

/-- The floor version of a WB channel; 3 without rovers (R375). -/
def Mod.floorVer (m : Mod) (c : Nat) : Nat := ((m.assigned c).map m.roverVer).foldl min 3

/-- Superframe counted from the GPS epoch. -/
def Clock.sfNo (k : Clock) : Nat := k.tickNo / 10

/-! ## Registers of the paths -/

def Mod.wbCfg (m : Mod) (c : Nat) : Nat := if c = 0 then m.rd R.AIR_WB0_CFG else m.rd R.AIR_WB1_CFG
def wbWidth (cfg : Nat) : Nat := bitsOf cfg 16 16
def wbCtrl (cfg : Nat) : Nat := bitsOf cfg 22 20
def wbDl (cfg : Nat) : Nat := bitsOf cfg 30 28
def wbCentre (cfg : Nat) : Nat := bitsOf cfg 12 0

/-- N of R360: data bits per symbol for a rate code; the same at both widths. -/
def symBits (code : Nat) : Nat := nth 24 [24, 36, 48, 72, 96, 144, 192, 216] code

/-- Airtime of a WB transmission of B bytes in µs (R360). -/
def wbAir (width code bytes : Nat) : Nat :=
  let sym := (22 + 8 * bytes + symBits code - 1) / symBits code
  if width = 0 then 40 + 8 * sym else 20 + 4 * sym

/-- Airtime of an SG frame of B bytes in µs (R360); PRE below 4 acts as 4 (R401). -/
def Mod.sgAir (m : Mod) (bytes : Nat) : Nat :=
  let pre := max 4 (m.fld F.AIR_SG_CFG_PRE)
  (if m.on F.AIR_SG_CFG_RATE then 40 else 80) * (pre + 8 + bytes)

/-- Whether the largest beacon fits two grains at a control rate (R370). -/
def ctrlFits (cfg : Nat) : Bool := decide (wbAir (wbWidth cfg) (wbCtrl cfg) 228 + 16 ≤ 200)

/-- Whole grains of a frame with an 8 µs guard at both ends (R370). -/
def grainsOf (us : Nat) : Nat := (us + 16 + 99) / 100

/-! ## Regions (R397) -/

/-- Whether a profile lists centre number n, 5,725 MHz + 5 MHz × n, as allowed and not requiring radar detection: the lists of
REGION_INFO stand in no table of the spec, EU and NA each list at least one centre (R397, R404; log entry 19). -/
def centreListed (region n : Nat) : Bool :=
  (decide (region ≤ 2) && n == 2 + (Config.listedCentre region).val) || Config.freeBool 397 (region * 64 + n)

/-- Whether a WB centre is within the band the radio has (R357) and one that the region lists (R397). -/
def centreOk (region cfg : Nat) : Bool :=
  let half := if wbWidth cfg = 0 then 5 else 10
  decide (1 ≤ region) && decide (5725 + half ≤ wbCentre cfg) && decide (wbCentre cfg + half ≤ 5925)
    && (wbCentre cfg - 5725) % 5 == 0 && centreListed region ((wbCentre cfg - 5725) / 5)

/-- Whether the region refuses a path's setting (R397). -/
def Mod.pathRefused (m : Mod) (region p : Nat) : Bool :=
  if p < 2 then !centreOk region (m.wbCfg p)
  else region == 0 || (region == 1 && m.on F.AIR_SG_CFG_RATE) || (region == 3 && !Config.freeBool 398 (if m.on F.AIR_SG_CFG_RATE then 1 else 0))

/-- Dwell limit of a region: DWELL_MAX in ms, DWELL_WIN in s, HOP_N; a CUSTOM image's are not in the spec (R397, log entry 19). -/
def dwellOf (region : Nat) : Option (Nat × Nat × Nat) :=
  if region = 2 then some (400, 20, 50)
  else if region = 3 ∧ Config.freeBool 399 0 = true then some (Config.freeNat 399 0, Config.freeNat 399 1, Config.freeNat 399 2 + 1)
  else none

/-- A region's duty-cycle limit of SG, ms per hour (R397). -/
def dutyOf (region : Nat) : Nat := if region = 1 then 360000 else if region = 3 then Config.freeNat 399 3 % 3600001 else 3600000

/-- A region's SG power limit in 0.1 dBm. -/
def sgLimit (region : Nat) : Int := if region = 3 then Config.freeInt 399 4 else 270

/-- The power of a path in 0.1 dBm: its setting, held to the limit net of the antenna gain (R398); the spec states no limit for WB
but the radio's own. -/
def Mod.airPower (m : Mod) (p : Nat) : Int :=
  let v := m.rd (if p = 0 then R.AIR_WB0_PWR else if p = 1 then R.AIR_WB1_PWR else R.AIR_SG_PWR)
  let set : Int := (bitsOf v 4 0 * 10 : Nat)
  if p = 2 then min set (sgLimit m.air.region - (bitsOf v 15 8 : Nat)) else min set 230

/-- The status of AIR: paths refused, floor versions, map counts (R401). -/
def Mod.airShow (m : Mod) : Mod :=
  let b (p : Nat) := if m.pathRefused m.air.region p then 1 else 0
  let m := m.setF F.AIR_STAT_PATH_REFUSED (b 2 + 2 * b 0 + 4 * b 1)
  let m := (m.setF F.AIR_STAT_FLOOR0 (m.floorVer 0)).setF F.AIR_STAT_FLOOR1 (m.floorVer 1)
  let n (c : Nat) := ((upto 256).filter fun r => m.on (F.ROVER_LINK_SLOT_VALID r) && m.fld (F.ROVER_LINK_SLOT_CHAN r) == c).length
  m.wr R.AIR_MAP_STAT (n 0 + 65536 * n 1)

/-! ## Budgets (R394 to R396, R561) -/

def bandOf (path : Nat) : Nat := if path = 2 then 0 else path + 1

/-- The whole second of elapsed time that a bin covers. -/
def Clock.binSec (k : Clock) : Nat := k.raw / 1250000000

/-- Bins of a band, or of its DROP share with band + 3, within the last 3,600 s. -/
def Mod.binsOf (m : Mod) (k : Clock) (b : Nat) : AMap Nat :=
  (AMap.get (fun _ => []) m.nv.bins b).filter fun e => decide (k.binSec < e.1 + 3600)

def binSum (l : AMap Nat) : Nat := l.foldl (fun a e => a + e.2) 0

/-- The sums of a band show (R402). -/
def Mod.budShow (m : Mod) (k : Clock) (b : Nat) : Mod :=
  let m := m.wr (R.AIR_BUD_USED b) (binSum (m.binsOf k b) / 1000 % 4194304)
  let m := m.wr (R.AIR_BUD_DROP b) (binSum (m.binsOf k (b + 3)) / 1000 % 4194304)
  match dwellOf m.air.region with
  | some (_, win, hop) =>
    if b = 0 then
      let ch := k.sfNo % hop
      let us := (m.air.dwell.filter fun (e : Nat × Nat × Nat) => decide (k.raw < e.1 + secRaw win) && e.2.1 == ch).foldl (fun a e => a + e.2.2) 0
      m.wr (R.AIR_BUD_DWELL 0) (us / 1000 % 65536)
    else m.wr (R.AIR_BUD_DWELL b) 0
  | none => m.wr (R.AIR_BUD_DWELL b) 0

/-- LIMIT of a band in ms (R397, R402). -/
def Mod.budLimit (m : Mod) (b : Nat) : Nat :=
  let l := min 3600000 (m.rd (R.AIR_BUD_LIMIT b) % 4194304)
  if b = 0 then min l (dutyOf m.air.region) else l

/-- Whether the dwell limit allows a transmission on the current SG channel (R396). -/
def Mod.dwellOk (m : Mod) (k : Clock) (us : Nat) : Bool :=
  match dwellOf m.air.region with
  | none => true
  | some (mx, win, hop) =>
    let l := m.air.dwell.filter fun (e : Nat × Nat × Nat) => decide (k.raw < e.1 + secRaw win) && e.2.1 == k.sfNo % hop
    decide (l.foldl (fun a e => a + e.2.2) us ≤ mx * 1000)

/-- The budget check of R394. -/
def Mod.budOk (m : Mod) (k : Clock) (b us : Nat) (drop : Bool) : Bool :=
  let lim := m.budLimit b
  let res := if drop then 0 else m.rd (R.AIR_BUD_RES b) % 4194304
  lim != 0 && decide (binSum (m.binsOf k b) + us + res * 1000 ≤ lim * 1000) && (b != 0 || m.dwellOk k us)

/-- A transmission is withheld (R394). -/
def Mod.budDeny (m : Mod) (b : Nat) (drop : Bool) : Mod :=
  if drop then (m.inc (R.AIR_BUD_DROP_DENY_CNT b)).airEvt 5 else (m.inc (R.AIR_BUD_DENY_CNT b)).airEvt 4

/-- Airtime is added to a band's bins. -/
def Mod.binAdd (m : Mod) (k : Clock) (b us : Nat) : Mod :=
  let l := m.binsOf k b
  let l := AMap.put (fun _ => 0) k.binSec (AMap.get (fun _ => 0) l k.binSec + us) l
  { m with nv := { m.nv with bins := AMap.put (fun _ => []) b l m.nv.bins } }

/-- Airtime of a transmission is accounted (R394, R396, R583). -/
def Mod.budUse (m : Mod) (k : Clock) (b us : Nat) (drop : Bool) : Mod :=
  let m := m.binAdd k b us
  let m := if drop then m.binAdd k (b + 3) us else m
  let m : Mod := { m with air := { m.air with sfUs := setAt m.air.sfUs b (nth 0 m.air.sfUs b + us) } }
  let m : Mod := match dwellOf m.air.region with
    | some (_, win, hop) =>
      if b = 0 then
        let old := m.air.dwell.filter fun (e : Nat × Nat × Nat) => decide (k.raw < e.1 + secRaw win)
        ({ m with air := { m.air with dwell := old ++ [(k.raw, k.sfNo % hop, us)] } } : Mod)
      else m
    | none => m
  (m.perfAdd (perfAir b) us).budShow k b

/-! ## The grain map (R361 to R365, R399) -/

/-- First DOWN grain and how many, by width and tick phase (R362). -/
def downArea (width phase : Nat) : Nat × Nat :=
  if width = 0 then (if phase = 5 ∨ phase = 9 then (64, 11) else (69, 12))
  else if phase = 5 then (79, 11) else if phase = 9 then (82, 11) else (82, 12)

/-- Uplink slots of a tick phase (R362). -/
def upSlots (width phase : Nat) : Nat :=
  if width = 0 then (if phase = 5 ∨ phase = 9 then 12 else 13) else if phase = 5 then 25 else 26

/-- Grains of a slot (R363). -/
def slotGrains (width : Nat) : Nat := if width = 0 then 5 else 3

/-- Resync windows of a channel (R387). -/
def resyncWins (width : Nat) : Nat := if width = 0 then 2 else 3

/-- A rover's uplink phase (R363). -/
def upPhase (r : Nat) : Nat := (r + 9) % 10

/-- Whether a grain of a tick phase lies in a retired set that has left the map, or in one that has not yet (R399). -/
def Mod.setRetired (m : Mod) (c phase j : Nat) : Bool := m.isRetired 4 (c * 100 + phase * 10 + j / 10)

def Mod.setGone (m : Mod) (c phase j : Nat) : Bool := m.air.gone.contains (c * 100 + phase * 10 + j / 10)

/-- A grain is silent: its set is retired or in retry (R34, R399). -/
def Mod.grainSilent (m : Mod) (c phase j : Nat) : Bool :=
  m.setRetired c phase j || (m.elemAt 4 (c * 100 + phase * 10 + j / 10)).retry

/-- The grains `j` to `j + n - 1` of a tick phase. -/
def grainRange (j n : Nat) : List Nat := (upto n).map fun i => j + i

/-- The grains of a slot at `w` grains a slot. -/
def slotRange (w s : Nat) : List Nat := grainRange (4 + w * s) w

/-- Grains held by an uplink slot in force on a channel in a tick phase. -/
def Mod.heldGrains (m : Mod) (c phase : Nat) : List Nat :=
  ((upto 256).filter fun r => upPhase r == phase).flatMap fun r =>
    match (m.arv r).cur with
    | some a => if a.chan = c then match a.slot with | some s => slotRange a.w s | none => [] else []
    | none => []

/-- Grains of resync windows assigned for a superframe on a channel (R387). -/
def Mod.winGrains (m : Mod) (c sf : Nat) : List Nat :=
  let w := slotGrains (wbWidth (m.wbCfg c))
  ((upto 256).filter fun r => m.chanOf r == c).flatMap fun r =>
    ((m.arv r).wins.filter fun (e : Nat × Nat) => e.1 == sf).flatMap fun (e : Nat × Nat) => grainRange (90 + w * e.2) w

/-- The use of a grain, as GRAIN_MAP codes it: 0 TOKEN, 1 DOWN, 2 UP, 3 RESYNC, 4 HOST, 5 RETIRED, 6 a free slot (R362, R404). -/
def Mod.grainUse (m : Mod) (c phase : Nat) (held : List Nat) (j : Nat) : Nat :=
  let width := wbWidth (m.wbCfg c)
  let d := downArea width phase
  if m.setGone c phase j then 5
  else if j < 2 then 0
  else if held.contains j then 2
  else if d.1 ≤ j ∧ j < d.1 + d.2 then 1
  else if phase = 5 ∧ 90 ≤ j then 3
  else if 4 ≤ j ∧ j < 4 + slotGrains width * upSlots width phase then 6
  else 4

/-! ## Slots (R364, R365) -/

/-- A channel takes rovers: enabled (R364). -/
def Mod.chanEn (m : Mod) (c : Nat) : Bool := if c = 0 then m.on F.AIR_CTL_WB0_EN else m.on F.AIR_CTL_WB1_EN

/-- The slot exists at the channel's width in the rover's uplink phase and overlaps no retired set (R364, R399). -/
def Mod.slotOk (m : Mod) (c r s : Nat) : Bool :=
  let width := wbWidth (m.wbCfg c)
  decide (s < upSlots width (upPhase r)) && (slotRange (slotGrains width) s).all fun j => !m.setRetired c (upPhase r) j

/-- What has been given out: channel, uplink phase, slot. -/
abbrev SlotUse := List (Nat × Nat × Nat)

/-- The lowest free slot of a rover on a channel. -/
def Mod.freeSlot (m : Mod) (used : SlotUse) (c r : Nat) : Option Nat :=
  (upto 26).find? fun s => m.slotOk c r s && !used.contains (c, upPhase r, s)

/-- The assignment decided last: waiting, or in force. -/
def AirRover.newest (c : AirRover) : Option SlotAsg := match c.next with | some a => some a | none => c.cur

/-- A new assignment of a rover, effective with the fifth superframe boundary after this superframe's start (R365). -/
def Mod.mkAsg (m : Mod) (k : Clock) (c : Nat) (slot : Option Nat) (conflict : Bool) : SlotAsg :=
  { chan := c, slot := slot, conflict := conflict, eff := k.sfNo + 5, w := slotGrains (wbWidth (m.wbCfg c)) }

/-- Whether two assignments are the same but for EFFECTIVE. -/
def SlotAsg.same (a b : SlotAsg) : Bool := a.chan == b.chan && a.slot == b.slot && a.conflict == b.conflict && a.w == b.w

/-- A rover's assignment is decided; a change waits for EFFECTIVE. -/
def Mod.asgDecide (m : Mod) (r : Nat) (a : SlotAsg) : Mod :=
  let c := m.arv r
  match c.newest with
  | some o => if SlotAsg.same a o then m else m.setArv r { c with next := some a }
  | none => m.setArv r { c with next := some a }

/-- Channels and slots by ROVER_LINK_CTL (AUTO 0). -/
def Mod.assignFixed (m : Mod) (k : Clock) : Mod :=
  (m.airRovers.foldl (fun (x : Mod × SlotUse) r =>
    let c := m.fld (F.ROVER_LINK_CTL_CHAN r)
    let s := m.fld (F.ROVER_LINK_CTL_SLOT r)
    if !m.slotOk c r s then (x.1.asgDecide r (m.mkAsg k c none false), x.2)
    else if x.2.contains (c, upPhase r, s) then (x.1.asgDecide r (m.mkAsg k c none true), x.2)
    else (x.1.asgDecide r (m.mkAsg k c (some s) false), (c, upPhase r, s) :: x.2)) (m, [])).1

/-- A rover's newest assignment stays valid (AUTO 1). -/
def Mod.asgValid (m : Mod) (r : Nat) : Option (Nat × Nat) :=
  match (m.arv r).newest with
  | some a => match a.slot with
    | some s => if m.chanEn a.chan && m.slotOk a.chan r s && a.w == slotGrains (wbWidth (m.wbCfg a.chan)) then some (a.chan, s) else none
    | none => none
  | none => none

/-- The module places rovers (AUTO 1): assignments that stay valid are kept, the others placed in ascending rover ID. -/
def Mod.assignAuto (m : Mod) (k : Clock) : Mod :=
  let kept := m.airRovers.filterMap fun r => (m.asgValid r).map fun a => (a.1, upPhase r, a.2)
  ((m.airRovers.filter fun r => (m.asgValid r).isNone).foldl (fun (x : Mod × SlotUse) r =>
    let n (c : Nat) := (x.2.filter fun u => u.1 == c && u.2.1 == upPhase r).length
    let first := if m.chanEn 0 && (!m.chanEn 1 || decide (n 0 ≤ n 1)) then 0 else 1
    let pick (c : Nat) := if m.chanEn c then (m.freeSlot x.2 c r).map fun s => (c, s) else none
    match (pick first).or (pick (1 - first)) with
    | some (c, s) => (x.1.asgDecide r (m.mkAsg k c (some s) false), (c, upPhase r, s) :: x.2)
    | none => (x.1.asgDecide r (m.mkAsg k first none false), x.2)) (m, kept)).1

/-- NO_SLOT and CONFLICT of a rover's newest decision (R364). -/
def Mod.asgFlags (m : Mod) (r : Nat) : Mod :=
  match (m.arv r).newest with
  | some a => (m.setB (F.ROVER_LINK_SLOT_NO_SLOT r) (a.slot.isNone && m.on (F.ROVER_LINK_CTL_EN r))).setB (F.ROVER_LINK_SLOT_CONFLICT r) a.conflict
  | none => m

/-- Slots are assigned at an apply (R364); a rover no longer enabled gives its slot up at EFFECTIVE. -/
def Mod.airAssign (m : Mod) (k : Clock) : Mod :=
  let gone := (upto 256).filter fun r => !m.on (F.ROVER_LINK_CTL_EN r) && (m.arv r).newest.isSome
  let m := m.each gone fun m r =>
    let c := m.arv r
    match c.newest with
    | some a => if a.slot.isNone && !a.conflict then m else m.setArv r { c with next := some { a with slot := none, conflict := false, eff := k.sfNo + 5 } }
    | none => m
  let m := if bitsOf (m.rd R.AIR_MAP_CTL) 0 0 = 1 then m.assignAuto k else m.assignFixed k
  let m := m.each (upto 256) fun m r => m.asgFlags r
  let m := m.each (upto 256) fun m r =>
    if !m.on (F.ROVER_LINK_CTL_EN r) then m.setF (F.ROVER_LINK_STAT_LINK r) 0
    else if m.fld (F.ROVER_LINK_STAT_LINK r) = 0 then m.setF (F.ROVER_LINK_STAT_LINK r) 1 else m
  m.airShow

/-- ROVER_LINK_SLOT of an assignment in force (R363, R403). -/
def slotReg (r : Nat) (a : SlotAsg) (en : Bool) : Nat :=
  match a.slot with
  | some s => a.chan + s * 256 + (100 * upPhase r + 4 + a.w * s) * 65536 + 268435456
  | none => a.chan + (if en then 536870912 else 0) + (if a.conflict then 1073741824 else 0)

/-- Assignments whose EFFECTIVE has come take effect at the start of a superframe (R365). -/
def Mod.mapEffective (m : Mod) (sf : Nat) : Mod :=
  let l := (upto 256).filter fun r => match (m.arv r).next with | some a => decide (a.eff ≤ sf) | none => false
  if l.isEmpty then m
  else
    let m := m.each l fun m r =>
      let c := m.arv r
      match c.next with
      | none => m
      | some a =>
        let en := m.on (F.ROVER_LINK_CTL_EN r)
        let m := m.wr (R.ROVER_LINK_SLOT r) (if en || a.slot.isSome then slotReg r a en else 0)
        m.setArv r { c with cur := if en then some a else none, next := none }
    ((m.inc R.AIR_MAP_SERIAL).airEvt 7).airShow

/-- At a superframe boundary the grains of retired sets leave the map, and rovers whose slot overlaps one move (R399). -/
def Mod.airRemap (m : Mod) (k : Clock) : Mod :=
  let gone := (upto 200).filter fun i => m.isRetired 4 i
  if gone = m.air.gone then m
  else
    let m : Mod := { m with air := { m.air with gone := gone } }
    let hit (r : Nat) (a : SlotAsg) : Bool := match a.slot with
      | some s => (slotRange a.w s).any fun j => m.setRetired a.chan (upPhase r) j
      | none => false
    let rs := m.airRovers.filter fun r => match (m.arv r).newest with | some a => hit r a | none => false
    let held : SlotUse := (m.airRovers.filter fun r => !rs.contains r).filterMap fun r => match (m.arv r).newest with
      | some a => a.slot.map fun s => (a.chan, upPhase r, s)
      | none => none
    let m := (rs.foldl (fun (x : Mod × SlotUse) r =>
      let f (c : Nat) := if m.chanEn c then m.freeSlot x.2 c r else none
      let pick := match f 0, f 1 with
        | some a, some b => if b < a then some (1, b) else some (0, a)
        | some a, none => some (0, a)
        | none, some b => some (1, b)
        | none, none => none
      match pick with
      | some (c, s) => (x.1.asgDecide r (m.mkAsg k c (some s) false), (c, upPhase r, s) :: x.2)
      | none => (x.1.asgDecide r (m.mkAsg k (m.chanOf r) none false), x.2)) (m, held)).1
    (m.each rs fun m r => m.asgFlags r).airShow

/-! ## Frames (R366 to R371) -/

/-- The header of a frame from the module. -/
def Mod.airHeader (m : Mod) (ver type len path seq t : Nat) : List Byte :=
  if ver = 1 then le 1 1 ++ le 1 type ++ le 2 len ++ le 1 0 ++ le 1 0 ++ le 2 seq ++ le 4 (t % 4294967296)
  else le 1 ver ++ le 1 type ++ le 2 len ++ le 2 (m.rd R.BRACE_ID % 65536) ++ le 1 0 ++ le 1 0 ++ le 2 seq
    ++ le 1 (if ver = 3 then m.fld F.AIR_KEY_CTL_EPOCH else 0) ++ le 1 path ++ le 4 (t % 4294967296) ++ le 2 (t / 4294967296 % 65536) ++ le 2 0

def hdrLen (ver : Nat) : Nat := if ver = 1 then 12 else 20
def tagLen (ver : Nat) : Nat := if ver = 1 then 4 else if ver = 2 then 8 else 16

/-- Bytes of a frame with its header and tag. -/
def frameLen (ver body : Nat) : Nat := hdrLen ver + body + tagLen ver

/-- The channel a path transmits on: centre in MHz, or the SG channel index (R396). -/
def Mod.airChan (m : Mod) (k : Clock) (path : Nat) : Nat :=
  if path < 2 then wbCentre (m.wbCfg path)
  else match dwellOf m.air.region with | some (_, _, hop) => k.sfNo % hop | none => 0

/-- A frame is sent on a path, at the full time `t` that it names, starting in a grain of the superframe; nothing is sent when the
broadcast key cannot be used (R369, R371, R500). The airtime has been checked. -/
def Mod.airSend (m : Mod) (k : Clock) (ver type path grain t us : Nat) (drop : Bool) (body : List Byte) : Mod :=
  let seq := (nth 0 m.air.seq path + 1) % 65536
  let msg := m.airHeader ver type (frameLen ver body.length) path seq t ++ body
  match m.tagBy (m.fld F.AIR_KEY_CTL_BCAST) 1 (tagLen ver) msg with
  | (m, none) => m
  | (m, some tag) =>
    let m : Mod := { m with air := { m.air with seq := setAt m.air.seq path seq } }
    let m := (m.inc R.AIR_TX_CNT).perfAdd (perfAir 3) 1
    let m := m.budUse k (bandOf path) us drop
    m.emit (.radio path type grain (m.airChan k path) (m.airPower path) (msg ++ tag))

/-- The paths are allowed to transmit: AIR enabled, its unit and region states, no soft reset in this tick (R398, R401, R559). -/
def Mod.airTx (m : Mod) (path : Nat) : Bool :=
  m.running && m.on F.BRACE_STAT_GATE_OPEN && m.on F.AIR_CTL_EN && !m.air.regionPend && !m.pwr.softBlocks.testBit 13 && !m.pathRefused m.air.region path
    && (if path < 2 then m.domOn 10 && m.chanEn path else m.domOn 9 && m.on F.AIR_CTL_SG_EN)

/-- Full time of the start of a grain of the tick in progress (R361). -/
def Clock.grainNs (k : Clock) (j : Nat) : Nat := Clock.fullNs k.tickStart + j * 100000

/-- The grain of the tick in which an instant lies. -/
def Clock.grain (k : Clock) : Nat := k.subNs k.raw / 100000

/-- FLAGS of tokens and beacons (R368). -/
def Mod.airFlags (m : Mod) (step : Bool) : Nat :=
  m.fld F.AIR_STAT_DROP_ACTIVE + (if m.tstate = 1 then 2 else 0) + (if step then 4 else 0)

/-- The 32 AUTH bytes; every bit 0 while go tokens are not allowed (R27, R368, R380). -/
def Mod.authBytes (m : Mod) (allowed : Bool) : List Byte :=
  (upto 32).map fun i => BitVec.ofNat 8 (((upto 8).map fun j => if allowed && m.on (F.SHEP_RV_STAT_AUTH (8 * i + j)) then 2 ^ j else 0).sum)

end Sys2Proof.Machine
end

