-- ==== Sys2Proof/Machine/Air.lean ====
section
/-! DEFINITION. The air link (chapter 09): tokens and beacons, the downlink block, host grains, SG, DROP on air, uplinks, resync, lapses. -/

namespace Sys2Proof.Machine

/-! ## Elements (R368, R377) -/

/-- An element: header, body, padding to 4 bytes (R368). -/
def airElement (type rover : Nat) (body : List Byte) : List Byte :=
  le 1 type ++ le 1 rover ++ le 2 body.length ++ body ++ List.replicate ((4 - body.length % 4) % 4) 0

/-- Serial `a` is older than `b`, modulo 2^16 (R275). -/
def serialOlder (a b : Nat) : Bool := let d := (b + 65536 - a % 65536) % 65536; decide (0 < d) && decide (d < 32768)

/-- An element joins the queue; a newer GRANT or PROFILE of a rover replaces a waiting one with an older serial (R377). -/
def airJoin (q : List AirElem) (e : AirElem) : List AirElem :=
  (if e.kind = 1 ∨ e.kind = 2 then q.filter fun o => !(o.kind == e.kind && o.rover == e.rover && serialOlder o.serial e.serial) else q) ++ [e]

/-- AIR takes what the Shepherd and MOT have handed over (R284, R302, R327); elements of rovers outside the map have no channel. -/
def Mod.airCollect (m : Mod) (k : Clock) : Mod :=
  let en (r : Nat) := m.on (F.ROVER_LINK_CTL_EN r)
  let mk (kind off : Nat) (e : Nat × List Byte) : AirElem :=
    { kind := kind, rover := e.1, serial := leAt e.2 off 2, body := e.2, inTick := k.tickNo, instant := 0, chans := [] }
  let new := (m.shep.toAir.filter fun e => en e.1).map (mk 1 4) ++ (m.mot.toAir.filter fun e => en e.1).map (mk 2 4)
    ++ (m.shep.toAirTask.filter fun e => en e.1).map (mk 3 0)
  let new := new.filter fun e => !(e.kind == 2 && (m.arv e.rover).stale == some (leAt e.body 2 2))
  let q := if m.blkOn 13 then new.foldl airJoin m.air.queue else m.air.queue
  { m with
    air := { m.air with queue := q }
    shep := { m.shep with toAir := [], toAirTask := [] }
    mot := { m.mot with toAir := [] } }

/-- RTCM published at a boundary joins the downlink of the tick that begins there (R377), and is what CORR_FB carries next. -/
def Mod.airRtcm (m : Mod) (k : Clock) : Mod :=
  if !(m.pack.rtcmDone && m.serves) || m.pack.rtcm.isEmpty || !m.blkOn 13 then m
  else
    let body := m.pack.rtcm.flatMap id
    let e : AirElem := { kind := 4, rover := 0, serial := 0, body := body, inTick := k.tickNo, instant := m.pack.rtcmTick, chans := m.wbOn }
    let q := if m.on F.AIR_CTL_DL_RTCM then m.air.queue ++ [e] else m.air.queue
    { m with air := { m.air with queue := q, rtcm := some (m.pack.rtcmTick, body) } }

/-- RTCM elements still waiting 100 ms after their instant are discarded (R377). -/
def Mod.rtcmExpire (m : Mod) (k : Clock) : Mod :=
  let late (e : AirElem) : Bool := e.kind == 4 && decide (10 ≤ tickDiff k.tick e.instant)
  let n := (m.air.queue.filter late).length
  if n = 0 then m
  else { (m.incBy R.AIR_RTCM_LATE_CNT n) with air := { m.air with queue := m.air.queue.filter fun e => !late e } }

/-- GRANT and PROFILE of this tick wait while a synchronised HOT partner has not acknowledged both deltas (R474). -/
def Mod.ackHeld (m : Mod) (k : Clock) : Bool :=
  m.role == 1 && m.on F.BRACE_STAT_SYNCED && (match m.brace.partner with | some p => p.role == 2 | none => false)
    && !(m.brace.ackTick == some k.tickNo && m.brace.acks == 3)

/-- A grant's profile has not been planned yet: the grant is not sent (R28). -/
def Mod.grantWaits (m : Mod) (e : AirElem) : Bool :=
  m.mot.carried.any fun w => match w with | .grant g => g.rover == e.rover && g.serial == e.serial | _ => false

/-- A GRANT that holds span entries (R285, R378). -/
def hasSpans (e : AirElem) : Bool := e.kind == 1 && decide (16 < e.body.length)

/-- An element may go out in this tick. -/
def Mod.elemReady (m : Mod) (k : Clock) (e : AirElem) : Bool :=
  if e.kind = 1 then !(m.ackHeld k && e.inTick == k.tickNo) && !(hasSpans e && (m.grantWaits e || !m.mayToken))
  else if e.kind = 2 then !(m.ackHeld k && e.inTick == k.tickNo)
  else if e.kind = 4 then m.mayCorrect && m.on F.AIR_CTL_DL_RTCM
  else true

/-- A GRANT whose first LSTART has passed is discarded with its PROFILEs, those that come later too (R378). -/
def Mod.grantStale (m : Mod) (k : Clock) (c : Nat) : Mod :=
  let stale := m.air.queue.filter fun e => hasSpans e && m.chanOf e.rover == c && m.elemReady k e && decide (tickDiff (leAt e.body 24 4) k.tick < 0)
  m.each stale fun m e =>
    let q := m.air.queue.filter fun o => !(o == e) && !(o.kind == 2 && o.rover == e.rover && leAt o.body 2 2 == e.serial)
    let m : Mod := { m with air := { m.air with queue := q } }
    let m := m.setArv e.rover { m.arv e.rover with stale := some e.serial }
    (((m.inc (R.ROVER_GRANT_STALE_CNT e.rover)).inc R.AIR_GRANT_STALE_CNT).linkEvt e.rover 6).airEvt 3

/-! ## Tokens and beacons (R380, R387, R388, R390) -/

/-- Rovers of a channel whose RESYNC is set, by superframe of the miss and rover ID (R388). -/
def Mod.resyncList (m : Mod) (c : Nat) : List Nat :=
  let l := m.airRovers.filter fun r => m.on (F.ROVER_LINK_STAT_RESYNC r) && !m.on (F.ROVER_LINK_STAT_DRIFT_FAULT r) && m.chanOf r == c
  l.mergeSort fun a b =>
    let x := (m.arv a).missSf
    let y := (m.arv b).missSf
    decide (x < y) || (x == y && decide (a ≤ b))

/-- Resync windows of a channel whose grains are all in service (R387, R399). -/
def Mod.winsFree (m : Mod) (c : Nat) : List Nat :=
  let width := wbWidth (m.wbCfg c)
  (upto (resyncWins width)).filter fun w => (grainRange (90 + slotGrains width * w) (slotGrains width)).all fun j => !m.setRetired c 5 j

/-- The resync entries of a beacon: at most 8, the first ones with a window of the next superframe (R388). -/
def Mod.resyncEntries (m : Mod) (c : Nat) : List (Nat × Nat) :=
  let l := (m.resyncList c).take 8
  let w := m.winsFree c
  (l.zip (w.map some ++ List.replicate 8 none)).map fun e => (e.1, e.2.getD 255)

/-- Rovers assigned to a channel in ascending ID from the one after `p`, round robin. -/
def Mod.roundRobin (m : Mod) (c p : Nat) : List Nat :=
  let l := m.assigned c
  (l.filter fun r => decide (p < r)) ++ (l.filter fun r => decide (r ≤ p))

/-- A TC entry: offset predicted for the next superframe boundary in 0.1 µs, drift in ppb (R368, R385). -/
def Mod.tcEntry (m : Mod) (k : Clock) (r : Nat) : List Byte :=
  let rate := m.rdI (R.ROVER_DRIFT_RATE r)
  let ticks := tickDiff ((k.sfNo + 1) * 10) (m.arv r).lastTick
  let ns := m.rdI (R.ROVER_DRIFT_OFS r) + rate * ticks / 1000
  le 1 r ++ le 1 (unsigned 8 (clampI (-128) 127 (ns / 100))) ++ le 2 (unsigned 16 (clampI (-32768) 32767 (rate / 10)))

/-- A grain edge of this tick on a WB channel belongs to DROP frames: they go on, or begin there or before, at the first edge 20 µs or
more after the trip (R382). -/
def Mod.dropHolds (m : Mod) (k : Clock) (c j : Nat) : Bool :=
  match m.air.drop with
  | some d => nth 0 d.left c != 0
      && (d.begun.contains c || decide (d.tripRaw + usRaw 20 ≤ k.rawAt (k.tickStart + ((j * 100000 : Nat) : Int) * uPerNs)))
  | none => false

/-- The first grains of the tick on a WB channel can carry a frame: not served, not silent, not pre-empted by DROP (R28, R382, R399). -/
def Mod.tokenSlot (m : Mod) (k : Clock) (c : Nat) : Bool :=
  m.airTx c && decide (k.grain = 0) && nth none m.air.tokTick c != some k.tickNo && !m.grainSilent c k.phase 0
    && !m.dropHolds k c 0

/-- A TOKEN or BEACON goes out if its band's budget allows it (R380, R394). -/
def Mod.tokenSend (m : Mod) (k : Clock) (c type : Nat) (body : List Byte) : Mod × Bool :=
  let ver := m.floorVer c
  let cfg := m.wbCfg c
  let us := wbAir (wbWidth cfg) (wbCtrl cfg) (frameLen ver body.length)
  let m : Mod := { m with air := { m.air with tokTick := setAt m.air.tokTick c (some k.tickNo) } }
  if !m.budOk k (bandOf c) us false then (m.budDeny (bandOf c) false, false)
  else (m.airSend k ver type c (100 * k.phase) (k.grainNs 0) us false body, true)

/-- TOKEN_TX (R380). -/
def Mod.tokenTx (m : Mod) (k : Clock) (c : Nat) : Mod :=
  if k.phase = 0 ∨ !m.mayToken ∨ !m.tokenSlot k c then m
  else
    let body := le 4 k.tick ++ le 2 k.sf ++ le 1 0 ++ le 1 (m.airFlags false) ++ m.authBytes true
    let (m, sent) := m.tokenSend k c 2 body
    if sent then { m with pwr := { m.pwr with lastToken := k.raw } } else m

/-- BEACON_TX (R380, R385, R388, R390). -/
def Mod.beaconTx (m : Mod) (k : Clock) (c : Nat) : Mod :=
  if k.phase ≠ 0 ∨ !m.mayBeacon ∨ !m.tokenSlot k c then m
  else
    let cfg := m.wbCfg c
    let rs := m.resyncEntries c
    let tc := ((m.roundRobin c (nth 255 m.air.tcPtr c)).filter fun r => m.on (F.ROVER_LINK_SLOT_VALID r) && !m.air.noTc.contains r).take 32
    let step := m.on F.AIR_STAT_STEP_RESYNC && !m.air.stepDone.contains c
    let body := le 4 k.tick ++ le 2 k.sf ++ le 2 (m.rd R.AIR_MAP_SERIAL % 65536) ++ le 2 (wbCentre cfg) ++ le 1 (wbWidth cfg)
      ++ le 1 (m.airFlags step) ++ m.authBytes m.mayToken ++ le 1 m.air.region ++ le 1 rs.length ++ le 1 tc.length ++ le 1 0
      ++ (rs.flatMap fun e => le 1 e.1 ++ le 1 e.2) ++ (tc.flatMap fun r => m.tcEntry k r)
    let (m, sent) := m.tokenSend k c 1 body
    if !sent then m
    else
      let m : Mod := if m.mayToken then { m with pwr := { m.pwr with lastToken := k.raw } } else m
      let m := m.each (rs.filter fun e => e.2 != 255) fun m e =>
        let x := m.arv e.1
        m.setArv e.1 { x with wins := (x.wins.filter fun (w : Nat × Nat) => decide (k.sfNo ≤ w.1)) ++ [(k.sfNo + 1, e.2)], lastWin := e.2 }
      let m := m.each tc fun m r => m.setArv r { m.arv r with tcSf := k.sf }
      let m : Mod := match tc.getLast? with | some r => { m with air := { m.air with tcPtr := setAt m.air.tcPtr c r } } | none => m
      if !step then m
      else
        let done := c :: m.air.stepDone
        let m : Mod := { m with air := { m.air with stepDone := done } }
        if m.wbOn.all fun c => done.contains c then
          ({ m with air := { m.air with stepDone := [] } }).setB F.AIR_STAT_STEP_RESYNC false
        else m

/-! ## The downlink block (R375 to R378) -/

/-- A SLOT_ASSIGN body (R368). -/
def Mod.slotAssign (m : Mod) (r : Nat) (a : SlotAsg) : List Byte :=
  let cfg := m.wbCfg a.chan
  le 1 r ++ le 1 a.chan ++ le 1 (a.slot.getD 255) ++ le 1 (m.roverVer r) ++ le 2 (a.eff % 65536) ++ le 2 (wbCentre cfg) ++ le 1 (wbWidth cfg) ++ le 3 0

/-- SLOT_ASSIGN elements of a tick: every rover in change, on its old channel, one that leaves the map too, and one of the others
round robin (R365). -/
def Mod.assignElems (m : Mod) (c : Nat) : List (Nat × SlotAsg) × Option Nat :=
  let l := m.roundRobin c (nth 255 m.air.asgPtr c)
  let change := ((upto 256).filter fun r => m.chanOf r == c).filterMap fun r => (m.arv r).next.map fun a => (r, a)
  match (l.filterMap fun r => if (m.arv r).next.isSome then none else (m.arv r).cur.map fun a => (r, a)).head? with
  | some e => (change ++ [e], some e.1)
  | none => (change, none)

/-- A frame being filled: its version, its elements with the queue entries they come from, its body's bytes. -/
structure DownFrame where
  ver : Nat
  body : List Byte
  from_ : List AirElem
  deriving DecidableEq, Repr

/-- Frames, given in grains, find room in runs of free grains, each in the first run that holds it: the first grain of each. -/
def placeGrains : List Nat → List (Nat × Nat) → Option (List Nat)
  | [], _ => some []
  | g :: gs, runs =>
    match runs.findIdx? fun r => decide (g ≤ r.2) with
    | none => none
    | some i =>
      let r := nth (0, 0) runs i
      (placeGrains gs (setAt runs i (r.1 + g, r.2 - g))).map fun l => r.1 :: l

/-- Runs of consecutive numbers in a rising list: first and length. -/
def runsOf (l : List Nat) : List (Nat × Nat) :=
  (l.foldl (fun (acc : List (Nat × Nat)) j => match acc with
    | (s, n) :: t => if s + n = j then (s, n + 1) :: t else (j, 1) :: (s, n) :: t
    | [] => [(j, 1)]) []).reverse

/-- Grains of a DOWN frame on a channel (R360, R370). -/
def Mod.downGrains (m : Mod) (c : Nat) (f : DownFrame) : Nat :=
  let cfg := m.wbCfg c
  grainsOf (wbAir (wbWidth cfg) (wbDl cfg) (frameLen f.ver f.body.length))

/-- Frames in ascending version order. -/
def byVersion (l : List DownFrame) : List DownFrame := l.mergeSort fun a b => decide (a.ver ≤ b.ver)

/-- An element is added to the open frame of its version, or to a new one, if every frame then still has its grains (R377). -/
def Mod.downAdd (m : Mod) (c : Nat) (runs : List (Nat × Nat)) (fs : List DownFrame) (ver : Nat) (bytes : List Byte) (src : List AirElem) : Option (List DownFrame) :=
  let fits (l : List DownFrame) : Bool := (placeGrains ((byVersion l).map (m.downGrains c)) runs).isSome
  let grow := match fs.findIdx? fun f => f.ver == ver && decide (frameLen ver (f.body.length + bytes.length) ≤ 1536) with
    | some i =>
      let f := nth ({ ver := ver, body := [], from_ := [] } : DownFrame) fs i
      let l := setAt fs i ({ f with body := f.body ++ bytes, from_ := f.from_ ++ src } : DownFrame)
      if fits l then some l else none
    | none => none
  match grow with
  | some l => some l
  | none =>
    let l := fs ++ [({ ver := ver, body := bytes, from_ := src } : DownFrame)]
    if decide (frameLen ver bytes.length ≤ 1536) && fits l then some l else none

/-- An element has been sent on a channel: it leaves the queue, a broadcast element once every channel has carried it. -/
def airSent (c : Nat) (e : AirElem) (q : List AirElem) : List AirElem :=
  q.filterMap fun o =>
    if o = e then
      if e.kind = 4 then (let l := e.chans.filter fun x => x != c; if l.isEmpty then none else some { e with chans := l }) else none
    else some o

/-- The body bytes of a queued element (R368). -/
def AirElem.bytes (e : AirElem) : List Byte := airElement e.kind e.rover e.body

/-- Elements of a channel that may go out, in the order of R377: by kind, older first. -/
def Mod.downList (m : Mod) (k : Clock) (c : Nat) : List AirElem :=
  let l := m.air.queue.filter fun e => m.elemReady k e && (if e.kind = 4 then e.chans.contains c else m.chanOf e.rover == c)
  [1, 2, 3, 4].flatMap fun kind => l.filter fun e => e.kind == kind

/-- DOWNLINK_TX: the downlink grains of a tick on a WB channel are filled (R377). -/
def Mod.downlinkTx (m : Mod) (k : Clock) (c : Nat) : Mod :=
  let cfg := m.wbCfg c
  let area := downArea (wbWidth cfg) k.phase
  if !m.mayBeacon ∨ !m.airTx c ∨ nth none m.air.dlTick c = some k.tickNo ∨ k.grain < area.1 ∨ area.1 + area.2 ≤ k.grain then m
  else
    let m := (m.airCollect k).rtcmExpire k
    let m := m.grantStale k c
    let free := (grainRange area.1 area.2).filter fun j =>
      decide (k.grain ≤ j) && !m.setGone c k.phase j && !m.grainSilent c k.phase j && !m.dropHolds k c j
    let runs := runsOf free
    let (asg, ptr) := m.assignElems c
    let m : Mod := { m with air := { m.air with dlTick := setAt m.air.dlTick c (some k.tickNo) } }
    let m : Mod := match ptr with | some r => { m with air := { m.air with asgPtr := setAt m.air.asgPtr c r } } | none => m
    let fs : List DownFrame := asg.foldl (fun fs e => (m.downAdd c runs fs (m.roverVer e.1) (airElement 5 e.1 (m.slotAssign e.1 e.2)) []).getD fs) []
    let (fs, waits) := (m.downList k c).foldl (fun (x : List DownFrame × Nat) e =>
      match m.downAdd c runs x.1 (if e.kind = 4 then m.floorVer c else m.roverVer e.rover) e.bytes [e] with
      | some l => (l, x.2)
      | none => (x.1, x.2 + 1)) (fs, 0)
    let m := m.incBy R.AIR_DL_DEFER_CNT waits
    let fs := byVersion fs
    let at_ := (placeGrains (fs.map (m.downGrains c)) runs).getD []
    m.each (fs.zip at_) fun m e =>
      let us := wbAir (wbWidth cfg) (wbDl cfg) (frameLen e.1.ver e.1.body.length)
      if !m.budOk k (bandOf c) us false then (m.budDeny (bandOf c) false).incBy R.AIR_DL_DEFER_CNT e.1.from_.length
      else
        let m := m.airSend k e.1.ver 3 c (100 * k.phase + e.2) (k.grainNs e.2) us false e.1.body
        { m with air := { m.air with queue := e.1.from_.foldl (fun q x => airSent c x q) m.air.queue } }

/-! ## Host grains (R365, R379, R438) -/

/-- A grain carries host traffic: HOST, a free uplink slot, or a resync grain that no rover is assigned (R365). -/
def Mod.hostGrain (m : Mod) (k : Clock) (c : Nat) (held wins : List Nat) (j : Nat) : Bool :=
  let u := m.grainUse c k.phase held j
  (u == 4 || u == 6 || (u == 3 && !wins.contains j)) && decide (j < 100) && !m.grainSilent c k.phase j

/-- DATA_TX: the oldest frame of P9 queued for a WB channel goes out at the HOST grain edge now reached, if it ends before a grain of
another use (R379). -/
def Mod.dataTx (m : Mod) (k : Clock) (c : Nat) : Mod :=
  let j := k.grain
  let abs := k.tickNo * 100 + j
  if !m.mayBeacon ∨ !m.airTx c ∨ m.dropHolds k c j = true ∨ abs < nth 0 m.air.hostFree c then m
  else match m.sw.air.find? fun f => f.chans.contains c with
    | none => m
    | some f =>
      let ver := if f.sub = 0 then m.floorVer c else m.roverVer f.sub
      let body := airElement 6 f.sub f.data
      let cfg := m.wbCfg c
      let us := wbAir (wbWidth cfg) (wbDl cfg) (frameLen ver body.length)
      let held := m.heldGrains c k.phase
      let wins := if k.phase = 5 then m.winGrains c k.sfNo else []
      if !(grainRange j (grainsOf us)).all (m.hostGrain k c held wins) then m
      else if !m.budOk k (bandOf c) us false then m.budDeny (bandOf c) false
      else
        let m := m.airSend k ver 7 c (100 * k.phase + j) (k.grainNs j) us false body
        let chans := f.chans.filter fun x => x != c
        let air := m.sw.air.filterMap fun o => if o = f then (if chans.isEmpty then none else some { f with chans := chans }) else some o
        { m with
          sw := { m.sw with air := air }
          air := { m.air with hostFree := setAt m.air.hostFree c (abs + grainsOf us) } }

/-! ## SG (R367, R383, R395, R396) -/

def Mod.sgVer (m : Mod) : Nat := if m.fld F.AIR_SG_CFG_VER = 3 then 3 else 2

/-- No SG frame but DROP starts between a trip and its DROP frames (R383). -/
def Mod.sgDropping (m : Mod) : Bool := match m.air.drop with | some d => nth 0 d.left 2 != 0 | none => false

/-- SG_BEACON_TX: once per superframe, in its first tick (R367, R395). -/
def Mod.sgBeaconTx (m : Mod) (k : Clock) : Mod :=
  if k.phase ≠ 0 ∨ !m.mayBeacon ∨ !m.airTx 2 ∨ m.air.sgSf = some k.sfNo ∨ m.sgDropping then m
  else
    let body := le 4 k.tick ++ le 2 k.sf ++ le 1 m.air.region ++ le 1 (m.airFlags (m.on F.AIR_STAT_STEP_RESYNC)) ++ le 4 0
    let us := m.sgAir (frameLen m.sgVer body.length)
    let m : Mod := { m with air := { m.air with sgSf := some k.sfNo } }
    if !m.budOk k 0 us false then m.budDeny 0 false |> fun m => { m with air := { m.air with sgHeld := true } }
    else m.airSend k m.sgVer 5 2 0 (k.grainNs 0) us false body

/-- CORR_FB_TX: every CORR_INT superframes, after the superframe's SG_BEACON (R395, R401). -/
def Mod.corrTx (m : Mod) (k : Clock) : Mod :=
  let gap := max 1 (m.fld F.AIR_SG_CFG_CORR_INT)
  let due := match m.air.corrSf with | some s => decide (s + gap ≤ k.sfNo) | none => true
  if !m.mayBeacon ∨ !m.mayCorrect ∨ !m.airTx 2 ∨ !m.on F.AIR_CTL_SG_CORR ∨ m.air.sgSf ≠ some k.sfNo ∨ !due ∨ m.sgDropping then m
  else match m.air.rtcm with
    | none => m
    | some (_, body) =>
      let body := airElement 4 0 body
      let us := m.sgAir (frameLen m.sgVer body.length)
      let m : Mod := { m with air := { m.air with corrSf := some k.sfNo, rtcm := none } }
      if m.air.sgHeld then (m.budDeny 0 false) |> fun m => { m with air := { m.air with sgHeld := false } }
      else if !m.budOk k 0 us false then m.budDeny 0 false
      else m.airSend k m.sgVer 6 2 (100 * k.phase + k.grain) (Clock.fullNs k.now) us false body

/-! ## Drop on air (R382 to R384) -/

/-- A trip starts DROP frames, or restarts their count; a frame under way counts as the first (R382 to R384). -/
def Mod.airTrip (m : Mod) (k : Clock) (cause id : Nat) : Mod :=
  let rpt := max 1 (bitsOf (m.rd R.AIR_SYNC_CTL) 15 8)
  let sg := max 1 (m.fld F.AIR_SG_CFG_DROP_RPT)
  let old := m.air.drop
  let running (p : Nat) : Bool := match old with | some d => nth 0 d.left p != 0 && d.begun.contains p | none => false
  let d : AirDrop := {
    tick := k.tick
    cause := cause
    id := id
    tripRaw := match old with | some o => if (upto 3).any (fun p => nth 0 o.left p != 0) then o.tripRaw else k.raw | none => k.raw
    left := (upto 3).map fun p => if !m.airTx p then 0 else if p = 2 then sg else if running p then rpt else rpt + 1
    begun := (upto 3).filter running
    grain := match old with | some o => o.grain | none => [none, none] }
  let m : Mod := { m with air := { m.air with drop := some d } }
  if m.airTx 2 && !running 2 then m.emit (.radioCut 2) else m

/-- One DROP frame of a path is done: sent or withheld. -/
def AirDrop.spent (d : AirDrop) (p : Nat) : AirDrop := { d with left := setAt d.left p (nth 0 d.left p - 1), begun := if d.begun.contains p then d.begun else p :: d.begun }

/-- A DROP body (R368). -/
def AirDrop.body (d : AirDrop) : List Byte := le 4 d.tick ++ le 1 0 ++ le 1 d.cause ++ le 2 d.id

/-- DROP_FRAME_TX: the DROP frame of a WB channel at the grain edge now reached, 20 µs or more after the trip (R382). -/
def Mod.dropTx (m : Mod) (k : Clock) (c : Nat) : Mod :=
  match m.air.drop with
  | none => m
  | some d =>
    let abs := k.tickNo * 100 + k.grain
    let edge := k.rawAt (k.tickStart + ((k.grain * 100000 : Nat) : Int) * uPerNs)
    if !m.mayBeacon ∨ !m.airTx c ∨ nth 0 d.left c = 0 ∨ nth none d.grain c = some abs ∨ (!d.begun.contains c && decide (edge < d.tripRaw + usRaw 20)) = true then m
    else
      let ver := m.floorVer c
      let cfg := m.wbCfg c
      let us := wbAir (wbWidth cfg) (wbCtrl cfg) (frameLen ver 8)
      let d' := { d.spent c with grain := setAt d.grain c (some abs) }
      let m : Mod := { m with air := { m.air with drop := some d' } }
      let m := if d.begun.contains c then m else m.emit (.radioCut c)
      if m.grainSilent c k.phase k.grain then m
      else if !m.budOk k (bandOf c) us true then m.budDeny (bandOf c) true
      else
        let m := m.airSend k ver 4 c (100 * k.phase + k.grain) (k.grainNs k.grain) us true d.body
        m.inc R.AIR_DROP_TX_CNT

/-- SG_DROP_TX: the next DROP frame on SG; one withheld by the dwell limit waits for the next channel (R383, R396). -/
def Mod.sgDropTx (m : Mod) (k : Clock) : Mod :=
  match m.air.drop with
  | none => m
  | some d =>
    if !m.mayBeacon ∨ !m.airTx 2 ∨ nth 0 d.left 2 = 0 then m
    else
      let us := m.sgAir (frameLen m.sgVer 8)
      if !m.dwellOk k us then m.budDeny 0 true
      else
        let m : Mod := { m with air := { m.air with drop := some (d.spent 2) } }
        if !m.budOk k 0 us true then m.budDeny 0 true
        else
          let m := m.airSend k m.sgVer 4 2 (100 * k.phase + k.grain) (Clock.fullNs k.now) us true d.body
          m.inc R.AIR_DROP_TX_CNT

/-! ## Uplinks (R374, R385 to R389) -/

/-- A slot in force, or a resync window assigned: rover, first grain, grains, whether it is a resync window. -/
structure UpWin where
  rover : Nat
  first : Nat
  grains : Nat
  resync : Bool
  deriving DecidableEq, Repr

/-- The slots and windows of the tick in progress on a channel. -/
def Mod.upWindows (m : Mod) (k : Clock) (c : Nat) : List UpWin :=
  let slots := ((upto 256).filter fun r => upPhase r == k.phase).filterMap fun r =>
    match (m.arv r).cur with
    | some a => if a.chan = c then a.slot.map fun s => ({ rover := r, first := 4 + a.w * s, grains := a.w, resync := false } : UpWin) else none
    | none => none
  let w := slotGrains (wbWidth (m.wbCfg c))
  let wins := if k.phase ≠ 5 then [] else (m.airRovers.filter fun r => m.chanOf r == c).flatMap fun r =>
    (((m.arv r).wins.filter fun (e : Nat × Nat) => e.1 == k.sfNo)).map fun e => ({ rover := r, first := 90 + w * e.2, grains := w, resync := true } : UpWin)
  slots ++ wins

def UpWin.begin_ (w : UpWin) : Int := ((w.first * 100000 : Nat) : Int)
def UpWin.end_ (w : UpWin) : Int := (((w.first + w.grains) * 100000 : Nat) : Int)

/-- RESYNC clears and the rover leaves the list (R388). -/
def Mod.resyncEnd (m : Mod) (r : Nat) : Mod :=
  (m.setB (F.ROVER_LINK_STAT_RESYNC r) false).setArv r { m.arv r with wins := [] }

/-- A burst outside its window (R386, R388, R389). -/
def Mod.missSlot (m : Mod) (k : Clock) (r : Nat) : Mod :=
  let m := ((m.inc (R.ROVER_MISSLOT_CNT r)).airEvt 0).linkEvt r 2
  if m.on (F.ROVER_LINK_STAT_RESYNC r) || m.on (F.ROVER_LINK_STAT_DRIFT_FAULT r) then m
  else
    let m := ((m.inc (R.ROVER_RESYNC_CNT r)).satF (F.ROVER_LINK_STAT_RESYNC_RUN r)).linkEvt r 3
    let m := (m.setB (F.ROVER_LINK_STAT_RESYNC r) true).setArv r { m.arv r with missSf := k.sfNo, wins := [] }
    if m.fld (F.ROVER_LINK_STAT_RESYNC_RUN r) < 3 then m
    else
      let m := ((m.setB (F.ROVER_LINK_STAT_DRIFT_FAULT r) true).linkEvt r 4).airEvt 1
      let m := m.recTrig k 11 (le 1 r ++ le 1 0 ++ le 2 (m.rd (R.ROVER_RESYNC_CNT r) % 65536) ++ le 4 (m.rd (R.ROVER_DRIFT_OFS r)))
      m.resyncEnd r

/-- SRC of the first frame of a burst, where it has one (R366). -/
def burstSrc (u : UpIn) : Option Nat :=
  u.frames.head?.bind fun f => if f.length < 8 then none else some (if leAt f 0 1 = 1 then leAt f 4 1 else leAt f 6 1)

/-- The rover whose miss a burst outside every window counts as: the SRC of its first frame; without one, the holder of the slot it
begins in, else of the first one it overlaps (R374, R386; log entry 20). -/
def missRover (wins : List UpWin) (u : UpIn) : Option Nat :=
  match burstSrc u with
  | some r => some r
  | none =>
    match wins.find? fun w => decide (w.begin_ ≤ u.startNs) && decide (u.startNs < w.end_) with
    | some w => some w.rover
    | none => ((wins.mergeSort fun a b => decide (a.first ≤ b.first)).find? fun w =>
        decide (w.begin_ < u.endNs) && decide (u.startNs < w.end_)).map UpWin.rover

/-- The result of judging one frame of a burst in steps 2 to 5 of R374. -/
inductive Judged where
  | verified (ver : Nat) (body : List Byte)
  | refused
  deriving DecidableEq, Repr

/-- Step 5 fails, or step 3 (R374). -/
def Mod.upAuthFail (m : Mod) (r : Nat) : Mod := ((m.inc (R.ROVER_AUTH_FAIL_CNT r)).linkEvt r 5).airEvt 9

/-- A frame of a burst is judged; `g` is the full time of the start of the grain in which the burst began (R372, R374). -/
def Mod.judgeFrame (m : Mod) (r c g : Nat) (f : List Byte) : Mod × Judged :=
  let ver := leAt f 0 1
  if ver < 1 ∨ 3 < ver ∨ m.verMax r < ver then ((m.inc R.AIR_VER_REFUSE_CNT).airEvt 8, .refused)
  else
    let h := hdrLen ver
    let src := if ver = 1 then leAt f 4 1 else leAt f 6 1
    let siteOk := ver == 1 || (leAt f 4 2 == siteTag r && leAt f 11 1 == c)
    if leAt f 1 1 ≠ 0x10 ∨ src ≠ r ∨ !siteOk ∨ leAt f 2 2 ≠ f.length ∨ f.length < h + tagLen ver ∨ 1536 < f.length then (m.upAuthFail r, .refused)
    else
      let fresh := if ver = 1 then leAt f 8 4 == g % 4294967296 else leAt f 12 6 == g % 281474976710656
      if !fresh then ((m.inc (R.ROVER_TIME_REFUSE_CNT r)).inc R.AIR_TIME_REFUSE_CNT, .refused)
      else
        let epoch := if ver = 3 then leAt f 10 1 else 0
        let now := m.fld F.AIR_KEY_CTL_EPOCH
        if ver = 3 ∧ epoch ≠ now ∧ epoch ≠ (now + 255) % 256 then (m.upAuthFail r, .refused)
        else
          let body := (f.drop h).take (f.length - h - tagLen ver)
          match m.upKey r (siteTag r) epoch with
          | (m, none) => (m.upAuthFail r, .refused)
          | (m, some key) =>
            if (Config.aesCmac key (f.take (f.length - tagLen ver))).take (tagLen ver) = f.drop (f.length - tagLen ver) then (m, .verified ver body)
            else (m.upAuthFail r, .refused)

/-- The elements of a body: type and content; what does not hold together ends the list. -/
def elementsOf : Nat → List Byte → List (Nat × List Byte)
  | 0, _ => []
  | n + 1, d =>
    if d.length < 4 ∨ d.length < 4 + leAt d 2 2 then []
    else (leAt d 0 1, (d.drop 4).take (leAt d 2 2)) :: elementsOf n (d.drop (4 + (leAt d 2 2 + 3) / 4 * 4))

/-- The version of a rover is recorded: the lowest of VMAX, VER_MAX and 3, once it has been heard (R375). -/
def Mod.recordVer (m : Mod) (r : Nat) : Mod :=
  let ver := min (min (m.fld (F.ROVER_LINK_STAT_VMAX r)) (m.verMax r)) 3
  if ver = 0 ∨ m.fld (F.ROVER_LINK_STAT_VER r) = ver then m
  else ((m.setF (F.ROVER_LINK_STAT_VER r) ver).linkEvt r 7).airShow

/-- An RSTAT element goes into the rover context (R374, R375). -/
def Mod.rstatRx (m : Mod) (r : Nat) (d : List Byte) : Mod :=
  if d.length ≠ 8 then m
  else ((m.setF (F.ROVER_LINK_STAT_VMAX r) (min 3 (leAt d 0 1))).setArv r { m.arv r with rstat := d }).recordVer r

/-- A verified frame's elements go to PACK, the Shepherd, port P9 and the rover context (R374). -/
def Mod.upElements (m : Mod) (k : Clock) (r ver : Nat) (body : List Byte) : Mod :=
  m.each (elementsOf body.length body) fun m e =>
    if e.1 = 0x81 then m.obsFrame k r ver e.2
    else if e.1 = 0x82 then m.airRequest k r e.2
    else if e.1 = 0x83 then m.rstatRx r e.2
    else if e.1 = 0x84 then m.swReceive k 9 r e.2 false
    else m

/-- The filtered offset and drift after a measurement: the spec gives a time constant and no formula, so the values are free (R385,
log entry 21). -/
def Mod.driftFilter (m : Mod) (k : Clock) (r : Nat) (ofs : Int) : Mod :=
  let m := m.setArv r { m.arv r with lastOfs := ofs, lastTick := k.tick }
  let m : Mod := { m with air := { m.air with noTc := m.air.noTc.filter fun x => x != r } }
  let m := (m.wrI (R.ROVER_DRIFT_OFS r) (m.freeI 385)).took
  (m.wrI (R.ROVER_DRIFT_RATE r) (m.freeI 385)).took

/-- A burst with a verified frame (R385, R392, R403). -/
def Mod.burstVerified (m : Mod) (k : Clock) (r : Nat) (u : UpIn) (ofs : Int) : Mod :=
  let m := ((m.inc (R.ROVER_UP_CNT r)).wr (R.ROVER_UP_LAST r) k.tick).wr (R.ROVER_UP_RSSI r) (unsigned 8 u.rssi + u.snr % 256 * 256)
  let m := (m.setF (F.ROVER_LINK_STAT_SILENT r) 0).setArv r { m.arv r with heardSf := some k.sfNo }
  let m := if m.fld (F.ROVER_LINK_STAT_LINK r) = 2 then (m.setF (F.ROVER_LINK_STAT_LINK r) 1).linkEvt r 1 else m
  m.driftFilter k r ofs

/-- A burst met DROP frames of its channel: its reception was abandoned at the edge where they began, or they went on when it began
(R382). -/
def Mod.dropCut (m : Mod) (k : Clock) (u : UpIn) : Bool :=
  match m.air.drop with
  | some d => (match nth none d.grain u.chan with
    | some g => decide (((k.tickNo * 100 : Nat) : Int) * 100000 + u.startNs < (((g + 1) * 100000 : Nat) : Int))
    | none => false)
  | none => false

/-- AIR takes a burst on its channel: enabled, powered, awake, serving or a hot standby, and no DROP frame abandoned it
(R43, R382, R401, R475). -/
def Mod.airRx (m : Mod) (k : Clock) (u : UpIn) : Bool :=
  m.running && m.blkOn 13 && !m.pwr.softBlocks.testBit 13 && m.on F.AIR_CTL_EN && m.chanEn u.chan && m.awake && (m.serves || m.role == 2)
    && !m.dropCut k u

/-- UPLINK_BURST_RX (R374, R385 to R389). -/
def Mod.uplinkRx (m : Mod) (k : Clock) (u : UpIn) : Mod :=
  if 1 < u.chan ∨ !m.airRx k u then m
  else
    let wins := m.upWindows k u.chan
    match wins.find? fun w => decide (w.begin_ ≤ u.startNs) && decide (u.startNs < w.end_) && decide (u.endNs ≤ w.end_) with
    | none => match missRover wins u with
      | some r => if m.on (F.ROVER_LINK_CTL_EN r) then m.missSlot k r else m
      | none => m
    | some w =>
      let r := w.rover
      let own := burstSrc u == none || burstSrc u == some r
      let m := if own && m.on (F.ROVER_LINK_STAT_RESYNC r) then m.resyncEnd r else m
      let m := if w.resync then m.setArv r { m.arv r with lastWin := (w.first - 90) / w.grains }
        else if own then m.setF (F.ROVER_LINK_STAT_RESYNC_RUN r) 0 else m
      let g := Clock.fullNs k.tickStart + (u.startNs / 100000).toNat * 100000
      let ofs := u.startNs - (w.begin_ + if w.resync then 40000 else 8000)
      ((u.frames.take 4).foldl (fun (x : Mod × Bool) f =>
        match x.1.judgeFrame r u.chan g f with
        | (m, .refused) => (m, x.2)
        | (m, .verified ver body) =>
          let m := (m.inc R.AIR_RX_CNT).perfAdd (perfAir 4) 1
          let m := if x.2 then m else m.burstVerified k r u ofs
          (m.upElements k r ver body, true)) (m, false)).1

/-! ## Boundaries -/

/-- Whether silence is judged: AIR listens (R392). -/
def Mod.airListens (m : Mod) : Bool := m.running && m.blkOn 13 && !m.pwr.softBlocks.testBit 13 && m.on F.AIR_CTL_EN && m.awake && (m.serves || m.role == 2)

/-- The end of a superframe: a rover with a valid slot that has not been heard in it is silent once more; the third in a row marks the
context LAPSED (R392). -/
def Mod.airSilence (m : Mod) (sf : Nat) : Mod :=
  if m.air.judged = some sf ∨ !m.airListens then m
  else
    let m : Mod := { m with air := { m.air with judged := some sf } }
    m.each ((upto 256).filter fun r => m.on (F.ROVER_LINK_SLOT_VALID r)) fun m r =>
      if (m.arv r).heardSf = some sf then m
      else
        let m := m.satF (F.ROVER_LINK_STAT_SILENT r)
        if m.fld (F.ROVER_LINK_STAT_SILENT r) < 3 ∨ m.fld (F.ROVER_LINK_STAT_LINK r) ≠ 1 then m
        else ((m.setF (F.ROVER_LINK_STAT_LINK r) 2).linkEvt r 0).airEvt 2

/-- A new regional profile applies at a superframe boundary (R398). -/
def Mod.regionTake (m : Mod) (k : Clock) : Mod :=
  if !m.air.regionPend then m
  else
    let m : Mod := { m with air := { m.air with regionPend := false, region := m.rd R.AIR_REGION % 256 } }
    (((m.budShow k 0).budShow k 1).budShow k 2).airShow

/-- What AIR does at the superframe boundary that begins superframe `sf` (R365, R392, R398, R399). -/
def Mod.airSuper (m : Mod) (k : Clock) (sf : Nat) : Mod :=
  let m := (m.mapEffective sf).regionTake k
  let m := m.airRemap { k with tickNo := sf * 10 }
  { m with air := { m.air with sfUs := [0, 0, 0] } }

/-- AIR at a boundary, with the new tick's clock, before the latches: elements collected, RTCM expired, DROP_ACTIVE taken (R380). -/
def Mod.airLatch (m : Mod) (k : Clock) (armed : Bool) : Mod :=
  let m := (m.airCollect k).rtcmExpire k
  let m := if k.phase = 0 then m.airSuper k k.sfNo else m
  let m := m.setB F.AIR_STAT_TX_ALLOWED m.mayBeacon
  let m := (((m.budShow k 0).budShow k 1).budShow k 2)
  m.setB F.AIR_STAT_DROP_ACTIVE (m.running && !armed)

/-- Registers whose change assigns slots (R364). -/
def Mod.asgInputs (m : Mod) : List Nat :=
  (upto 256).map (fun r => m.rd (R.ROVER_LINK_CTL r)) ++ [wbWidth (m.wbCfg 0), wbWidth (m.wbCfg 1), bitsOf (m.rd R.AIR_MAP_CTL) 0 0]

/-- An apply changed registers of AIR or of link contexts; `old` is the module before it (R364, R370, R397, R398). -/
def Mod.airApplied (m : Mod) (k : Clock) (old : Mod) : Mod :=
  let keep (m : Mod) (a : Nat) (bad : Bool) := if bad && m.rd a != old.rd a then ((m.wr a (old.rd a)).wrSh a (old.rd a)).airEvt 11 else m
  let m := keep m R.AIR_WB0_CFG (!ctrlFits (m.rd R.AIR_WB0_CFG))
  let m := keep m R.AIR_WB1_CFG (!ctrlFits (m.rd R.AIR_WB1_CFG))
  let m := keep m (R.AIR_BUD_LIMIT 0) (decide (dutyOf (m.rd R.AIR_REGION % 256) < min 3600000 (m.rd (R.AIR_BUD_LIMIT 0) % 4194304)))
  let m : Mod := if m.rd R.AIR_REGION % 256 ≠ m.air.region then { m with air := { m.air with regionPend := true } } else m
  let region := m.rd R.AIR_REGION % 256
  let changed (a : Nat) : Bool := m.rd a != old.rd a || m.rd R.AIR_REGION != old.rd R.AIR_REGION
  let refused := (changed R.AIR_WB0_CFG && m.pathRefused region 0) || (changed R.AIR_WB1_CFG && m.pathRefused region 1)
    || (changed R.AIR_SG_CFG && m.pathRefused region 2)
  let m := if refused then m.airEvt 10 else m
  let m := if m.asgInputs = old.asgInputs then m else m.airAssign k
  let m := m.each ((upto 256).filter fun r => m.verMax r != old.verMax r) fun m r => m.recordVer r
  (m.kenShow).airShow

/-- A grain set has faulted (R34, R399): its retirement sets GRAIN_RETIRED; AIR_RETIRED shows it. -/
def Mod.grainRetire (m : Mod) (i : Nat) : Mod := (m.setBit (R.AIR_RETIRED (i / 32)) (i % 32)).airEvt 6

/-- A soft reset of AIR: link contexts lose drift, resync and silence; counters return to 0 (R559). -/
def Mod.airSoftReset (m : Mod) : Mod :=
  let m := m.each [R.AIR_TX_CNT, R.AIR_RX_CNT, R.AIR_TIME_REFUSE_CNT, R.AIR_VER_REFUSE_CNT, R.AIR_GRANT_STALE_CNT, R.AIR_RTCM_LATE_CNT,
    R.AIR_DL_DEFER_CNT, R.AIR_DROP_TX_CNT] fun m a => m.wr a 0
  let m := m.each (upto 3) fun m b => (m.wr (R.AIR_BUD_DENY_CNT b) 0).wr (R.AIR_BUD_DROP_DENY_CNT b) 0
  let m := m.each (upto 256) fun m r =>
    let c := m.arv r
    let m := m.setArv r { AirRover.fresh with cur := c.cur, next := c.next }
    let m := m.each [R.ROVER_DRIFT_OFS r, R.ROVER_DRIFT_RATE r, R.ROVER_UP_CNT r, R.ROVER_MISSLOT_CNT r, R.ROVER_AUTH_FAIL_CNT r,
      R.ROVER_TIME_REFUSE_CNT r, R.ROVER_RESYNC_CNT r, R.ROVER_GRANT_STALE_CNT r] fun m a => m.wr a 0
    let link := m.fld (F.ROVER_LINK_STAT_LINK r)
    let m := m.wr (R.ROVER_LINK_STAT r) (m.fld (F.ROVER_LINK_STAT_VER r) * 64 + m.fld (F.ROVER_LINK_STAT_VMAX r) * 256)
    m.setF (F.ROVER_LINK_STAT_LINK r) (min link 1)
  m.airShow

/-! ## Meanings -/

/-- TOKEN_TX on a WB channel (R380). -/
def execTokenTx (dt c : Nat) (s : State) : Res := .next (s.ev dt fun k m => if c < 2 then m.tokenTx k c else m)

/-- BEACON_TX on a WB channel (R380). -/
def execBeaconTx (dt c : Nat) (s : State) : Res := .next (s.ev dt fun k m => if c < 2 then m.beaconTx k c else m)

/-- DOWNLINK_TX on a WB channel (R377). -/
def execDownlinkTx (dt c : Nat) (s : State) : Res := .next (s.ev dt fun k m => if c < 2 then m.downlinkTx k c else m)

/-- DATA_TX on a WB channel (R379). -/
def execDataTx (dt c : Nat) (s : State) : Res := .next (s.ev dt fun k m => if c < 2 then m.dataTx k c else m)

/-- SG_BEACON_TX (R367). -/
def execSgBeaconTx (dt : Nat) (s : State) : Res := .next (s.ev dt fun k m => m.sgBeaconTx k)

/-- CORR_FB_TX (R395). -/
def execCorrFbTx (dt : Nat) (s : State) : Res := .next (s.ev dt fun k m => m.corrTx k)

/-- DROP_FRAME_TX on a WB channel (R382). -/
def execDropFrameTx (dt c : Nat) (s : State) : Res := .next (s.ev dt fun k m => if c < 2 then m.dropTx k c else m)

/-- SG_DROP_TX (R383). -/
def execSgDropTx (dt : Nat) (s : State) : Res := .next (s.ev dt fun k m => m.sgDropTx k)

/-- UPLINK_BURST_RX (R374). -/
def execUplinkBurstRx (dt : Nat) (u : UpIn) (s : State) : Res := .next (s.ev dt fun k m => m.uplinkRx k u)

/-- ROVER_LINK_LAPSE: the end of a superframe (R392). -/
def execRoverLinkLapse (dt : Nat) (s : State) : Res :=
  .next (s.ev dt fun k m => if decide (k.nextBoundary ≤ k.raw) && k.phase == 9 then m.airSilence k.sfNo else m)

/-- SLOT_MAP_EFFECTIVE (R365). -/
def execSlotMapEffective (dt : Nat) (s : State) : Res :=
  .next (s.ev dt fun k m => if decide (k.nextBoundary ≤ k.raw) && k.phase == 9 then m.mapEffective (k.sfNo + 1) else m)

/-- CLEAR_DRIFT: a write of 1 to ROVER_LINK_CMD (R389). -/
def execClearDrift (dt r : Nat) (s : State) : Res :=
  .next (s.ev dt fun _ m =>
    if 255 < r then m
    else m.access (R.ROVER_LINK_CMD r) fun m => (m.setB (F.ROVER_LINK_STAT_DRIFT_FAULT r) false).setF (F.ROVER_LINK_STAT_RESYNC_RUN r) 0)

/-- REGION_CHANGE (R398). -/
def execRegionChange (dt : Nat) (s : State) : Res :=
  .next (s.ev dt fun k m => if decide (k.nextBoundary ≤ k.raw) && k.phase == 9 then m.regionTake k else m)

/-- RTCM_ELEMENT_EXPIRY (R377). -/
def execRtcmElementExpiry (dt : Nat) (s : State) : Res := .next (s.ev dt fun k m => m.rtcmExpire k)

end Sys2Proof.Machine
end

