-- ==== Sys2Proof/Machine/Leash.lean ====
section
/-! DEFINITION. The Leash (chapter 10): trips and their effects, Heel of the fleet, discrepancy, re-arming, self-test. -/

namespace Sys2Proof.Machine

/-! ## Limits of fields (R429) -/

def Mod.discMs (m : Mod) : Nat := max 1 (m.fld F.LEASH_CTL_DISC_TIME)
def Mod.pulseTol (m : Mod) : Nat := min 1000 (m.fld F.LEASH_CTL_PULSE_TOL)
def Mod.testPeriod (m : Mod) : Nat := max 1 (m.fld F.LEASH_TEST_CTL_PERIOD)

/-- W of LEASH_TEST_CTL in µs, as it acts (R424, R429). -/
def Mod.testW (m : Mod) : Nat := min 1000 (max 50 (m.fld F.LEASH_TEST_CTL_W))

/-- LEASH_STAT.STATE: 0 TRIPPED, 1 ARMING, 2 ARMED (R407). -/
def Mod.lstate (m : Mod) : Nat := m.fld F.LEASH_STAT_STATE

/-- The Leash is powered (R407). -/
def Mod.leashUp (m : Mod) : Bool := m.domOn 2

/-- Both inputs as judged for R413. -/
def Mod.inputOff (m : Mod) : Bool := m.leash.a.off || m.leash.b.off

/-! ## Outputs (R407, R410, R426) -/

/-- The outputs follow the state: energised in ARMED while the Brace gate is open; the readback follows the command. -/
def Mod.leashShow (m : Mod) : Mod :=
  let v := m.leashUp && m.lstate == 2 && m.on F.BRACE_STAT_GATE_OPEN
  if m.on F.LEASH_STAT_OUT_A = v ∧ m.on F.LEASH_STAT_OUT_B = v then m
  else ((m.setB F.LEASH_STAT_OUT_A v).setB F.LEASH_STAT_OUT_B v).emit (.leashOut v v)

/-! ## Trips (R411 to R415) -/

/-- The trip is signalled to the partner by the active unit: K28.7 eight times on LVDS and a TRIP frame on P1 (R426, R464, R482). -/
def Mod.tripSignal (m : Mod) (k : Clock) (cause : Nat) : Mod :=
  if m.role ≠ 1 then m
  else (m.emit (.brace true 2 (List.replicate 8 0xFC))).braceSend k 2 (le 2 (m.rd R.LEASH_TRIP_ID) ++ le 1 cause ++ le 1 0)

/-- A source that trips in the cycle of another trip: one trip, whose CAUSE is the lowest code among them (R414). -/
def Mod.tripWith (m : Mod) (cause src : Nat) : Mod :=
  match m.leash.log with
  | (h :: e) :: l =>
    if bitsOf h.toNat 19 16 ≤ cause then m
    else
      let h := BitVec.ofNat 32 (h.toNat % 65536 + cause * 65536 + src * 1048576)
      let m : Mod := { m with leash := { m.leash with log := (h :: e) :: l } }
      let m := if m.leash.tripFirst then m.setF F.LEASH_STAT_CAUSE cause else m
      match m.air.drop with
      | some d => if d.id = m.rd R.LEASH_TRIP_ID then { m with air := { m.air with drop := some { d with cause := cause } } } else m
      | none => m
  | _ => m

/-- A trip takes effect now, a further trip included, unless a trip of this cycle stands (R408, R411, R413 to R415); `src` is the
monitor condition that trips, else 0. -/
def Mod.trip (m : Mod) (k : Clock) (cause : Nat) (src : Nat := 0) : Mod :=
  let st := m.lstate
  if st = 0 ∧ m.leash.tripAt = some k.raw then m.tripWith cause src
  else
    let m := if st = 1 then (m.setF F.LEASH_STAT_ARM_REFUSE 6).leashEvt 2 else m
    let m := if st = 2 then m.setF F.LEASH_STAT_CAUSE cause else m
    let m := m.setF F.LEASH_STAT_STATE 0
    let m := if st = 2 then ((m.setB F.LEASH_STAT_OUT_A false).setB F.LEASH_STAT_OUT_B false).emit (.leashOut false false) else m
    let t := k.now
    let m := m.wr R.LEASH_TRIP_ID ((m.rd R.LEASH_TRIP_ID + 1) % 65536)
    let m := ((m.wr R.LEASH_TRIP_NS (Clock.word t)).wr R.LEASH_TRIP_WRAP (Clock.wrap t)).wr R.LEASH_TRIP_TICK k.tick
    let m := (m.inc R.LEASH_TRIP_CNT).leashEvt 0
    let id := m.rd R.LEASH_TRIP_ID
    let w (n : Nat) : Word := BitVec.ofNat 32 n
    let e := [w (id + cause * 65536 + src * 1048576), w k.tick, w (Clock.fullNs t), w (Clock.fullNs t / 4294967296)]
    let m : Mod := { m with leash := { m.leash with tripAt := some k.raw, tripFirst := st == 2, test := none, log := (e :: m.leash.log).take 4 } }
    let m := m.dropAll k
    let m := if m.mayBeacon then m.airTrip k cause id else m
    let m := m.recTrig k 1 (le 2 id ++ le 1 cause ++ le 1 src)
    m.tripSignal k cause

/-- A source of R413 becomes active: a trip unless it was active before. -/
def Mod.leashSource (m : Mod) (k : Clock) (was : Bool) (cause : Nat) : Mod := if was then m else m.trip k cause

/-- A self-test fails (R424). -/
def Mod.testFail (m : Mod) (k : Clock) : Mod :=
  let was := m.on F.LEASH_STAT_TEST_FAIL
  let m := ((m.setB F.LEASH_STAT_TEST_FAIL true).inc R.LEASH_TEST_FAIL_CNT).leashEvt 4
  let m : Mod := { m with leash := { m.leash with test := none } }
  m.leashSource k was 6

/-- A safety monitor condition holds or ends (R412, R413). -/
def Mod.monitor (m : Mod) (k : Clock) (cond : Nat) (on : Bool) : Mod :=
  let old := m.leash.mon
  if !on then { m with leash := { m.leash with mon := if old.testBit cond then old - 2 ^ cond else old } }
  else
    let m : Mod := { m with leash := { m.leash with mon := old ||| 2 ^ cond } }
    let m := if m.fld F.LEASH_STAT_MON_SRC = 0 then m.setF F.LEASH_STAT_MON_SRC cond else m
    if old ≠ 0 then m
    else
      let m := m.leashEvt 5
      let m := if cond = 5 then m.leashEvt 9 else m
      m.trip k 5 cond

/-! ## Inputs (R408, R420) -/

/-- The inputs' difference is timed (R420). -/
def Mod.differShow (m : Mod) (k : Clock) : Mod :=
  let d := m.on F.LEASH_STAT_IN_A != m.on F.LEASH_STAT_IN_B
  { m with leash := { m.leash with differ := if d then some (m.leash.differ.getD k.raw) else none } }

/-- Input `x` (0 A, 1 B) de-energises (R408). -/
def Mod.inOff (m : Mod) (k : Clock) (x : Nat) : Mod :=
  let f := if x = 0 then F.LEASH_STAT_IN_A else F.LEASH_STAT_IN_B
  if !m.on f then m
  else
    let m := (m.setB f false).wr (if x = 0 then R.LEASH_EDGE_A_NS else R.LEASH_EDGE_B_NS) (Clock.word k.now)
    let was := m.inputOff
    let now := m.pulseTol == 0
    let i : LeashIn := { at_ := k.raw, off := now }
    let m : Mod := { m with leash := if x = 0 then { m.leash with a := i } else { m.leash with b := i } }
    let m := m.differShow k
    let both := !m.on F.LEASH_STAT_IN_A && !m.on F.LEASH_STAT_IN_B
    let m : Mod := if both && m.on F.LEASH_STAT_DISC then { m with leash := { m.leash with bothOff := true } } else m
    if now then m.leashSource k was (x + 1) else m

/-- The tolerance of an input that has stayed de-energised ends (R408). -/
def Mod.inTol (m : Mod) (k : Clock) (x : Nat) : Mod :=
  let f := if x = 0 then F.LEASH_STAT_IN_A else F.LEASH_STAT_IN_B
  let i := if x = 0 then m.leash.a else m.leash.b
  if m.on f ∨ i.off ∨ k.raw < i.at_ + usRaw m.pulseTol then m
  else
    let was := m.inputOff
    let i := { i with off := true }
    let m : Mod := { m with leash := if x = 0 then { m.leash with a := i } else { m.leash with b := i } }
    m.leashSource k was (x + 1)

/-- Input `x` energises (R420, R422). -/
def Mod.inOn (m : Mod) (k : Clock) (x : Nat) : Mod :=
  let f := if x = 0 then F.LEASH_STAT_IN_A else F.LEASH_STAT_IN_B
  if m.on f then m
  else
    let i : LeashIn := { at_ := k.raw, off := false }
    let m := m.setB f true
    let m : Mod := { m with leash := if x = 0 then { m.leash with a := i } else { m.leash with b := i } }
    let m := m.differShow k
    if m.on F.LEASH_STAT_IN_A && m.on F.LEASH_STAT_IN_B && m.leash.bothOff then
      Mod.setB { m with leash := { m.leash with bothOff := false } } F.LEASH_STAT_DISC false
    else m

/-- Inputs have differed for longer than DISC_TIME (R420). -/
def Mod.discrepancy (m : Mod) (k : Clock) : Mod :=
  match m.leash.differ with
  | none => m
  | some t =>
    if k.raw ≤ t + msRaw m.discMs then m
    else
      let m : Mod := { m with leash := { m.leash with bothOff := false } }
      if m.on F.LEASH_STAT_DISC then m else (m.setB F.LEASH_STAT_DISC true).leashEvt 3

/-! ## Re-arming (R421 to R423) -/

/-- An input has been energised for 100 ms (R422). -/
def Mod.inSteady (m : Mod) (k : Clock) : Bool :=
  m.on F.LEASH_STAT_IN_A && m.on F.LEASH_STAT_IN_B && decide (m.leash.a.at_ + msRaw 100 ≤ k.raw) && decide (m.leash.b.at_ + msRaw 100 ≤ k.raw)

/-- The lowest code of R422 that refuses a request, 0 where none does; `standby` leaves ROLE out (R426). -/
def Mod.armCode (m : Mod) (k : Clock) (standby : Bool) : Nat :=
  if !m.inSteady k then 1
  else if m.on F.LEASH_STAT_DISC then 2
  else if m.leash.mon ≠ 0 then 3
  else if m.on F.LEASH_STAT_TEST_FAIL || m.leash.test.isSome then 4
  else if !standby && (m.role == 2 || m.role == 3) then 5
  else if m.leash.tripAt = some k.raw then 6
  else 0

/-- The state becomes ARMING: software and partner sources end (R413, R423). -/
def Mod.arming (m : Mod) (k : Clock) : Mod :=
  Mod.setF { m with leash := { m.leash with armAt := k.raw, swReg := false, swCmd := false, partner := false } } F.LEASH_STAT_STATE 1

/-- A re-arm request; `extra` is the code of the source itself, 0 where it raises none (R414, R422). -/
def Mod.armRequest (m : Mod) (k : Clock) (extra : Nat) : Mod :=
  if m.lstate ≠ 0 then m
  else
    let c := m.armCode k false
    let c := if c = 0 then extra else c
    if c ≠ 0 then (m.setF F.LEASH_STAT_ARM_REFUSE c).leashEvt 2 else m.arming k

/-- The Leash becomes ARMED (R423). -/
def Mod.armed (m : Mod) (k : Clock) : Mod :=
  let m := (m.setF F.LEASH_STAT_STATE 2).setF F.LEASH_STAT_MON_SRC 0
  let m := (m.leashShow.inc R.LEASH_ARM_CNT).leashEvt 1
  m.recTrig k 14 (le 2 (m.rd R.LEASH_TRIP_ID) ++ le 2 0 ++ le 4 (m.rd R.LEASH_ARM_CNT))

/-- At a tick boundary the Leash arms: 1 ms after acceptance, or with its active partner on a standby (R423, R426). -/
def Mod.armBoundary (m : Mod) (k : Clock) : Mod :=
  if m.lstate = 1 then (if m.leash.armAt + msRaw 1 ≤ k.raw then m.armed k else m)
  else if m.brace.armWith then
    let m : Mod := { m with brace := { m.brace with armWith := false } }
    if m.lstate = 0 ∧ (m.role = 2 ∨ m.role = 3) ∧ m.armCode k true = 0 then (m.arming k).armed k else m
  else m

/-! ## Self-test (R424, R425) -/

/-- A self-test passes (R424). -/
def Mod.testPass (m : Mod) (k : Clock) : Mod :=
  let m := ((m.setB F.LEASH_STAT_TEST_FAIL false).inc R.LEASH_TEST_CNT).wr R.LEASH_TEST_LAST k.tick
  { m with leash := { m.leash with test := none } }

/-- The checks begin; `ok` says whether those made at once succeed. In ARMED outside standby, output A pulses and the test goes on to
the pulse of output B; otherwise no output pulses and the test ends (R424, R426). -/
def Mod.testStart (m : Mod) (k : Clock) (ok : Bool) : Mod :=
  let m : Mod := { m with leash := { m.leash with testAt := k.raw, testWaits := false } }
  if !ok then m.testFail k
  else if m.lstate = 2 ∧ m.serves then
    ({ m with leash := { m.leash with test := some k.raw } } : Mod).emit (.leashPulse 0 m.testW)
  else m.testPass k

/-- A self-test falls due or is commanded: it waits while one runs, and in DOZE (R425). -/
def Mod.testDue (m : Mod) (k : Clock) (ok : Bool) : Mod :=
  if m.leash.test.isSome ∨ m.pstate = 2 then { m with leash := { m.leash with testWaits := true } } else m.testStart k ok

/-- A running self-test ends with the pulse of output B, 10 ms or more after the end of the first one (R424). -/
def Mod.testEnd (m : Mod) (k : Clock) (ok : Bool) : Mod :=
  match m.leash.test with
  | none => m
  | some t =>
    if k.raw < t + usRaw m.testW + msRaw 10 then m
    else
      let m := m.emit (.leashPulse 1 m.testW)
      if ok then m.testPass k else m.testFail k

/-! ## Meanings -/

/-- LEASH_INPUT_DEENERGISE: input 0 A, 1 B (R408). -/
def execLeashInputDeenergise (dt x : Nat) (s : State) : Res := .next (s.ev dt fun k m => if m.leashUp && decide (x < 2) then m.inOff k x else m)

/-- LEASH_PULSE_TOL_EXPIRY (R408). -/
def execLeashPulseTolExpiry (dt x : Nat) (s : State) : Res := .next (s.ev dt fun k m => if m.leashUp && decide (x < 2) then m.inTol k x else m)

/-- LEASH_INPUT_ENERGISE (R420). -/
def execLeashInputEnergise (dt x : Nat) (s : State) : Res := .next (s.ev dt fun k m => if m.leashUp && decide (x < 2) then m.inOn k x else m)

/-- LEASH_TRIP: the complement written to LEASH_TRIP_INV (R411, R430). -/
def execLeashTrip (dt comp : Nat) (s : State) : Res :=
  .next (s.ev dt fun k m => m.commit k R.LEASH_TRIP comp fun m v =>
    let m := m.cfgSet R.LEASH_TRIP v
    Mod.leashSource { m with leash := { m.leash with swReg := true } } k m.leash.swReg 3)

/-- TRIP (R428). -/
def execTrip (dt : Nat) (h : Hdr) (reserved : Nat) (s : State) : Res :=
  .next (s.ev dt fun k m =>
    if !m.live? 5 then m
    else if reserved ≠ 0 then m.reply k 5 1 0x101 h []
    else
      let m := Mod.leashSource { m with leash := { m.leash with swCmd := true } } k m.leash.swCmd 4
      m.reply k 5 1 0 h (le 2 (m.rd R.LEASH_TRIP_ID) ++ le 2 0))

/-- HEEL_ALL (R417, R428). -/
def execHeelAll (dt : Nat) (h : Hdr) (reserved : Nat) (s : State) : Res :=
  .next (s.ev dt fun k m =>
    if !m.live? 5 then m else if reserved ≠ 0 then m.reply k 5 2 0x101 h [] else (m.heelSet 1).reply k 5 2 0 h [])

/-- HEEL_END (R419, R428). -/
def execHeelEnd (dt : Nat) (h : Hdr) (reserved : Nat) (s : State) : Res :=
  .next (s.ev dt fun k m =>
    if !m.live? 5 then m
    else if reserved ≠ 0 then m.reply k 5 3 0x101 h []
    else if m.fld F.LEASH_STAT_HEEL_SRC / 2 = 0 then m.reply k 5 3 0x102 h []
    else (m.heelClr 6).reply k 5 3 0 h [])

/-- MONITOR_TRIP: condition 1 RAIL, 2 CLOCK, 3 LIVENESS or 4 TEMP comes to hold or ends (R412). -/
def execMonitorTrip (dt cond : Nat) (on : Bool) (s : State) : Res :=
  .next (s.ev dt fun k m => if m.leashUp && decide (1 ≤ cond) && decide (cond ≤ 4) then m.monitor k cond on else m)

/-- OUTPUT_READBACK_FAULT: what the readbacks have shown for more than 5 µs; it faults where it differs from the command outside a
self-test pulse, and the condition ends where it agrees (R410, R412). -/
def execOutputReadbackFault (dt : Nat) (a b : Bool) (s : State) : Res :=
  .next (s.ev dt fun k m =>
    if !m.leashUp then m
    else
      let v := m.lstate == 2 && m.on F.BRACE_STAT_GATE_OPEN
      let m := (m.setB F.LEASH_STAT_OUT_A a).setB F.LEASH_STAT_OUT_B b
      m.monitor k 5 (a != v || b != v))

/-- LEASH_DISCREPANCY (R420). -/
def execLeashDiscrepancy (dt : Nat) (s : State) : Res := .next (s.ev dt fun k m => if m.leashUp then m.discrepancy k else m)

/-- LEASH_ARM: the complement written to LEASH_ARM_INV (R421). -/
def execLeashArm (dt comp : Nat) (s : State) : Res :=
  .next (s.ev dt fun k m => m.commit k R.LEASH_ARM comp fun m v => (m.cfgSet R.LEASH_ARM v).armRequest k (if m.fld F.LEASH_CTL_ARM_SRC = 1 then 8 else 0))

/-- ARM_PIN_RELEASE: LEASH_ARM_N was held for some µs (R421, R422). -/
def execArmPinRelease (dt us : Nat) (s : State) : Res :=
  .next (s.ev dt fun k m =>
    if !m.leashUp then m
    else m.armRequest k (if us < 50000 ∨ 3000000 < us then 7 else if m.fld F.LEASH_CTL_ARM_SRC = 0 then 8 else 0))

/-- LEASH_ARMED: at the tick boundary now reached (R423). -/
def execLeashArmed (dt : Nat) (s : State) : Res :=
  .next (s.ev dt fun k m => if m.leashUp && decide (k.nextBoundary ≤ k.raw) then m.armBoundary k else m)

/-- LEASH_SELFTEST: PERIOD seconds have passed since the last test began, or one waits (R424, R425). -/
def execLeashSelftest (dt : Nat) (ok : Bool) (s : State) : Res :=
  .next (s.ev dt fun k m =>
    if m.leashUp && (m.leash.testWaits || decide (m.leash.testAt + secRaw m.testPeriod ≤ k.raw)) then m.testDue k ok else m)

/-- LEASH_TEST_NOW: 1 written to LEASH_TEST_CMD.NOW (R424). -/
def execLeashTestNow (dt : Nat) (ok : Bool) (s : State) : Res :=
  .next (s.ev dt fun k m => m.access R.LEASH_TEST_CMD fun m => m.testDue k ok)

/-- LEASH_SELFTEST_END (R424). -/
def execLeashSelftestEnd (dt : Nat) (ok : Bool) (s : State) : Res :=
  .next (s.ev dt fun k m => if m.leashUp then m.testEnd k ok else m)

/-- HEEL_PIN_ASSERT: LEASH_HEEL_N has been asserted for 1 ms (R417). -/
def execHeelPinAssert (dt : Nat) (s : State) : Res :=
  .next (s.ev dt fun _ m =>
    if !m.leashUp then m
    else
      let m : Mod := { m with leash := { m.leash with heelPin := true } }
      if m.on F.LEASH_CTL_HEEL_PIN_EN then m.heelSet 0 else m)

/-- HEEL_PIN_RELEASE: LEASH_HEEL_N has been released for 1 ms (R417). -/
def execHeelPinRelease (dt : Nat) (s : State) : Res :=
  .next (s.ev dt fun _ m => if !m.leashUp then m else Mod.heelClr { m with leash := { m.leash with heelPin := false } } 1)

/-- LEASH_PARTNER_DIFF: the two units' input levels have differed for more than 10 ms (R426). -/
def execLeashPartnerDiff (dt : Nat) (s : State) : Res :=
  .next (s.ev dt fun _ m => if m.leashUp && m.paired then m.leashEvt 8 else m)

end Sys2Proof.Machine
end

