-- ==== Sys2Proof/Machine/BraceBase.lean ====
section
/-! DEFINITION. The Brace (chapter 12): roles, hold interlock, claims, the mirror and its records, over which its events are written. -/

namespace Sys2Proof.Machine

/-! ## Limits of fields (R486) -/

def Mod.hbMiss (m : Mod) : Nat := max 1 (m.fld F.BRACE_TIMING_HB_MISS)
def Mod.kaTicks (m : Mod) : Nat := min 9 (max 1 (m.fld F.BRACE_TIMING_KA_TICKS))
def Mod.joinWait (m : Mod) : Nat := max 1 (m.fld F.BRACE_TIMING_JOIN_WAIT)
def Mod.returnHold (m : Mod) : Nat := max 1 (m.fld F.BRACE_TIMING_RETURN_HOLD)

/-- The module runs as one of a pair (R456, R486). -/
def Mod.braceUp (m : Mod) : Bool := m.running && m.on F.BRACE_CTL_MODE

/-- Hot or warm standby (R456). -/
def Mod.standby (m : Mod) : Bool := m.role == 2 || m.role == 3

/-- A heartbeat path is present (R463). -/
def Mod.heard (m : Mod) : Bool := m.on F.BRACE_STAT_HB_LVDS || m.on F.BRACE_STAT_HB_P1

/-- The partner as joins, takeovers and returns see it: none while unheard or mismatched (R457). -/
def Mod.partner? (m : Mod) : Option Partner := if m.heard && !m.brace.mismatch then m.brace.partner else none

/-- This unit is preferred (R457). -/
def Mod.preferred (m : Mod) : Bool := m.fld F.BRACE_CTL_UNIT == m.fld F.BRACE_CTL_PREF_UNIT

/-- A unit may claim (R470). -/
def Mod.eligible (m : Mod) : Bool :=
  m.running && m.on F.BRACE_CTL_ELIG_EN && m.pstate == 0
    && (m.fld F.KEN_STAT_STATE == 0 || (m.fld F.KEN_STAT_STATE == 2 && m.on F.KEN_STAT_BRACE_READY))
    && m.slotAllows (m.rd R.BRACE_KEY % 64) [1] 0 2 && !m.upd.closed

/-- The version a pair uses: the highest both advertise, 0 when they share none (R479). -/
def Mod.bverAgreed (m : Mod) : Nat :=
  match m.brace.partner with
  | none => 0
  | some p => if m.heard && decide (p.bverMin ≤ m.bverMax) && decide (2 ≤ p.bverMax) then min m.bverMax p.bverMax else 0

/-- A pair runs cold: a partner is heard, but P1 carries no verified heartbeat or no version is shared (R480). -/
def Mod.coldNow (m : Mod) : Bool := m.heard && (!m.on F.BRACE_STAT_HB_P1 || m.bverAgreed == 0)

/-- Status fields that follow from the rest (R426, R470, R486). -/
def Mod.braceShow (m : Mod) : Mod :=
  let p := if m.heard then m.brace.partner else none
  let m := (m.setB F.BRACE_STAT_ELIGIBLE m.eligible).setB F.BRACE_STAT_PREFERRED (m.on F.BRACE_CTL_MODE && m.preferred)
  let m := (m.setB F.BRACE_STAT_PARTNER_ELIGIBLE (p.any Partner.eligible)).setF F.BRACE_STAT_PARTNER_ROLE ((p.map Partner.role).getD 4)
  let v := m.bverAgreed
  let m := m.setF F.BRACE_STAT_BVER v
  let m : Mod := { m with brace := { m.brace with ver := if v = 0 then m.brace.ver else v } }
  m.setB F.LEASH_STAT_HELD (m.standby && m.on F.BRACE_STAT_HOLD_IN && !m.on F.BRACE_STAT_GATE_OPEN)

/-! ## Roles and the gate (R456, R458, R459) -/

/-- The gate opens or closes; what it holds off stops with it (R240, R426, R459). -/
def Mod.gate (m : Mod) (on : Bool) : Mod :=
  let was := m.on F.BRACE_STAT_GATE_OPEN
  let m := (m.setB F.BRACE_STAT_GATE_OPEN on).leashShow
  let m := if was && !on then m.pulsesOff else m
  m.braceShow

/-- BRACE_HOLD_OUT is released, and the gate closes (R459). -/
def Mod.holdOff (m : Mod) : Mod :=
  let m := if m.on F.BRACE_STAT_HOLD_OUT then (m.setB F.BRACE_STAT_HOLD_OUT false).emit (.holdOut false) else m
  Mod.gate { m with brace := { m.brace with windowAt := none } } false

/-- BRACE_HOLD_OUT asserts; the window of R459 begins where BRACE_HOLD_IN is released. -/
def Mod.holdOn (m : Mod) (k : Clock) : Mod :=
  let m := if m.on F.BRACE_STAT_HOLD_OUT then m else (m.setB F.BRACE_STAT_HOLD_OUT true).emit (.holdOut true)
  { m with brace := { m.brace with windowAt := if m.on F.BRACE_STAT_HOLD_IN then none else some k.raw } }

/-- ROLE and LAST_CAUSE change, with the log and the record (R486, R487, R572 trigger 6). -/
def Mod.setRole (m : Mod) (k : Clock) (role cause : Nat) : Mod :=
  let old := m.role
  let m := (m.setF F.BRACE_STAT_ROLE role).setF F.BRACE_STAT_LAST_CAUSE cause
  if old = role then m.braceShow
  else
    let t := Clock.fullNs k.now
    let w0 := role + cause * 16
    let e : List Word := [BitVec.ofNat 32 w0, BitVec.ofNat 32 k.tick, BitVec.ofNat 32 t, BitVec.ofNat 32 (t / 4294967296)]
    let m : Mod := { m with brace := { m.brace with roleLog := (e :: m.brace.roleLog).take 4 } }
    let m := if (old == 0 || old == 1) && (role == 2 || role == 3) then m.braceEvt 1 else m
    let m := if m.serves then m else m.pulsesOff
    (m.recTrig k 6 (le 4 w0 ++ le 4 k.tick)).braceShow.leashShow

/-- A join begins: WARM, hold released, gate closed (R467). -/
def Mod.braceJoin (m : Mod) (k : Clock) (cause : Nat) : Mod :=
  let m := m.holdOff
  let m : Mod := { m with brace := { m.brace with joinAt := some k.raw, retryAt := none, handover := none, kaDead := false, fedAt := k.raw } }
  m.setRole k 3 cause

/-! ## Claims (R460, R467 to R470) -/

/-- A claim: only with BRACE_HOLD_IN released and the keep-alive running (R460, R461). -/
def Mod.claim (m : Mod) (k : Clock) (cause : Nat) : Mod :=
  if m.on F.BRACE_STAT_HOLD_IN || m.on F.BRACE_STAT_HOLD_OUT || m.brace.kaDead || m.brace.retryAt.isSome then m
  else Mod.holdOn { m with brace := { m.brace with cause := cause, retryAt := none } } k

/-- A unit in MODE SINGLE claims as soon as it can (R467). -/
def Mod.claimSingle (m : Mod) (k : Clock) : Mod :=
  if m.running && !m.on F.BRACE_CTL_MODE && m.role == 3 && !m.on F.BRACE_STAT_HOLD_OUT then
    (if m.on F.BRACE_STAT_HOLD_IN then m.braceEvt 9 else m.claim k 1)
  else m

/-- The join of R467, its first matching row; `hb`: a verified heartbeat has just come. -/
def Mod.joinJudge (m : Mod) (k : Clock) (hb : Bool) : Mod :=
  match m.brace.joinAt with
  | none => m
  | some t =>
    match m.partner? with
    | some p =>
      if p.role = 1 then
        if hb then
          let m : Mod := { m with brace := { m.brace with joinAt := none } }
          if m.on F.BRACE_CTL_STANDBY || !m.paired then m else Mod.braceSend { m with brace := { m.brace with syncing := true, mirror := [] } } k 0x30 []
        else m
      else if m.preferred && m.eligible then m.claim k 1 else m
    | none =>
      let wait := msRaw (100 * m.joinWait) + if m.preferred then 0 else secRaw 1
      if t + wait ≤ k.raw ∧ m.eligible = true then m.claim k 1 else m

/-- A standby judges its partner (R468); `hb`: at a verified heartbeat. -/
def Mod.braceJudge (m : Mod) (k : Clock) (hb : Bool) : Mod :=
  if !m.braceUp then m.claimSingle k
  else if !m.standby then m
  else if m.brace.joinAt.isSome then m.joinJudge k hb
  else
    let held := m.on F.BRACE_STAT_HOLD_IN
    match m.partner? with
    | none =>
      if held then m
      else
        let m := if m.brace.partner.isSome then m.braceEvt 2 else m
        let m : Mod := { m with brace := { m.brace with partner := none, rxSeq := none } }
        if m.eligible then (m.braceShow.claim k 2) else m.braceShow
    | some p =>
      let agreed := match m.brace.handover with | some h => !h.giving && h.accepted | none => false
      if !hb || agreed then m
      else if p.role = 1 then
        let m : Mod := { m with brace := { m.brace with heldSince := none } }
        let m := if held || m.on F.BRACE_STAT_HOLD_OUT then m else m.braceEvt 8
        if m.paired && !m.on F.BRACE_CTL_STANDBY && m.role == 3 && !m.on F.BRACE_STAT_SYNCED && !m.brace.syncing then
          Mod.braceSend { m with brace := { m.brace with syncing := true, mirror := [] } } k 0x30 []
        else m
      else
        let since := m.brace.heldSince.getD k.raw
        let m : Mod := { m with brace := { m.brace with heldSince := if held then some since else none } }
        let m := if held && decide (max since m.brace.holdInAt + msRaw 3 ≤ k.raw) then m.braceEvt 8 else m
        if m.on F.BRACE_STAT_HOLD_OUT then m
        else
          let m := if m.role = 2 then m.setRole k 3 (m.fld F.BRACE_STAT_LAST_CAUSE) else m
          Mod.joinJudge { m with brace := { m.brace with joinAt := some k.raw } } k hb

/-- A unit gives way in the same tick: hold released, gate closed, WARM (R46, R470). -/
def Mod.braceYield (m : Mod) (k : Clock) (cause : Nat) : Mod :=
  if m.on F.BRACE_CTL_MODE && (m.role == 1 || m.role == 2 || m.on F.BRACE_STAT_HOLD_OUT) then
    Mod.setRole { m.holdOff with brace := { m.brace with windowAt := none, handover := none } } k 3 cause
  else m

/-! ## Mirrored items and their records (R475, R483) -/

/-- The key of a record. -/
def recKey (rtype key : Nat) : Nat := rtype * 4294967296 + key

/-- A record as sent: header, data, padding (R483). -/
def recFrame (key : Nat) (d : List Byte) : List Byte :=
  le 1 (key / 4294967296) ++ le 1 0 ++ le 2 d.length ++ le 4 key ++ d ++ List.replicate ((4 - d.length % 4) % 4) 0

/-- Bytes that are all zero stand for an item that is not there. -/
def allZero (d : List Byte) : Bool := d.all fun b => b == 0

/-- Words as bytes. -/
def wordBytes (l : List Nat) : List Byte := l.flatMap (le 4)

/-- A route request in its layout (R279). -/
def reqBytes (q : RouteReq) : List Byte :=
  let b := le 1 q.rover ++ le 1 q.chains.length ++ le 1 q.prio ++ le 1 0 ++ le 4 q.dep ++ le 4 q.depLatest ++ le 2 q.vcap ++ le 2 q.reqSerial
    ++ q.chains.flatMap fun c => le 2 (c.1 + if c.2 then 32768 else 0)
  b ++ List.replicate ((4 - b.length % 4) % 4) 0

/-- Words 2 to 7 of CH_STATE (R356). -/
def Mod.chWords (m : Mod) (c : Nat) : List Nat :=
  let x := m.mch c
  let two := fun (i : Int) => [unsigned 64 i % 4294967296, unsigned 64 i / 4294967296]
  two x.kin.pos ++ [unsigned 32 x.kin.vel, unsigned 32 x.kin.acc] ++ two x.target

/-- The words of GRP_STATUS (R356). -/
def Mod.grpWords (m : Mod) (g : Nat) : List Nat :=
  let st := m.fld (F.MOT_GRP_STAT_STATE g) + m.fld (F.MOT_GRP_STAT_MEMBERS g) * 256
  match AMap.find m.mot.groups g with
  | none => [st, 0] ++ List.replicate 8 0x00FF00FF
  | some x =>
    let p := if x.long = 0 then 0 else (x.kin.pos.toNat * 4294967296 / x.long) % 4294967296
    let ch := fun i => ((x.members.map Prod.fst)[i]?).getD 255
    [st, p] ++ (upto 8).map fun i => ch (2 * i) + ch (2 * i + 1) * 65536

/-- Keys of this unit's items of one record type. -/
def Mod.itemKeys (m : Mod) (rtype : Nat) : List Nat :=
  match rtype with
  | 0x01 => m.shep.cells.map Prod.fst
  | 0x02 => m.shep.blocked.mergeSort fun a b => decide (a ≤ b)
  | 0x03 => m.shepRovers
  | 0x04 => m.shep.tasks.map Prod.fst
  | 0x10 => (m.mot.ch.filter fun e => e.2.kind == 1 && !e.2.profile.isEmpty).map (fun e => e.2.idx) |>.mergeSort fun a b => decide (a ≤ b)
  | 0x11 => (m.mot.ch.filter fun e => e.2.kind != 0).map Prod.fst
  | 0x12 => m.mot.groups.map Prod.fst
  | 0x20 => m.airRovers
  | 0x21 => m.airRovers
  | _ => []

/-- The data of an item this unit holds (R483). -/
def Mod.itemData (m : Mod) (rtype i : Nat) : List Byte :=
  match rtype with
  | 0x01 => wordBytes (spanWords (m.shep.blocked.contains (i / 8)) (AMap.find m.shep.cells i))
  | 0x02 => le 4 1
  | 0x03 => wordBytes [m.rd (R.SHEP_RV_STAT i), m.rd (R.SHEP_RV_LOC i), m.rd (R.SHEP_RV_S i), m.rd (R.SHEP_RV_FP i)]
      ++ ((m.srv i).req.map reqBytes).getD []
  | 0x04 => wordBytes (taskWords (m.taskAt i))
  | 0x10 => match m.roverCh i with | some c => (m.mch c).profile | none => []
  | 0x11 => wordBytes (m.chWords i ++ [m.rd (R.MOT_CH_STAT i)])
  | 0x12 => wordBytes (m.grpWords i)
  | 0x20 => wordBytes [m.rd (R.ROVER_DRIFT_OFS i), m.rd (R.ROVER_DRIFT_RATE i), m.rd (R.ROVER_LINK_STAT i)]
  | 0x21 => wordBytes [m.rd (R.ROVER_LINK_SLOT i)]
  | _ => []

/-- This unit's items of some record types, in the order of their keys. -/
def Mod.ownItems (m : Mod) (types : List Nat) : AMap (List Byte) :=
  (types.flatMap fun t => (m.itemKeys t).map fun i => (recKey t i, m.itemData t i)).filter fun e => !allZero e.2

/-- The record types of the version in use: drift estimates are not mirrored under version 2 (R475, R479). -/
def Mod.mirrorTypes (m : Mod) : List Nat := [0x01, 0x02, 0x03, 0x04, 0x10, 0x11, 0x12] ++ (if m.bver = 3 then [0x20] else []) ++ [0x21]

/-- Records of some types that turn one table into another: a vanished item's record is zero. -/
def recDiff (types : List Nat) (have_ want : AMap (List Byte)) : List (Nat × List Byte) :=
  let gone := (have_.filter fun e => types.contains (e.1 / 4294967296) && (AMap.find want e.1).isNone).map fun e => (e.1, List.replicate e.2.length 0)
  gone ++ want.filter fun e => AMap.find have_ e.1 != some e.2

/-- A record is committed to a mirror (R474, R477). -/
def mirrorPut (l : AMap (List Byte)) (e : Nat × List Byte) : AMap (List Byte) := if allZero e.2 then AMap.del e.1 l else AMap.ins e.1 e.2 l

/-- CRC-32C over the mirrored records in the order of their keys (R475, R477). -/
def mirrorCrc (l : AMap (List Byte)) : Nat := crc32c (l.flatMap fun e => recFrame e.1 e.2)

/-- Records are put into frame bodies of at most 1,452 bytes (R481). -/
def packRecs (room : Nat) : List (Nat × List Byte) → List Byte → List (List Byte)
  | [], cur => [cur]
  | e :: t, cur =>
    let f := recFrame e.1 e.2
    if cur.isEmpty || decide (cur.length + f.length ≤ room) then packRecs room t (cur ++ f) else cur :: packRecs room t f

/-- Frames of one type for one tick: the last one is marked (R481). -/
def Mod.braceFrames (m : Mod) (k : Clock) (tick type : Nat) (head : List Byte) (recs : List (Nat × List Byte)) : Mod :=
  let bodies := packRecs (1452 - head.length) recs []
  (upto bodies.length).foldl (fun m i => m.braceSendAt k tick type (if i + 1 = bodies.length then 1 else 0) (head ++ nth [] bodies i)) m

/-- The records of a frame body. -/
def parseRecs : Nat → List Byte → List (Nat × List Byte)
  | 0, _ => []
  | n + 1, d =>
    if d.length < 8 then []
    else
      let len := leAt d 2 2
      (recKey (leAt d 0 1) (leAt d 4 4), (d.drop 8).take len) :: parseRecs n (d.drop (8 + (len + 3) / 4 * 4))

/-! ## What the active unit sends (R474, R475) -/

/-- The partner takes deltas: HOT, or in a full synchronisation (R474, R477). -/
def Mod.mirrors (m : Mod) : Bool :=
  m.role == 1 && m.paired && (m.brace.syncing || (match m.partner? with | some p => p.role == 2 | none => false))

/-- A delta of some record types is sent, and the mirror sent so far follows. -/
def Mod.sendDelta (m : Mod) (k : Clock) (tick type : Nat) (head : List Byte) (types : List Nat) : Mod :=
  let recs := recDiff types m.brace.mirror (m.ownItems types)
  let m : Mod := { m with brace := { m.brace with mirror := recs.foldl mirrorPut m.brace.mirror } }
  m.braceFrames k tick type head recs

/-- SHEP_DELTA of the tick in progress; its acknowledgements are awaited from here (R474). -/
def Mod.sendShepDelta (m : Mod) (k : Clock) : Mod :=
  if !m.mirrors then m
  else Mod.sendDelta { m with brace := { m.brace with acks := 0, ackTick := some k.tickNo } } k k.tick 0x10 [] [0x01, 0x02, 0x03, 0x04]

/-- MOT_DELTA of the tick in progress (R474). -/
def Mod.sendMotDelta (m : Mod) (k : Clock) : Mod := if !m.mirrors then m else m.sendDelta k k.tick 0x11 [] [0x10, 0x11, 0x12]

/-- AUTH bits as in the token body (R475). -/
def Mod.authBits (m : Mod) : List Byte :=
  (upto 32).map fun i => BitVec.ofNat 8 ((upto 8).foldl (fun a j => a + if m.on (F.SHEP_RV_STAT_AUTH (8 * i + j)) then 2 ^ j else 0) 0)

/-- TICK_END of a tick, with the slot map's records behind it (R475, R482). -/
def Mod.sendTickEnd (m : Mod) (k : Clock) (tick : Nat) : Mod :=
  if !m.mirrors then m
  else m.sendDelta k tick 0x13 (m.authBits ++ le 1 m.lstate ++ le 1 0 ++ le 2 (m.rd R.LEASH_TRIP_ID) ++ le 4 (m.rd R.AIR_MAP_SERIAL)) [0x21]

/-- SF_SYNC at the end of tick phase 9 (R475, R482). -/
def Mod.sendSfSync (m : Mod) (k : Clock) (tick : Nat) (us : List Nat) : Mod :=
  if !m.mirrors then m
  else
    let types := if m.bver = 3 then [0x20] else []
    let recs := recDiff types m.brace.mirror (m.ownItems types)
    let m : Mod := { m with brace := { m.brace with mirror := recs.foldl mirrorPut m.brace.mirror } }
    let head := us.flatMap (le 4) ++ le 1 (m.fld F.PACK_BASE_STAT_STATE) ++ le 3 0 ++ le 4 (mirrorCrc m.brace.mirror)
    m.braceFrames k tick 0x20 head recs

/-- A full synchronisation: every mirrored item, then the CRC (R477). -/
def Mod.sendFull (m : Mod) (k : Clock) : Mod :=
  let l := m.ownItems m.mirrorTypes
  let m : Mod := { m with brace := { m.brace with mirror := l, syncing := true } }
  let m := m.braceFrames k k.tick 0x31 [] l
  m.braceSend k 0x32 (le 4 (mirrorCrc l))

/-! ## Applying the mirror (R476, R478) -/

/-- One mirrored item replaces this unit's own. -/
def Mod.mirrorItem (m : Mod) (key : Nat) (d : List Byte) : Mod :=
  let i := key % 4294967296
  let w := fun j => leAt d (4 * j) 4
  match key / 4294967296 with
  | 0x01 =>
    if (w 0).testBit 10 then
      m.setSpan i { rover := w 0 % 256, kind := bitsOf (w 0) 9 8, opn := (w 0).testBit 11, serial := bitsOf (w 0) 31 16, start := w 1, lstart := w 2, fin := w 3 }
    else m.delSpan i
  | 0x02 =>
    let rest := m.shep.blocked.filter fun c => c != i
    { m with shep := { m.shep with blocked := if w 0 % 2 = 1 then rest ++ [i] else rest } }
  | 0x03 =>
    let m := (((m.wr (R.SHEP_RV_STAT i) (w 0)).wr (R.SHEP_RV_LOC i) (w 1)).wr (R.SHEP_RV_S i) (w 2)).wr (R.SHEP_RV_FP i) (w 3)
    let q := match parseReq (d.drop 16) with
      | none => none
      | some q => some { q with fromAir := true, seq := ((m.srv i).req.map RouteReq.seq).getD m.shep.seq }
    (m.setSrv i { m.srv i with req := q }).pendShow
  | 0x04 =>
    m.setTask i { status := w 0 % 4, prio := bitsOf (w 0) 4 2, rover := bitsOf (w 0) 15 8, need := w 1, from_ := w 2 % 65536, to_ := w 2 / 65536,
                  notBefore := w 3, deadline := w 4, payload := w 5 }
  | 0x10 =>
    match m.roverCh i with
    | none => m
    | some c => m.setMch c { m.mch c with profile := if allZero d then [] else d, profSerial := (leAt d 4 2 + 1) % 65536 }
  | 0x11 =>
    let x := m.mch i
    let kin : Kin := { p := ofPos (signed 64 (leAt d 0 8)), v := signed 32 (w 2) * velU / 256, a := signed 32 (w 3) * accU / 256 }
    (m.setMch i { x with kin := kin, target := signed 64 (leAt d 16 8) }).wr (R.MOT_CH_STAT i) (w 6)
  | 0x12 => if allZero d then m.groupEnd i else m
  | 0x20 => ((m.wr (R.ROVER_DRIFT_OFS i) (w 0)).wr (R.ROVER_DRIFT_RATE i) (w 1)).wr (R.ROVER_LINK_STAT i) (w 2)
  | 0x21 => m.wr (R.ROVER_LINK_SLOT i) (w 0)
  | _ => m

/-- The mirror wins wherever the two differ (R476). -/
def Mod.applyMirror (m : Mod) : Mod :=
  m.each (recDiff m.mirrorTypes (m.ownItems m.mirrorTypes) m.brace.mirror) fun m e => m.mirrorItem e.1 e.2

/-- Every rover record becomes LAPSED (R478, R552). -/
def Mod.lapseAll (m : Mod) : Mod :=
  m.each (m.pack.rover.map Prod.fst) fun m r =>
    (m.setRv r { m.rv r with record := { (m.rv r).record with state := 2 } }).setF (F.ROVER_SOL_STAT_STATE r) 2

/-- After a takeover in cold operation every rover is UNPLACED (R480). -/
def Mod.unplaceAll (m : Mod) : Mod := m.each m.shepRovers fun m r => m.releaseForce r

/-! ## Takeover (R469, R478) -/

/-- At the first tick boundary after the gate opened the unit becomes ACTIVE. -/
def Mod.takeover (m : Mod) (k : Clock) : Mod :=
  if !(m.braceUp && m.standby && m.on F.BRACE_STAT_GATE_OPEN) then m
  else
    let cause := m.brace.cause
    let hot := m.role == 2
    let cold := m.brace.mirror.isEmpty && !hot
    let m :=
      if cause = 1 then m
      else if hot then
        let late := m.brace.grants.filter fun g => match AMap.find m.brace.mirror (recKey 0x10 g.rover) with | some d => leAt d 2 2 != g.serial | none => true
        { m with mot := { m.mot with carried := m.mot.carried ++ late.map MotWork.grant } }
      else if cold then m.unplaceAll
      else m.applyMirror.lapseAll
    let m := ((m.timeTakeover k).setB F.BRACE_STAT_SYNCED false).setRole k 1 cause
    let m : Mod := { m with brace := { m.brace with joinAt := none, handover := none, grants := [], syncing := false, acks := 0, ackTick := none } }
    let m := m.wr R.BRACE_TAKEOVER_TICK k.tick
    let m : Mod := if m.brace.ver = 2 then { m with air := { m.air with noTc := upto 256 } } else m
    if cause = 1 then m else (m.inc R.BRACE_TAKEOVER_CNT).braceEvt 0

/-! ## Handovers (R471, R472) -/

/-- The first superframe boundary at least 10 ticks ahead, as a tick counter value. -/
def Clock.sfAhead (k : Clock) : Nat := (k.tickNo + 10 + 9) / 10 * 10 % 4294967296

/-- The partner is HOT and eligible. -/
def Mod.partnerReady (m : Mod) : Bool := match m.partner? with | some p => p.role == 2 && p.eligible | none => false

/-- The active unit starts a handover. -/
def Mod.handoverStart (m : Mod) (k : Clock) (b : Nat) (hdr : Option (Nat × Bool × Nat)) (cause : Nat) : Mod :=
  let m : Mod := { m with brace := { m.brace with handover := some { b := b, giving := true, hdr := hdr, cause := cause, accepted := false, released := false } } }
  m.braceSend k 0x40 (le 4 b)

/-- The command that asked for a handover gets its result (R485). -/
def Mod.handoverResult (m : Mod) (k : Clock) (h : Handover) (code : Nat) : Mod :=
  match h.hdr with
  | none => m
  | some (tag, nr, at_) => m.result k 6 1 code tag nr at_ []

/-- A handover ends without effect. -/
def Mod.handoverDrop (m : Mod) (k : Clock) (code : Nat) : Mod :=
  match m.brace.handover with
  | none => m
  | some h => Mod.handoverResult { m with brace := { m.brace with handover := none } } k h code

/-- At B the former active unit becomes HOT or WARM; a handover not carried out by then is abandoned (R471 step 5). -/
def Mod.handoverBoundary (m : Mod) (k : Clock) : Mod :=
  match m.brace.handover with
  | none => m
  | some h =>
    if tickDiff k.tick h.b < 0 then m
    else if h.giving && h.released then
      let hot := m.on F.BRACE_CTL_MODE && !m.on F.BRACE_CTL_STANDBY && m.paired
      ((m.handoverDrop k 0).setRole k (if hot then 2 else 3) h.cause).setB F.BRACE_STAT_SYNCED hot
    else if h.giving then m.handoverDrop k 0x105
    else { m with brace := { m.brace with handover := none } }

/-- BRACE_CTL becomes live: on the active unit a change to SINGLE or to a WARM standby starts a handover or is refused (R471). -/
def Mod.braceCtlApply (m : Mod) (k : Clock) (v : Nat) : Mod :=
  let old := m.rd R.BRACE_CTL
  let gives := m.role == 1 && ((old.testBit 0 && !v.testBit 0) || (!old.testBit 3 && v.testBit 3))
  if gives && (!m.partnerReady || m.brace.handover.isSome) then m.braceEvt 12
  else
    let m := m.cfgSet R.BRACE_CTL v
    let m := if gives then m.handoverStart k k.sfAhead none 7
      else if m.role = 0 ∧ v.testBit 0 = true then m.setRole k 1 1
      else if m.role = 2 ∧ (v.testBit 3 = true ∨ v.testBit 0 = false) then (m.setB F.BRACE_STAT_SYNCED false).setRole k 3 (m.fld F.BRACE_STAT_LAST_CAUSE)
      else m
    (m.braceShow.claimSingle k)

/-- The step at every tick boundary of what the Brace decides there: keep-alive seen, takeover, handover, claims (R461, R467, R469, R471). -/
def Mod.braceBoundary (m : Mod) (k : Clock) : Mod :=
  let m := if m.brace.kaDead then (m.braceEvt 11).braceJoin k 5 else m
  let m := (m.handoverBoundary k).takeover k
  (m.claimSingle k).braceShow

end Sys2Proof.Machine
end

