-- ==== Sys2Proof/Machine/Brace.lean ====
section
/-! DEFINITION. Events, frames and commands of the Brace (R458 to R485), and MOT_WINDOW, whose end sends the MOT delta (R474). -/

namespace Sys2Proof.Machine

/-! ## Heartbeats (R463 to R465) -/

/-- The STATE byte of a heartbeat (R464). -/
def Mod.hbState (m : Mod) : Nat :=
  let bit := fun (b : Bool) n => if b then n else 0
  m.role + m.fld F.BRACE_CTL_UNIT * 4 + bit m.eligible 8 + bit (m.on F.BRACE_STAT_SYNCED) 16 + m.tstate * 32 + bit (m.lstate == 2) 128

/-- A heartbeat leaves on both paths, once each whole ms of published time, while the keep-alive runs (R461, R463, R464, R482). -/
def Mod.heartbeatTx (m : Mod) (k : Clock) : Mod :=
  let ms := Clock.fullNs k.now / 1000000
  if !m.braceUp || m.brace.kaDead || m.brace.hbMs == some ms then m
  else
    let m := m.braceShow
    let m : Mod := { m with brace := { m.brace with hbMs := some ms, hbSeq := (m.brace.hbSeq + 1) % 256 } }
    let body := le 1 m.bverMax ++ le 1 m.hbState ++ le 1 m.brace.hbSeq ++ le 8 m.brace.stamp
    let m := match m.tagBy (m.rd R.BRACE_KEY % 64) 2 4 body with
      | (m, none) => m
      | (m, some tag) => m.emit (.brace true 1 ([0xBC] ++ body ++ tag))
    m.braceSend k 1 (le 1 m.role ++ le 1 m.hbState ++ le 1 2 ++ le 1 m.bverMax ++ le 4 (m.rd R.GLB_FW_VER) ++ le 2 (m.rd R.LEASH_TRIP_ID) ++ le 2 0)

/-- What an accepted Brace frame says in its header, and its body (R481). -/
structure BraceMsg where
  tick : Nat
  last : Bool
  unit : Nat
  time : Nat
  body : List Byte
  deriving DecidableEq, Repr

/-- A frame is refused (R481). -/
def Mod.frameRefuse (m : Mod) : Mod := (m.inc R.BRACE_AUTH_FAIL_CNT).braceEvt 10

/-- The checks of R481 on a frame of the type asked for; another type is another event. -/
def Mod.braceFrame (m : Mod) (k : Clock) (type : Nat) (d : List Byte) : Mod × Option BraceMsg :=
  if !m.braceUp || decide (d.length < 48) || leAt d 1 1 != type then (m, none)
  else
    match m.useKey (m.rd R.BRACE_KEY % 64) [1] 0 2 with
    | (m, none) => (m.frameRefuse, none)
    | (m, some key) =>
      let n := d.length - 16
      let far := (Int.ofNat (leAt d 12 8) - Int.ofNat (Clock.fullNs k.now)).natAbs
      let old := match m.brace.rxSeq with | some q => decide (tickDiff (leAt d 8 4) q ≤ 0) | none => false
      if leAt d 2 2 ≠ d.length ∨ (Config.aesCmac key (d.take n)).take 16 ≠ d.drop n ∨ leAt d 4 2 ≠ m.rd R.BRACE_ID % 65536
          ∨ (if m.on F.BRACE_STAT_TIME_ALIGNED then 1000000 else 10000000000) < far ∨ old = true then (m.frameRefuse, none)
      else
        let m : Mod := { (m.inc R.BRACE_RX_CNT) with brace := { m.brace with rxSeq := some (leAt d 8 4) } }
        (m, some { tick := leAt d 20 4, last := (leAt d 7 1).testBit 0, unit := leAt d 6 1 % 2, time := leAt d 12 8, body := (d.take n).drop 32 })

/-- A partner of which only a heartbeat is known; its serial and its time uncertainty no heartbeat carries (log entry 22). -/
def Partner.fresh (bmax : Nat) : Partner :=
  { unit := 0, role := 4, eligible := false, synced := false, tstate := 2, armed := false, bverMin := 2, bverMax := bmax, fwVer := 0,
    serial := (upto 4).map fun i => BitVec.ofNat 32 (Config.freeNat 487 i), tick := 0, mac := none, braceId := 0, unc := Config.freeNat 488 0 }

/-- The STATE byte of a verified heartbeat is taken up (R464, R426). -/
def Mod.partnerState (m : Mod) (k : Clock) (p : Partner) (st : Nat) : Mod :=
  let p : Partner := { p with role := st % 4, unit := st / 4 % 2, eligible := st.testBit 3, synced := st.testBit 4, tstate := st / 32 % 4,
                              armed := st.testBit 7, tick := k.tick }
  let bad := p.unit == m.fld F.BRACE_CTL_UNIT
  let m := if bad && !m.brace.mismatch then m.braceEvt 9 else m
  let m : Mod := { m with brace := { m.brace with partner := some p, mismatch := bad } }
  let m := if m.role = 1 ∧ m.lstate = 2 then
      (if p.armed then m.setB F.LEASH_STAT_PARTNER_TRIPPED false
       else if m.on F.LEASH_STAT_PARTNER_TRIPPED then m else (m.setB F.LEASH_STAT_PARTNER_TRIPPED true).leashEvt 8)
    else m
  let ready := m.role == 1 && !m.preferred && !bad && p.role == 2 && p.eligible && p.tstate == 0 && p.armed == (m.lstate == 2)
  let m : Mod := { m with brace := { m.brace with readySince := if ready then some (m.brace.readySince.getD k.raw) else none } }
  if m.role = 1 ∧ p.role = 2 then { m with brace := { m.brace with syncing := false } } else m

/-- A verified heartbeat on a path (R463). -/
def Mod.pathGood (m : Mod) (k : Clock) (lvds : Bool) : Mod :=
  let f := if lvds then F.BRACE_STAT_HB_LVDS else F.BRACE_STAT_HB_P1
  let p := if lvds then m.brace.lvds else m.brace.p1
  let p : HbPath := { miss := 0, good := p.good + 1, at_ := k.raw }
  let m : Mod := { m with brace := if lvds then { m.brace with lvds := p } else { m.brace with p1 := p } }
  if m.on f || decide (p.good < 3) then m
  else
    let m := if m.heard then m else m.braceEvt 3
    (m.setB f true).braceEvt 5

/-- Synchronisation ends on a standby (R473, R476). -/
def Mod.syncLost (m : Mod) (k : Clock) : Mod :=
  let m := if m.on F.BRACE_STAT_SYNCED || m.role == 2 then (m.setB F.BRACE_STAT_SYNCED false).braceEvt 6 else m
  if m.role = 2 then m.setRole k 3 (m.fld F.BRACE_STAT_LAST_CAUSE) else m

/-- Cold operation begins or ends (R480). -/
def Mod.coldShow (m : Mod) (k : Clock) : Mod :=
  let cold := m.coldNow
  let m := if cold && !m.on F.BRACE_STAT_COLD then (if m.role = 1 then m else m.syncLost k).braceEvt 13 else m
  (m.setB F.BRACE_STAT_COLD cold).braceShow

/-- Nearest whole ms to a time in sixteenths of a ns. -/
def nearMs (t : Int) : Int := (t + 8000000) / 16000000 * 16000000

/-- Offset and delay from a comma's arrival (R465), in ps, averaged over 64 ms; a standby steers to the partner by them (R249). -/
def Mod.braceOffset (m : Mod) (k : Clock) (stamp : Nat) (p : Partner) : Mod :=
  let a4 : Int := k.now / 1048576
  let m : Mod := { m with brace := { m.brace with stamp := unsigned 64 a4 } }
  if stamp = 0 ∨ m.brace.hbMs = none then m
  else
    let a2 : Int := a4 + signed 64 (unsigned 64 (Int.ofNat stamp - a4))
    let c : Int := m.brace.coarse * 16
    let t1 := nearMs (a2 - c)
    let t3 := nearMs (a4 + c)
    let x := (a2 - t1) * 125 / 2
    let y := (a4 - t3) * 125 / 2
    let ofs := (x - y - m.rdI R.BRACE_ASYM_EFF) / 2
    let m : Mod := { m with brace := { m.brace with ofs := (ofs :: m.brace.ofs).take 64, dly := ((x + y) / 2 :: m.brace.dly).take 64 } }
    let mean := fun (l : List Int) => l.foldl (· + ·) (0 : Int) / Int.ofNat (max 1 l.length)
    let o := mean m.brace.ofs
    let m := (m.wrI R.BRACE_TIME_OFS o).wrI R.BRACE_LINK_DLY (mean m.brace.dly)
    let since := if ofs.natAbs ≤ 1000 then some (m.brace.alignedAt.getD k.raw) else none
    let m : Mod := { m with brace := { m.brace with alignedAt := since } }
    let m := m.setB F.BRACE_STAT_TIME_ALIGNED (match since with | some r => decide (r + secRaw 1 ≤ k.raw) | none => false)
    if m.standby then { m with time := { m.time with partner := some (p.tstate, p.unc), newErr := some (-o) } } else m

/-- An active unit whose gate BRACE_HOLD_IN keeps closed gives way to an active partner (log entry 22). -/
def Mod.demote (m : Mod) (k : Clock) : Mod :=
  let other := m.brace.partner.any fun p => p.role == 1
  if m.role == 1 && other && m.on F.BRACE_STAT_HOLD_IN && !m.on F.BRACE_STAT_GATE_OPEN then m.holdOff.setRole k 3 8 else m

/-- A heartbeat frame of the LVDS link (R464). -/
def Mod.hbLvds (m : Mod) (k : Clock) (d : List Byte) : Mod :=
  if d.length ≠ 16 ∨ leAt d 0 1 ≠ 0xBC then m
  else
    match m.useKey (m.rd R.BRACE_KEY % 64) [1] 0 2 with
    | (m, none) => m
    | (m, some key) =>
      if (Config.aesCmac key ((d.take 12).drop 1)).take 4 ≠ d.drop 12 then m
      else
        let p := m.brace.partner.getD (Partner.fresh (leAt d 1 1))
        let m := (m.partnerState k { p with bverMax := leAt d 1 1 } (leAt d 2 1)).pathGood k true
        let m := match m.brace.partner with | some p => m.braceOffset k (leAt d 4 8) p | none => m
        ((m.coldShow k).braceJudge k true).demote k

/-- What a P1 heartbeat says is taken up (R482). -/
def Mod.hbMsg (m : Mod) (k : Clock) (f : BraceMsg) (mac : Nat) : Mod :=
  let p := m.brace.partner.getD (Partner.fresh (leAt f.body 3 1))
  let p : Partner := { p with bverMin := leAt f.body 2 1, bverMax := leAt f.body 3 1, fwVer := leAt f.body 4 4, mac := some mac, braceId := m.rd R.BRACE_ID % 65536 }
  let m : Mod := { m with brace := { m.brace with coarse := Int.ofNat f.time - Int.ofNat (Clock.fullNs k.now) } }
  (m.partnerState k p (leAt f.body 1 1)).pathGood k false

/-- A heartbeat frame on P1, with the sender's MAC address (R481, R482). -/
def Mod.hbP1 (m : Mod) (k : Clock) (d : List Byte) (mac : Nat) : Mod :=
  let r := m.braceFrame k 1 d
  match r.2 with
  | none => r.1
  | some f => (((r.1.hbMsg k f mac).coldShow k).braceJudge k true).demote k

/-- One missed heartbeat of a path (R463); a missed one lies at least a ms after the last one judged. -/
def Mod.pathMiss (m : Mod) (k : Clock) (lvds : Bool) : Mod :=
  let f := if lvds then F.BRACE_STAT_HB_LVDS else F.BRACE_STAT_HB_P1
  let p := if lvds then m.brace.lvds else m.brace.p1
  if k.raw ≤ p.at_ + msRaw (p.miss + 1) then m
  else
    let p : HbPath := { p with miss := p.miss + 1, good := 0 }
    let m : Mod := { m with brace := if lvds then { m.brace with lvds := p } else { m.brace with p1 := p } }
    if !m.on f || decide (p.miss < m.hbMiss) then m
    else
      let m := ((m.setB f false).inc (if lvds then R.BRACE_HB_LOSS_LVDS_CNT else R.BRACE_HB_LOSS_P1_CNT)).braceEvt 4
      if lvds then
        let m := m.setB F.BRACE_STAT_TIME_ALIGNED false
        { m with brace := { m.brace with alignedAt := none, ofs := [], dly := [] }, time := { m.time with partner := none, newErr := if m.standby then none else m.time.newErr } }
      else { m with brace := { m.brace with rxSeq := none, syncing := false } }

/-- What the loss of paths brings (R468, R473). -/
def Mod.pathsJudged (m : Mod) (k : Clock) : Mod :=
  let m := if m.on F.BRACE_STAT_HB_P1 then m
    else if m.role = 1 then m.setB F.BRACE_STAT_SYNCED false
    else if m.heard && m.standby then m.syncLost k
    else m
  (m.coldShow k).braceJudge k false

/-! ## Messages of the mirror -/

/-- A full synchronisation is requested; the mirror starts empty (R476, R477). -/
def Mod.fullReq (m : Mod) (k : Clock) : Mod :=
  Mod.braceSend { m with brace := { m.brace with syncing := true, mirror := [] } } k 0x30 []

/-- Records are committed to the mirror. -/
def Mod.mirrorRecs (m : Mod) (d : List Byte) : Mod :=
  { m with brace := { m.brace with mirror := (parseRecs (d.length / 8) d).foldl mirrorPut m.brace.mirror } }

/-- A delta from the active unit is committed, and its last frame is acknowledged (R474). -/
def Mod.deltaRx (m : Mod) (k : Clock) (type part : Nat) (d : List Byte) : Mod :=
  match m.braceFrame k type d with
  | (m, none) => m
  | (m, some f) =>
    if !m.standby || !m.paired then m
    else
      let m := m.mirrorRecs f.body
      if f.last then m.braceSendAt k f.tick 0x12 1 (le 1 part ++ le 3 0) else m

/-- AUTH bits, Leash state and slot map of the active unit (R475, R482). -/
def Mod.tickEndRx (m : Mod) (k : Clock) (d : List Byte) : Mod :=
  match m.braceFrame k 0x13 d with
  | (m, none) => m
  | (m, some f) =>
    if !m.standby || !m.paired then m
    else
      let b := f.body
      let now := leAt b 32 1
      let arms := decide (m.brace.leashState = 0) && (now == 1 || now == 2)
      let m : Mod :=
        { m with brace :=
            { m.brace with auth := b.take 32, leashState := now, tripId := leAt b 34 2, mapSerial := leAt b 36 4, armWith := now != 0 && (arms || m.brace.armWith) } }
      let m := if m.role = 2 then m.wr R.AIR_MAP_SERIAL (leAt b 36 4) else m
      m.mirrorRecs (b.drop 40)

/-- Airtime and base state, and the check of the mirror (R475, R476). -/
def Mod.sfSyncRx (m : Mod) (k : Clock) (d : List Byte) : Mod :=
  match m.braceFrame k 0x20 d with
  | (m, none) => m
  | (m, some f) =>
    if !m.standby || !m.paired then m
    else
      let b := f.body
      let us := (upto 3).map fun i => leAt b (4 * i) 4
      let m := m.mirrorRecs (b.drop 20)
      if !f.last then m
      else
        let m : Mod := { m with brace := { m.brace with airSf := us, baseState := leAt b 12 1 } }
        let m := if m.role = 2 ∧ m.brace.sfDone ≠ some f.tick then
            (upto 3).foldl (fun m i => (m.binAdd k i (nth 0 us i)).budShow k i) { m with brace := { m.brace with sfDone := some f.tick } }
          else m
        if m.on F.BRACE_STAT_SYNCED && mirrorCrc m.brace.mirror != leAt b 16 4 then (m.syncLost k).fullReq k else m

/-- The end of a full synchronisation (R477). -/
def Mod.fullDoneRx (m : Mod) (k : Clock) (d : List Byte) : Mod :=
  match m.braceFrame k 0x32 d with
  | (m, none) => m
  | (m, some f) =>
    if !m.standby || !m.paired || !m.brace.syncing then m
    else if mirrorCrc m.brace.mirror ≠ leAt f.body 0 4 then m.fullReq k
    else
      let m : Mod := { m with brace := { m.brace with syncing := false } }
      let m := (m.setB F.BRACE_STAT_SYNCED true).braceEvt 7
      let active := match m.partner? with | some p => p.role == 1 | none => false
      if active && !m.on F.BRACE_CTL_STANDBY then m.setRole k 2 (m.fld F.BRACE_STAT_LAST_CAUSE) else m

/-- Both acknowledgements of the tick release its elements (R474). -/
def Mod.ackRx (m : Mod) (k : Clock) (d : List Byte) : Mod :=
  match m.braceFrame k 0x12 d with
  | (m, none) => m
  | (m, some f) =>
    if m.role ≠ 1 ∨ m.brace.ackTick ≠ some k.tickNo ∨ f.tick ≠ k.tick then m
    else
      let m : Mod := { m with brace := { m.brace with acks := m.brace.acks ||| (leAt f.body 0 1 % 4) } }
      if m.brace.acks = 3 ∧ m.on F.BRACE_STAT_SYNCED = false then (m.setB F.BRACE_STAT_SYNCED true).braceEvt 7 else m

/-! ## Meanings: hold lines and claims -/

/-- HEARTBEAT_TX (R463). -/
def execHeartbeatTx (dt : Nat) (s : State) : Res := .next (s.ev dt fun k m => m.heartbeatTx k)

/-- HEARTBEAT_RX: a frame of the LVDS link, or a P1 frame and its sender (R463 to R465). -/
def execHeartbeatRx (dt : Nat) (lvds : Bool) (d : List Byte) (mac : Nat) (s : State) : Res :=
  .next (s.ev dt fun k m => if !m.braceUp then m else if lvds then m.hbLvds k d else m.hbP1 k d mac)

/-- HEARTBEAT_MISS: no verified heartbeat 50 µs after the ms on the paths named (R463, R468, R473). -/
def execHeartbeatMiss (dt : Nat) (lvds p1 : Bool) (s : State) : Res :=
  .next (s.ev dt fun k m =>
    if !m.braceUp then m
    else
      let m := if lvds then m.pathMiss k true else m
      let m := if p1 then m.pathMiss k false else m
      m.pathsJudged k)

/-- HOLD_IN_CHANGE (R458 to R460, R468, R471). -/
def execHoldInChange (dt : Nat) (level : Bool) (s : State) : Res :=
  .next (s.ev dt fun k m =>
    if !m.domOn 2 || m.on F.BRACE_STAT_HOLD_IN == level then m
    else
      let m := m.setB F.BRACE_STAT_HOLD_IN level
      let m : Mod := { m with brace := { m.brace with holdInAt := k.raw } }
      if level then
        let m := if m.on F.BRACE_CTL_MODE || !m.running then m else m.braceEvt 9
        if m.on F.BRACE_STAT_GATE_OPEN then Mod.gate { m with brace := { m.brace with windowAt := none } } false
        else if !m.on F.BRACE_STAT_HOLD_OUT || m.role == 1 then Mod.braceShow { m with brace := { m.brace with windowAt := none } }
        else if m.on F.BRACE_CTL_UNIT then m.holdOff
        else if (match m.brace.partner with | some p => p.unit == 0 | none => false) then
          let m := m.holdOff
          { m with brace := { m.brace with retryAt := some (k.raw + usRaw (100 * ((Config.unitSerial 3).toNat % 256))) } }
        else Mod.braceShow { m with brace := { m.brace with windowAt := none } }
      else if m.on F.BRACE_STAT_HOLD_OUT then Mod.braceShow { m with brace := { m.brace with windowAt := some k.raw } }
      else
        match m.brace.handover with
        | some h =>
          if !h.giving && h.accepted && (k.tick + 1) % 4294967296 == h.b then m.braceShow.claim k h.cause else m.braceShow.braceJudge k false
        | none => m.braceShow.braceJudge k false)

/-- BRACE_CLAIM: a claim that is due is made (R460, R467, R468). -/
def execBraceClaim (dt : Nat) (s : State) : Res := .next (s.ev dt fun k m => if m.running then m.braceJudge k false else m)

/-- GATE_OPEN (R459); in MODE SINGLE the claim is then complete (R456). -/
def execGateOpen (dt : Nat) (s : State) : Res :=
  .next (s.ev dt fun k m =>
    match m.brace.windowAt with
    | none => m
    | some w =>
      if !m.on F.BRACE_STAT_HOLD_OUT || m.on F.BRACE_STAT_HOLD_IN || m.on F.BRACE_STAT_GATE_OPEN || m.brace.kaDead
          || decide (k.raw < w + usRaw 100) then m
      else
        let m := m.gate true
        if m.on F.BRACE_CTL_MODE || !m.standby then m
        else Mod.setRole { m with brace := { m.brace with joinAt := none } } k 0 m.brace.cause)

/-- CLAIM_RETRY (R460). -/
def execClaimRetry (dt : Nat) (s : State) : Res :=
  .next (s.ev dt fun k m =>
    match m.brace.retryAt with
    | none => m
    | some t => if k.raw < t then m else Mod.braceJudge { m with brace := { m.brace with retryAt := none } } k false)

/-- KEEPALIVE_EXPIRY (R461). -/
def execKeepaliveExpiry (dt : Nat) (s : State) : Res :=
  .next (s.ev dt fun k m =>
    if !m.running || m.brace.kaDead || decide (k.raw < m.brace.fedAt + msRaw (10 * m.kaTicks)) then m
    else Mod.holdOff { m with brace := { m.brace with kaDead := true } })

/-- JOIN_WAIT_EXPIRY (R467 step 3). -/
def execJoinWaitExpiry (dt : Nat) (s : State) : Res := .next (s.ev dt fun k m => if m.braceUp && m.standby then m.joinJudge k false else m)

/-- TAKEOVER: at the first tick boundary after the gate opened (R469). -/
def execTakeover (dt : Nat) (s : State) : Res :=
  .next (s.ev dt fun k m => if k.atBoundary then m.takeover (if k.nextBoundary ≤ k.raw then k.beginTick else k) else m)

/-! ## Meanings: handovers (R471, R472, R485) -/

/-- HANDOVER. -/
def execHandover (dt : Nat) (h : Hdr) (atTick reserved : Nat) (s : State) : Res :=
  .next (s.ev dt fun k m =>
    if !m.live? 6 then m
    else if reserved ≠ 0 then m.reply k 6 1 0x101 h []
    else if m.role ≠ 1 then m.reply k 6 1 0x102 h []
    else if !m.partnerReady || m.brace.handover.isSome then m.reply k 6 1 0x103 h []
    else if atTick ≠ 0 ∧ tickDiff atTick k.tick < 10 then m.reply k 6 1 0x104 h []
    else m.handoverStart k (if atTick = 0 then k.sfAhead else atTick) (some (h.tag, h.noResult, k.tick)) 3)

/-- BRACE_RESYNC (R477, R485). -/
def execBraceResync (dt : Nat) (h : Hdr) (reserved : Nat) (s : State) : Res :=
  .next (s.ev dt fun k m =>
    if !m.live? 6 then m
    else if reserved ≠ 0 then m.reply k 6 2 0x101 h []
    else if !m.standby || !m.on F.BRACE_CTL_MODE then m.reply k 6 2 0x102 h []
    else (m.fullReq k).reply k 6 2 0 h [])

/-- HANDOVER_RELEASE: T+9 ms of the tick before B (R471 step 2). -/
def execHandoverRelease (dt : Nat) (s : State) : Res :=
  .next (s.ev dt fun k m =>
    match m.brace.handover with
    | none => m
    | some h =>
      if !h.giving || !h.accepted || h.released || (k.tick + 1) % 4294967296 != h.b || decide (k.subNs k.raw < 9000000) then m
      else
        let m := (m.sendTickEnd k k.tick).holdOff
        { m with brace := { m.brace with handover := some { h with released := true } } })

/-- HANDOVER_ABORT: T+9.5 ms of the tick before B (R471). -/
def execHandoverAbort (dt : Nat) (s : State) : Res :=
  .next (s.ev dt fun k m =>
    match m.brace.handover with
    | none => m
    | some h =>
      if (k.tick + 1) % 4294967296 != h.b || decide (k.subNs k.raw < 9500000) then m
      else if h.giving then (if h.released then m else m.handoverDrop k 0x105)
      else if m.on F.BRACE_STAT_HOLD_IN then { m with brace := { m.brace with handover := none } }
      else m)

/-- AUTO_RETURN (R472). -/
def execAutoReturn (dt : Nat) (s : State) : Res :=
  .next (s.ev dt fun k m =>
    match m.brace.readySince with
    | none => m
    | some r =>
      if m.role == 1 && m.on F.BRACE_CTL_RETURN && !m.preferred && m.partnerReady && m.brace.handover.isNone
          && decide (r + secRaw m.returnHold ≤ k.raw) then m.handoverStart k k.sfAhead none 4
      else m)

/-- HANDOVER_MSG: accepted when HOT and eligible (R471 step 1). -/
def execHandoverMsg (dt : Nat) (d : List Byte) (s : State) : Res :=
  .next (s.ev dt fun k m =>
    match m.braceFrame k 0x40 d with
    | (m, none) => m
    | (m, some f) =>
      let b := leAt f.body 0 4
      let ok := m.role == 2 && m.eligible && !m.brace.mismatch
      let cause := if m.on F.BRACE_CTL_RETURN && m.preferred then 4 else 3
      let m : Mod := if ok then { m with brace := { m.brace with handover := some { b := b, giving := false, hdr := none, cause := cause, accepted := true, released := false } } } else m
      m.braceSend k 0x41 (le 4 b ++ le 1 (if ok then 0 else 1) ++ le 3 0))

/-- HANDOVER_ACK (R471, R485). -/
def execHandoverAck (dt : Nat) (d : List Byte) (s : State) : Res :=
  .next (s.ev dt fun k m =>
    match m.braceFrame k 0x41 d with
    | (m, none) => m
    | (m, some f) =>
      match m.brace.handover with
      | none => m
      | some h =>
        if !h.giving || h.accepted || leAt f.body 0 4 != h.b then m
        else if leAt f.body 4 1 = 0 then { m with brace := { m.brace with handover := some { h with accepted := true } } }
        else m.handoverDrop k 0x103)

/-! ## Meanings: the mirror (R474 to R477) -/

/-- SHEP_DELTA (R474). -/
def execShepDelta (dt : Nat) (d : List Byte) (s : State) : Res := .next (s.ev dt fun k m => m.deltaRx k 0x10 1 d)

/-- MOT_DELTA (R474). -/
def execMotDelta (dt : Nat) (d : List Byte) (s : State) : Res := .next (s.ev dt fun k m => m.deltaRx k 0x11 2 d)

/-- ACK (R474). -/
def execAck (dt : Nat) (d : List Byte) (s : State) : Res := .next (s.ev dt fun k m => m.ackRx k d)

/-- ACK_DEADLINE: T+3.5 ms without both acknowledgements (R474). -/
def execAckDeadline (dt : Nat) (s : State) : Res :=
  .next (s.ev dt fun k m =>
    if m.ackHeld k && decide (3500000 ≤ k.subNs k.raw) then ((m.setB F.BRACE_STAT_SYNCED false).inc R.BRACE_ACK_LATE_CNT).braceEvt 6 else m)

/-- TICK_END (R475). -/
def execTickEnd (dt : Nat) (d : List Byte) (s : State) : Res := .next (s.ev dt fun k m => m.tickEndRx k d)

/-- SF_SYNC (R475, R476). -/
def execSfSync (dt : Nat) (d : List Byte) (s : State) : Res := .next (s.ev dt fun k m => m.sfSyncRx k d)

/-- FULL_REQ: the active unit sends every mirrored item (R477). -/
def execFullReq (dt : Nat) (d : List Byte) (s : State) : Res :=
  .next (s.ev dt fun k m =>
    match m.braceFrame k 0x30 d with
    | (m, none) => m
    | (m, some _) => if m.role == 1 && m.paired then m.sendFull k else m)

/-- FULL_DATA (R477). -/
def execFullData (dt : Nat) (d : List Byte) (s : State) : Res :=
  .next (s.ev dt fun k m =>
    match m.braceFrame k 0x31 d with
    | (m, none) => m
    | (m, some f) => if m.standby && m.paired then m.mirrorRecs f.body else m)

/-- FULL_DONE (R477). -/
def execFullDone (dt : Nat) (d : List Byte) (s : State) : Res := .next (s.ev dt fun k m => m.fullDoneRx k d)

/-- STEP_ANNOUNCE: the standby steps at the same instant (R235, R482). -/
def execStepAnnounce (dt : Nat) (d : List Byte) (s : State) : Res :=
  .next (s.ev dt fun k m =>
    match m.braceFrame k 0x50 d with
    | (m, none) => m
    | (m, some f) =>
      if !m.standby then m
      else
        let e := signed 64 (leAt f.body 8 8)
        { m with time := { m.time with step := some { at_ := (leAt f.body 0 8 : Nat) * uPerNs, delta := -e * 1048576, initial := false, byHost := false, unc := 0 } } })

/-- PARTNER_TRIP: the trip signal of an active partner, over LVDS or as a TRIP frame on P1 (R426, R464, R473). -/
def execPartnerTrip (dt : Nat) (lvds : Bool) (d : List Byte) (s : State) : Res :=
  .next (s.ev dt fun k m =>
    let r : Mod × Bool := if lvds then (m, m.braceUp) else match m.braceFrame k 2 d with | (m, o) => (m, o.isSome)
    let m := r.1
    let active := match m.brace.partner with | some p => p.role == 1 | none => false
    if r.2 && m.leashUp && m.standby && active then
      Mod.leashSource { m with leash := { m.leash with partner := true } } k m.leash.partner 7
    else m)

/-! ## MOT_WINDOW (R320, R474) -/

/-- MOT_WINDOW: from T+1 ms, once a tick; its delta follows at its end. -/
def execMotWindow (dt : Nat) (i : MotIn) (s : State) : Res :=
  .next (s.ev dt fun k m =>
    if m.motPlans && decide (1000000 ≤ k.subNs k.raw) && m.mot.winTick != some k.tickNo then
      let m : Mod := { m with brace := { m.brace with grants := m.shep.toMot } }
      (m.motWindow k i).sendMotDelta k
    else m)

end Sys2Proof.Machine
end

