-- ==== Sys2Proof/Machine/Kennel.lean ====
section
/-! DEFINITION. The Kennel (chapter 13): states, roots, blobs and commands, zeroisation, tamper. -/

namespace Sys2Proof.Machine

/-- KEN_STAT.STATE: 0 NORMAL, 1 TAMPER_LATCHED, 2 ROOT_FALLBACK (R489). -/
def Mod.kenState (m : Mod) : Nat := m.fld F.KEN_STAT_STATE

/-- Which uses a policy may have with each TYPE (R499). -/
def useAllowed (type : Nat) : Nat :=
  match type with
  | 1 => 0x21
  | 2 => 0x26
  | 3 => 0x28
  | 4 => 0x28
  | 5 => 0x30
  | 6 => 0x30
  | _ => 0

/-- A policy is valid (R498, R499). -/
def policyOk (type use user : Nat) : Bool := decide (1 ≤ type) && decide (type ≤ 6) && (use &&& useAllowed type) == use && decide (user < 32)

/-- Why a slot named by a command cannot be used; 0 where it can (R503, R519). -/
def Mod.slotErr (m : Mod) (s : Nat) : Nat :=
  match m.slotState s with
  | 0 => 0x103
  | 2 => 0x106
  | 3 => 0x104
  | _ => if m.on (F.KEN_SLOT_STAT_RETRY s) then 0x10E else 0

/-- Random bytes of the Kennel's source, which the spec leaves open (R488; log entry 2). -/
def Mod.random (m : Mod) (site n : Nat) : Mod × List Byte := (m.took, le n (m.freeN site))

/-- A key operation completes. -/
def Mod.kenOp (m : Mod) : Mod := m.inc R.KEN_OP_CNT

/-! ## Blobs (R504 to R507) -/

/-- Key lengths of a TYPE (R504). -/
def keyLenOk (type n : Nat) : Bool :=
  match type with
  | 1 => n == 32
  | 2 => n == 32
  | 3 => n == 32
  | 4 => n == 48
  | 5 => n == 64
  | _ => n == 96

/-- The parent slot a blob names. -/
def blobParent (b : List Byte) : Nat := match leAt b 13 1 with | 0 => 0 | 1 => 3 | _ => leAt b 14 1

/-- A blob's form (R506 step 1). -/
def blobForm (slot size : Nat) (b : List Byte) : Bool :=
  let type := leAt b 6 1
  let dest := leAt b 12 1
  let kind := leAt b 13 1
  let par := leAt b 14 1
  let n := leAt b 15 1
  size == 72 + n && b.length == size && b.take 4 == [0x4B, 0x42, 0x4C, 0x42] && leAt b 4 2 == 1 && decide (leAt b 7 1 ≤ 2)
    && policyOk type (leAt b 8 2) (leAt b 10 2) && keyLenOk type n && (dest == 255 || (dest == slot && decide (4 ≤ dest)))
    && decide (kind ≤ 2) && (match kind with | 0 => par == 0 | 1 => decide (par ≤ 3) | _ => decide (4 ≤ par) && decide (par ≤ 63))

/-- LOAD_BLOB's checks in order, then the installation (R506): the module and the RESULT. -/
def Mod.loadBlob (m : Mod) (slot size : Nat) (b : List Byte) : Mod × Nat :=
  let kind := leAt b 13 1
  let unit := (b.drop 24).take 16
  let par := blobParent b
  let pkey := m.slotKey par
  if !blobForm slot size b then (m, 0x107)
  else if unit ≠ serial16 ∧ !(unit == List.replicate 16 0 && kind == 2) then (m, 0x107)
  else if m.kenState = 1 then (m, 0x10A)
  else if m.slotState par = 1 ∧ m.on (F.KEN_SLOT_STAT_RETRY par) then (m, 0x10E)
  else if m.slotState par ≠ 1 ∨ (m.fld (F.KEN_SLOT_STAT_USE par)).testBit 1 = false ∨ kcv pkey ≠ (b.drop 16).take 8
      ∨ (kind = 1 ∧ leAt b 14 1 ≠ m.fld F.KEN_STAT_FUSE_GEN) then (m, 0x109)
  else if slot < 4 ∨ 63 < slot then (m, 0x101)
  else if m.slotState slot = 3 then (m, 0x104)
  else if m.slotState slot ≠ 0 then (m, 0x102)
  else
    let wk := kdf pkey (ascii "KEN-BLOB") (m.bindCtx (leAt b 7 1))
    match Config.aesGcmOpen wk ((b.drop 44).take 12) (b.take 56) ((b.drop 56).take (leAt b 15 1)) (b.drop (56 + leAt b 15 1)) with
    | none => (m, 0x108)
    | some key => ((m.slotInstall slot (leAt b 6 1) (leAt b 8 2) (leAt b 10 2) (leAt b 7 1) par 1 key (.blob b)).kenOp, 0)

/-- The key list is loaded at start-up, in ascending slot order (R507). -/
def Mod.keyAutoload (m : Mod) : Mod :=
  if m.kenState = 1 then m
  else
    let m : Mod := { m with ken := { m.ken with loadLog := [], loadCnt := m.nv.keys.length } }
    m.each (m.nv.keys.take 60) fun m (e : Nat × List Byte) =>
      match m.loadBlob e.1 e.2.length e.2 with
      | (m, code) =>
        let m : Mod := { m with ken := { m.ken with loadLog := AMap.put (fun _ => 0) e.1 code m.ken.loadLog } }
        if code = 0 then m else m.kenEvt 4

/-! ## States (R489 to R492) -/

/-- The fixed slots as the state has them, but for those that are BAD (R490, R491, R497). -/
def Mod.fixedSlots (m : Mod) : Mod :=
  let att := Config.reduceP384 (kdf Config.factorySecret (ascii "KEN-ATTEST") serial16)
  let m := if m.slotState 1 = 0 then m.slotInstall 1 4 8 0 0 0 0 att .fixed else m
  let m := if m.slotState 2 = 0 then m.slotInstall 2 6 16 16 0 0 0 Config.firmwareKey .fixed else m
  let m := match m.ken.cfr with
    | some l =>
      if m.slotState 3 = 3 then m
      else if m.kenState = 1 then m.slotEmpty 3
      else m.slotInstall 3 7 2 0 0 0 0 (kdf (nth [] l m.ken.gen) (ascii "KEN-KIK") serial16) .fixed
    | none => m
  if m.slotState 0 = 3 then m
  else match m.ken.root with
    | some r => if m.kenState = 0 then m.slotInstall 0 7 6 31 0 0 0 r .fixed else m.slotEmpty 0
    | none => m.slotEmpty 0

/-- The state is decided at start-up (R489). -/
def Mod.kenDecide (m : Mod) : Mod :=
  let st := if m.ken.unlogged ≠ 0 ∨ m.ken.levels ≠ 0 then 1 else if m.ken.root.isSome then 0 else 2
  let m := (m.setF F.KEN_STAT_STATE st).setB F.KEN_STAT_ROOT_VALID m.ken.root.isSome
  let m := ((m.setB F.KEN_STAT_CFR_PROG m.ken.cfr.isSome).setF F.KEN_STAT_FUSE_GEN m.ken.gen).setB F.KEN_STAT_TAMPER_ACTIVE (m.ken.levels != 0)
  m.fixedSlots

/-- The next generation becomes current, and LOCK clears: what a tamper clear brings with ROOT_FALLBACK (R492 step 2, R511). -/
def Mod.nextGen (m : Mod) : Mod :=
  let m : Mod := { m with ken := { m.ken with gen := m.ken.gen + 1 } }
  let m := m.setF F.KEN_STAT_FUSE_GEN m.ken.gen
  m.cfgSet R.KEN_TAMPER_CTL (m.rd R.KEN_TAMPER_CTL &&& 0xFFFFFFF7)

/-- A new state and a new root take effect at a tick boundary (R492, R508). -/
def Mod.kenBoundary (m : Mod) (k : Clock) : Mod :=
  if m.ken.newState.isNone ∧ m.ken.newRoot.isNone then m.kenShow
  else
    let m := match m.ken.newState with
      | none => m
      | some st =>
        let m := if st = 2 then m.nextGen else m
        Mod.kenStateEvt ((Mod.setF { m with ken := { m.ken with newState := none } } F.KEN_STAT_STATE st)) k 1
    (Mod.fixedSlots { m with ken := { m.ken with newRoot := none } }).kenShow

/-- At the end of a tick ORPHAN slots and cache entries are zeroised, and ERASE results are posted (R508, R519). -/
def Mod.orphanZeroise (m : Mod) (k : Clock) : Mod :=
  let m := m.each ((upto 64).filter fun s => m.slotState s == 2) fun m s => m.slotEmpty s
  let m : Mod := if m.ken.cacheOrphan then { m with ken := { m.ken with cache := [], cacheOrphan := false } } else m
  let l := m.ken.erasing
  let m : Mod := { m with ken := { m.ken with erasing := [] } }
  (m.each l fun m e => (m.kenOp).result k 7 2 0 e.tag e.noResult e.acceptTick []).kenBusy

/-! ## Tamper (R510 to R515) -/

/-- A source of R510 is watched: 1 MESH, 2 CASE, 3 TEMP, 4 VOLT, 5 CLOCK, 6 FORCE. -/
def Mod.tamperOn (m : Mod) (src : Nat) : Bool :=
  match src with
  | 1 => m.on F.KEN_TAMPER_CTL_MESH_ARM
  | 2 => m.on F.KEN_TAMPER_CTL_CASE_EN
  | 3 => m.on F.KEN_TAMPER_CTL_TEMP_EN
  | 4 => true
  | 5 => true
  | 6 => true
  | _ => false

/-- The AON domain's part: the root goes, a record enters the log, the tamper is counted (R512, R514, R516). -/
def Mod.tamperLog (m : Mod) (k : Clock) (src phase time : Nat) : Mod :=
  let aon := m.aonSec k
  let e : TamperRec := { source := src, phase := phase, gen := m.ken.gen, aonSec := aon, time := time }
  let m := (m.inc R.KEN_TAMPER_CNT).setF F.KEN_TAMPER_STAT_LAST src
  { m with ken := { m.ken with root := none, log := (e :: m.ken.log).take 4, unlogged := min 4 (m.ken.unlogged + 1) } }

/-- Every slot that is not BAD is zeroised, and the cache (R512). -/
def Mod.zeroise (m : Mod) : Mod :=
  let m := m.each ((upto 64).filter fun s => m.slotState s != 3 && m.slotState s != 0) fun m s => m.slotEmpty s
  let m : Mod := { m with ken := { m.ken with cache := [], cacheOrphan := false, erasing := [], newRoot := none, newState := none } }
  (m.setB F.KEN_STAT_ROOT_VALID false).kenBusy

/-- Commands of the Kennel without a result are aborted (R512, R513). -/
def Mod.kenAbort (m : Mod) (k : Clock) : Mod :=
  let l := m.ring.handed.filter fun h => h.block == 7
  let m := m.incBy R.KEN_ABORT_CNT l.length
  (m.each l fun m h =>
    if m.ringState 1 = 1 then m.result k 7 h.opcode 0x10B h.tag h.noResult h.acceptTick []
    else { m with ring := { m.ring with handed := dropHanded 7 h.opcode h.tag m.ring.handed } }).kenBusy

/-- A tamper with main power present (R512); before the state is decided, no further reset follows (R515). -/
def Mod.tamper (m : Mod) (k : Clock) (src : Nat) : Mod :=
  if m.pwr.step < 6 then m.tamperLog k src 2 0
  else
    let time := if m.tstate = 2 then 0 else Clock.fullNs k.now
    let active := m.role == 1
    let m := m.holdOff
    let m := if active then m.setRole k 3 6 else m
    let m := (m.kenAbort k).tamperLog k src 0 time
    let m := m.zeroise
    { m with ken := { m.ken with tamperAt := some (m.ken.tamperAt.getD k.raw) } }

/-! ## Meanings: commands (R518, R519) -/

/-- LOAD_BLOB: the blob as host memory gave it, none when the read failed (R506). -/
def execLoadBlob (dt : Nat) (h : Hdr) (slot reserved addr size : Nat) (blob : Option (List Byte)) (s : State) : Res :=
  .next (s.ev dt fun k m =>
    if !m.live? 7 then m
    else if reserved ≠ 0 ∨ addr % 8 ≠ 0 then m.reply k 7 1 0x101 h []
    else match blob with
    | none => m.reply k 7 1 0x10D h []
    | some b => match m.loadBlob slot size b with | (m, code) => m.reply k 7 1 code h [])

/-- ERASE (R508, R519). -/
def execErase (dt : Nat) (h : Hdr) (slot reserved : Nat) (s : State) : Res :=
  .next (s.ev dt fun k m =>
    if !m.live? 7 then m
    else if reserved ≠ 0 ∨ slot < 4 ∨ 63 < slot then m.reply k 7 2 0x101 h []
    else if m.slotState slot ≠ 1 then m.reply k 7 2 (m.slotErr slot) h []
    else
      let m := (m.invalidate k slot false).setB F.KEN_STAT_BUSY true
      { m with ken := { m.ken with erasing := m.ken.erasing ++ [{ slot := slot, tag := h.tag, noResult := h.noResult, acceptTick := k.tick }] } })

/-- DERIVE (R495, R519). -/
def execDerive (dt : Nat) (h : Hdr) (parent slot type labelLen use user : Nat) (label context : List Byte) (s : State) : Res :=
  .next (s.ev dt fun k m =>
    if !m.live? 7 then m
    else
      let fail := fun (m : Mod) code => m.reply k 7 3 code h (le 8 0)
      if slot < 4 ∨ 63 < slot ∨ 63 < parent ∨ labelLen = 0 ∨ 16 < labelLen ∨ (type ≠ 1 ∧ type ≠ 2) then fail m 0x101
      else if m.kenState = 1 then fail m 0x10A
      else if m.slotState slot = 3 then fail m 0x104
      else if m.slotState slot ≠ 0 then fail m 0x102
      else if m.slotErr parent ≠ 0 then fail m (m.slotErr parent)
      else
        let pt := m.fld (F.KEN_SLOT_STAT_TYPE parent)
        let pu := m.fld (F.KEN_SLOT_STAT_USER parent)
        if (pt ≠ 2 ∧ pt ≠ 7) ∨ (m.fld (F.KEN_SLOT_STAT_USE parent)).testBit 2 = false ∨ (user &&& pu) ≠ user then fail m.policyFail 0x105
        else if policyOk type use user = false then fail m 0x105
        else
          let key := kdf (m.slotKey parent) (label.take labelLen) (context.take 32)
          let m := (m.slotInstall slot type use user 0 parent 2 key (.derived (label.take labelLen) (context.take 32))).kenOp
          if type = 2 then m.reply k 7 3 0 h (kcv key)
          else (m.took).reply k 7 3 0 h (le 8 (m.freeN 505)))

/-- WRAP: `ok` is whether host memory took the blob (R504, R519). -/
def execWrap (dt : Nat) (h : Hdr) (slot parent bind reserved addr size serial reserved2 : Nat) (ok : Bool) (s : State) : Res :=
  .next (s.ev dt fun k m =>
    if !m.live? 7 then m
    else
      let fail := fun (m : Mod) code => m.reply k 7 4 code h []
      if slot < 4 ∨ 63 < slot ∨ 63 < parent ∨ parent = 1 ∨ parent = 2 ∨ 2 < bind ∨ reserved ≠ 0 ∨ reserved2 ≠ 0 ∨ addr % 8 ≠ 0 then fail m 0x101
      else if m.slotErr slot ≠ 0 then fail m (m.slotErr slot)
      else if m.slotErr parent ≠ 0 then fail m (m.slotErr parent)
      else if (m.fld (F.KEN_SLOT_STAT_USE slot)).testBit 5 = false ∨ (m.fld (F.KEN_SLOT_STAT_USE parent)).testBit 1 = false then fail m.policyFail 0x105
      else
        let key := m.slotKey slot
        let pk := m.slotKey parent
        if size < 72 + key.length ∨ ok = false then fail m 0x10D
        else
          let kind := if parent = 0 then 0 else if parent = 3 then 1 else 2
          let ps := if parent = 0 then 0 else if parent = 3 then m.fld F.KEN_STAT_FUSE_GEN else parent
          match m.random 504 12 with
          | (m, iv) =>
            let dest := m.freeN 519
            let m := m.took
            let hd := [0x4B, 0x42, 0x4C, 0x42] ++ le 2 1 ++ le 1 (m.fld (F.KEN_SLOT_STAT_TYPE slot)) ++ le 1 bind
              ++ le 2 (m.fld (F.KEN_SLOT_STAT_USE slot)) ++ le 2 (m.fld (F.KEN_SLOT_STAT_USER slot)) ++ le 1 dest ++ le 1 kind ++ le 1 ps
              ++ le 1 key.length ++ kcv pk ++ serial16 ++ le 4 serial ++ iv
            let c := Config.aesGcmSeal (kdf pk (ascii "KEN-BLOB") (m.bindCtx bind)) iv hd key
            ((m.kenOp).emit (.hostWrite (hd ++ c.1 ++ c.2))).reply k 7 4 0 h [])

/-- ROOT_GEN (R488, R492 steps 4 and 5). -/
def execRootGen (dt : Nat) (h : Hdr) (flags reserved : Nat) (s : State) : Res :=
  .next (s.ev dt fun k m =>
    if !m.live? 7 then m
    else if 1 < flags ∨ reserved ≠ 0 then m.reply k 7 5 0x101 h (le 8 0)
    else if m.kenState = 1 ∨ (m.kenState = 0 ∧ flags = 0) then m.reply k 7 5 0x10A h (le 8 0)
    else if m.ken.tamperAt.isSome then (m.inc R.KEN_ABORT_CNT).reply k 7 5 0x10B h (le 8 0)
    else
      match m.random 488 32 with
      | (m, key) =>
        let st := if m.kenState = 2 then some 0 else m.ken.newState
        let m : Mod := { m with ken := { m.ken with root := some key, newRoot := some key, newState := st } }
        (((m.setB F.KEN_STAT_ROOT_VALID true).kenEvt 7).kenOp).reply k 7 5 0 h (kcv key))

/-- The log record as its first two words (R517, R522). -/
def tamperWords (e : TamperRec) : List Nat := [e.source + e.phase * 16 + e.gen * 256, e.aonSec]

/-- The bytes of a quote that are signed (R517). -/
def Mod.quoteBody (m : Mod) (k : Clock) (nonce : List Byte) : List Byte :=
  let log := (upto 4).flatMap fun i => match m.ken.log[i]? with | some e => wordBytes (tamperWords e) | none => le 8 0
  [0x4B, 0x51, 0x54, 0x45] ++ le 2 1 ++ le 1 m.kenState ++ le 1 (m.fld F.KEN_STAT_FUSE_GEN + m.fld F.KEN_STAT_GEN_EXHAUSTED * 128)
    ++ le 4 (m.rd R.KEN_STAT % 65536) ++ le 4 (m.rd R.GLB_FW_VER) ++ serial16 ++ nonce.take 32 ++ le 4 (m.rd R.KEN_TAMPER_CNT)
    ++ le 4 (m.aonSec k) ++ le 8 (if m.tstate = 2 then 0 else Clock.fullNs k.now) ++ (upto 8).flatMap m.measReg ++ log

/-- QUOTE (R517). -/
def execQuote (dt : Nat) (h : Hdr) (nonce : List Byte) (s : State) : Res :=
  .next (s.ev dt fun k m =>
    if !m.live? 7 then m
    else if m.slotErr 1 ≠ 0 then m.reply k 7 6 (m.slotErr 1) h []
    else
      let b := m.quoteBody k nonce
      (m.kenOp).reply k 7 6 0 h (b ++ Config.sign (m.slotKey 1) (Config.sha384 b)))

/-- EXTEND (R494). -/
def execExtend (dt : Nat) (h : Hdr) (index reserved : Nat) (digest : List Byte) (s : State) : Res :=
  .next (s.ev dt fun k m =>
    if !m.live? 7 then m
    else if index < 4 ∨ 7 < index ∨ reserved ≠ 0 then m.reply k 7 7 0x101 h []
    else (m.extend index (digest.take 48)).reply k 7 7 0 h [])

/-- A signing or verifying use by the host; 0 where it may run (R500, R519). -/
def Mod.hostUse (m : Mod) (slot reserved : Nat) (types : List Nat) (use : Nat) : Nat :=
  if slot < 4 ∨ 63 < slot ∨ reserved ≠ 0 then 0x101
  else if m.slotErr slot ≠ 0 then m.slotErr slot
  else if m.slotAllows slot types use 0 then 0 else 0x105

/-- SIGN (R519). -/
def execSign (dt : Nat) (h : Hdr) (slot reserved : Nat) (digest : List Byte) (s : State) : Res :=
  .next (s.ev dt fun k m =>
    if !m.live? 7 then m
    else
      let code := m.hostUse slot reserved [3, 4] 3
      let m := if code = 0x105 then m.policyFail else m
      if code ≠ 0 then m.reply k 7 8 code h (List.replicate 96 0)
      else (m.kenOp).reply k 7 8 0 h (Config.sign (m.slotKey slot) (digest.take 48)))

/-- VERIFY (R519). -/
def execVerify (dt : Nat) (h : Hdr) (slot reserved : Nat) (digest sig : List Byte) (s : State) : Res :=
  .next (s.ev dt fun k m =>
    if !m.live? 7 then m
    else
      let code := m.hostUse slot reserved [5, 6] 4
      let m := if code = 0x105 then m.policyFail else m
      if code ≠ 0 then m.reply k 7 9 code h []
      else (m.kenOp).reply k 7 9 (if Config.verify (m.slotKey slot) (digest.take 48) (sig.take 96) then 0 else 0x108) h [])

/-- FUSE_PROG (R493). -/
def execFuseProg (dt : Nat) (h : Hdr) (reserved : Nat) (roots : List (List Byte)) (s : State) : Res :=
  .next (s.ev dt fun k m =>
    if !m.live? 7 then m
    else if reserved ≠ 0 then m.reply k 7 10 0x101 h []
    else if m.ken.cfr.isSome then m.reply k 7 10 0x10A h []
    else
      let m : Mod := { m with ken := { m.ken with cfr := some (roots.take 4), gen := 0 } }
      (((m.setB F.KEN_STAT_CFR_PROG true).setF F.KEN_STAT_FUSE_GEN 0).fixedSlots.kenOp).reply k 7 10 0 h [])

/-- ORPHAN_ZEROISE: the end of the tick (R508). -/
def execOrphanZeroise (dt : Nat) (s : State) : Res :=
  .next (s.ev dt fun k m => if m.live? 7 && decide (k.nextBoundary ≤ k.raw) then m.orphanZeroise k else m)

/-! ## Meanings: tamper -/

/-- TAMPER_DETECT: a source's condition begins, or is enabled while it holds, or ends (R510, R512, R521). -/
def execTamperDetect (dt src : Nat) (on : Bool) (s : State) : Res :=
  .next (s.ev dt fun k m =>
    if m.pwr.mode ≠ 0 ∨ src = 0 ∨ 5 < src ∨ !m.pwr.aonOk then m
    else
      let lv := if on then m.ken.levels ||| 2 ^ (src - 1) else m.ken.levels &&& (63 - 2 ^ (src - 1))
      let m : Mod := { m with ken := { m.ken with levels := lv } }
      let m := (m.setF F.KEN_TAMPER_STAT_ACTIVE lv).setB F.KEN_STAT_TAMPER_ACTIVE (lv != 0)
      if on && m.tamperOn src then m.tamper k src else m)

/-- TAMPER_SLEEP: a tamper in HIBERNATE or OFF (R514). -/
def execTamperSleep (dt src : Nat) (s : State) : Res :=
  .next (s.ev dt fun k m =>
    if m.pwr.mode = 0 ∨ src = 0 ∨ 5 < src ∨ !m.pwr.aonOk ∨ (m.pwr.mode = 2 ∧ !m.pwr.vbatOk) ∨ !m.tamperOn src then m
    else m.tamperLog k src 1 0)

/-- KEN_TAMPER_CLR: the change of R492 step 2 takes effect at the next tick boundary; step 3 refuses at once (R492). -/
def execKenTamperClr (dt comp : Nat) (s : State) : Res :=
  .next (s.ev dt fun k m => m.commit k R.KEN_TAMPER_CLR comp fun m v =>
    let m := m.cfgSet R.KEN_TAMPER_CLR v
    if m.kenState ≠ 1 ∨ m.ken.levels ≠ 0 then m
    else if m.ken.cfr.isNone ∨ 3 ≤ m.ken.gen then m.setB F.KEN_STAT_GEN_EXHAUSTED true
    else { m with ken := { m.ken with newState := some 2 } })

/-- KEN_ZEROISE: source 6, FORCE (R510, R512). -/
def execKenZeroise (dt comp : Nat) (s : State) : Res :=
  .next (s.ev dt fun k m => m.commit k R.KEN_ZEROISE comp fun m v => (m.cfgSet R.KEN_ZEROISE v).tamper k 6)

/-- VBAT_LOW: VBAT below 2.5 V with main power present (R516). -/
def execVbatLow (dt : Nat) (s : State) : Res :=
  .next (s.ev dt fun _ m =>
    if m.pwr.mode ≠ 0 then m
    else
      let m : Mod := { m with pwr := { m.pwr with vbatOk := false } }
      (m.setB F.KEN_STAT_VBAT_LOW true).kenEvt 6)

end Sys2Proof.Machine
end

