-- ==== Sys2Proof/Machine/PowerBase.lean ====
section
/-! DEFINITION. Resets and the loss of power (R555, R556, R560, R562): what every reset and power state keeps, and how one begins. -/

namespace Sys2Proof.Machine

/-- The tamper registers and the wake registers, which the AON domain holds (R521, R567). -/
def aonReg (a : Nat) : Bool :=
  a == R.KEN_TAMPER_CTL || a == R.KEN_TAMPER_STAT || a == R.KEN_TAMPER_CNT || a == R.PWR_WAKE_SEC || a == R.PWR_WAKE_CTL

/-- Registers of the TIME and SW domains, which resets of kinds 3 to 6 leave powered (R556). -/
def warmReg (a : Nat) : Bool := (decide (0x2000 ≤ a) && decide (a < 0x4000)) || (decide (0x90000 ≤ a) && decide (a < 0xA0000))

/-- Registers that a reset keeps; `warm` for kinds 3 to 6, where the counters of activations and rollbacks also stand (R556, R560;
log entry 42). -/
def keptReg (warm : Bool) (a : Nat) : Bool :=
  aonReg a || (warm && (warmReg a || a == R.UPD_ACT_CNT || a == R.UPD_ROLLBACK_CNT))

/-- TIME at a reset that keeps the timebase: LOCKED or HOLDOVER becomes HOLDOVER, with the reset as its origin when it begins
there; else UNTRACEABLE (R562). What a partner said and a step not yet taken are lost. -/
def Mod.timeHeld (m : Mod) (k : Clock) : Mod :=
  let m : Mod := { m with time := { m.time with partner := none, step := none, newErr := none, cfgSince := none } }
  let m := if m.on F.TIME_STAT_RETURNING then m.endReturn else m
  if m.tstate ≠ 0 then m
  else
    let m : Mod := { m with
      time := { m.time with
        slew := 0, slewOn := false, hoOn := true, hoStart := k.raw, lastValid := k.raw, origin := Clock.fullNs k.now, u0 := m.uncNow k * 1000,
        temp0 := signed 16 (m.rd R.TIME_TEMP), dT := 0 } }
    (((m.inc R.TIME_HO_CNT).wr R.TIME_HO_SEC 0).setB F.TIME_STAT_SLEWING false).setF F.TIME_STAT_STATE 1

/-- UPD's part of flash and fuses (R524, R528, R530, R536); the schedule and a verified manifest are lost (log entry 43). -/
def UpdSt.kept (u : UpdSt) : UpdSt :=
  { u with
    verified := [], inst := none, at_ := none, closed := false, pairAt := none, pairB := none, trialAt := none, rollNow := false, confAt := none,
    fellBack := false }

/-- The Kennel's fuses and the AON domain's part of it (R488, R492, R516). -/
def KenSt.kept (n : KenSt) : KenSt :=
  { KenSt.reset with root := n.root, cfr := n.cfr, gen := n.gen, log := n.log, unlogged := n.unlogged, levels := n.levels }

/-- PWR's part that stands through a reset. -/
def PwrSt.kept (p : PwrSt) : PwrSt :=
  { PwrSt.reset with
    aonBase := p.aonBase, aonRaw := p.aonRaw, aonFresh := p.aonFresh, rawBase := p.rawBase, vbatOk := p.vbatOk, aonOk := p.aonOk }

/-- Levels on pins that stand through a reset which leaves the module powered (log entry 44). -/
def Mod.pins (old m : Mod) : Mod :=
  let m := (m.setB F.LEASH_STAT_IN_A (old.on F.LEASH_STAT_IN_A)).setB F.LEASH_STAT_IN_B (old.on F.LEASH_STAT_IN_B)
  let m := m.setB F.BRACE_STAT_HOLD_IN (old.on F.BRACE_STAT_HOLD_IN)
  { m with
    leash := { m.leash with a := old.leash.a, b := old.leash.b, differ := old.leash.differ, heelPin := old.leash.heelPin }
    mot := { m.mot with inp := old.mot.inp.map fun e => (e.1, { e.2 with moves := [] }) }
    brace := { m.brace with holdInAt := old.brace.holdInAt } }

/-- A record in the queue at a reset may have been cut short as it was written: which is free (R571, log entry 2). -/
def Mod.tornNow (m : Mod) : Nat := if m.rcd.queue.isEmpty then m.rcd.torn else m.rcd.torn + m.freeN 571 % 2

/-- What a reset leaves of the module: every state class as R560 says; `warm` where the timebase and the switch are kept. -/
def Mod.resetCore (m : Mod) (warm : Bool) : Mod :=
  let keep := fun (l : AMap Word) => l.filter fun e => keptReg warm e.1
  let r : Mod := { Mod.reset with
    live := keep m.live, shadow := keep m.shadow, out := m.out, nv := m.nv
    seed := if m.rcd.queue.isEmpty then m.seed else m.seed + 1
    rcd := { RecSt.reset with torn := m.tornNow }
    time := if warm then m.time else TimeSt.reset
    sw := if warm then m.sw else SwSt.reset
    pack := { PackSt.reset with graphs := m.pack.graphs }
    shep := { ShepSt.reset with loaded := m.shep.loaded, restore := (match m.shep.active with | some n => some n | none => m.shep.restore) }
    ken := m.ken.kept, upd := m.upd.kept, pwr := m.pwr.kept }
  let r : Mod := if warm then { (Mod.pins m r) with elem := m.elem.filter fun e => e.1 / 1048576 == 2 } else r
  r.wr R.PWR_DOM_STAT (if warm then m.rd R.PWR_DOM_STAT else 1)

/-- The timebase where power is lost: it starts anew when TIME is powered, with offset and rate lost (R220, R560). -/
def Clock.cold (k : Clock) : Clock := { Clock.powerOn with raw := k.raw, ancC := k.raw, tickRaw := k.raw }

/-- The tick in progress now, found anew where ticks have passed unworked (R14, R564). -/
def Clock.catchUp (k : Clock) : Clock :=
  if k.now < k.tickEnd then k
  else
    let n := (k.now / uPerTick).toNat
    { k with tickNo := n, tickStart := (n : Int) * uPerTick, tickRaw := k.rawAt ((n : Int) * uPerTick), tickEnd := ((n : Int) + 1) * uPerTick }

/-- The root and everything else that AON holds are lost with its supply, or with VBAT out of range at a loss of VIN (R560). -/
def Mod.aonLost (m : Mod) : Mod :=
  let live := m.live.filter fun e => !aonReg e.1 || e.1 == R.KEN_TAMPER_CNT
  { m with
    live := live
    ken := { m.ken with root := none, log := [], unlogged := 0, levels := 0 }
    pwr := { m.pwr with aonOk := false } }

/-- AON starts from nothing: its seconds start again from 0 (R555 kind 1). -/
def Mod.aonStart (m : Mod) (k : Clock) : Mod :=
  { m with pwr := { m.pwr with aonOk := true, aonFresh := true, aonBase := 0, aonRaw := k.raw } }

/-- A reset begins (R555, R556): the gate closes, what R560 loses is lost, and start-up begins. `act` for an activation restart or a
trial rollback. -/
def Mod.beginReset (m : Mod) (k : Clock) (kind : Nat) (act : Bool) : Clock × Mod :=
  let warm := decide (3 ≤ kind) && decide (kind ≤ 6)
  let op := m.nv.opSec
  let aon := m.aonSec k
  let m := m.holdOff
  let m := if warm then m.timeHeld k else m
  let m := m.resetCore warm
  let pw : PwrSt := { m.pwr with
    kind := kind, activation := act, resetAt := k.raw, opAtReset := op, aonAtReset := aon, fedAt := k.raw, opAt := k.raw,
    rawBase := if warm then m.pwr.rawBase else k.raw }
  (if warm then k else k.cold, { m with pwr := pw })

/-- Main power leaves all domains but AON: HIBERNATE (mode 1) or OFF (mode 2). -/
def Mod.powerDown (m : Mod) (k : Clock) (mode : Nat) : Clock × Mod :=
  let op := m.nv.opSec
  let m := (m.holdOff).resetCore false
  (k.cold, { m with pwr := { m.pwr with mode := mode, opAtReset := op, aonAtReset := m.aonSec k } })

end Sys2Proof.Machine
end

