-- ==== Sys2Proof/Machine/Update.lean ====
section
/-! DEFINITION. UPD (chapter 14): staging, verifying, installing, activation, trials and rollback. -/

namespace Sys2Proof.Machine

/-! ## The boot record and the banks (R523 to R525) -/

/-- The copy of the boot record in force: the valid one with the newer sequence number; its position, 0 or 1 (R524). -/
def UpdSt.copy (u : UpdSt) : Option Nat :=
  if u.bootA.valid && (!u.bootB.valid || decide (0 ≤ tickDiff u.bootA.seq u.bootB.seq)) then some 0
  else if u.bootB.valid then some 1 else none

/-- A boot record copy that a write was cut short in. -/
def BootRec.bad : BootRec := { seq := 0, valid := false, run := 0, trial := false, count := 0 }

/-- The boot record in force. -/
def UpdSt.rec_ (u : UpdSt) : BootRec := match u.copy with | some 0 => u.bootA | some _ => u.bootB | none => BootRec.bad

/-- The running bank set, and the other one. -/
def UpdSt.runBank (u : UpdSt) : Nat := u.rec_.run
def UpdSt.otherBank (u : UpdSt) : Nat := 1 - u.rec_.run

def UpdSt.bank (u : UpdSt) (i : Nat) : Bank := AMap.get (fun _ => Bank.none) u.banks i

/-- A change of the boot record goes to the older copy (R524). -/
def UpdSt.bootWrite (u : UpdSt) (r : BootRec) : UpdSt :=
  let r := { r with seq := (u.rec_.seq + 1) % 4294967296, valid := true }
  if u.copy = some 0 then { u with bootB := r } else { u with bootA := r }

def Mod.updAt (m : Mod) (f : UpdSt → UpdSt) : Mod := { m with upd := f m.upd }

/-- UPD_STAT.STATE (R528): 0 IDLE, 1 STAGING, 2 STAGED, 3 INSTALLING, 4 INSTALLED, 5 SCHEDULED, 6 TRIAL. -/
def Mod.updState (m : Mod) : Nat := m.fld F.UPD_STAT_STATE

def Mod.setUpdState (m : Mod) (st : Nat) : Mod := m.setF F.UPD_STAT_STATE st

/-- The registers that follow from the boot record, the fuses and the staging area (R544). -/
def Mod.updShow (m : Mod) : Mod :=
  let u := m.upd
  let m := (((m.setF F.UPD_STAT_BANK u.runBank).setB F.UPD_STAT_PREV_VALID u.prevValid).setF F.UPD_STAT_LAST u.last).setB F.UPD_STAT_PAIR u.paired
  let m := (m.wr R.UPD_SVN_FUSED u.fused).wr R.UPD_SVN_RUN (u.bank u.runBank).svn
  m.wr R.UPD_STAGE_LEN u.staged.length

/-- LAST changes, with recorder trigger 7 (R572). -/
def Mod.setLast (m : Mod) (k : Clock) (n : Nat) : Mod :=
  let m := (m.updAt fun u => { u with last := n }).setF F.UPD_STAT_LAST n
  m.recTrig k 7 (le 4 (m.rd R.UPD_STAT) ++ le 4 (m.rd R.GLB_FW_VER) ++ le 4 (m.rd R.UPD_SVN_RUN))

/-! ## The package (R526, R527, R529) -/

/-- Bytes of a manifest: header, part table, signature. -/
def manifestLen : Nat := 64 + 8 * 112 + 96

/-- A part entry. -/
def readPart (d : List Byte) (i : Nat) : PartEnt :=
  let o := 64 + 112 * i
  { id := leAt d o 1, kind := leAt d (o + 1) 1, off := leAt d (o + 4) 4, len := leAt d (o + 8) 4, imgLen := leAt d (o + 12) 4,
    digest := (d.drop (o + 16)).take 48, base := (d.drop (o + 64)).take 48 }

/-- The payload of a part. -/
def PartEnt.payload (p : PartEnt) (d : List Byte) : List Byte := (d.drop p.off).take p.len

def zeros (l : List Byte) : Bool := l.all fun b => b == 0

/-- A part entry is in range (R526, R527). -/
def partOk (d : List Byte) (i : Nat) : Bool :=
  let p := readPart d i
  let inside := decide (manifestLen ≤ p.off) && decide (p.off + p.len ≤ leAt d 40 4)
  p.id == i + 1 && leAt d (64 + 112 * i + 2) 2 == 0 &&
    match p.kind with
    | 0 => inside && p.len == p.imgLen && zeros p.base
    | 1 => inside
    | 2 => p.off == 0 && p.len == 0 && zeros p.base
    | _ => false

/-- Step 1 of R529. -/
def manifestOk (d : List Byte) : Bool :=
  d.length == leAt d 40 4 && d.take 4 == [0x55, 0x4D, 0x46, 0x54] && leAt d 4 2 == 1 && leAt d 6 1 == 8 && decide (leAt d 7 1 < 2)
    && decide (leAt d 40 4 ≤ 536870912) && zeros ((d.drop 52).take 12) && (upto 8).all (partOk d)

/-- Step 3 of R529. -/
def Mod.unitOk (m : Mod) (d : List Byte) : Bool :=
  let part := m.rd R.GLB_PART
  let unit := (d.drop 24).take 16
  (leAt d 8 4 == part || leAt d 8 4 == part / 256 * 256) && (unit == serial16 || zeros unit)
    && decide (leAt d 48 4 ≤ m.rd R.GLB_FW_VER)

/-- A part of the running bank set. -/
def Mod.runPart (m : Mod) (i : Nat) : List Byte := nth [] (m.upd.bank m.upd.runBank).parts i

/-- Step 5 of R529 for one part. -/
def Mod.partMatches (m : Mod) (d : List Byte) (i : Nat) : Bool :=
  let p := readPart d i
  match p.kind with
  | 0 => Config.sha384 (p.payload d) == p.digest
  | 1 => Config.sha384 (m.runPart i) == p.base
  | _ => Config.sha384 (m.runPart i) == p.digest

/-- The checks of R529 in order: the RESULT, 0 where all pass. -/
def Mod.packageCheck (m : Mod) (d : List Byte) : Mod × Nat :=
  if !manifestOk d then (m, 0x102)
  else
    match m.imageSigned 2 (d.take (64 + 8 * 112)) ((d.drop (64 + 8 * 112)).take 96) with
    | (m, false) => (m, 0x103)
    | (m, true) =>
      if !m.unitOk d then (m, 0x104)
      else if 64 < leAt d 20 4 ∨ leAt d 20 4 < m.upd.fused then (m, 0x105)
      else if !(upto 8).all (m.partMatches d) then (m, 0x106)
      else (m, 0)

/-- The image of a part as INSTALL makes it (R527). -/
def Mod.partImage (m : Mod) (d : List Byte) (i : Nat) : List Byte :=
  let p := readPart d i
  match p.kind with
  | 0 => p.payload d
  | 1 => Config.applyDelta (m.runPart i) (p.payload d)
  | _ => m.runPart i

/-! ## Activation (R532 to R535, R539) -/

/-- TRIAL_S and PAIR_WAIT as they act, in seconds. -/
def Mod.trialS (m : Mod) : Nat := min 3600 (max 60 (m.fld F.UPD_CTL_TRIAL_S))
def Mod.pairWait (m : Mod) : Nat := max 1 (m.fld F.UPD_CTL_PAIR_WAIT)

/-- The schedule ends; the unit may claim again. -/
def Mod.updUnplan (m : Mod) (st : Nat) : Mod :=
  let m := m.updAt fun u => { u with at_ := none, closed := false, pairAt := none, pairB := none }
  ((m.setUpdState st).wr R.UPD_AT_TICK 0).braceShow

/-- A restart at AT_TICK is scheduled. -/
def Mod.updPlan (m : Mod) (k : Clock) (atTick : Nat) (pair back : Bool) : Mod :=
  let at_ := (Int.ofNat k.tickNo + tickDiff atTick k.tick).toNat
  let m := m.updAt fun u => { u with at_ := some at_, pair := pair, back := back, closed := false }
  ((m.setUpdState 5).wr R.UPD_AT_TICK atTick).updEvt 2

/-- The activation restart: the boot record names the other bank set, on trial; a full reset begins (R534). -/
def Mod.updRestart (m : Mod) (k : Clock) : Clock × Mod :=
  let m := m.updAt fun u => { (u.bootWrite { seq := 0, valid := true, run := u.otherBank, trial := true, count := 0 }) with paired := u.pair }
  (m.inc R.UPD_ACT_CNT).beginReset k 5 true

/-- The trial has failed: a restart into the previous bank set, with its cause (R537). -/
def Mod.trialFail (m : Mod) (k : Clock) (last : Nat) : Clock × Mod :=
  (m.updAt fun u => { u with lastDue := some last }).beginReset k 5 true

/-- Why the activation is skipped at AT_TICK (R533). -/
def Mod.actSkipped (m : Mod) : Bool :=
  m.pstate == 1 || m.pstate == 2 || m.pstate == 4 || m.kenState == 1 || decide ((m.upd.bank m.upd.otherBank).svn < m.upd.fused)

/-- The partner is HOT and runs the new release (R535 step 2). -/
def Mod.partnerNew (m : Mod) : Bool :=
  match m.partner? with
  | some p => m.on F.BRACE_STAT_HB_P1 && p.role == 2 && p.fwVer == (m.upd.bank m.upd.otherBank).fwVer
  | none => false

/-- The boundary 10 ticks before AT_TICK (R533). -/
def Mod.updClose (m : Mod) (k : Clock) : Mod :=
  match m.upd.at_ with
  | some a => if m.updState = 5 ∧ a ≤ k.tickNo + 10 ∧ !m.upd.closed then (m.updAt fun u => { u with closed := true }).braceShow else m
  | none => m

/-- The active unit of a pair waits for its partner, hands over, and restarts after B (R535 steps 2 to 4). -/
def Mod.updPairStep (m : Mod) (k : Clock) : Clock × Mod :=
  match m.upd.pairB with
  | some b =>
    if m.role ≠ 1 ∧ 0 < tickDiff k.tick b then m.updRestart k
    else if m.role = 1 ∧ m.brace.handover.isNone then (k, m.updAt fun u => { u with pairB := none })
    else (k, m)
  | none =>
    if m.role = 1 && m.partnerNew && m.brace.handover.isNone then
      (k, (m.handoverStart k k.sfAhead none 3).updAt fun u => { u with pairB := some k.sfAhead })
    else (k, m)

/-- PAIR_WAIT seconds after AT_TICK without step 2 (R535). -/
def Mod.updPairExpire (m : Mod) (k : Clock) : Mod :=
  match m.upd.pairAt, m.upd.pairB with
  | some r, none => if r + secRaw m.pairWait ≤ k.raw then ((m.updUnplan 4).setLast k 7).updEvt 6 else m
  | _, _ => m

/-- At AT_TICK: skipped, waiting as the active unit of a pair, or restarted (R533 to R535). -/
def Mod.updActivate (m : Mod) (k : Clock) : Clock × Mod :=
  match m.upd.at_ with
  | none => (k, m)
  | some a =>
    if m.updState ≠ 5 ∨ k.tickNo < a then (k, m)
    else if m.upd.pairAt.isSome then m.updPairStep k
    else if m.actSkipped then (k, ((m.updUnplan 4).setLast k 8).updEvt 7)
    else if m.upd.pair && m.role == 1 then Mod.updPairStep (m.updAt fun u => { u with pairAt := some k.raw }) k
    else m.updRestart k

/-! ## Trials (R536 to R540) -/

/-- TRIAL_LEFT: whole seconds left, rounded up (R544). -/
def Mod.trialLeft (m : Mod) (k : Clock) : Nat :=
  match m.upd.trialAt with
  | some r => let e := r + secRaw m.trialS; if e ≤ k.raw then 0 else (e - k.raw + 1249999999) / 1250000000
  | none => 0

/-- The end of the trial window at a boundary (R537, R540). -/
def Mod.trialExpire (m : Mod) (k : Clock) : Clock × Mod :=
  match m.upd.trialAt with
  | some r => if m.updState = 6 ∧ r + secRaw m.trialS ≤ k.raw then m.trialFail k 2 else (k, m)
  | none => (k, m)

/-- UPD at a tick boundary, `k` the clock of the tick that begins. -/
def Mod.updBoundary (m : Mod) (k : Clock) : Clock × Mod :=
  let m := (m.updClose k).wr R.UPD_TRIAL_LEFT (m.trialLeft k)
  if m.upd.rollNow then m.trialFail k 6
  else match m.trialExpire k with
    | (k, m) => if !m.running then (k, m) else (m.updPairExpire k).updActivate k

/-- A verified heartbeat within the last second shows the partner on this release (R538). -/
def Mod.partnerUpdated (m : Mod) (k : Clock) : Bool :=
  match m.partner? with
  | some p => p.fwVer == m.rd R.GLB_FW_VER && decide (k.raw ≤ m.brace.p1.at_ + secRaw 1)
  | none => false

/-- CONFIRM is accepted (R538). -/
def Mod.confirm (m : Mod) (k : Clock) : Mod :=
  let m := m.updAt fun u =>
    { (u.bootWrite { u.rec_ with trial := false, count := 0 }) with
      setPrev := u.setCur, setCur := none, prevValid := true, trialAt := none, lastDue := none, confAt := some k.tickNo }
  let pkg := m.on F.UPD_STAT_PKG_STAGED
  let m := ((m.setUpdState (if pkg then 2 else 0)).setB F.UPD_STAT_PKG_STAGED false).wr R.UPD_TRIAL_LEFT 0
  let m := if pkg then m.updEvt 0 else m
  (m.updShow.setLast k 1).updEvt 4

/-! ## Meanings (R528, R543) -/

/-- A command of UPD: handled while its block works. -/
def Mod.updCmd (m : Mod) (f : Mod → Mod) : Mod := if m.live? 8 then f m else m

/-- STAGE: the chunk as host memory gave it, none when the read failed, and whether flash took it. -/
def execStage (dt : Nat) (h : Hdr) (offset size addr flags : Nat) (data : Option (List Byte)) (flashOk : Bool) (s : State) : Res :=
  .next (s.ev dt fun k m => m.updCmd fun m =>
    let first := flags % 2 == 1
    let st := m.updState
    let len := m.upd.staged.length
    if size = 0 ∨ 16777216 < size ∨ addr % 8 ≠ 0 ∨ 1 < flags ∨ (first ∧ offset ≠ 0) ∨ (!first ∧ offset ≠ len) ∨ 536870912 < offset + size then
      m.reply k 8 1 0x101 h []
    else if !(st == 1 || st == 6 || (first && (st == 0 || st == 2 || st == 4))) then m.reply k 8 1 0x107 h []
    else match data with
      | none => m.reply k 8 1 0x108 h []
      | some d =>
        if !flashOk then m.reply k 8 1 0x109 h []
        else
          let m := m.updAt fun u => { u with staged := (if first then [] else u.staged) ++ d.take size, verified := [] }
          let m := if st = 6 then m.setB F.UPD_STAT_PKG_STAGED false else m.setUpdState 1
          m.updShow.reply k 8 1 0 h [])

/-- PACKAGE_VERIFY: VERIFY of the staged package (R529). -/
def execPackageVerify (dt : Nat) (h : Hdr) (reserved : Nat) (s : State) : Res :=
  .next (s.ev dt fun k m => m.updCmd fun m =>
    let st := m.updState
    let fail := fun (m : Mod) (c : Nat) => m.reply k 8 2 c h (List.replicate 8 0)
    if reserved ≠ 0 then fail m 0x101
    else if st ≠ 1 ∧ st ≠ 6 then fail m 0x107
    else
      let d := m.upd.staged
      match m.packageCheck d with
      | (m, 0) =>
        let m := m.updAt fun u => { u with verified := d.take 64 }
        let m := if st = 6 then m.setB F.UPD_STAT_PKG_STAGED true else (m.setUpdState 2).updEvt 0
        m.reply k 8 2 0 h (le 4 (leAt d 12 4) ++ le 4 (leAt d 20 4))
      | (m, c) => fail m c)

/-- INSTALL (R528 step 4): the inactive bank set is written from here on, so it is no longer bootable. -/
def execInstall (dt : Nat) (h : Hdr) (reserved : Nat) (s : State) : Res :=
  .next (s.ev dt fun k m => m.updCmd fun m =>
    if reserved ≠ 0 then m.reply k 8 3 0x101 h []
    else if m.updState ≠ 2 then m.reply k 8 3 0x107 h []
    else
      let m := m.updAt fun u =>
        { u with
          prevValid := false, inst := some { tag := h.tag, noResult := h.noResult, acceptTick := k.tick }
          banks := AMap.put (fun _ => Bank.none) u.otherBank { u.bank u.otherBank with valid := false } u.banks }
      (m.setUpdState 3).updShow)

/-- INSTALL_COMPLETE: every part is written and read back; `flashOk` is false at a flash error (R528 steps 5 and 6). -/
def execInstallComplete (dt : Nat) (flashOk : Bool) (s : State) : Res :=
  .next (s.ev dt fun k m => m.updCmd fun m =>
    match m.upd.inst with
    | none => m
    | some i =>
      let d := m.upd.staged
      let imgs := (upto 8).map (m.partImage d)
      let good := (upto 8).all fun j => Config.sha384 (nth [] imgs j) == (readPart d j).digest && (nth [] imgs j).length == (readPart d j).imgLen
      let m := m.updAt fun u => { u with inst := none }
      let post := fun (m : Mod) (c : Nat) => m.result k 8 3 c i.tag i.noResult i.acceptTick []
      if !flashOk then post (m.setUpdState 0) 0x109
      else if !good then post (m.setUpdState 0) 0x106
      else
        let b : Bank := { valid := true, fwVer := leAt d 12 4, fwBuild := leAt d 16 4, svn := leAt d 20 4, setFmt := leAt d 44 2, setFrom := leAt d 46 2, parts := imgs }
        post (((m.updAt fun u => { u with banks := AMap.put (fun _ => Bank.none) u.otherBank b u.banks }).setUpdState 4).updEvt 1) 0)

/-- ACTIVATE (R532). -/
def execActivate (dt : Nat) (h : Hdr) (atTick flags reserved : Nat) (s : State) : Res :=
  .next (s.ev dt fun k m => m.updCmd fun m =>
    let pair := flags % 2 == 1
    if 1 < flags ∨ reserved ≠ 0 then m.reply k 8 4 0x101 h []
    else if m.updState ≠ 4 then m.reply k 8 4 0x107 h []
    else if pair ≠ m.on F.BRACE_CTL_MODE then m.reply k 8 4 0x10B h []
    else if tickDiff atTick k.tick < 100 then m.reply k 8 4 0x10E h []
    else (m.updPlan k atTick pair false).reply k 8 4 0 h [])

/-- CANCEL (R533). -/
def execCancel (dt : Nat) (h : Hdr) (reserved : Nat) (s : State) : Res :=
  .next (s.ev dt fun k m => m.updCmd fun m =>
    if reserved ≠ 0 then m.reply k 8 5 0x101 h []
    else if m.updState ≠ 5 then m.reply k 8 5 0x107 h []
    else if m.upd.closed then m.reply k 8 5 0x10A h []
    else ((m.updUnplan 4).setLast k 9).reply k 8 5 0 h [])

/-- CANCEL_DEADLINE: at the boundary now reached (R533). -/
def execCancelDeadline (dt : Nat) (s : State) : Res :=
  .next (s.ev dt fun k m => m.updCmd fun m => if k.nextBoundary ≤ k.raw then m.updClose k.beginTick else m)

/-- ACTIVATION_RESTART: at the boundary now reached (R533 to R535). -/
def execActivationRestart (dt : Nat) (s : State) : Res :=
  .next (s.evClk dt fun k m =>
    if !m.running || !decide (k.nextBoundary ≤ k.raw) then (k, m)
    else match m.updActivate k.beginTick with
      | (c, m) => (if m.running then k else c, m))

/-- PAIR_WAIT_EXPIRY (R535). -/
def execPairWaitExpiry (dt : Nat) (s : State) : Res :=
  .next (s.ev dt fun k m => m.updCmd fun m => m.updPairExpire k)

/-- CONFIRM (R538, R540). -/
def execConfirm (dt : Nat) (h : Hdr) (reserved : Nat) (s : State) : Res :=
  .next (s.ev dt fun k m => m.updCmd fun m =>
    if reserved ≠ 0 then m.reply k 8 6 0x101 h []
    else if m.updState ≠ 6 ∨ m.kenState = 1 ∨ m.upd.rollNow then m.reply k 8 6 0x107 h []
    else if m.upd.pair && !m.partnerUpdated k then m.reply k 8 6 0x10C h []
    else (m.confirm k).reply k 8 6 0 h [])

/-- ROLLBACK: in a trial at the next boundary, else as an activation of the previous bank set (R537, R539, R540). -/
def execRollback (dt : Nat) (h : Hdr) (atTick : Nat) (s : State) : Res :=
  .next (s.ev dt fun k m => m.updCmd fun m =>
    let st := m.updState
    if st = 6 then
      (if m.upd.rollNow then m.reply k 8 7 0x107 h []
       else if atTick ≠ 0 then m.reply k 8 7 0x101 h []
       else (m.updAt fun u => { u with rollNow := true }).reply k 8 7 0 h [])
    else if st = 3 ∨ st = 5 ∨ (atTick = 0 ∧ m.upd.confAt = some k.tickNo) then m.reply k 8 7 0x107 h []
    else if !m.upd.prevValid then m.reply k 8 7 0x10D h []
    else if tickDiff atTick k.tick < 100 then m.reply k 8 7 0x10E h []
    else (m.updPlan k atTick (m.on F.BRACE_CTL_MODE) true).reply k 8 7 0 h [])

/-- TRIAL_EXPIRY: at the boundary now reached (R537, R540). -/
def execTrialExpiry (dt : Nat) (s : State) : Res :=
  .next (s.evClk dt fun k m =>
    if !m.running || !decide (k.nextBoundary ≤ k.raw) then (k, m)
    else match m.trialExpire k.beginTick with
      | (c, m) => (if m.running then k else c, m))

/-- UPD_FUSE_SVN: the complement written to its complement word (R530, R531). -/
def execUpdFuseSvn (dt comp : Nat) (s : State) : Res :=
  .next (s.ev dt fun k m => m.commit k R.UPD_FUSE_SVN comp fun m v =>
    if v ≠ m.rd R.UPD_SVN_RUN ∨ v ≤ m.upd.fused ∨ m.updState = 6 then m.updEvt 9
    else
      let m := m.cfgSet R.UPD_FUSE_SVN v
      let m := m.updAt fun u => { u with fused := v, prevValid := u.prevValid && decide (v ≤ (u.bank u.otherBank).svn) }
      m.updShow.updEvt 8)

end Sys2Proof.Machine
end

