-- ==== Sys2Proof/Machine/Elements.lean ====
section
/-! DEFINITION. Faults of elements, retries, retirement and re-admission over all blocks (R34 to R38), the background schedules
(R41) and the GNSS calibration (R163). -/

namespace Sys2Proof.Machine

/-! ## GNSS channels (R145, R168) -/

/-- A waiting STEER of a channel that leaves service completes with CHANNEL_OUT (R168). -/
def Mod.steerOut (m : Mod) (k : Clock) (c : Nat) : Mod :=
  match (m.gch c).steer with
  | none => m
  | some o => (m.setGch c { m.gch c with steer := none }).result k 9 3 0x102 o.tag o.noResult o.acceptTick []

/-- A channel faults: RETRY, or RETIRED with its signal to be moved at the next boundary. -/
def Mod.gnssFault (m : Mod) (k : Clock) (c : Nat) : Mod :=
  if 319 < c then m
  else match m.elemJudge k 0 c with
  | (m, .ignored) => m
  | (m, v) =>
    let m := m.setF (F.GNSS_CH_STAT_FAULTS c) (min 3 ((m.elemAt 0 c).recent k.tickNo).length)
    let m := m.steerOut k c
    match v with
    | .retired =>
      let w := m.asg c
      let m : Mod := { m with gnss := { m.gnss with moves := m.gnss.moves ++ [(c, w)] } }
      let m := (m.wr (R.GNSS_CH_ASSIGN c) 0).wrSh (R.GNSS_CH_ASSIGN c) 0
      ((m.setBit (R.GNSS_RETIRED (c / 32)) (c % 32)).inc R.GNSS_RETIRED_CNT).chEnter k c 6
    | _ => m.chEnter k c 5

/-- A retired channel is re-admitted: IDLE (R145 step 3). -/
def Mod.gnssReadmit (m : Mod) (k : Clock) (c : Nat) : Mod :=
  if m.isRetired 0 c then
    let m := (m.elemReadmit k 0 c).clrBit (R.GNSS_RETIRED (c / 32)) (c % 32)
    ((m.wr R.GNSS_RETIRED_CNT (m.rd R.GNSS_RETIRED_CNT - 1)).setF (F.GNSS_CH_STAT_FAULTS c) 0).chEnter k c 0
  else m

/-! ## PACK lanes (R197) -/

/-- A lane faults: out of service, or retired; the flow, operation and graph on the lane, which the trace names, are free values. -/
def Mod.laneFault (m : Mod) (k : Clock) (l : Nat) : Mod :=
  if 31 < l then m
  else match m.elemJudge k 1 l with
  | (m, .ignored) => m
  | (m, v) =>
    let m := (m.clrBit R.PACK_LANES l).trace k 8 (l / 8 + l * 4) (m.freeN 2151 % 257) (m.freeN 2152 % 65536) (m.freeN 2153 % 256) 0
    let m := m.took
    match v with
    | .retired => ((m.setBit R.PACK_RETIRED l).packEvt 1).packShow
    | _ => m.packShow

def Mod.laneRetryEnd (m : Mod) (k : Clock) (l : Nat) : Mod :=
  match m.elemRetryEnd k 1 l with
  | (m, true) => (m.setBit R.PACK_LANES l).packShow
  | (m, false) => m

def Mod.laneReadmit (m : Mod) (k : Clock) (l : Nat) : Mod :=
  if m.isRetired 1 l then (((m.elemReadmit k 1 l).clrBit R.PACK_RETIRED l).setBit R.PACK_LANES l).packShow else m

/-! ## Grain sets (R399) -/

def Mod.grainFault (m : Mod) (k : Clock) (i : Nat) : Mod :=
  if 199 < i then m
  else match m.elemJudge k 4 i with
  | (m, .retired) => m.grainRetire i
  | (m, _) => m

def Mod.grainReadmit (m : Mod) (k : Clock) (i : Nat) : Mod :=
  if m.isRetired 4 i then (m.elemReadmit k 4 i).clrBit (R.AIR_RETIRED (i / 32)) (i % 32) else m

/-! ## Key slots (R503) -/

/-- A slot becomes BAD: it keeps no key, and counts as an invalidated parent (R503, R508). -/
def Mod.slotBad (m : Mod) (k : Clock) (s : Nat) : Mod :=
  let m := (m.setF (F.KEN_SLOT_STAT_STATE s) 3).setB (F.KEN_SLOT_STAT_RETRY s) false
  let m := m.setBit (if s < 32 then R.KEN_BAD0 else R.KEN_BAD1) (s % 32)
  let m : Mod := { m with ken := { m.ken with slot := AMap.del s m.ken.slot } }
  (m.invalidate k s true).kenEvt 3

def Mod.slotFault (m : Mod) (k : Clock) (s : Nat) : Mod :=
  if 63 < s ∨ m.slotState s ≠ 1 then m
  else match m.elemJudge k 6 s with
  | (m, .ignored) => m
  | (m, .retired) => m.slotBad k s
  | (m, .retry) => (m.setB (F.KEN_SLOT_STAT_RETRY s) true).kenShow

def Mod.slotRetryEnd (m : Mod) (k : Clock) (s : Nat) : Mod :=
  match m.elemRetryEnd k 6 s with
  | (m, true) => (m.setB (F.KEN_SLOT_STAT_RETRY s) false).kenShow
  | (m, false) => m

/-- A BAD slot is re-admitted as EMPTY. -/
def Mod.slotReadmit (m : Mod) (k : Clock) (s : Nat) : Mod :=
  if m.isRetired 6 s then ((m.elemReadmit k 6 s).clrBit (if s < 32 then R.KEN_BAD0 else R.KEN_BAD1) (s % 32)).slotEmpty s else m

/-! ## Every kind -/

/-- The block that an element belongs to is powered; LPDDR's domain is MEM. -/
def Mod.elemUp (m : Mod) (kind : Nat) : Bool :=
  m.barUp && match kind with
    | 0 => m.blkOn 9 | 1 => m.blkOn 10 | 2 => m.blkOn 14 | 3 => m.blkOn 12 | 4 => m.blkOn 13 | 5 => m.domOn 7 | 6 => m.blkOn 7 | _ => false

/-- A fault of an element is detected (R35). -/
def Mod.elementFault (m : Mod) (k : Clock) (kind i : Nat) : Mod :=
  match kind with
  | 0 => m.gnssFault k i
  | 1 => m.laneFault k i
  | 2 => m.portFault k i
  | 3 => m.motFault k i
  | 4 => m.grainFault k i
  | 5 => (m.elemJudge k 5 i).1
  | 6 => m.slotFault k i
  | _ => m

/-- The retry of an element ends where it may (R35); `k` the clock of the ending tick. -/
def Mod.elementRetryEnd (m : Mod) (k : Clock) (kind i : Nat) : Mod :=
  match kind with
  | 1 => m.laneRetryEnd k i
  | 2 => m.portRetryEnd k i
  | 3 => m.motRetryEnd k i
  | 6 => m.slotRetryEnd k i
  | _ => (m.elemRetryEnd k kind i).1

/-- Every retry that may end at this boundary ends. -/
def Mod.retriesEnd (m : Mod) (k : Clock) : Mod :=
  m.each ((m.elem.filter fun e => e.2.retry).map Prod.fst) fun m key => m.elementRetryEnd k (key / 1048576) (key % 1048576)

/-- The re-admission registers take effect at the boundary (R38, R63); `k` the clock of the tick that begins. -/
def Mod.readmitAt (m : Mod) (k : Clock) (a v : Nat) : Mod :=
  if a = R.GNSS_READMIT then m.gnssReadmit k (v % 512)
  else if a = R.PACK_READMIT then m.laneReadmit k (v % 32)
  else if a = R.MOT_READMIT then m.motReadmit k (v % 256)
  else if a = R.AIR_READMIT then m.grainReadmit k (v / 128 % 2 * 100 + v % 128)
  else if a = R.SW_READMIT then m.portReadmit k (v % 16)
  else if a = R.KEN_READMIT then m.slotReadmit k (v % 64)
  else m

/-- Every committed re-admission takes effect. -/
def Mod.readmits (m : Mod) (k : Clock) : Mod :=
  let l := m.glb.tck
  ({ m with glb := { m.glb with tck := [] } }).each l fun m e => m.readmitAt k e.1 e.2.toNat

/-- A re-admission register takes its value, to act at the next boundary (R38, R63). -/
def Mod.readmitCommit (m : Mod) (a v : Nat) : Mod :=
  let w := BitVec.ofNat 32 v
  { (m.commitPlain a v) with glb := { m.glb with tck := AMap.ins a w m.glb.tck } }

/-- The retirement map applies at start-up (R37, R563 step 6). -/
def Mod.retireAll (m : Mod) : Mod :=
  let m := m.wr R.PACK_LANES 0xFFFFFFFF
  let m := m.each m.nv.retired fun m e =>
    match e.1 with
    | 0 => ((m.setBit (R.GNSS_RETIRED (e.2 / 32)) (e.2 % 32)).inc R.GNSS_RETIRED_CNT).setF (F.GNSS_CH_STAT_STATE e.2) 6
    | 1 => (m.setBit R.PACK_RETIRED e.2).clrBit R.PACK_LANES e.2
    | 2 => m.setBit R.SW_RETIRED e.2
    | 3 => (m.setBit (R.MOT_RETIRED (e.2 / 32)) (e.2 % 32)).setMst e.2 8
    | 4 => m.setBit (R.AIR_RETIRED (e.2 / 32)) (e.2 % 32)
    | 6 => (m.setF (F.KEN_SLOT_STAT_STATE e.2) 3).setBit (if e.2 < 32 then R.KEN_BAD0 else R.KEN_BAD1) (e.2 % 32)
    | _ => m
  let m : Mod := { m with air := { m.air with gone := (upto 200).filter fun i => m.isRetired 4 i } }
  m.packShow

/-! ## Background activities (R41) -/

/-- Bursts of a full scrub pass: 4 GiB of 64 bytes, 72 minutes at one per 64 µs (log entry 45). -/
def scrubPass : Nat := 67108864

/-- LPDDR scrub: the bursts due, at most 4 back to back. -/
def Mod.scrub (m : Mod) (k : Clock) : Mod :=
  let n := (k.raw - m.back.scrubAt) / usRaw 64
  if n = 0 then m
  else { m with back := { m.back with
    scrubPos := (m.back.scrubPos + min 4 n) % scrubPass
    scrubAt := if n ≤ 4 then m.back.scrubAt + n * usRaw 64 else k.raw } }

/-- Table parity scrub: a thousandth of every table a tick, with the portion one tick missed. -/
def Mod.parityScrub (m : Mod) (k : Clock) : Mod :=
  let n := k.tickNo - m.back.parityTick
  if n = 0 then m else { m with back := { m.back with parityPos := (m.back.parityPos + min 2 n) % 1000, parityTick := k.tickNo } }

/-- One erase block of flash is refreshed. -/
def Mod.flashRefresh (m : Mod) (k : Clock) : Mod := { m with back := { m.back with flashPos := m.back.flashPos + 1, flashAt := k.raw } }

/-! ## Calibration (R163, R164) -/

/-- Channels that a calibration pass takes in. -/
def Mod.calOpen (m : Mod) (c : Nat) : Bool := decide (m.chState c < 5)

/-- A channel is calibrated: its bias, the pass, and a fault above THR. -/
def Mod.gnssCal (m : Mod) (k : Clock) (c : Nat) (bias : Int) : Mod :=
  let m := (m.wrI (R.GNSS_CH_CAL c) bias).setF F.GNSS_CAL_STAT_LAST c
  let m := m.setGch c { m.gch c with cn0Held := true }
  let done := if m.gnss.calDone.contains c then m.gnss.calDone else c :: m.gnss.calDone
  let full := (upto 320).all fun x => done.contains x || !m.calOpen x
  let m : Mod := { m with gnss := { m.gnss with calDone := if full then [] else done } }
  let m := if full then m.incF F.GNSS_CAL_STAT_PASSES else m
  if m.rd R.GNSS_CAL_CTL % 65536 < bias.natAbs then (m.gnssEvt 9).gnssFault k c else m

/-! ## Meanings -/

/-- ELEMENT_FAULT: an element by kind and index (0 GNSS channel, 1 PACK lane, 2 switch port, 3 motion channel, 4 grain set as
100 × channel + set, 5 LPDDR page, 6 key slot). -/
def execElementFault (dt kind i : Nat) (s : State) : Res :=
  .next (s.ev dt fun k m => if m.elemUp kind then m.elementFault k kind i else m)

/-- ELEMENT_RETRY_END: at the boundary now reached (R35). -/
def execElementRetryEnd (dt kind i : Nat) (s : State) : Res :=
  .next (s.ev dt fun k m => if m.elemUp kind && decide (k.nextBoundary ≤ k.raw) then m.elementRetryEnd k kind i else m)

/-- LPDDR_SCRUB (R41). -/
def execLpddrScrub (dt : Nat) (s : State) : Res := .next (s.ev dt fun k m => if m.running && m.pstate == 0 then m.scrub k else m)

/-- TABLE_PARITY_SCRUB (R41). -/
def execTableParityScrub (dt : Nat) (s : State) : Res := .next (s.ev dt fun k m => if m.running && m.pstate == 0 then m.parityScrub k else m)

/-- FLASH_REFRESH (R41). -/
def execFlashRefresh (dt : Nat) (s : State) : Res := .next (s.ev dt fun k m => if m.running && m.pstate == 0 then m.flashRefresh k else m)

/-- GNSS_CAL: a channel's measured bias in ps (R163, R164). -/
def execGnssCal (dt c : Nat) (bias : Int) (s : State) : Res :=
  .next (s.ev dt fun k m =>
    if m.live? 9 && m.on F.GNSS_CTL_EN && decide (c < 320) && m.calOpen c then m.gnssCal k c bias else m)

/-- GNSS_READMIT: the complement written to GNSS_READMIT_INV (R38, R171). -/
def execGnssReadmit (dt comp : Nat) (s : State) : Res :=
  .next (s.ev dt fun k m => m.commit k R.GNSS_READMIT comp fun m v => m.readmitCommit R.GNSS_READMIT v)

/-- PACK_READMIT (R38, R197). -/
def execPackReadmit (dt comp : Nat) (s : State) : Res :=
  .next (s.ev dt fun k m => m.commit k R.PACK_READMIT comp fun m v => m.readmitCommit R.PACK_READMIT v)

/-- MOT_READMIT (R38, R349). -/
def execMotReadmit (dt comp : Nat) (s : State) : Res :=
  .next (s.ev dt fun k m => m.commit k R.MOT_READMIT comp fun m v => m.readmitCommit R.MOT_READMIT v)

/-- AIR_READMIT (R38, R399). -/
def execAirReadmit (dt comp : Nat) (s : State) : Res :=
  .next (s.ev dt fun k m => m.commit k R.AIR_READMIT comp fun m v => m.readmitCommit R.AIR_READMIT v)

/-- SW_READMIT (R38, R450). -/
def execSwReadmit (dt comp : Nat) (s : State) : Res :=
  .next (s.ev dt fun k m => m.commit k R.SW_READMIT comp fun m v => m.readmitCommit R.SW_READMIT v)

/-- KEN_READMIT (R38, R503). -/
def execKenReadmit (dt comp : Nat) (s : State) : Res :=
  .next (s.ev dt fun k m => m.commit k R.KEN_READMIT comp fun m v => m.readmitCommit R.KEN_READMIT v)

end Sys2Proof.Machine
end

