-- ==== Sys2Proof/Machine/Power.lean ====
section
/-! DEFINITION. PWR (chapter 15): domains, the four power states, resets of a block, the events of supply, wake and watchdog. -/

namespace Sys2Proof.Machine

/-! ## Soft resets (R559) -/

/-- A block's counters return to 0. -/
def Mod.zeroCounters (m : Mod) (b : Nat) : Mod :=
  let cnt (a : Nat) : Bool := match rowOf a with | some r => r.counter | none => false
  { m with live := m.live.filter fun e => !(blockOf e.1 == some b && cnt e.1) }

/-- Commands of a block without a result are forgotten (R559). -/
def Mod.forget (m : Mod) (b : Nat) : Mod :=
  { m with ring := { m.ring with handed := m.ring.handed.filter fun h => h.block != b } }

def Mod.perfSoft (m : Mod) : Mod := Mod.zeroCounters { m with perf := { m.perf with acc := [], pend := [] } } 3

/-- GNSS: channels IDLE and reassigned, search jobs CANCELLED, ephemerides kept. -/
def Mod.gnssSoft (m : Mod) (k : Clock) : Mod :=
  let jobs := m.gnss.jobs ++ (match m.gnss.running with | some (j, _, _) => [j] | none => [])
  let m : Mod := { m with gnss := { m.gnss with jobs := [], running := none, set_ := none, published := none, moves := [] } }
  let none_ : SearchIn := { strong := false, verified := false, xcorr := false, metric := 0, codeCell := 0, doppler := 0 }
  let m := m.each (jobs.filter SearchJob.host) fun m j => m.result k 9 1 0x106 j.tag j.noResult j.acceptTick (searchPayload false none_ 0xFFFF)
  let m := m.each m.busyCh fun m c =>
    let m := m.steerOut k c
    let m := match (m.gch c).stream with | some s => (m.streamGone s).setGch c { m.gch c with stream := none } | none => m
    let m := if m.hostPool c then m else m.wr (R.GNSS_CH_ASSIGN c) 0
    if m.chState c = 6 then m else m.chEnter k c 0
  m.srchStat.zeroCounters 9

/-- PACK: flows discarded with NOT_PRODUCED, every rover filter reset; graphs and the base position kept. -/
def Mod.packSoft (m : Mod) : Mod :=
  let all := m.pack.flows ++ m.pack.waiting
  let m : Mod := { m with pack := { m.pack with flows := [], waiting := [], trace := [], rtcm := [], baseInst := none } }
  let m := m.each all fun m f =>
    if f.rover < 256 then m.setRv f.rover { m.rv f.rover with cause := 7, made := none, search := none } else m
  let m := m.each m.posRovers fun m r => m.setRv r { m.rv r with reset := true, ints := [] }
  (m.setB F.PACK_STAT_ASU_BUSY false).packShow.zeroCounters 10

/-- SHEP: every span, request and task is lost, and every enabled rover UNPLACED. -/
def Mod.shepSoft (m : Mod) : Mod :=
  let m : Mod := { m with shep := { ShepSt.reset with
    active := m.shep.active, loaded := m.shep.loaded, restore := m.shep.restore, mismatch := m.shep.mismatch, seq := m.shep.seq } }
  let m := m.each m.shepRovers fun m r =>
    let m := m.setRvState r (if m.rvEn r then 1 else 0)
    let m := ((m.setB (F.SHEP_RV_STAT_HEEL_REQ r) false).setB (F.SHEP_RV_STAT_FP_FULL r) false).setF (F.SHEP_RV_STAT_FP_CHAINS r) 0
    ((m.setB (F.SHEP_RV_LOC_CHAIN_VALID r) false).setB (F.SHEP_RV_LOC_TASK_VALID r) false).setF (F.SHEP_RV_LOC_TASK r) 0
  ((m.forget 11).zeroCounters 11).shepShow.rvPublish

/-- MOT: every channel enters Drop and is then IDLE, not homed; groups end, and commands complete with DROPPED. -/
def Mod.motSoft (m : Mod) (k : Clock) : Mod :=
  let m := m.dropAll k
  let wait := (m.mot.carried.filterMap fun w => match w with | .cmd p => some p | _ => none) ++ m.mot.later ++ m.mot.due ++ m.mot.cmds
  let m := m.each wait fun m p => match p.cmd with | .done code status c q => m.motResult k p.h code status c q | cmd => m.motResult k p.h 0 4 (cmd.chan.getD 0xFFFF) 0
  let m : Mod := { m with mot := { m.mot with cmds := [], due := [], later := [], carried := [], spans := [], cut := 0, toAir := [], groups := [] } }
  let m := m.each (m.mot.ch.map Prod.fst) fun m c =>
    let m := m.setMch c { m.mch c with segs := [], plan := none, kin := (m.chNow k c).still }
    let m := if m.mst c = 6 then m.setMst c 1 else m
    (m.setB (F.MOT_CH_STAT_HOMED c) false).restEnd c
  m.zeroCounters 12

/-- SW: dynamic MAC entries and queued frames are lost. -/
def Mod.swSoft (m : Mod) : Mod :=
  let m : Mod := { m with sw := { m.sw with
    mac := m.sw.mac.filter fun e => e.2.static_
    egress := [], served := [], air := [], bytes := [] } }
  (m.macShow).zeroCounters 14

/-- The blocks of a mask are reset at once (R559). -/
def Mod.softReset (m : Mod) (k : Clock) (mask : Nat) : Mod :=
  let go (b : Nat) (f : Mod → Mod) (m : Mod) : Mod := if mask.testBit b && m.blkOn b then f m else m
  let m := go 3 Mod.perfSoft m
  let m := go 9 (fun m => m.gnssSoft k) m
  let m := go 10 Mod.packSoft m
  let m := go 11 Mod.shepSoft m
  let m := go 12 (fun m => m.motSoft k) m
  let m := go 13 Mod.airSoftReset m
  let m := go 14 Mod.swSoft m
  let m : Mod := { m with pwr := { m.pwr with softBlocks := m.pwr.softBlocks ||| mask } }
  (m.inc R.PWR_SOFT_CNT).pwrEvt 6

/-! ## Domains (R546 to R548) -/

/-- A domain loses power; what its block holds there is lost as by a soft reset (log entry 46). -/
def Mod.domOff (m : Mod) (k : Clock) (d : Nat) : Mod :=
  let m : Mod := { m with pwr := { m.pwr with settling := AMap.del d m.pwr.settling } }
  if !m.domOn d then m
  else
    let m := match d with
      | 5 => m.gnssSoft k
      | 6 => m.packSoft
      | 10 => { m with air := { m.air with queue := [], drop := none } }
      | 11 => m.motSoft k
      | _ => m
    let m := m.clrBit R.PWR_DOM_STAT d
    if m.glb.walking && m.walkHole then { m with glb := { m.glb with incomplete := true } } else m

/-- A domain is switched on: it settles (R548). -/
def Mod.domStart (m : Mod) (k : Clock) (d : Nat) : Mod :=
  if m.domOn d then m else { m with pwr := { m.pwr with settling := AMap.ins d k.raw m.pwr.settling } }

/-- Domains of tick-bound blocks, whose block starts at a boundary. -/
def tickDom (d : Nat) : Bool := d == 5 || d == 6 || d == 10 || d == 11

/-- A settling domain is powered and its block starts. -/
def Mod.domUp (m : Mod) (d : Nat) : Mod :=
  let m : Mod := { m with pwr := { m.pwr with settling := AMap.del d m.pwr.settling } }
  let m := m.setBit R.PWR_DOM_STAT d
  if d = 6 then m.packShow else m

/-- At a boundary, every domain switched on at least 2 ms ago starts (R548). -/
def Mod.domsSettle (m : Mod) (k : Clock) : Mod :=
  m.each ((m.pwr.settling.filter fun e => decide (e.2 + msRaw 2 ≤ k.raw)).map Prod.fst) Mod.domUp

/-- The block of a domain is disabled, so that the domain may be switched off (R547). -/
def Mod.domIdle (m : Mod) (d : Nat) : Bool :=
  match d with
  | 4 | 5 => !m.on F.GNSS_CTL_EN
  | 6 => !m.on F.PACK_CTL_EN
  | 9 => !m.on F.AIR_CTL_SG_EN
  | 10 => !m.on F.AIR_CTL_EN || (!m.on F.AIR_CTL_WB0_EN && !m.on F.AIR_CTL_WB1_EN)
  | _ => !m.on F.MOT_CTL_EN

/-- The switchable domains. -/
def switchDoms : List Nat := [4, 5, 6, 9, 10, 11]

/-- PWR_DOM_EN is applied (R547): domains refused keep their bit, and DOM_REFUSED sets; in DOZE the value is held (R554). -/
def Mod.domApply (m : Mod) (k : Clock) (v : Nat) : Mod :=
  if m.pstate = 2 then { m with pwr := { m.pwr with domHeld := some v } }
  else m.each switchDoms fun m d =>
    let want := v.testBit d
    if want = m.bit R.PWR_DOM_EN d then m
    else if want then (m.cfgSet R.PWR_DOM_EN (m.rd R.PWR_DOM_EN ||| 2 ^ d)).domStart k d
    else if m.domIdle d then (m.cfgSet R.PWR_DOM_EN (m.rd R.PWR_DOM_EN &&& (0xFFFFFFFF - 2 ^ d))).domOff k d
    else m.pwrEvt 3

/-! ## Power states (R549 to R554) -/

/-- Every bound channel is at rest; DROPPED counts as at rest (R550, R554). -/
def Mod.allRest (m : Mod) : Bool := m.mot.ch.all fun e => let st := m.mst e.1; e.2.kind == 0 || !(decide (2 ≤ st) && decide (st ≤ 5))

def Mod.setPState (m : Mod) (st : Nat) : Mod := (m.setF F.PWR_STAT_STATE st).braceShow

/-- A request is judged (R550). -/
def Mod.pwrReq (m : Mod) (k : Clock) (v : Nat) : Mod :=
  let m := m.cfgSet R.PWR_REQ v
  match m.pstate with
  | 0 =>
    if v = 0 then m
    else if m.role = 1 ∨ m.role = 2 ∨ m.updState = 6 then m.pwrEvt 2
    else
      let m : Mod := { m with pwr := { m.pwr with heelTick := some (k.tickNo + 1) } }
      (m.setF F.PWR_STAT_TARGET v).setPState 1
  | 1 => if v = 0 then ({ (m.setF F.PWR_STAT_TARGET 0) with pwr := { m.pwr with heelTick := none } }).setPState 0 else m.pwrEvt 2
  | 2 =>
    if v = 0 then
      let held := m.pwr.domHeld
      let m : Mod := { m with pwr := { m.pwr with wakeAt := k.raw, hibPending := false, domHeld := none } }
      let m := (m.setF F.PWR_STAT_TARGET 0).setPState 3
      let m := match held with | some w => m.domApply k w | none => m
      m.each (switchDoms.filter fun d => m.bit R.PWR_DOM_EN d) fun m d => m.domStart k d
    else if v = 2 then Mod.setF { m with pwr := { m.pwr with hibPending := true } } F.PWR_STAT_TARGET 2
    else m
  | _ => m.pwrEvt 2

/-- DOZE_ENTRY ends at a boundary (R550 step 5); `k` the clock of the tick that begins. -/
def Mod.dozeSilence (m : Mod) (k : Clock) : Mod :=
  match m.pwr.heelTick with
  | some t =>
    if m.pstate = 1 ∧ t ≤ k.tickNo ∧ (m.allRest ∨ t + m.heelMax ≤ k.tickNo) then m.setPState 4 else m
  | none => m

/-- Channels at work go to DOZE_OFF (R145 step 13). -/
def Mod.chDoze (m : Mod) (k : Clock) : Mod :=
  m.each (m.busyCh.filter fun c => decide (1 ≤ m.chState c) && decide (m.chState c ≤ 4)) fun m c => m.chEnter k c 7

/-- The transition of step 6 (R550, R551): DOZE, or HIBERNATE. -/
def Mod.dozeEnter (m : Mod) (k : Clock) : Clock × Mod :=
  if m.pstate ≠ 4 ∨ k.phase ≠ 0 ∨ k.raw < m.pwr.lastToken + msRaw 30 then (k, m)
  else if m.fld F.PWR_STAT_TARGET = 2 then m.powerDown k 1
  else
    let m := (m.setF F.PWR_STAT_TARGET 0).setPState 2
    let m := (m.chDoze k)
    let m := ((m.clrBit R.PWR_DOM_STAT 4).clrBit R.PWR_DOM_STAT 5)
    let m := ((m.domOff k 6).domOff k 9).domOff k 10
    let m : Mod := { m with pwr := { m.pwr with heelTick := none, settling := [] } }
    (k, (m.inc R.PWR_DOZE_CNT).pwrEvt 0)

/-- A HIBERNATE request in DOZE takes effect (R550 step 8). -/
def Mod.hibEnter (m : Mod) (k : Clock) : Clock × Mod :=
  if m.pstate = 2 ∧ m.pwr.hibPending then m.powerDown k 1 else (k, m)

/-- The first RUN tick (R552). -/
def Mod.runResume (m : Mod) (k : Clock) : Mod :=
  if m.pstate ≠ 3 ∨ k.phase ≠ 0 ∨ k.raw < m.pwr.wakeAt + msRaw 50 then m
  else
    let m : Mod := { m with gnss := { m.gnss with burst := none } }
    (((m.setB F.PWR_STAT_BURST false).setPState 0).lapseAll).pwrEvt 1

/-! ## Bursts (R165, R166) -/

/-- BURST in use: 10 to 50 ticks. -/
def Mod.burstTicks (m : Mod) : Nat := min 50 (max 10 (m.rd R.GNSS_DOZE_CTL % 64))

/-- A burst begins at a boundary on a whole second, while GNSS is enabled and its domains are selected. -/
def Mod.burstStart (m : Mod) (k : Clock) : Mod :=
  if m.awake || m.gnss.burst.isSome || k.tickNo % 100 != 0 || !m.on F.GNSS_CTL_EN || !m.bit R.PWR_DOM_EN 4 || !m.bit R.PWR_DOM_EN 5 then m
  else
    let m := ((m.setBit R.PWR_DOM_STAT 4).setBit R.PWR_DOM_STAT 5).setB F.PWR_STAT_BURST true
    { m with gnss := { m.gnss with burst := some k.tickNo } }

/-- A burst ends at a boundary, with the set of its last tick. -/
def Mod.burstEnd (m : Mod) (k : Clock) (s : Option MeasSet) : Mod :=
  match m.gnss.burst with
  | none => m
  | some b =>
    if k.tickNo < b + m.burstTicks then m
    else
      let fix := match s with | some s => if s.fixValid then some s.fixErr else none | none => none
      let m := m.incF F.GNSS_DOZE_STAT_BURSTS
      let m := match fix with
        | some e =>
          let m := m.setF F.GNSS_DOZE_STAT_MISS 0
          if m.timeSrc = 0 then { m with time := { m.time with newErr := some e } } else m
        | none =>
          let n := m.fld F.GNSS_DOZE_STAT_MISS
          let m := m.satF F.GNSS_DOZE_STAT_MISS
          if n = 2 then { (m.gnssEvt 10) with time := { m.time with dozeLost := true } } else m
      let m : Mod := { m with gnss := { m.gnss with burst := none } }
      let m := (m.chDoze k).setB F.PWR_STAT_BURST false
      if m.pstate = 2 then (m.clrBit R.PWR_DOM_STAT 4).clrBit R.PWR_DOM_STAT 5 else m

/-! ## Meanings: power states -/

/-- PWR_REQ: the complement written to PWR_REQ_INV (R550). -/
def execPwrReq (dt comp : Nat) (s : State) : Res :=
  .next (s.ev dt fun k m => m.commit k R.PWR_REQ comp fun m v => if m.running then m.pwrReq k v else m)

/-- DOMAIN_SETTLED: a domain switched on has settled; one of a tick-bound block starts at its boundary (R548). -/
def execDomainSettled (dt d : Nat) (s : State) : Res :=
  .next (s.ev dt fun k m =>
    match AMap.find m.pwr.settling d with
    | none => m
    | some t =>
      if !tickDom d then m.domUp d
      else if decide (k.nextBoundary ≤ k.raw) && decide (t + msRaw 2 ≤ k.nextBoundary) then m.domUp d else m)

/-- DOZE_SILENCE: at the boundary now reached (R550 step 5). -/
def execDozeSilence (dt : Nat) (s : State) : Res :=
  .next (s.ev dt fun k m => if m.running && decide (k.nextBoundary ≤ k.raw) then m.dozeSilence k.beginTick else m)

/-- DOZE_ENTER: at the superframe boundary now reached (R550 step 6, R551). -/
def execDozeEnter (dt : Nat) (s : State) : Res :=
  .next (s.evClk dt fun k m =>
    if m.running && decide (k.nextBoundary ≤ k.raw) then
      match m.dozeEnter k.beginTick with | (c, m) => (if m.running then k else c, m)
    else (k, m))

/-- HIBERNATE_ENTER: at the boundary now reached (R550 step 8). -/
def execHibernateEnter (dt : Nat) (s : State) : Res :=
  .next (s.evClk dt fun k m =>
    if m.running && decide (k.nextBoundary ≤ k.raw) then
      match m.hibEnter k.beginTick with | (c, m) => (if m.running then k else c, m)
    else (k, m))

/-- RUN_RESUME: at the superframe boundary now reached (R552). -/
def execRunResume (dt : Nat) (s : State) : Res :=
  .next (s.ev dt fun k m => if m.running && decide (k.nextBoundary ≤ k.raw) then m.runResume k.beginTick else m)

/-- DOZE_BURST_START: at the boundary now reached (R165). -/
def execDozeBurstStart (dt : Nat) (s : State) : Res :=
  .next (s.ev dt fun k m => if m.running && decide (k.nextBoundary ≤ k.raw) then m.burstStart k.beginTick else m)

/-- DOZE_BURST_END: at the boundary now reached (R166). -/
def execDozeBurstEnd (dt : Nat) (s : State) : Res :=
  .next (s.ev dt fun k m => if m.running && decide (k.nextBoundary ≤ k.raw) then m.burstEnd k.beginTick m.gnss.set_ else m)

/-! ## Meanings: resets (R555 to R559) -/

/-- PWR_SOFT_RESET: the complement written to PWR_SOFT_RESET_INV (R559). -/
def execPwrSoftReset (dt comp : Nat) (s : State) : Res :=
  .next (s.ev dt fun k m => m.commit k R.PWR_SOFT_RESET comp fun m v => (m.cfgSet R.PWR_SOFT_RESET v).softReset k v)

/-- GLB_SW_RESET: the complement written to its complement word (R555 kind 5). -/
def execGlbSwReset (dt comp : Nat) (s : State) : Res :=
  .next (s.evClk dt fun k m =>
    let m := m.commit k R.GLB_SW_RESET comp fun m v => m.wr R.GLB_SW_RESET v
    if m.rd R.GLB_SW_RESET = 1 then m.beginReset k 5 false else (k, m))

/-- TAMPER_RESET: 2 ms after the detection (R512). -/
def execTamperReset (dt : Nat) (s : State) : Res :=
  .next (s.evClk dt fun k m =>
    match m.ken.tamperAt with
    | some t => if m.pwr.mode = 0 ∧ t + msRaw 2 ≤ k.raw then m.beginReset k 6 false else (k, m)
    | none => (k, m))

/-- RST_N: held low for 1 µs or more, with main power on (R555, R556). -/
def execRstN (dt : Nat) (s : State) : Res :=
  .next (s.evClk dt fun k m => if m.pwr.mode = 0 then m.beginReset k 3 false else (k, m))

/-- TIMEOUT of the watchdog in ms, as it acts. -/
def Mod.wdtMs (m : Mod) : Nat := min 10000 (max 100 (m.rd R.PWR_WDT_CTL % 16384))

/-- WATCHDOG_EXPIRY (R558). -/
def execWatchdogExpiry (dt : Nat) (s : State) : Res :=
  .next (s.evClk dt fun k m => if m.running && decide (m.pwr.fedAt + msRaw m.wdtMs ≤ k.raw) then m.beginReset k 4 false else (k, m))

/-- BROWN_OUT: `off` when VIN stays away, so that the module is OFF; else it resets (R555 kind 2, R560). -/
def execBrownOut (dt : Nat) (off : Bool) (s : State) : Res :=
  .next (s.evClk dt fun k m =>
    if m.pwr.mode = 2 then (k, m)
    else
      let r := if off then m.powerDown k 2 else m.beginReset k 2 false
      if m.pwr.vbatOk then r
      else if off then (r.1, r.2.aonLost) else (r.1, r.2.aonLost.aonStart k))

/-- POWER_ON: VIN rises after OFF; `nothing` where AON is unpowered then, and whether VBAT is present (R555 kind 1). -/
def execPowerOn (dt : Nat) (nothing vbat : Bool) (s : State) : Res :=
  .next (s.evClk dt fun k m =>
    if m.pwr.mode ≠ 2 then (k, m)
    else
      let m := if nothing || !m.pwr.aonOk then m.aonLost.aonStart k else m
      ({ m with pwr := { m.pwr with vbatOk := vbat } }).beginReset k 1 false)

/-- VBAT_LOSS: while main power is off (R488, R560). -/
def execVbatLoss (dt : Nat) (s : State) : Res :=
  .next (s.ev dt fun _ m => if m.pwr.mode = 2 then { m.aonLost with pwr := { m.aonLost.pwr with vbatOk := false } } else m)

/-- WAKE_PIN: WAKE_N held low for 10 ms (R553). -/
def execWakePin (dt : Nat) (s : State) : Res :=
  .next (s.evClk dt fun k m => if m.pwr.mode = 1 ∧ m.bit R.PWR_WAKE_CTL 0 = true then m.beginReset k 7 false else (k, m))

/-- WAKE_ALARM: KEN_AON_SEC has reached PWR_WAKE_SEC (R553). -/
def execWakeAlarm (dt : Nat) (s : State) : Res :=
  .next (s.evClk dt fun k m =>
    if m.pwr.mode = 1 ∧ m.bit R.PWR_WAKE_CTL 1 = true ∧ m.rd R.PWR_WAKE_SEC ≤ m.aonSec k then m.beginReset k 7 false else (k, m))

/-- PERST_N: the PCIe endpoint and the RING block (R557). Ring state is lost; RING's configuration is kept. -/
def execPerstN (dt : Nat) (s : State) : Res :=
  .next (s.ev dt fun _ m =>
    if m.pwr.mode ≠ 0 then m
    else { m with ring := RingBlk.reset, live := m.live.filter fun e => blockOf e.1 != some 2 || walkMask e.1 != 0 })

/-! ## Meanings: counts and supply -/

/-- OP_SEC_COUNT: a second of CTRL power has passed (R566). -/
def execOpSecCount (dt : Nat) (s : State) : Res :=
  .next (s.ev dt fun k m =>
    if m.pwr.mode ≠ 0 ∨ k.raw < m.pwr.opAt + secRaw 1 then m
    else
      let m : Mod := { m with pwr := { m.pwr with opAt := m.pwr.opAt + secRaw 1 }, nv := { m.nv with opSec := m.nv.opSec + 1 } }
      m.wr R.PWR_OP_SEC m.nv.opSec)

/-- VIN_LOW: VIN, in mV, has been below 4.5 V for 1 ms (R567, R601). -/
def execVinLow (dt mV : Nat) (s : State) : Res :=
  .next (s.ev dt fun _ m => if m.barUp && decide (mV < 4500) then (m.wr R.PWR_SUPPLY (m.rd R.PWR_SUPPLY / 65536 * 65536 + mV)).pwrEvt 4 else m)

/-- OVERTEMP: the frame temperature, in 0.01 °C, above +85 °C (R567, R621). -/
def execOvertemp (dt : Nat) (temp : Int) (s : State) : Res :=
  .next (s.ev dt fun _ m => if m.barUp && decide (8500 < temp) then (m.wr R.PWR_TEMP (unsigned 16 temp)).pwrEvt 5 else m)

end Sys2Proof.Machine
end

