-- ==== Sys2Proof/Machine/Apply.lean ====
section
/-! DEFINITION. Applies (R71 to R77, R25): the copies of the selected blocks, the cases some registers hold back, and what follows. -/

namespace Sys2Proof.Machine

/-- GRAPH, MODE and EN of ROVER_POS_CTL, which R203 holds back together. -/
def posHeld : Nat := 0xFF07

/-- The value an apply gives ROVER_POS_CTL of a rover: with `hold` the three fields of R203 keep theirs. -/
def Mod.posNew (m : Mod) (hold : Bool) (r : Nat) : Nat :=
  let a := R.ROVER_POS_CTL r
  let sh := m.rdSh a
  if hold then (m.rd a &&& posHeld) ||| (sh &&& (0xFFFFFFFF - posHeld)) else sh

/-- LOAD_CHECK of an apply that covers ROVER: a change of GRAPH, MODE or EN would overload a phase (R203). -/
def Mod.posRefused (m : Mod) : Bool :=
  ((upto 256).any fun r => ((m.rd (R.ROVER_POS_CTL r)) &&& posHeld) != ((m.rdSh (R.ROVER_POS_CTL r)) &&& posHeld))
    && m.overload fun r => m.rdSh (R.ROVER_POS_CTL r)

/-- Whether an offset is some rover's ROVER_POS_CTL. -/
def isPosCtl (a : Nat) : Bool :=
  decide (R.ROVER_POS_CTL 0 ≤ a) && decide (a ≤ R.ROVER_POS_CTL 255) && (a - R.ROVER_POS_CTL 0) % (R.ROVER_POS_CTL 1 - R.ROVER_POS_CTL 0) == 0

/-- ROVER's copies (R203). -/
def Mod.applyRover (m : Mod) : Mod :=
  let hold := m.posRefused
  let m := m.applyStb 15 isPosCtl
  let m := m.each (upto 256) fun m r =>
    let v := m.posNew hold r
    if m.rd (R.ROVER_POS_CTL r) = v then m else m.cfgSet (R.ROVER_POS_CTL r) v
  if hold then m.packEvt 5 else m

/-- One block's copies; PWR_DOM_EN is judged after every copy (R547), inconsistent assignments are held back (R143). -/
def Mod.applyBlock (m : Mod) (b : Nat) : Mod :=
  match b with
  | 0 => m.applyStb 0 fun a => a == R.PWR_DOM_EN
  | 9 =>
    let held := (m.dirty .stb (some 9)).filter m.asgHold
    (m.applyStb 9 m.asgHold).each held fun m a => m.setB (F.GNSS_CH_STAT_BAD_ASSIGN ((a - R.GNSS_CH_ASSIGN 0) / 0x100)) true
  | 15 => m.applyRover
  | b => m.applyStb b fun _ => false

/-- Outputs whose schedule registers are among the offsets changed (R240). -/
def pulsesOf (changed : List Nat) : List Nat :=
  (upto 8).filter fun i => changed.any fun a =>
    a == R.TIME_PULSE_CTL i || a == R.TIME_PULSE_START_LO i || a == R.TIME_PULSE_START_HI i || a == R.TIME_PULSE_PERIOD i || a == R.TIME_PULSE_WIDTH i

/-- LEASH_CTL.HEEL_PIN_EN changes while the pin is asserted (R417). -/
def Mod.heelPinApplied (m old : Mod) : Mod :=
  let now := m.on F.LEASH_CTL_HEEL_PIN_EN
  if now && !old.on F.LEASH_CTL_HEEL_PIN_EN && m.leash.heelPin then m.heelSet 0 else m

/-- What follows the copies of a block; `old` is the module before them, `changed` the offsets changed. -/
def Mod.blockApplied (m : Mod) (k : Clock) (old : Mod) (changed : List Nat) (b : Nat) : Mod :=
  match b with
  | 1 => (m.each (pulsesOf changed) fun m i => m.pulseApplied k i).srcUse
  | 3 =>
    if m.on F.PERF_CTL_DUMP_EN && !old.on F.PERF_CTL_DUMP_EN then
      { m with perf := { m.perf with asked := m.perf.asked ++ [{ reason := 2, tag := 0, noResult := true, acceptTick := 0 }] } }
    else m
  | 5 => m.heelPinApplied old
  | 6 => m.braceShow.kenShow
  | 9 => m.gnssApplied k changed
  | 10 => m.packApplied old true
  | 12 => m.each ((upto 256).filter fun c => changed.contains (R.MOT_CH_BIND c)) fun m c => m.motBind k c
  | 13 => m.airApplied k old
  | 14 => m.each (upto 10) Mod.portShow
  | 15 => (m.packApplied old false).airApplied k old
  | _ => m

/-- The copies and consequences of an apply of powered blocks, in ascending block order; PWR_DOM_EN last (R73, R547, R548). -/
def Mod.applyBlocks (m : Mod) (k : Clock) (bs : List Nat) : Mod :=
  let old := m
  let dom := m.rdSh R.PWR_DOM_EN
  let changed := bs.flatMap fun b => m.dirty .stb (some b)
  let m := m.each bs Mod.applyBlock
  let changed := changed.filter fun a => m.rd a != old.rd a
  let m := m.each bs fun m b => m.blockApplied k old changed b
  if bs.contains 0 then m.domApply k dom else m

/-- REF_IN no longer serves once REF_EN is 0 (R227). -/
def Mod.refOff (m : Mod) (k : Clock) : Clock × Mod :=
  if m.on F.TIME_STAT_REF_LOCK && !m.on F.TIME_SRC_CTL_REF_EN then (refMove k m, m.took.setB F.TIME_STAT_REF_LOCK false) else (k, m)

/-- Blocks of a mask that an apply copies, each judged by R74; a powered-off one sets PWR_OFF_ACCESS. -/
def Mod.applyTakes (m : Mod) (mask : Nat) : List Nat := (upto 16).filter fun b => mask.testBit b && !m.tickMode b && m.blkOn b

/-- A pending apply takes place; `t` is the clock of the tick its instant lies in, `at_` the instant (R73 to R77). -/
def Mod.applyAt (m : Mod) (k t : Clock) (at_ mask : Nat) : Clock × Mod :=
  let off := (upto 16).filter fun b => mask.testBit b && !m.tickMode b && !m.blkOn b
  let m := m.each off fun m _ => m.glbErr 2 R.GLB_APPLY
  let m := m.applyBlocks k (m.applyTakes mask)
  (m.applyDone t.tick (t.subNs at_)).refOff k

/-- The apply whose instant has come takes place (R73). -/
def Mod.applyDue (m : Mod) (k : Clock) : Clock × Mod :=
  match m.glb.apply with
  | some (at_, mask) => if m.barUp && decide (at_ ≤ k.raw) then m.applyAt k k at_ mask else (k, m)
  | none => (k, m)

/-- Configuration of TICK-mode blocks applies at a boundary (R25, R72), but not while strobes are refused (R84). -/
def Mod.applyTick (m : Mod) (k : Clock) : Clock × Mod :=
  if m.on F.GLB_CFG_STAT_REFUSING then (k, m)
  else (m.applyBlocks k ((upto 16).filter fun b => m.tickMode b && m.blkOn b)).refOff k

/-- APPLY_INSTANT (R73 to R77): an instant on a tick boundary belongs to the boundary's own work (R627). -/
def execApplyInstant (dt : Nat) (s : State) : Res :=
  .next (s.evClk dt fun k m =>
    match m.glb.apply with
    | some (at_, _) => if at_ < k.nextBoundary then m.applyDue k else (k, m)
    | none => (k, m))

end Sys2Proof.Machine
end

