-- ==== Sys2Proof/Machine/Startup.lean ====
section
/-! DEFINITION. Start-up (R563 to R565): the boot record, the settings store and its trial copy, keys, images, the first tick. -/

namespace Sys2Proof.Machine

/-! ## Settings (R12, R560) -/

/-- The bits of a register that the settings store may set. -/
def settingMask (a : Nat) : Nat := match rowOf a with | some r => if r.counter then 0 else r.rwm | none => 0

/-- A register takes bits of a value, in its live copy and, where it has one, its shadow. -/
def Mod.loadBits (m : Mod) (a mask v : Nat) : Mod :=
  let w := (m.rd a &&& (0xFFFFFFFF - mask)) ||| (v &&& mask)
  let m := m.wr a w
  match rowOf a with
  | some r => if r.app == .stb || r.app == .tck then m.wrSh a w else m
  | none => m

/-- One register of the settings store; the registers of AON only after AON has started from nothing (R521, R555). -/
def Mod.loadSetting (m : Mod) (e : Nat × Word) : Mod :=
  if aonReg e.1 && !m.pwr.aonFresh then m else (m.loadBits e.1 (settingMask e.1) e.2.toNat).calApply e.1

/-- Configuration of the powered domains TIME and SW goes back to its reset values before the store is loaded (R560). -/
def Mod.warmConfig (m : Mod) : Mod :=
  let ks := ((m.live.map Prod.fst) ++ (m.shadow.map Prod.fst)).filter fun a => warmReg a && walkMask a != 0
  m.each ks.eraseDups fun m a => (m.loadBits a (walkMask a) (regReset a).toNat).calApply a

/-- The settings store is loaded into live configuration (R560, R563 step 6). -/
def Mod.loadSettings (m : Mod) (k : Clock) : Mod :=
  let old := m
  let m := m.warmConfig.each m.nv.settings Mod.loadSetting
  let m : Mod := { m with rcd := { m.rcd with lists := m.nv.snap }, pwr := { m.pwr with aonFresh := false } }
  let pulse (m : Mod) (i : Nat) : List Nat :=
    [m.rd (R.TIME_PULSE_CTL i), m.rd (R.TIME_PULSE_START_LO i), m.rd (R.TIME_PULSE_START_HI i), m.rd (R.TIME_PULSE_PERIOD i), m.rd (R.TIME_PULSE_WIDTH i)]
  let m := m.each ((upto 8).filter fun i => pulse m i != pulse old i) fun m i => m.pulseApplied k i
  m.srcUse

/-- The bytes of the settings image that MEAS2 measures; their layout is the model's (log entry 3). -/
def Mod.settingsImage (m : Mod) : List Byte := m.nv.settings.flatMap fun e => le 4 e.1 ++ le 4 e.2.toNat

/-! ## The boot record (R524, R525, R531) -/

/-- The boot ROM may boot a bank set. -/
def UpdSt.bootable (u : UpdSt) (i : Nat) : Bool := (u.bank i).valid && decide (u.fused ≤ (u.bank i).svn)

/-- What the boot ROM makes of the boot record: the record afterwards, and whether it fell back; none when no set is bootable. -/
def UpdSt.bootRom (u : UpdSt) : Option (UpdSt × Bool) :=
  match u.copy with
  | none => none
  | some _ =>
    let r := u.rec_
    let back := r.trial && decide (1 ≤ r.count)
    let run := if back then 1 - r.run else r.run
    if u.bootable run then
      some (if back then u.bootWrite { r with run := run, trial := false, count := 0 }
        else if r.trial then u.bootWrite { r with count := 1 } else u, back)
    else if u.bootable (1 - run) then some (u.bootWrite { r with run := 1 - run, trial := false, count := 0 }, true)
    else none

/-! ## Measurements (R494) -/

/-- The boot ROM's, the loader's and Liroron's measurements. -/
def Mod.measureAll (m : Mod) : Mod :=
  let parts := (m.upd.bank m.upd.runBank).parts
  let m := m.extend 0 (Config.sha384 (nth [] parts 0))
  let m := m.each (parts.drop 1) fun m p => m.extend 1 (Config.sha384 p)
  (m.extend 3 (Config.sha384 Config.firmwareKey)).extend 2 (Config.sha384 m.settingsImage)

/-! ## Trial settings (R536, R539) -/

/-- The settings that a trial starts from: the current copy, or the previous one for a ROLLBACK. -/
def Mod.trialSource (m : Mod) : SetCopy :=
  let cur : SetCopy := { regs := m.nv.settings, snap := m.nv.snap, keys := m.nv.keys, fmt := m.upd.fmt }
  if m.upd.back then m.upd.setPrev.getD cur else cur

/-- The first start-up of a trial: the trial copy is built, and the current copy is set aside; what MIGRATE writes is free (log
entry 2). -/
def Mod.trialSettings (m : Mod) : Mod :=
  let cur : SetCopy := { regs := m.nv.settings, snap := m.nv.snap, keys := m.nv.keys, fmt := m.upd.fmt }
  let src := m.trialSource
  let fmt := (m.upd.bank m.upd.runBank).setFmt
  let same := src.fmt == fmt
  let regs := if same then src.regs else src.regs.map fun e => (e.1, BitVec.ofNat 32 (Config.freeNat (536000000 + e.1) m.seed))
  let m := if same then m else m.took.setB F.UPD_STAT_SETTINGS_MIGRATED true
  { m with
    nv := { m.nv with settings := regs, snap := src.snap, keys := src.keys }
    upd := { m.upd with setCur := some cur, fmt := fmt } }

/-- A fallback: the current copy serves again, and the trial copy is discarded (R537). -/
def Mod.settingsBack (m : Mod) : Mod :=
  match m.upd.setCur with
  | none => m
  | some c => { m with
      nv := { m.nv with settings := c.regs, snap := c.snap, keys := c.keys }
      upd := { m.upd with setCur := none, fmt := c.fmt } }

/-- The migration fails: the stored format is below SET_FROM, or MIGRATE itself fails (R536). -/
def Mod.migrationFails (m : Mod) (migOk : Bool) : Bool :=
  let b := m.upd.bank m.upd.runBank
  m.trialSource.fmt != b.setFmt && (decide (m.trialSource.fmt < b.setFrom) || !migOk)

/-! ## The steps -/

/-- Domains powered at step 2, besides those powered already (R546, R563). -/
def Mod.domsPower (m : Mod) : Mod := m.wr R.PWR_DOM_STAT (m.rd R.PWR_DOM_STAT ||| 0x18F ||| (m.rd R.PWR_DOM_EN &&& 0xE70))

/-- Tamper records not yet logged are written to the recorder, oldest first (R514, R572). -/
def Mod.tamperRecords (m : Mod) (k : Clock) : Mod :=
  let l := (m.ken.log.take m.ken.unlogged).reverse
  let m := m.each l fun m e => m.recTrig k 2 ((tamperWords e).flatMap (le 4))
  let m : Mod := { m with ken := { m.ken with unlogged := 0 } }
  if l.isEmpty then m else m.kenEvt 0

/-- Torn records are discarded and counted (R571). -/
def Mod.tornRecords (m : Mod) : Mod :=
  if m.rcd.torn = 0 then m
  else (Mod.incBy { m with rcd := { m.rcd with torn := 0 } } R.REC_TORN_CNT m.rcd.torn).recEvt 3

/-- Images whose LIRORON_MIN is above the running version are not loaded (R541, R630). -/
def Mod.imagesCheck (m : Mod) : Mod :=
  let ok (v : Nat) : Bool := decide (v ≤ m.rd R.GLB_FW_VER)
  { m with
    pack := { m.pack with graphs := m.pack.graphs.filter fun e => ok e.2.minVer }
    shep := { m.shep with
      restore := m.shep.restore.filter fun n => ok n.minVer
      loaded := m.shep.loaded.filter fun n => ok n.minVer } }

/-- PWR_RESET_CAUSE of this start-up (R567). -/
def Mod.resetCause (m : Mod) : Nat :=
  m.pwr.kind + (if m.pwr.activation then 16 else 0) + (if m.upd.fellBack then 32 else 0)

/-- The start-up enters RESET_LOG (R568). -/
def Mod.resetLogPush (m : Mod) : Mod :=
  let w (n : Nat) : Word := BitVec.ofNat 32 n
  let e := [w m.resetCause, w m.pwr.opAtReset, w m.pwr.aonAtReset, w m.nv.cycles]
  { m with nv := { m.nv with resetLog := (e :: m.nv.resetLog).take 4 } }

/-- Identity registers and counts before BAR0 responds (R89, R544, R566, R567). -/
def Mod.identity (m : Mod) : Mod :=
  let b := m.upd.bank m.upd.runBank
  let m := (m.wr R.GLB_FW_VER b.fwVer).wr R.GLB_FW_BUILD b.fwBuild
  let m := ((m.wr R.PWR_RESET_CAUSE m.resetCause).wr R.PWR_OP_SEC m.nv.opSec).wr R.PWR_CYCLE_CNT m.nv.cycles
  m.updShow

/-- UPD after a fallback: its cause, ROLLED_BACK, the count (R528 step 11, R537). -/
def Mod.rolledBack (m : Mod) (k : Clock) : Mod :=
  let last := m.upd.lastDue.getD 3
  let m := (m.updAt fun u => { u with lastDue := none }).setLast k last
  (m.inc R.UPD_ROLLBACK_CNT).updEvt 5

/-- UPD_STAT.STATE at start-up (R528 steps 9 and 11). -/
def Mod.updStart (m : Mod) : Mod :=
  if m.upd.rec_.trial then m.setUpdState 6
  else m.setUpdState (if m.upd.staged.isEmpty then 0 else 1)

/-- Steps 6 to 9 of R563, once the settings in use are known. -/
def Mod.bringUp (m : Mod) (k : Clock) (rolled : Bool) : Clock × Mod :=
  let m := ((m.kenDecide).loadSettings k).domsPower
  let m := m.measureAll.identity
  let m := ((m.tornRecords.retireAll.keyAutoload).tamperRecords k).imagesCheck
  let m := m.updStart
  let m := if rolled then m.rolledBack k else m
  let m := m.resetLogPush
  let m : Mod := { m with pwr := { m.pwr with step := 9, fedAt := k.raw } }
  let m := m.each (upto 256) fun m c => if m.fld (F.MOT_CH_BIND_KIND c) = 0 then m else m.motBind k c
  let m := (m.each (upto 10) Mod.portShow).loadShow
  let m := (m.airApplied k m).airAssign k
  let m := if m.leash.heelPin && m.on F.LEASH_CTL_HEEL_PIN_EN then m.heelSet 0 else m
  (k.catchUp, m.srchStat.braceShow.kenShow)

/-- Steps 1 to 9 of R563 for a set that boots: what a trial builds first, and what it ends at once (R536, R537). `fell`: the boot ROM
fell back; `trial`: a trial was marked before. -/
def Mod.bootUp (m : Mod) (k : Clock) (fell trial migOk selfOk : Bool) : Clock × Mod :=
  let m := m.updAt fun u => { u with fellBack := fell }
  if fell then m.settingsBack.bringUp k trial
  else if !m.upd.rec_.trial then m.bringUp k false
  else if m.migrationFails migOk then m.trialFail k 4
  else if !selfOk then m.trialFail k 5
  else m.trialSettings.bringUp k false

/-- Start-up (R563, R565): FAILED at step 5 when no set boots. -/
def Mod.startUp (m : Mod) (k : Clock) (migOk selfOk : Bool) : Clock × Mod :=
  let cold := m.pwr.kind == 1 || m.pwr.kind == 2 || m.pwr.kind == 7
  let m : Mod := if cold then { m with nv := { m.nv with cycles := (m.nv.cycles + 1) % 4294967296 } } else m
  match m.upd.bootRom with
  | none => (k, { m with pwr := { m.pwr with step := 5, failed := true } })
  | some (u, fell) => Mod.bootUp { m with upd := u } k fell m.upd.rec_.trial migOk selfOk

/-- Step 10 of R563: the first tick, at the boundary where the tick of `k` begins. -/
def Mod.firstTick (m : Mod) (k : Clock) : Mod :=
  let m : Mod := { m with pwr := { m.pwr with step := 10, fedAt := k.raw } }
  let m := m.lapseAll.braceJoin k 0
  -- R175 step 4
  let m : Mod := if m.baseState = 0 ∧ m.fld F.PACK_BASE_CTL_SOURCE = 0 ∧ m.on F.PACK_BASE_CTL_AUTO_SURVEY = true then
      { m with pack := { m.pack with svyStart := true } } else m
  let m := m.recTrig k 3 (((m.nv.resetLog.headD []).map BitVec.toNat).flatMap (le 4))
  if m.upd.rec_.trial then (m.updAt fun u => { u with trialAt := some k.raw }).updEvt 3 else m

/-- START_UP: steps 1 to 9, once (R563). `migOk`, `selfOk`: MIGRATE and the release's own checks succeed (R536, R537). -/
def execStartUp (dt : Nat) (migOk selfOk : Bool) (s : State) : Res :=
  .next (s.evClk dt fun k m =>
    if m.pwr.mode = 0 ∧ m.pwr.step < 9 ∧ m.pwr.failed = false then m.startUp k migOk selfOk else (k, m))

end Sys2Proof.Machine
end

