-- ==== Sys2Proof/Machine/Mailbox.lean ====
section
/-! DEFINITION. The mailboxes (R64 to R68) and every item of them (R92, R173, R219, R257, R308, R356, R404, R431, R454, R487, R522, R545,
R568, R593, R595). -/

namespace Sys2Proof.Machine

/-! ## Items -/

/-- The 32-bit words of bytes, most significant byte first in each word (R92, R522). -/
def beWords (d : List Byte) : Nat → List Nat
  | 0 => []
  | n + 1 => ofBe ((d ++ [0, 0, 0, 0]).take 4) :: beWords (d.drop 4) n

/-- The two words of a 64-bit number, low word first. -/
def two (n : Nat) : List Nat := [n % 4294967296, n / 4294967296 % 4294967296]

/-- Words padded with 0, or cut, to a length. -/
def padTo (l : List Nat) (n : Nat) : List Nat := (l ++ List.replicate n 0).take n

/-- The words of a log of four-word entries, newest first (R431, R487, R568). -/
def logWords (l : List (List Word)) : List Nat := padTo ((l.flatten).map BitVec.toNat) 16

/-- An item that has one instance. -/
def only (inst : Nat) (w : List Nat) : Option (List Nat) := if inst = 0 then some w else none

/-- GLB: UNIT_SERIAL, FW_DIGEST (R92). -/
def Mod.mbxGlb (m : Mod) (item inst : Nat) : Option (List Nat) :=
  match item with
  | 0 => only inst ((upto 4).map fun i => (Config.unitSerial i).toNat)
  | 1 => only inst (beWords (m.measReg 1) 12)
  | _ => none

/-- TIME: NOW, HO_MODEL (R257). -/
def Mod.mbxTime (m : Mod) (k : Clock) (item inst : Nat) : Option (List Nat) :=
  match item with
  | 0 =>
    let t := k.now
    only inst (two (Clock.fullNs t) ++ [Clock.frac t + m.tstate * 16 + Clock.wrap t * 65536, k.tick, k.phase + k.sf * 65536, m.uncNow k]
      ++ two (k.raw - m.pwr.rawBase))
  | 2 => only inst (two m.time.origin ++ [unsigned 16 m.time.temp0, (m.time.u0 + 999) / 1000 % 4294967296])
  | _ => none

/-- PERF: COUNTER, CATALOGUE (R593). -/
def Mod.mbxPerf (m : Mod) (item inst : Nat) : Option (List Nat) :=
  match item with
  | 0 => if inst < 54 then some (two (m.perfEntry inst)) else none
  | 1 => only inst ((upto 27).map fun i => perfIds.getD (2 * i) 0 + perfIds.getD (2 * i + 1) 0 * 65536)
  | _ => none

/-- REC: SNAP_LIST (R595). -/
def Mod.mbxRec (m : Mod) (item inst : Nat) : Option (List Nat) :=
  if item = 0 ∧ inst < 16 then
    let l := (AMap.find m.rcd.lists inst).getD []
    some (padTo (l.length :: l) 65)
  else none

/-- BRACE: PARTNER, ROLE_LOG (R487). -/
def Mod.mbxBrace (m : Mod) (item inst : Nat) : Option (List Nat) :=
  match item with
  | 0 => only inst (match m.brace.partner with
      | none => padTo [] 8
      | some p => padTo (p.serial.map BitVec.toNat) 4 ++ [p.fwVer, p.bverMin + p.bverMax * 256 + p.role % 8 * 65536, p.tick, 0])
  | 1 => only inst (logWords m.brace.roleLog)
  | _ => none

/-- SLOT_PUB: the public key of a P256 or P384 slot (R522). -/
def Mod.slotPub (m : Mod) (s : Nat) : Option (List Nat) :=
  let t := m.fld (F.KEN_SLOT_STAT_TYPE s)
  let key := m.slotKey s
  if 63 < s ∨ m.slotState s ≠ 1 then none
  else
    let words (pub : List Byte) : List Nat := if t = 3 ∨ t = 5 then padTo (beWords pub 16) 24 else beWords pub 24
    if t = 3 ∨ t = 4 then some (words (Config.publicKey key)) else if t = 5 ∨ t = 6 then some (words key) else none

/-- KEN (R522). -/
def Mod.mbxKen (m : Mod) (item inst : Nat) : Option (List Nat) :=
  match item with
  | 0 => if inst < 8 then some (beWords (m.measReg inst) 12) else none
  | 1 => only inst (beWords (Config.publicKey (m.slotKey 1)) 24)
  | 2 => m.slotPub inst
  | 3 => only inst (padTo (m.ken.log.flatMap fun e => tamperWords e ++ two e.time) 16)
  | 4 =>
    let t := m.fld (F.KEN_SLOT_STAT_TYPE inst)
    if inst < 64 ∧ m.slotState inst = 1 ∧ (t = 2 ∨ t = 7) then some (wordsOf (kcv (m.slotKey inst)) 2) else none
  | 5 => only inst (m.ken.loadCnt :: wordsOf ((upto 60).map fun i => BitVec.ofNat 8 (AMap.get (fun _ => 0) m.ken.loadLog (i + 4))) 15)
  | _ => none

/-- UPD: STAGED_MANIFEST, BANK_INFO (R545). -/
def Mod.mbxUpd (m : Mod) (item inst : Nat) : Option (List Nat) :=
  match item with
  | 0 => only inst (wordsOf m.upd.verified 16)
  | 1 =>
    if 1 < inst then none
    else
      let b := m.upd.bank inst
      let digest := (b.parts.drop 1).foldl (fun a p => Config.sha384 (a ++ Config.sha384 p)) (List.replicate 48 0)
      some ([b.fwVer, b.fwBuild, b.svn, (if b.valid then 1 else 0) + (if m.upd.runBank = inst then 2 else 0) + b.setFmt % 65536 * 65536]
        ++ beWords digest 12)
  | _ => none

/-- GNSS: CH_MEAS, CH_ACC, SV_STATUS (R173). -/
def Mod.mbxGnss (m : Mod) (k : Clock) (item inst : Nat) : Option (List Nat) :=
  match item with
  | 0 => if inst < 320 then some (padTo ((m.gch inst).meas.map BitVec.toNat) 12) else none
  | 1 => if inst < 320 then some (padTo ((m.gch inst).acc.map BitVec.toNat) 6) else none
  | 2 =>
    match instSv inst with
    | none => none
    | some (sys, sv) =>
      let e := m.ephOf sys sv
      let age := if e.current then min 65535 ((k.raw - e.at_) / 1250000000) else 0
      let dir := match m.gnss.sky.find? fun v => v.sys == sys && v.sv == sv with
        | some v => unsigned 16 v.elev + unsigned 16 v.azim * 65536
        | none => 0
      let sigs := (m.busyCh.filter fun c => m.chState c == 3 && asgSys (m.asg c) == sys && asgSv (m.asg c) == sv).map fun c => asgSig (m.asg c)
      some [dir, (if e.healthy then 1 else 0) + (if e.current then 2 else 0) + age * 65536, (sigs.eraseDups.map (2 ^ ·)).sum, 0]
  | _ => none

/-- A position as words 0 to 5 of BASE_POS. -/
def posWords (x y z : Int) : List Nat := two (unsigned 64 x) ++ two (unsigned 64 y) ++ two (unsigned 64 z)

/-- The largest axis standard deviation of the survey's mean in mm, rounded up (R176, R219). -/
def Mod.svySd (m : Mod) : Nat :=
  let n := m.pack.svyN
  if n < 2 then 0
  else
    let ax (i : Nat) : Nat :=
      let s := (nth 0 m.pack.svySum i).natAbs
      ceilSqrt ((60 * (n * nth 0 m.pack.svySq i - s * s) + 100 * n * n * (n - 1) - 1) / (100 * n * n * (n - 1)))
    max (ax 0) (max (ax 1) (ax 2))

/-- GRAPH_INFO (R219). -/
def Mod.graphInfo (m : Mod) (g : Nat) : Option (List Nat) :=
  match m.graphOf g with
  | none => none
  | some x => some [1 + (if g < 16 then 2 else 0) + (if x.flags.testBit 0 then 4 else 0) + x.maxSig * 256 + x.minSat * 65536, x.scratch,
      x.flopDecl, x.nOps + x.nBuf * 65536, m.graphUsers g, x.serial, 0, 0]

/-- PACK (R219). -/
def Mod.mbxPack (m : Mod) (item inst : Nat) : Option (List Nat) :=
  match item with
  | 0 => only inst (match m.pack.base with
      | some b => posWords b.x b.y b.z ++ [unsigned 32 b.arpH, b.acc]
      | none => padTo [] 8)
  | 1 => only inst (posWords m.svyMean.x m.svyMean.y m.svyMean.z ++ [m.svySd, m.pack.svyN])
  | 2 => only inst (padTo (m.pack.desc.map BitVec.toNat) 32)
  | 3 => m.graphInfo inst
  | 0x10 => if inst < 256 then some (wordsOf (recBytes inst (m.rv inst).record) 24) else none
  | 0x11 => if inst < 256 then some (padTo ((m.rv inst).cov.map BitVec.toNat) 42) else none
  | 0x12 =>
    if inst < 256 then some (match (m.rv inst).lastPos with
      | some p => posWords p.x p.y p.z ++ [p.uncH + p.uncV * 65536, p.fix + p.sats * 256]
      | none => padTo [] 8)
    else none
  | _ => none

/-- NET_ACTIVE and NET_LOADED (R308). -/
def netWords (n : Option Net) (tick : Nat) : List Nat :=
  match n with
  | none => padTo [] 8
  | some n => [n.serial, n.chains.length, n.nodes.length, n.conf.length, n.vtx.length, n.perch.length, n.keyId, tick]

/-- SHEP (R308). -/
def Mod.mbxShep (m : Mod) (item inst : Nat) : Option (List Nat) :=
  match item with
  | 0 => only inst (netWords m.shep.active (m.rd R.SHEP_NET_TICK))
  | 1 => only inst (netWords m.shep.loaded 0)
  | 2 =>
    if inst < 256 then
      let l := (m.srv inst).foot.map Prod.fst
      some (l.length % 64 :: (upto 16).map fun i => l.getD (2 * i) 0x3FFF + l.getD (2 * i + 1) 0x3FFF * 65536)
    else none
  | _ => none

/-- MOT (R356). -/
def Mod.mbxMot (m : Mod) (k : Clock) (item inst : Nat) : Option (List Nat) :=
  let x := m.mch inst
  match item with
  | 0 =>
    let now := m.chNow k inst
    if inst < 256 then some (two (Clock.fullNs k.now) ++ two (unsigned 64 now.pos) ++ [unsigned 32 now.vel, unsigned 32 now.acc] ++ two (unsigned 64 x.target))
    else none
  | 1 =>
    if inst < 256 then some (two x.latchNs ++ [m.rd (R.MOT_CH_LATCH_LO inst), m.rd (R.MOT_CH_LATCH_HI inst), x.latchIn % 64 + x.latchFn % 8 * 64, 0])
    else none
  | 2 => if inst < 256 then some (if x.kind = 1 then wordsOf x.profile 26 else padTo [] 26) else none
  | 3 => if inst < 16 then some (m.grpWords inst) else none
  | _ => none

/-- GRAIN_MAP of a channel and tick phase (R404). -/
def Mod.grainMap (m : Mod) (c phase : Nat) : List Nat :=
  let held := m.heldGrains c phase
  let use (j : Nat) : Nat := if j < 100 then m.grainUse c phase held j else 0
  let width := wbWidth (m.wbCfg c)
  ((upto 13).map fun i => ((upto 8).map fun b => use (8 * i + b) * 16 ^ b).sum)
    ++ [upSlots width phase + held.length / slotGrains width % 256 * 256]

/-- REGION_INFO; what the spec's table does not give is free (R404, log entry 19). -/
def Mod.regionInfo (m : Mod) : List Nat :=
  let g := m.air.region
  let ok (n : Nat) : Bool := decide (n ≤ 40) && centreOk g (5725 + 5 * n)
  let d := dwellOf g
  let map := (upto 4).map fun i => ((upto 32).map fun b => if ok (32 * i + b) then 2 ^ b else 0).sum
  let free (i : Nat) : Nat := if g = 0 then 0 else Config.freeNat 404 (4 * g + i) % 4294967296
  [g, free 0, free 1, if g = 0 then 0 else unsigned 32 (sgLimit g), if g = 0 then 0 else dutyOf g,
    (d.map fun x => x.1 % 65536 + x.2.1 % 65536 * 65536).getD 0, (d.map fun x => x.2.2).getD 0] ++ map ++ [free 2]

/-- AIR (R404). -/
def Mod.mbxAir (m : Mod) (item inst : Nat) : Option (List Nat) :=
  match item with
  | 0 => if inst < 20 then some (m.grainMap (inst / 10) (inst % 10)) else none
  | 1 =>
    let a := m.arv inst
    if inst < 256 then some [unsigned 32 a.lastOfs, a.lastTick, m.rd (R.ROVER_DRIFT_OFS inst), m.rd (R.ROVER_DRIFT_RATE inst), a.tcSf % 65536, a.lastWin]
    else none
  | 2 => only inst m.regionInfo
  | _ => none

/-- SW: PORT_BYTES (R454). -/
def Mod.mbxSw (m : Mod) (item inst : Nat) : Option (List Nat) :=
  if item = 0 ∧ inst < 10 then
    some (two (AMap.get (fun _ => 0) m.sw.bytes (2 * inst)) ++ two (AMap.get (fun _ => 0) m.sw.bytes (2 * inst + 1)))
  else none

/-- The words of an item that may be read, by the offset of BLOCK_MBX_SEL; none where the item, the instance or the direction is
wrong (R64). -/
def Mod.mbxItem (m : Mod) (k : Clock) (sel item inst : Nat) : Option (List Nat) :=
  if sel = R.GLB_MBX_SEL then m.mbxGlb item inst
  else if sel = R.PWR_MBX_SEL then (if item = 0 then only inst (logWords m.nv.resetLog) else none)
  else if sel = R.TIME_MBX_SEL then m.mbxTime k item inst
  else if sel = R.PERF_MBX_SEL then m.mbxPerf item inst
  else if sel = R.REC_MBX_SEL then m.mbxRec item inst
  else if sel = R.LEASH_MBX_SEL then (if item = 0 then only inst (logWords m.leash.log) else none)
  else if sel = R.BRACE_MBX_SEL then m.mbxBrace item inst
  else if sel = R.KEN_MBX_SEL then m.mbxKen item inst
  else if sel = R.UPD_MBX_SEL then m.mbxUpd item inst
  else if sel = R.GNSS_MBX_SEL then m.mbxGnss k item inst
  else if sel = R.PACK_MBX_SEL then m.mbxPack item inst
  else if sel = R.SHEP_MBX_SEL then m.mbxShep item inst
  else if sel = R.MOT_MBX_SEL then m.mbxMot k item inst
  else if sel = R.AIR_MBX_SEL then m.mbxAir item inst
  else if sel = R.SW_MBX_SEL then m.mbxSw item inst
  else none

/-- The length of an item that may be written: BASE_POS, STATION_DESC, SET and SNAP_LIST (R219, R257, R595). -/
def mbxWritable (sel item inst : Nat) : Option Nat :=
  if sel = R.PACK_MBX_SEL ∧ item = 0 ∧ inst = 0 then some 8
  else if sel = R.PACK_MBX_SEL ∧ item = 2 ∧ inst = 0 then some 32
  else if sel = R.TIME_MBX_SEL ∧ item = 1 ∧ inst = 0 then some 4
  else if sel = R.REC_MBX_SEL ∧ item = 0 ∧ inst < 16 then some 65
  else none

/-- The last word of a write commits the whole item (R66). -/
def Mod.mbxCommit (m : Mod) (k : Clock) (sel item inst : Nat) (w : List Word) : Mod :=
  let at_ (i : Nat) : Nat := (nth 0 w i).toNat
  let i64 (i : Nat) : Int := signed 64 (at_ i + at_ (i + 1) * 4294967296)
  if sel = R.PACK_MBX_SEL ∧ item = 0 then m.basePosSet { x := i64 0, y := i64 2, z := i64 4, arpH := signed 32 (at_ 6), acc := at_ 7 }
  else if sel = R.PACK_MBX_SEL then m.stationSet w
  else if sel = R.TIME_MBX_SEL then m.timeSet k (at_ 0 + at_ 1 * 4294967296) (at_ 2)
  else m.snapCommit inst (w.map BitVec.toNat)

/-! ## Sequences (R64 to R68) -/

/-- BLOCK_MBX_STAT: VALID, BUSY, ERR and WORDS (R64). -/
def Mod.mbxStat (m : Mod) (sel : Nat) (valid busy err : Bool) (words : Nat) : Mod :=
  m.wr (sel + 4) ((if valid then 1 else 0) + (if busy then 2 else 0) + (if err then 4 else 0) + words % 256 * 256)

def Mod.setMbx (m : Mod) (sel : Nat) (q : Option MbxSeq) : Mod :=
  { m with glb := { m.glb with mbx := match q with | some q => AMap.ins sel q m.glb.mbx | none => AMap.del sel m.glb.mbx } }

/-- VALID of a mailbox. -/
def Mod.mbxValid (m : Mod) (sel : Nat) : Bool := m.bit (sel + 4) 0

/-- A write to BLOCK_MBX_SEL (R65 to R67). -/
def Mod.mbxSelect (m : Mod) (k : Clock) (sel v : Nat) : Mod :=
  let m := if m.mbxValid sel then m.glbErr 4 sel else m
  let m := m.wr sel (v &&& 0x101FFFF)
  let item := v % 256
  let inst := bitsOf v 16 8
  let write := v.testBit 24
  let len := if write then mbxWritable sel item inst else (m.mbxItem k sel item inst).map List.length
  match len with
  | none => ((m.setMbx sel none).mbxStat sel false false true 0).glbErr 4 sel
  | some n =>
    (m.setMbx sel (some { item := item, inst := inst, write := write, words := n, data := [] })).mbxStat sel write (!write) false n

/-- The snapshot is ready (R65 step 1). -/
def Mod.mbxReady (m : Mod) (k : Clock) (sel : Nat) : Mod :=
  match AMap.find m.glb.mbx sel with
  | none => m
  | some q =>
    if q.write ∨ m.bit (sel + 4) 1 = false then m
    else
      let w := padTo ((m.mbxItem k sel q.item q.inst).getD []) q.words
      (m.setMbx sel (some { q with data := w.map (BitVec.ofNat 32) })).mbxStat sel true false false q.words

/-- A read of BLOCK_MBX_DATA (R65 steps 2 and 3, R67). -/
def Mod.mbxRead (m : Mod) (sel : Nat) : Mod :=
  match AMap.find m.glb.mbx sel with
  | some q =>
    if !m.mbxValid sel || q.write then (m.glbErr 4 (sel + 8)).emit (.readData 0)
    else
      let rest := q.data.drop 1
      let m := m.emit (.readData (q.data.headD 0))
      if rest.isEmpty then (m.setMbx sel none).mbxStat sel false false false q.words else m.setMbx sel (some { q with data := rest })
  | none => (m.glbErr 4 (sel + 8)).emit (.readData 0)

/-- A full-width write of BLOCK_MBX_DATA (R66, R67). -/
def Mod.mbxWrite (m : Mod) (k : Clock) (sel v : Nat) : Mod :=
  match AMap.find m.glb.mbx sel with
  | some q =>
    if !m.mbxValid sel || !q.write then m.glbErr 4 (sel + 8)
    else
      let data := q.data ++ [BitVec.ofNat 32 v]
      if data.length < q.words then m.setMbx sel (some { q with data := data })
      else ((m.setMbx sel none).mbxStat sel false false false q.words).mbxCommit k sel q.item q.inst data
  | none => m.glbErr 4 (sel + 8)

/-! ## Meanings -/

/-- MBX_SELECT: a write of `v` to the BLOCK_MBX_SEL at `sel` (R65 to R67). -/
def execMbxSelect (dt sel v : Nat) (s : State) : Res :=
  .next (s.ev dt fun k m => m.access sel fun m => if mbxSels.contains sel then m.mbxSelect k sel v else m)

/-- MBX_SNAPSHOT_READY: within 2 µs of the selection (R65). -/
def execMbxSnapshotReady (dt sel : Nat) (s : State) : Res :=
  .next (s.ev dt fun k m => if m.barUp && (match blockOf sel with | some b => m.blkOn b | none => true) then m.mbxReady k sel else m)

/-- MBX_DATA_READ: a read of the BLOCK_MBX_DATA that goes with the selection register at `sel` (R65, R67). -/
def execMbxDataRead (dt sel : Nat) (s : State) : Res :=
  .next (s.ev dt fun _ m =>
    if m.barUp && (match blockOf sel with | some b => !m.blkOn b | none => false) then (m.glbErr 2 (sel + 8)).emit (.readData 0xFFFFFFFF)
    else m.access (sel + 8) fun m => if mbxSels.contains sel then m.mbxRead sel else m)

/-- MBX_DATA_WRITE: a full-width write to the BLOCK_MBX_DATA that goes with the selection register at `sel` (R66, R67). -/
def execMbxDataWrite (dt sel v : Nat) (s : State) : Res :=
  .next (s.ev dt fun k m => m.access (sel + 8) fun m => if mbxSels.contains sel then m.mbxWrite k sel v else m)

end Sys2Proof.Machine
end

