-- ==== Sys2Proof/Machine/Access.lean ====
section
/-! DEFINITION. Host accesses (R52 to R63): what a register reads as, what a write of some byte lanes does, commits of guarded pairs. -/

namespace Sys2Proof.Machine

/-! ## Reads (R56, R62, R71) -/

/-- Registers of TIME that show the timebase and the capture inputs (R222, R242, R252, R254). -/
def Mod.viewTime (m : Mod) (k : Clock) (a : Nat) : Option Nat :=
  let cap (n : Nat) : Nat :=
    match (m.capIn n).fifo with
    | [] => 0
    | c :: _ => c.frac % 16 + c.ns / 4294967296 % 65536 * 16 + (if c.rise then 1048576 else 0) + 2097152 + min 16 (m.capIn n).fifo.length * 16777216
  if a = R.TIME_NOW_NS then some (Clock.word k.now)
  else if a = R.TIME_NOW_WRAP then some (Clock.wrap k.now)
  else if a = R.TIME_TICK then some k.tick
  else if a = R.TIME_UNC then some (m.uncNow k)
  else if a = R.TIME_PTP_ANN then some (if m.time.hoOn then m.annWord (m.uncNow k) else m.rd R.TIME_PTP_ANN)
  else if a = R.TIME_PHASE then some (k.phase + k.sf * 65536)
  else if a = R.TIME_PTP_CLKID_HI then some (Config.clockIdentity 0).toNat
  else if a = R.TIME_PTP_CLKID_LO then some (Config.clockIdentity 1).toNat
  else match (upto 4).find? fun n => a == R.TIME_CAP_NS n || a == R.TIME_CAP_INFO n with
    | some n => some (if a = R.TIME_CAP_NS n then (match (m.capIn n).fifo with | [] => 0 | c :: _ => c.ns % 4294967296) else cap n)
    | none => none

/-- Registers of RING that show the queues (R129, R130). -/
def Mod.viewRing (m : Mod) (a : Nat) : Option Nat :=
  if a = R.RING_ERR_SUM then
    some (((upto 10).map fun n => if m.ringState n = 3 ∨ bitsOf (m.rd (R.RING_STAT n)) 18 16 ≠ 0 then 2 ^ n else 0).sum)
  else match (upto 10).find? fun n => a == R.RING_QLVL n with
    | some n => some (m.ringLevel n + ringDepth n * 65536)
    | none => none

/-- Registers of REC that show the regions and the queue (R594); the control bits of fixed triggers read 1. -/
def Mod.viewRec (m : Mod) (a : Nat) : Option Nat :=
  if a = R.REC_SEQ_NEXT then some m.nv.seqNext
  else if a = R.REC_RING_OLDEST then some ((m.nv.ring.head?.map Rcd.seq).getD 0)
  else if a = R.REC_PROT_OLDEST then some ((m.nv.prot.head?.map Rcd.seq).getD 0)
  else if a = R.REC_RING_USED then some (rcdUsed m.nv.ring)
  else if a = R.REC_PROT_USED then some (rcdUsed m.nv.prot)
  else if a = R.REC_STAT then some (m.rd a % 4 + m.rcd.queue.length * 256 + (if m.rcd.backlog.isEmpty then 0 else 8192))
  else none

/-- SHEP_STAT and the status registers of the rovers read as last published; the network bits of SHEP_STAT read as they stand (R276). -/
def Mod.viewShep (m : Mod) (a : Nat) : Option Nat :=
  let pub := ((AMap.find m.shep.shown a).map BitVec.toNat).getD 0
  if a = R.SHEP_STAT then some (m.rd a % 8 + pub / 8 * 8) else if isRvShown a then some pub else none

/-- Registers that the live copies do not hold. -/
def Mod.viewOwn (m : Mod) (k : Clock) (a : Nat) : Option Nat :=
  match blockOf a with
  | none => if a = R.GLB_CFG_REF then m.glb.refPending.map BitVec.toNat else none
  | some 1 => m.viewTime k a
  | some 2 => m.viewRing a
  | some 4 => m.viewRec a
  | some 11 => m.viewShep a
  | some 7 => if a = R.KEN_AON_SEC then some (m.aonSec k) else none
  | some _ => none

/-- A register that keeps a shadow. -/
def shadowed (a : Nat) : Bool := match rowOf a with | some r => r.app == .stb || r.app == .tck | none => false

/-- Bits that read 1 whatever is written: domains that cannot be switched, EN and PROT of fixed triggers (R567, R594). -/
def readsOne (a : Nat) : Nat :=
  if a = R.PWR_DOM_EN then 0x180
  else if decide (R.REC_TRIG_CTL 0 ≤ a) && decide (a ≤ R.REC_TRIG_CTL 3) && a % 4 == 0 then 0x41
  else 0

/-- Bits of registers that show the state of channels: OWNER of an assignment, BURST and TRACKING (R171, R172), MOVING (R353). -/
def Mod.showsGnss (m : Mod) (a : Nat) : Nat :=
  if a = R.GNSS_STAT then
    (if m.gnss.burst.isSome then 8 else 0) + (m.busyCh.filter fun c => m.chState c == 3).length * 65536
  else if a = R.MOT_STAT then (m.mot.ch.filter fun e => m.mst e.1 == 2).length
  else if decide (R.GNSS_CH_ASSIGN 0 ≤ a) && decide (a < R.GNSS_CH_ASSIGN 320) && a % 0x100 == 0 && m.hostPool ((a - R.GNSS_CH_ASSIGN 0) / 0x100) then 2147483648
  else 0

/-- What a register reads as, apart from complement words. -/
def Mod.viewWord (m : Mod) (k : Clock) (a : Nat) : Nat :=
  match m.viewOwn k a with
  | some v => v % 4294967296
  | none =>
    match rowOf a with
    | none => 0
    | some r =>
      if r.acc == .wo || r.acc == .sc || r.acc == .mbx then 0
      else (if m.on F.GLB_CTL_SHADOW_VIEW && shadowed a then m.rdSh a else m.rd a) ||| readsOne a ||| m.showsGnss a

/-- What a register reads as; a complement word reads as the complement of its value word (R62). -/
def Mod.view (k : Clock) (m : Mod) (a : Nat) : Nat :=
  match rowOf a with
  | some r => if r.acc == .inv then 0xFFFFFFFF - m.viewWord k (a - 4) else m.viewWord k a
  | none => 0

/-! ## Writes (R54 to R56, R69, R72) -/

/-- The bits of the byte lanes that are enabled (R54). -/
def laneMask (be : Nat) : Nat := ((upto 4).map fun i => if be.testBit i then 255 * 256 ^ i else 0).sum

/-- The addressed lanes of a write merge with what the register holds (R55). -/
def merge (old v lm : Nat) : Nat := (old &&& (0xFFFFFFFF - lm)) ||| (v &&& lm)

/-- A write to a register with no behaviour of its own: shadow, live copy, or W1C (R55, R56, R69, R72). -/
def Mod.plainWrite (m : Mod) (r : RegRow) (a v lm : Nat) : Mod :=
  if shadowed a then m.wrSh a (merge (m.rdSh a) v (lm &&& r.rwm))
  else
    let m := if r.rwm &&& lm = 0 then m else m.cfgSet a (merge (m.rd a) v (lm &&& r.rwm))
    let clr := v &&& lm &&& r.w1cm
    if clr = 0 then m else m.wr a (m.rd a &&& (0xFFFFFFFF - clr))

/-! ## Meanings -/

/-- A commit at the value word `x`: the register's own behaviour, or the plain one (R60 to R63). -/
def hostCommit (dt x comp : Nat) (s : State) : Res :=
  if x = R.GLB_CFG_REF then execGlbCfgRefCommit dt comp s
  else if x = R.GLB_SW_RESET then execGlbSwReset dt comp s
  else if x = R.PWR_REQ then execPwrReq dt comp s
  else if x = R.PWR_SOFT_RESET then execPwrSoftReset dt comp s
  else if x = R.REC_CLEAR_RING then execRecClearRing dt comp s
  else if x = R.REC_CLEAR_PROT then execRecClearProt dt comp s
  else if x = R.LEASH_TRIP then execLeashTrip dt comp s
  else if x = R.LEASH_ARM then execLeashArm dt comp s
  else if x = R.KEN_TAMPER_CLR then execKenTamperClr dt comp s
  else if x = R.KEN_ZEROISE then execKenZeroise dt comp s
  else if x = R.KEN_READMIT then execKenReadmit dt comp s
  else if x = R.UPD_FUSE_SVN then execUpdFuseSvn dt comp s
  else if x = R.GNSS_READMIT then execGnssReadmit dt comp s
  else if x = R.PACK_READMIT then execPackReadmit dt comp s
  else if x = R.MOT_READMIT then execMotReadmit dt comp s
  else if x = R.AIR_READMIT then execAirReadmit dt comp s
  else if x = R.SW_READMIT then execSwReadmit dt comp s
  else .next (s.ev dt fun k m => if isGuarded x then m.commit k x comp fun m v => m.commitPlain x v else m)

/-- GUARD_COMMIT: the word `comp` written to the complement word of the register at `x` (R60 to R63). -/
def execGuardCommit (dt x comp : Nat) (s : State) : Res := hostCommit dt x comp s

/-- Instance `n` of a replicated register when the offset is one of its `cnt` instances. -/
def instOf (f : Nat → Nat) (cnt a : Nat) : Option Nat := (upto cnt).find? fun n => a == f n

/-- Writes to RING's registers with a behaviour of their own: `v` the addressed lanes, `w` merged with what is held. -/
def ringWrite (dt a v w : Nat) (s : State) : Option Res :=
  if a = R.RING_IRQ_EN then some (execRingIrqEnWrite dt w s)
  else if a = R.RING_DMA_ERR_INFO then (if v.testBit 31 then some (execRingDmaErrClear dt s) else none)
  else match instOf R.RING_DB 10 a with
  | some n => some (execRingDoorbell dt n v s)
  | none =>
    match instOf R.RING_CONS 10 a with
    | some n => some (execRingConsWrite dt n w s)
    | none =>
      match instOf R.RING_CTL 10 a with
      | some n => some (.next (s.ev dt fun _ m => m.ringAccess n (R.RING_CTL n) fun m => m.ringCtl n (w % 2 + bitsOf v 2 1 * 2)))
      | none => none

/-- Writes to self-clearing commands: `v` the addressed lanes (R69). -/
def cmdWrite (dt a v : Nat) (s : State) : Option Res :=
  if a = R.REC_CUR_CMD then some (.next (s.ev dt fun _ m => m.access R.REC_CUR_CMD fun m => m.curCmd v))
  else if !v.testBit 0 then none
  else if a = R.LEASH_TEST_CMD then
    some (.next (s.ev dt fun k m => m.access R.LEASH_TEST_CMD fun m => (m.testDue k (m.freeB 424)).took))
  else if a = R.PACK_BASE_CMD then some (execSurveyStart dt s)
  else match instOf R.TIME_CAP_POP 4 a with
  | some n => some (execTimeCapPop dt n s)
  | none =>
    match instOf R.ROVER_FILTER_CMD 256 a with
    | some r => some (execRoverFilterReset dt r s)
    | none => match instOf R.ROVER_LINK_CMD 256 a with | some r => some (execClearDrift dt r s) | none => none

/-- Writes to other registers with a behaviour of their own. -/
def ownWrite (dt a v w : Nat) (s : State) : Option Res :=
  if a = R.GLB_APPLY then some (execGlbApply dt v s)
  else if a = R.GLB_ERR then some (execGlbErrClear dt v s)
  else if a = R.GLB_ERR_IRQ_EN then some (execGlbErrIrqEnWrite dt w s)
  else if a = R.REC_CUR_SEL then some (execRecCurSel dt w s)
  else if a = R.SHEP_TBL_SEL then some (execShepTblSel dt w s)
  else if a = R.SW_TBL_SEL then some (execSwTblSel dt w s)
  else if mbxSels.contains a then some (execMbxSelect dt a w s)
  else match instOf R.GNSS_CH_ASSIGN 320 a with
  | some c => some (execGnssChAssign dt c w s)
  | none => match ringWrite dt a v w s with | some r => some r | none => cmdWrite dt a v s

/-- A write to a register that lies at the offset. -/
def regWrite (dt a v be : Nat) (r : RegRow) (s : State) : Res :=
  let lm := laneMask be
  let part := v &&& lm
  let full := be % 16 == 15
  let old := if shadowed a then s.m.rdSh a else s.m.rd a
  if r.acc == .grd || r.acc == .inv || r.acc == .mbx then
    if !full then .next (s.ev dt fun _ m => m.access a fun m => m.glbErr 1 a)
    else if r.acc == .grd then execGuardArm dt a v s
    else if r.acc == .inv then hostCommit dt (a - 4) v s
    else execMbxDataWrite dt (a - 8) v s
  else match ownWrite dt a part (merge old v lm) s with
  | some x => x
  | none => .next (s.ev dt fun _ m => m.access a fun m => m.plainWrite r a v lm)

/-- REGISTER_WRITE: `v` with byte enables `be` to the register at the offset (R52, R54, R55, R59). A register with a behaviour of its
own acts as its own command does. -/
def execRegisterWrite (dt a v be : Nat) (s : State) : Res :=
  if be % 16 = 0 then .next (s.ev dt fun _ m => m)
  else match rowOf (a / 4 * 4) with
  | some r => regWrite dt (a / 4 * 4) (v % 4294967296) (be % 16) r s
  | none => .next (s.ev dt fun _ m => if m.barUp then m.glbErr 5 (a / 4 * 4) else m)

/-- UNMAPPED_ACCESS: a read or a write at an offset that no register occupies (R52). -/
def execUnmappedAccess (dt a : Nat) (write : Bool) (s : State) : Res :=
  .next (s.ev dt fun _ m =>
    if !m.barUp || (rowOf (a / 4 * 4)).isSome then m
    else (m.glbErr 5 (a / 4 * 4)).when (!write) fun m => m.emit (.readData 0))

/-- POWERED_OFF_ACCESS: a read or a write of a block whose power domain is off (R59). -/
def execPoweredOffAccess (dt a : Nat) (write : Bool) (s : State) : Res :=
  .next (s.ev dt fun _ m =>
    match blockOf a with
    | some b => if !m.barUp || m.blkOn b || (rowOf (a / 4 * 4)).isNone then m else (m.glbErr 2 (a / 4 * 4)).when (!write) fun m => m.emit (.readData 0xFFFFFFFF)
    | none => m)

/-- REC_WRITE: the record at the head of the queue takes its snapshot and is written (R572 to R578). -/
def execRecWrite (dt : Nat) (s : State) : Res :=
  .next (s.ev dt fun k m => if m.pwr.mode = 0 ∧ 9 ≤ m.pwr.step then m.recWrite k (Mod.view k) else m)

end Sys2Proof.Machine
end

