-- ==== Sys2Proof/Machine/Tick.lean ====
section
/-! DEFINITION. The tick boundary (R14, R627): publication, configuration, latches, in this order at one instant. -/

namespace Sys2Proof.Machine

/-- The ending tick as it stands at its boundary: clock, module, the length of the tick in µs before any step of time. -/
structure Ending where
  k : Clock
  m : Mod
  us : Nat

/-- What falls due before the boundary or with it: an apply whose instant has passed, dumps not yet queued, a step of time (R73, R235,
R585). The tick's length is counted in elapsed time where a step has been taken at this boundary already. -/
def Mod.tickEnding (m : Mod) (k : Clock) : Ending :=
  let e : Clock := { k with raw := max k.raw k.nextBoundary }
  let r := match m.glb.apply with
    | some (at_, _) => if at_ < k.nextBoundary then m.applyDue e else (e, m)
    | none => (e, m)
  let us := if m.gnss.stepped then (e.raw - e.tickRaw) / 1250 else e.usTick
  let m := r.2.dumpAll r.1
  match m.stepDue r.1 with
  | some st => let x := m.takeStep r.1 st; { k := x.1, m := x.2, us := us }
  | none => { k := r.1, m := m, us := us }

/-- What the receiver, TIME and PACK publish; `e` the clock of the ending tick, `k` of the one beginning (R156, R226, R180 to R215). -/
def Mod.publishSky (m : Mod) (e k : Clock) (pk : PackIn) (ti : TimeIn) : Clock × Mod :=
  let m := if e.phase = 9 then m.airSilence e.sfNo else m
  let m := (m.streamOut e).gnssPublish
  let m := m.burstEnd k m.gnss.published
  let r := m.timeBoundary e k ti
  let m := (r.2.packPublish e pk).airRtcm r.1
  (r.1, m)

/-- What Leash, Brace, Shepherd, MOT and Kennel publish (R423, R469, R476, R297, R316, R508), and what the unit that was active in the
ending tick sends its partner (R475). -/
def Mod.publishRest (m : Mod) (e k : Clock) (us : Nat) : Mod :=
  let active := m.role == 1
  let m := if m.leashUp then m.armBoundary k else m
  let m := m.braceBoundary k
  let m := if m.role == 2 && m.on F.BRACE_STAT_SYNCED then m.applyMirror else m
  let m := (m.shepPublish k).motPublish k us
  let m := if active then m.sendTickEnd k e.tick else m
  let m := if active && e.phase == 9 then m.sendSfSync k e.tick m.air.sfUs else m
  (m.orphanZeroise e).kenBoundary k

/-- TCK registers at a boundary (R25, R72); a change of BRACE_CTL that is refused leaves shadow and live copy as they were (R471). -/
def Mod.tckBoundary (m : Mod) (k : Clock) : Mod :=
  let v := m.rdSh R.BRACE_CTL
  let m := if v = m.rd R.BRACE_CTL then m else m.braceCtlApply k v
  let m := if v = m.rd R.BRACE_CTL then m else m.wrSh R.BRACE_CTL (m.rd R.BRACE_CTL)
  (m.applyTck).readmits k

/-- An apply whose instant is the boundary itself (R76). -/
def Mod.applyOn (m : Mod) (k : Clock) : Clock × Mod :=
  match m.glb.apply with
  | some (at_, mask) => if at_ ≤ k.raw then m.applyAt k k at_ mask else (k, m)
  | none => (k, m)

/-- Configuration at the boundary (R25, R76, R82, R85): the walk is judged first, so a refusal beginning here holds the apply back, and a
reference that waited for that apply becomes live at the boundary after this one (R76). -/
def Mod.tickConfig (m : Mod) (k : Clock) : Clock × Mod :=
  let m := (m.walkEnd k k.tickNo).tckBoundary k
  let r := m.applyOn k
  let r := r.2.applyTick r.1
  let m := r.2
  let m := if m.on F.GLB_CFG_CTL_REF_WITH || (m.on F.GLB_CFG_STAT_REFUSING && !m.glb.refLate) then m.refLive else m
  (r.1, { m with glb := { m.glb with refLate := false } })

/-- Domains and power states at the boundary (R548, R550 to R552, R165). -/
def Mod.tickPower (m : Mod) (k : Clock) : Clock × Mod :=
  let m := (m.domsSettle k).dozeSilence k
  let r := m.dozeEnter k
  if !r.2.running then r
  else
    let r := r.2.hibEnter r.1
    if !r.2.running then r else (r.1, (r.2.runResume r.1).burstStart r.1)

/-- The latch of every tick-bound block (R17, R627 step 3). -/
def Mod.tickLatch (m : Mod) (k : Clock) (g : GnssIn) (pk : PackIn) (sh : ShepIn) : Mod :=
  let m := (m.perfLatch k).dumpDue k
  let m := if m.awake || m.gnss.burst.isSome then (m.gnssCmds k).gnssLatch k g m.gnss.stepped else m
  let m : Mod := { m with gnss := { m.gnss with stepped := false } }
  let m := ((((if m.live? 10 then m.packCmds k else m).packLatch k pk).shepLatch k sh).motLatch k)
  let m := (m.airLatch k (m.lstate == 2)).sendShepDelta k
  { m with pwr := { m.pwr with fedAt := k.raw, softBlocks := 0 }, brace := { m.brace with fedAt := k.raw } }

/-- Configuration, power states, latches, and UPD's work of the boundary last: it may end in a reset (R533 to R540). -/
def Mod.tickBegin (m : Mod) (k : Clock) (g : GnssIn) (pk : PackIn) (sh : ShepIn) : Clock × Mod :=
  let r := m.tickConfig k
  let r := r.2.tickPower r.1
  if !r.2.running then r else (r.2.tickLatch r.1 g pk sh).updBoundary r.1

/-- A tick boundary: none before step 9 of R563; from there to step 10 time and configuration go on, and the first boundary 3.5 s after
the reset is the first tick. -/
def Mod.tick (m : Mod) (k : Clock) (g : GnssIn) (pk : PackIn) (ti : TimeIn) (sh : ShepIn) : Clock × Mod :=
  if !m.barUp then (k, m)
  else
    let x := m.tickEnding k
    let k := x.k.beginTick
    if !m.running then
      if k.raw < x.m.pwr.resetAt + msRaw 3500 then x.m.tickConfig k
      else (x.m.firstTick k).tickBegin k g pk sh
    else
      let r := (x.m.retriesEnd x.k).publishSky x.k k pk ti
      (r.2.publishRest x.k r.1 x.us).tickBegin r.1 g pk sh

/-- TICK_BOUNDARY (R627): the boundary that ends the tick in progress, reached now at the latest. `g`, `pk`, `ti` and `sh` say what
receiver, engine, oscillator and Shepherd bring in (log entry 6). -/
def execTickBoundary (dt : Nat) (g : GnssIn) (pk : PackIn) (ti : TimeIn) (sh : ShepIn) (s : State) : Res :=
  .next (s.evClk dt fun k m => m.tick k g pk ti sh)

end Sys2Proof.Machine
end

