-- ==== Sys2Proof/Machine/Dispatch.lean ====
section
/-! DEFINITION. One arm per command: its meaning, or its name while it has none. -/

namespace Sys2Proof.Machine

def exec (i : Instr) (s : State) : Host.Outcome State Fault Refusal :=
  match i with
  | .tickBoundary dt g pk ti sh => Sys2Proof.Machine.execTickBoundary dt g pk ti sh s
  | .elementFault dt kind i0 => Sys2Proof.Machine.execElementFault dt kind i0 s
  | .elementRetryEnd dt kind i0 => Sys2Proof.Machine.execElementRetryEnd dt kind i0 s
  | .lpddrScrub dt => Sys2Proof.Machine.execLpddrScrub dt s
  | .tableParityScrub dt => Sys2Proof.Machine.execTableParityScrub dt s
  | .flashRefresh dt => Sys2Proof.Machine.execFlashRefresh dt s
  | .registerWrite dt a v be => Sys2Proof.Machine.execRegisterWrite dt a v be s
  | .unmappedAccess dt a write => Sys2Proof.Machine.execUnmappedAccess dt a write s
  | .poweredOffAccess dt a write => Sys2Proof.Machine.execPoweredOffAccess dt a write s
  | .guardArm dt x v => Sys2Proof.Machine.execGuardArm dt x v s
  | .guardCommit dt x comp => Sys2Proof.Machine.execGuardCommit dt x comp s
  | .guardExpiry dt => Sys2Proof.Machine.execGuardExpiry dt s
  | .mbxSelect dt sel v => Sys2Proof.Machine.execMbxSelect dt sel v s
  | .mbxSnapshotReady dt sel => Sys2Proof.Machine.execMbxSnapshotReady dt sel s
  | .mbxDataRead dt sel => Sys2Proof.Machine.execMbxDataRead dt sel s
  | .mbxDataWrite dt sel v => Sys2Proof.Machine.execMbxDataWrite dt sel v s
  | .glbApply dt mask => Sys2Proof.Machine.execGlbApply dt mask s
  | .applyInstant dt => Sys2Proof.Machine.execApplyInstant dt s
  | .glbCfgRefCommit dt comp => Sys2Proof.Machine.execGlbCfgRefCommit dt comp s
  | .cfgWalkEnd dt => Sys2Proof.Machine.execCfgWalkEnd dt s
  | .glbErrClear dt mask => Sys2Proof.Machine.execGlbErrClear dt mask s
  | .glbSwReset dt comp => Sys2Proof.Machine.execGlbSwReset dt comp s
  | .ringDoorbell dt n v => Sys2Proof.Machine.execRingDoorbell dt n v s
  | .ringEnable dt n => Sys2Proof.Machine.execRingEnable dt n s
  | .ringStop dt n => Sys2Proof.Machine.execRingStop dt n s
  | .ringFlush dt n => Sys2Proof.Machine.execRingFlush dt n s
  | .ringFlushDone dt n => Sys2Proof.Machine.execRingFlushDone dt n s
  | .ringReset dt n => Sys2Proof.Machine.execRingReset dt n s
  | .ringResetDone dt n => Sys2Proof.Machine.execRingResetDone dt n s
  | .ringConsWrite dt n v => Sys2Proof.Machine.execRingConsWrite dt n v s
  | .descriptorFetch dt n bytes => Sys2Proof.Machine.execDescriptorFetch dt n bytes s
  | .commandDispatch dt data => Sys2Proof.Machine.execCommandDispatch dt data s
  | .itemEnqueue dt n kind data => Sys2Proof.Machine.execItemEnqueue dt n kind data s
  | .itemDmaToHost dt n => Sys2Proof.Machine.execItemDmaToHost dt n s
  | .descriptorComplete dt n => Sys2Proof.Machine.execDescriptorComplete dt n s
  | .dmaFault dt n write cause addr on => Sys2Proof.Machine.execDmaFault dt n write cause addr on s
  | .busMasterDisable dt addr write => Sys2Proof.Machine.execBusMasterDisable dt addr write s
  | .ringCoalTimeout dt n => Sys2Proof.Machine.execRingCoalTimeout dt n s
  | .ringIrqEnWrite dt v => Sys2Proof.Machine.execRingIrqEnWrite dt v s
  | .ringDmaErrClear dt => Sys2Proof.Machine.execRingDmaErrClear dt s
  | .antennaStateChange dt mA limit => Sys2Proof.Machine.execAntennaStateChange dt mA limit s
  | .antBiasRetry dt mA limit => Sys2Proof.Machine.execAntBiasRetry dt mA limit s
  | .bandJam dt band power => Sys2Proof.Machine.execBandJam dt band power s
  | .bandJamClear dt band power => Sys2Proof.Machine.execBandJamClear dt band power s
  | .gnssChAssign dt c v => Sys2Proof.Machine.execGnssChAssign dt c v s
  | .channelDump dt c d => Sys2Proof.Machine.execChannelDump dt c d s
  | .pullinTimeout dt c => Sys2Proof.Machine.execPullinTimeout dt c s
  | .lostTimeout dt c => Sys2Proof.Machine.execLostTimeout dt c s
  | .searchJobStart dt => Sys2Proof.Machine.execSearchJobStart dt s
  | .searchJobEnd dt i0 => Sys2Proof.Machine.execSearchJobEnd dt i0 s
  | .search dt h j reserved => Sys2Proof.Machine.execSearch dt h j reserved s
  | .searchCancel dt h tag => Sys2Proof.Machine.execSearchCancel dt h tag s
  | .steer dt h c flags rate freq codeAdj carrAdj reserved => Sys2Proof.Machine.execSteer dt h c flags rate freq codeAdj carrAdj reserved s
  | .accStream dt h c on reserved => Sys2Proof.Machine.execAccStream dt h c on reserved s
  | .hostCoastExpiry dt c => Sys2Proof.Machine.execHostCoastExpiry dt c s
  | .gnssMeasDeadline dt => Sys2Proof.Machine.execGnssMeasDeadline dt s
  | .gnssCal dt c bias => Sys2Proof.Machine.execGnssCal dt c bias s
  | .dozeBurstStart dt => Sys2Proof.Machine.execDozeBurstStart dt s
  | .dozeBurstEnd dt => Sys2Proof.Machine.execDozeBurstEnd dt s
  | .ephemerisDecoded dt sys sv healthy isb => Sys2Proof.Machine.execEphemerisDecoded dt sys sv healthy isb s
  | .surveyStart dt => Sys2Proof.Machine.execSurveyStart dt s
  | .surveySample dt x y z => Sys2Proof.Machine.execSurveySample dt x y z s
  | .baseMoveCheck dt h v => Sys2Proof.Machine.execBaseMoveCheck dt h v s
  | .flowAdmit dt ready => Sys2Proof.Machine.execFlowAdmit dt ready s
  | .flowEnd dt r i0 => Sys2Proof.Machine.execFlowEnd dt r i0 s
  | .packDeadline dt => Sys2Proof.Machine.execPackDeadline dt s
  | .asuSearchEnd dt r i0 => Sys2Proof.Machine.execAsuSearchEnd dt r i0 s
  | .loadGraph dt h addr reserved img => Sys2Proof.Machine.execLoadGraph dt h addr reserved img s
  | .unloadGraph dt h g reserved => Sys2Proof.Machine.execUnloadGraph dt h g reserved s
  | .roverFilterReset dt r => Sys2Proof.Machine.execRoverFilterReset dt r s
  | .basePosWrite dt x y z arpH acc => Sys2Proof.Machine.execBasePosWrite dt x y z arpH acc s
  | .stationDescWrite dt words => Sys2Proof.Machine.execStationDescWrite dt words s
  | .refQualified dt => Sys2Proof.Machine.execRefQualified dt s
  | .refLost dt => Sys2Proof.Machine.execRefLost dt s
  | .ppsInEdge dt rise => Sys2Proof.Machine.execPpsInEdge dt rise s
  | .timeSourceLoss dt => Sys2Proof.Machine.execTimeSourceLoss dt s
  | .holdoverLimit dt => Sys2Proof.Machine.execHoldoverLimit dt s
  | .timeReturnBegin dt => Sys2Proof.Machine.execTimeReturnBegin dt s
  | .timeStep dt => Sys2Proof.Machine.execTimeStep dt s
  | .timeSet dt ns unc => Sys2Proof.Machine.execTimeSet dt ns unc s
  | .pulseEdge dt i0 => Sys2Proof.Machine.execPulseEdge dt i0 s
  | .pulseEnd dt i0 => Sys2Proof.Machine.execPulseEnd dt i0 s
  | .captureEdge dt n rise => Sys2Proof.Machine.execCaptureEdge dt n rise s
  | .timeCapPop dt n => Sys2Proof.Machine.execTimeCapPop dt n s
  | .ptpAnnounceRx dt p a => Sys2Proof.Machine.execPtpAnnounceRx dt p a s
  | .ptpGmTx dt p kind => Sys2Proof.Machine.execPtpGmTx dt p kind s
  | .loadNet dt h addr reserved img => Sys2Proof.Machine.execLoadNet dt h addr reserved img s
  | .activateNet dt h atTick reserved => Sys2Proof.Machine.execActivateNet dt h atTick reserved s
  | .route dt h d => Sys2Proof.Machine.execRoute dt h d s
  | .release dt h rover flags tag => Sys2Proof.Machine.execRelease dt h rover flags tag s
  | .place dt h rover reserved chain => Sys2Proof.Machine.execPlace dt h rover reserved chain s
  | .unblock dt h chain reserved => Sys2Proof.Machine.execUnblock dt h chain reserved s
  | .taskAdd dt h task prio reserved need from_ to_ notBefore deadline payload => Sys2Proof.Machine.execTaskAdd dt h task prio reserved need from_ to_ notBefore deadline payload s
  | .taskCancel dt h task reserved => Sys2Proof.Machine.execTaskCancel dt h task reserved s
  | .taskDone dt h task reserved => Sys2Proof.Machine.execTaskDone dt h task reserved s
  | .shepDeadline dt => Sys2Proof.Machine.execShepDeadline dt s
  | .spanOverstay dt chain cell => Sys2Proof.Machine.execSpanOverstay dt chain cell s
  | .taskExpiry dt task => Sys2Proof.Machine.execTaskExpiry dt task s
  | .spanPoison dt chain cell => Sys2Proof.Machine.execSpanPoison dt chain cell s
  | .netParityError dt chain => Sys2Proof.Machine.execNetParityError dt chain s
  | .shepTblSel dt v => Sys2Proof.Machine.execShepTblSel dt v s
  | .move dt h ch flags target vmax amax jmax start => Sys2Proof.Machine.execMove dt h ch flags target vmax amax jmax start s
  | .convoy dt h group n reserved start members => Sys2Proof.Machine.execConvoy dt h group n reserved start members s
  | .home dt h ch dir mode speed ofs => Sys2Proof.Machine.execHome dt h ch dir mode speed ofs s
  | .halt dt h ch kind reserved => Sys2Proof.Machine.execHalt dt h ch kind reserved s
  | .setPos dt h ch reserved pos => Sys2Proof.Machine.execSetPos dt h ch reserved pos s
  | .clear dt h ch reserved => Sys2Proof.Machine.execClear dt h ch reserved s
  | .motWindow dt i0 => Sys2Proof.Machine.execMotWindow dt i0 s
  | .motWindowEnd dt => Sys2Proof.Machine.execMotWindowEnd dt s
  | .stepEdge dt ch => Sys2Proof.Machine.execStepEdge dt ch s
  | .stepTrackCheck dt ch => Sys2Proof.Machine.execStepTrackCheck dt ch s
  | .switchInputEdge dt i0 level => Sys2Proof.Machine.execSwitchInputEdge dt i0 level s
  | .inputQualified dt i0 => Sys2Proof.Machine.execInputQualified dt i0 s
  | .chatterEnd dt i0 => Sys2Proof.Machine.execChatterEnd dt i0 s
  | .homingRange dt ch => Sys2Proof.Machine.execHomingRange dt ch s
  | .moveEnd dt ch => Sys2Proof.Machine.execMoveEnd dt ch s
  | .stopEnd dt ch => Sys2Proof.Machine.execStopEnd dt ch s
  | .setpointFrameTx dt ch => Sys2Proof.Machine.execSetpointFrameTx dt ch s
  | .statusFrameRx dt d => Sys2Proof.Machine.execStatusFrameRx dt d s
  | .statusTimeout dt ch => Sys2Proof.Machine.execStatusTimeout dt ch s
  | .tokenTx dt c => Sys2Proof.Machine.execTokenTx dt c s
  | .beaconTx dt c => Sys2Proof.Machine.execBeaconTx dt c s
  | .downlinkTx dt c => Sys2Proof.Machine.execDownlinkTx dt c s
  | .dataTx dt c => Sys2Proof.Machine.execDataTx dt c s
  | .sgBeaconTx dt => Sys2Proof.Machine.execSgBeaconTx dt s
  | .corrFbTx dt => Sys2Proof.Machine.execCorrFbTx dt s
  | .dropFrameTx dt c => Sys2Proof.Machine.execDropFrameTx dt c s
  | .sgDropTx dt => Sys2Proof.Machine.execSgDropTx dt s
  | .uplinkBurstRx dt u => Sys2Proof.Machine.execUplinkBurstRx dt u s
  | .roverLinkLapse dt => Sys2Proof.Machine.execRoverLinkLapse dt s
  | .slotMapEffective dt => Sys2Proof.Machine.execSlotMapEffective dt s
  | .clearDrift dt r => Sys2Proof.Machine.execClearDrift dt r s
  | .regionChange dt => Sys2Proof.Machine.execRegionChange dt s
  | .rtcmElementExpiry dt => Sys2Proof.Machine.execRtcmElementExpiry dt s
  | .leashInputDeenergise dt x => Sys2Proof.Machine.execLeashInputDeenergise dt x s
  | .leashPulseTolExpiry dt x => Sys2Proof.Machine.execLeashPulseTolExpiry dt x s
  | .leashInputEnergise dt x => Sys2Proof.Machine.execLeashInputEnergise dt x s
  | .leashTrip dt comp => Sys2Proof.Machine.execLeashTrip dt comp s
  | .trip dt h reserved => Sys2Proof.Machine.execTrip dt h reserved s
  | .heelAll dt h reserved => Sys2Proof.Machine.execHeelAll dt h reserved s
  | .heelEnd dt h reserved => Sys2Proof.Machine.execHeelEnd dt h reserved s
  | .monitorTrip dt cond on => Sys2Proof.Machine.execMonitorTrip dt cond on s
  | .outputReadbackFault dt a b => Sys2Proof.Machine.execOutputReadbackFault dt a b s
  | .leashDiscrepancy dt => Sys2Proof.Machine.execLeashDiscrepancy dt s
  | .leashArm dt comp => Sys2Proof.Machine.execLeashArm dt comp s
  | .armPinRelease dt us => Sys2Proof.Machine.execArmPinRelease dt us s
  | .leashArmed dt => Sys2Proof.Machine.execLeashArmed dt s
  | .leashSelftest dt ok => Sys2Proof.Machine.execLeashSelftest dt ok s
  | .leashTestNow dt ok => Sys2Proof.Machine.execLeashTestNow dt ok s
  | .heelPinAssert dt => Sys2Proof.Machine.execHeelPinAssert dt s
  | .heelPinRelease dt => Sys2Proof.Machine.execHeelPinRelease dt s
  | .partnerTrip dt lvds d => Sys2Proof.Machine.execPartnerTrip dt lvds d s
  | .leashPartnerDiff dt => Sys2Proof.Machine.execLeashPartnerDiff dt s
  | .frameReceive dt port sub d badFcs => Sys2Proof.Machine.execFrameReceive dt port sub d badFcs s
  | .learnEvent dt => Sys2Proof.Machine.execLearnEvent dt s
  | .macAging dt => Sys2Proof.Machine.execMacAging dt s
  | .moveCountReset dt => Sys2Proof.Machine.execMoveCountReset dt s
  | .pinHoldExpiry dt i0 => Sys2Proof.Machine.execPinHoldExpiry dt i0 s
  | .linkChange dt port up speed => Sys2Proof.Machine.execLinkChange dt port up speed s
  | .p9FrameExpiry dt => Sys2Proof.Machine.execP9FrameExpiry dt s
  | .macAdd dt h mac vid port sub reserved => Sys2Proof.Machine.execMacAdd dt h mac vid port sub reserved s
  | .macDel dt h mac vid => Sys2Proof.Machine.execMacDel dt h mac vid s
  | .macFlush dt h port flags vid => Sys2Proof.Machine.execMacFlush dt h port flags vid s
  | .vlanSet dt h vid member untag flags => Sys2Proof.Machine.execVlanSet dt h vid member untag flags s
  | .rifSet dt h rif flags vid ip4 len4 reserved ip6 => Sys2Proof.Machine.execRifSet dt h rif flags vid ip4 len4 reserved ip6 s
  | .nhSet dt h nh flags mac vid => Sys2Proof.Machine.execNhSet dt h nh flags mac vid s
  | .routeAdd dt h family plen nh pfx reserved => Sys2Proof.Machine.execRouteAdd dt h family plen nh pfx reserved s
  | .routeDel dt h family plen nh pfx reserved => Sys2Proof.Machine.execRouteDel dt h family plen nh pfx reserved s
  | .swParityFail dt table index => Sys2Proof.Machine.execSwParityFail dt table index s
  | .packetTx dt n data => Sys2Proof.Machine.execPacketTx dt n data s
  | .swTblSel dt v => Sys2Proof.Machine.execSwTblSel dt v s
  | .heartbeatTx dt => Sys2Proof.Machine.execHeartbeatTx dt s
  | .heartbeatRx dt lvds d mac => Sys2Proof.Machine.execHeartbeatRx dt lvds d mac s
  | .heartbeatMiss dt lvds p1 => Sys2Proof.Machine.execHeartbeatMiss dt lvds p1 s
  | .holdInChange dt level => Sys2Proof.Machine.execHoldInChange dt level s
  | .braceClaim dt => Sys2Proof.Machine.execBraceClaim dt s
  | .gateOpen dt => Sys2Proof.Machine.execGateOpen dt s
  | .claimRetry dt => Sys2Proof.Machine.execClaimRetry dt s
  | .keepaliveExpiry dt => Sys2Proof.Machine.execKeepaliveExpiry dt s
  | .joinWaitExpiry dt => Sys2Proof.Machine.execJoinWaitExpiry dt s
  | .takeover dt => Sys2Proof.Machine.execTakeover dt s
  | .handover dt h atTick reserved => Sys2Proof.Machine.execHandover dt h atTick reserved s
  | .braceResync dt h reserved => Sys2Proof.Machine.execBraceResync dt h reserved s
  | .handoverRelease dt => Sys2Proof.Machine.execHandoverRelease dt s
  | .handoverAbort dt => Sys2Proof.Machine.execHandoverAbort dt s
  | .autoReturn dt => Sys2Proof.Machine.execAutoReturn dt s
  | .shepDelta dt d => Sys2Proof.Machine.execShepDelta dt d s
  | .motDelta dt d => Sys2Proof.Machine.execMotDelta dt d s
  | .ack dt d => Sys2Proof.Machine.execAck dt d s
  | .ackDeadline dt => Sys2Proof.Machine.execAckDeadline dt s
  | .tickEnd dt d => Sys2Proof.Machine.execTickEnd dt d s
  | .sfSync dt d => Sys2Proof.Machine.execSfSync dt d s
  | .fullReq dt d => Sys2Proof.Machine.execFullReq dt d s
  | .fullData dt d => Sys2Proof.Machine.execFullData dt d s
  | .fullDone dt d => Sys2Proof.Machine.execFullDone dt d s
  | .handoverMsg dt d => Sys2Proof.Machine.execHandoverMsg dt d s
  | .handoverAck dt d => Sys2Proof.Machine.execHandoverAck dt d s
  | .stepAnnounce dt d => Sys2Proof.Machine.execStepAnnounce dt d s
  | .loadBlob dt h slot reserved addr size blob => Sys2Proof.Machine.execLoadBlob dt h slot reserved addr size blob s
  | .erase dt h slot reserved => Sys2Proof.Machine.execErase dt h slot reserved s
  | .derive dt h parent slot type labelLen use user label context => Sys2Proof.Machine.execDerive dt h parent slot type labelLen use user label context s
  | .wrap dt h slot parent bind reserved addr size serial reserved2 ok => Sys2Proof.Machine.execWrap dt h slot parent bind reserved addr size serial reserved2 ok s
  | .rootGen dt h flags reserved => Sys2Proof.Machine.execRootGen dt h flags reserved s
  | .quote dt h nonce => Sys2Proof.Machine.execQuote dt h nonce s
  | .extend dt h index reserved digest => Sys2Proof.Machine.execExtend dt h index reserved digest s
  | .sign dt h slot reserved digest => Sys2Proof.Machine.execSign dt h slot reserved digest s
  | .verify dt h slot reserved digest sig => Sys2Proof.Machine.execVerify dt h slot reserved digest sig s
  | .fuseProg dt h reserved roots => Sys2Proof.Machine.execFuseProg dt h reserved roots s
  | .orphanZeroise dt => Sys2Proof.Machine.execOrphanZeroise dt s
  | .tamperDetect dt src on => Sys2Proof.Machine.execTamperDetect dt src on s
  | .tamperReset dt => Sys2Proof.Machine.execTamperReset dt s
  | .tamperSleep dt src => Sys2Proof.Machine.execTamperSleep dt src s
  | .kenTamperClr dt comp => Sys2Proof.Machine.execKenTamperClr dt comp s
  | .kenZeroise dt comp => Sys2Proof.Machine.execKenZeroise dt comp s
  | .kenReadmit dt comp => Sys2Proof.Machine.execKenReadmit dt comp s
  | .vbatLow dt => Sys2Proof.Machine.execVbatLow dt s
  | .gnssReadmit dt comp => Sys2Proof.Machine.execGnssReadmit dt comp s
  | .packReadmit dt comp => Sys2Proof.Machine.execPackReadmit dt comp s
  | .motReadmit dt comp => Sys2Proof.Machine.execMotReadmit dt comp s
  | .airReadmit dt comp => Sys2Proof.Machine.execAirReadmit dt comp s
  | .swReadmit dt comp => Sys2Proof.Machine.execSwReadmit dt comp s
  | .stage dt h offset size addr flags data flashOk => Sys2Proof.Machine.execStage dt h offset size addr flags data flashOk s
  | .packageVerify dt h reserved => Sys2Proof.Machine.execPackageVerify dt h reserved s
  | .install dt h reserved => Sys2Proof.Machine.execInstall dt h reserved s
  | .installComplete dt flashOk => Sys2Proof.Machine.execInstallComplete dt flashOk s
  | .activate dt h atTick flags reserved => Sys2Proof.Machine.execActivate dt h atTick flags reserved s
  | .cancel dt h reserved => Sys2Proof.Machine.execCancel dt h reserved s
  | .cancelDeadline dt => Sys2Proof.Machine.execCancelDeadline dt s
  | .activationRestart dt => Sys2Proof.Machine.execActivationRestart dt s
  | .pairWaitExpiry dt => Sys2Proof.Machine.execPairWaitExpiry dt s
  | .confirm dt h reserved => Sys2Proof.Machine.execConfirm dt h reserved s
  | .rollback dt h atTick => Sys2Proof.Machine.execRollback dt h atTick s
  | .trialExpiry dt => Sys2Proof.Machine.execTrialExpiry dt s
  | .updFuseSvn dt comp => Sys2Proof.Machine.execUpdFuseSvn dt comp s
  | .pwrReq dt comp => Sys2Proof.Machine.execPwrReq dt comp s
  | .domainSettled dt d => Sys2Proof.Machine.execDomainSettled dt d s
  | .dozeSilence dt => Sys2Proof.Machine.execDozeSilence dt s
  | .dozeEnter dt => Sys2Proof.Machine.execDozeEnter dt s
  | .hibernateEnter dt => Sys2Proof.Machine.execHibernateEnter dt s
  | .runResume dt => Sys2Proof.Machine.execRunResume dt s
  | .wakePin dt => Sys2Proof.Machine.execWakePin dt s
  | .wakeAlarm dt => Sys2Proof.Machine.execWakeAlarm dt s
  | .powerOn dt nothing vbat => Sys2Proof.Machine.execPowerOn dt nothing vbat s
  | .brownOut dt off => Sys2Proof.Machine.execBrownOut dt off s
  | .rstN dt => Sys2Proof.Machine.execRstN dt s
  | .watchdogExpiry dt => Sys2Proof.Machine.execWatchdogExpiry dt s
  | .perstN dt => Sys2Proof.Machine.execPerstN dt s
  | .pwrSoftReset dt comp => Sys2Proof.Machine.execPwrSoftReset dt comp s
  | .startUp dt migOk selfOk => Sys2Proof.Machine.execStartUp dt migOk selfOk s
  | .opSecCount dt => Sys2Proof.Machine.execOpSecCount dt s
  | .vinLow dt mV => Sys2Proof.Machine.execVinLow dt mV s
  | .overtemp dt temp => Sys2Proof.Machine.execOvertemp dt temp s
  | .recWrite dt => Sys2Proof.Machine.execRecWrite dt s
  | .recCurSel dt sq => Sys2Proof.Machine.execRecCurSel dt sq s
  | .recNext dt => Sys2Proof.Machine.execRecNext dt s
  | .recOldestRing dt => Sys2Proof.Machine.execRecOldestRing dt s
  | .recOldestProt dt => Sys2Proof.Machine.execRecOldestProt dt s
  | .recClearRing dt comp => Sys2Proof.Machine.execRecClearRing dt comp s
  | .recClearProt dt comp => Sys2Proof.Machine.execRecClearProt dt comp s
  | .record dt h payload => Sys2Proof.Machine.execRecord dt h payload s
  | .snapListWrite dt list ws => Sys2Proof.Machine.execSnapListWrite dt list ws s
  | .perfDump dt => Sys2Proof.Machine.execPerfDump dt s
  | .dumpNow dt h reserved => Sys2Proof.Machine.execDumpNow dt h reserved s
  | .glbErrIrqEnWrite dt v => Sys2Proof.Machine.execGlbErrIrqEnWrite dt v s
  | .msixVectorUnmask dt v => Sys2Proof.Machine.execMsixVectorUnmask dt v s
  | .announceReceiptTimeout dt p => Sys2Proof.Machine.execAnnounceReceiptTimeout dt p s
  | .pdelayReqTx dt p delay => Sys2Proof.Machine.execPdelayReqTx dt p delay s
  | .egressTransmit dt port => Sys2Proof.Machine.execEgressTransmit dt port s
  | .vbatLoss dt => Sys2Proof.Machine.execVbatLoss dt s
  | .leashSelftestEnd dt ok => Sys2Proof.Machine.execLeashSelftestEnd dt ok s

end Sys2Proof.Machine
end

