-- ==== Sys2Proof/Safety.lean ====
section
/-! DEFINITION. The terms of claims: what a command finds and leaves, host accesses and guards that act, results posted, a sound clock. -/

namespace Sys2Proof.Machine

/-- The clock when a command arrives. -/
def State.now (s : State) (dt : Nat) : Clock := s.clk.adv dt

/-- The module as a command finds it: nothing put outside yet (log entry 5). -/
def State.found (s : State) : Mod := { s.m with out := [] }

/-- A command has been done: its time has passed and the module is `m`; the queue is as it was. -/
def State.after (s : State) (dt : Nat) (m : Mod) : State := { s with clk := s.clk.adv dt, m := m }

/-- A command has been done that leaves a timebase and a module; the queue is as it was. -/
def State.left (s : State) (r : Clock × Mod) : State := { s with clk := r.1, m := r.2 }

/-- A command completes and leaves the module `m`. -/
def Does (c : Instr) (s : State) (dt : Nat) (m : Mod) : Prop := exec c s = .next (s.after dt m)

/-- A command completes in a state of which `P` holds. -/
def Answers (c : Instr) (s : State) (P : State → Prop) : Prop := ∃ t, exec c s = .next t ∧ P t

/-- A host access at an offset acts: BAR0 responds and the block there is powered (R59, R565). -/
def Mod.opens (m : Mod) (a : Nat) : Bool := m.barUp && (match blockOf a with | none => true | some b => m.blkOn b)

/-- The boundary that ends the tick in progress has been reached. -/
def Clock.ended (k : Clock) : Bool := decide (k.nextBoundary ≤ k.raw)

/-- A guard stands armed with `v` for the register at `x`, its 1 ms has not passed when the command comes, `comp` is the exact
complement and the value is not reserved (R60, R61). -/
def GuardReady (s : State) (dt x v comp : Nat) : Prop :=
  s.m.opens x = true ∧ v < 4294967296 ∧ BitVec.ofNat 32 comp = ~~~BitVec.ofNat 32 v ∧ reservedVal s.m x v = false
    ∧ ∃ armed, s.m.glb.guard = some { off := x, val := BitVec.ofNat 32 v, armedAt := armed } ∧ s.clk.raw + dt ≤ armed + msRaw 1

/-- No guard is armed. -/
def Mod.unguard (m : Mod) : Mod := { m with glb := { m.glb with guard := none } }

/-- Ring 1 takes a result: the ring is set up and its queue has room (R118). -/
def Mod.takesResult (m : Mod) : Bool := m.ringState 1 != 0 && decide ((m.rng 1).queue.length < ringDepth 1)

/-- The item that a result makes on ring 1 (R116). -/
def resultItem (k : Clock) (block opcode code : Nat) (h : Hdr) (payload : List Byte) : Item :=
  { kind := 2, data := resultBytes block opcode code h.tag k.tick k.tick payload, tick := k.tick }

/-- The timebase is sound: neither the anchor count nor the start of the tick in progress lies in the future (R221, R14). -/
def Clock.sound (k : Clock) : Prop := k.ancC ≤ k.raw ∧ k.tickRaw ≤ k.raw

/-- A doorbell value passes the three checks of R99: no bit above the pointer's, an occupancy within the ring, none taken back. -/
def Mod.doorbellOk (m : Mod) (n v : Nat) : Prop :=
  let span := 2 ^ ((m.rng n).log2 + 1)
  let occ := (v % 131072 + span - m.rd (R.RING_CONS n) % span) % span
  v % 131072 < span ∧ occ ≤ 2 ^ (m.rng n).log2 ∧ m.ringOcc n ≤ occ

/-- A command waits for the Shepherd's next latch: last among the waiting ones, in acceptance order (R26, R278). -/
def Waits (s t : State) (dt : Nat) (h : Hdr) (c : ShepCmd) : Prop :=
  t.m.shep.cmds = s.m.shep.cmds
      ++ [{ cmd := c, tag := h.tag, noResult := h.noResult, acceptTick := (s.now dt).tick, seq := s.m.shep.seq }]
    ∧ t.m.shep.seq = s.m.shep.seq + 1

/-- A path may carry a frame under the broadcast key: the key can be used, and every airtime up to 200 ms is within the budget of the
path's band (R394, R500). -/
def Mod.pathFree (m : Mod) (k : Clock) (path : Nat) (drop : Bool) : Prop :=
  m.slotAllows (m.fld F.AIR_KEY_CTL_BCAST) [1] 0 1 = true ∧ ∀ us ≤ 200000, m.budOk k (bandOf path) us drop = true

/-- One frame of a type goes out on a path, on the path's channel and at its power, in a grain of the superframe, and is counted; nothing
else goes out (R366, R398, R402). -/
def Sent (s t : State) (dt path type grain : Nat) : Prop :=
  (∃ data, t.m.out = [.radio path type grain (s.m.airChan (s.now dt) path) (s.m.airPower path) data])
    ∧ t.m.rd R.AIR_TX_CNT = (s.m.rd R.AIR_TX_CNT + 1) % 4294967296

/-- A source trips: it is one with a trip of the same cycle, or a trip takes place: the Leash is TRIPPED, the trip counted and numbered
and its instant recorded; CAUSE names the trip that ended ARMED (R411, R413 to R415). -/
def Tripped (s t : State) (dt cause : Nat) : Prop :=
  if s.m.lstate = 0 ∧ s.m.leash.tripAt = some (s.clk.raw + dt) then
    t.m.lstate = 0 ∧ t.m.rd R.LEASH_TRIP_CNT = s.m.rd R.LEASH_TRIP_CNT ∧ t.m.rd R.LEASH_TRIP_ID = s.m.rd R.LEASH_TRIP_ID
      ∧ t.m.leash.tripAt = s.m.leash.tripAt
  else t.m.lstate = 0 ∧ t.m.rd R.LEASH_TRIP_CNT = (s.m.rd R.LEASH_TRIP_CNT + 1) % 4294967296
    ∧ t.m.rd R.LEASH_TRIP_ID = (s.m.rd R.LEASH_TRIP_ID + 1) % 65536 ∧ t.m.rd R.LEASH_TRIP_TICK = (s.now dt).tick
    ∧ t.m.rd R.LEASH_TRIP_NS = Clock.word (s.now dt).now ∧ t.m.rd R.LEASH_TRIP_WRAP = Clock.wrap (s.now dt).now
    ∧ t.m.bit R.LEASH_EVT 0 = true ∧ t.m.fld F.LEASH_STAT_CAUSE = if s.m.lstate = 2 then cause else s.m.fld F.LEASH_STAT_CAUSE

/-- The level and the judgement of input 0 A or 1 B (R408). -/
def inField (x : Nat) : Fld := if x = 0 then F.LEASH_STAT_IN_A else F.LEASH_STAT_IN_B

def Mod.inCh (m : Mod) (x : Nat) : LeashIn := if x = 0 then m.leash.a else m.leash.b

end Sys2Proof.Machine
end

