-- ==== Sys2Proof/Certificates/Slice0/Obligations.lean ====
section
/-! DEFINITION. The statements for the provers. -/

open Sys2Proof Sys2Proof.Machine

/-! ## Steps -/

/-- A step takes the command that has waited longest and does it on the rest of the queue; with none waiting the module idles, which is the
model's choice (log entry 47). -/
def Obligations.StepTakesFront : Prop :=
  (∀ (s : State) (c : Instr) (rest : List Instr), s.pending = c :: rest → step s = exec c { s with pending := rest })
    ∧ ∀ s : State, s.pending = [] → step s = .next s

/-- R220, R221, R14: elapsed time never runs back, and where the anchor count and the start of the tick in progress do not lie in the
future, they do not after a step. -/
def Obligations.StepKeepsClockSound : Prop :=
  ∀ s t : State, s.clk.sound → step s = .next t → t.clk.sound ∧ s.clk.raw ≤ t.clk.raw

/-- The clock is sound at reset. -/
def Obligations.ResetClockSound : Prop := State.reset.clk.sound

/-- A step takes exactly the front command away: no command's effect changes the queue behind it or stops the machine. -/
def Obligations.StepKeepsQueue : Prop :=
  ∀ (s : State), ∃ t, step s = .next t ∧ t.pending = s.pending.tail

/-! ## Guards and commits (R60 to R63) -/

/-- R60, R61: a full-width write arms the guard; a guard that stands armed is discarded first and counted; one past its 1 ms is discarded. -/
def Obligations.GuardArmsAndExpires : Prop :=
  (∀ (s : State) (dt x v : Nat), s.m.opens x = true → isGuarded x = true → s.m.glb.guard = none →
      Does (.guardArm dt x v) s dt
        { s.found with glb := { s.m.glb with guard := some { off := x, val := BitVec.ofNat 32 v, armedAt := s.clk.raw + dt } } })
    ∧ (∀ (s : State) (dt x v : Nat) (g : Guard), s.m.opens x = true → isGuarded x = true → s.m.glb.guard = some g →
      s.clk.raw + dt ≤ g.armedAt + msRaw 1 →
      Does (.guardArm dt x v) s dt
        { (s.found.guardFail g.off) with
          glb := { (s.found.guardFail g.off).glb with guard := some { off := x, val := BitVec.ofNat 32 v, armedAt := s.clk.raw + dt } } })
    ∧ (∀ (s : State) (dt : Nat) (g : Guard), s.m.glb.guard = some g → g.armedAt + msRaw 1 < s.clk.raw + dt →
      Does (.guardExpiry dt) s dt (s.found.unguard.guardFail g.off))
    ∧ ∀ (s : State) (dt : Nat) (g : Guard), s.m.glb.guard = some g → s.clk.raw + dt ≤ g.armedAt + msRaw 1 →
      Does (.guardExpiry dt) s dt s.found

/-- R60, R63, R72: a commit whose guard stands armed in time, with its exact complement and a value not reserved, takes effect with that
value and leaves no guard armed: a register without a behaviour of its own takes it in its shadow or its live copy, a re-admission
register for the next boundary, the others as their own rules say. -/
def Obligations.GuardedCommitsTakeEffect : Prop :=
  (∀ (s : State) (dt x v comp : Nat) (r : RegRow), GuardReady s dt x v comp → rowOf x = some r → r.acc = .grd →
      x ∉ [R.GLB_CFG_REF, R.GLB_SW_RESET, R.PWR_REQ, R.PWR_SOFT_RESET, R.REC_CLEAR_RING, R.REC_CLEAR_PROT, R.LEASH_TRIP, R.LEASH_ARM,
        R.KEN_TAMPER_CLR, R.KEN_ZEROISE, R.KEN_READMIT, R.UPD_FUSE_SVN, R.GNSS_READMIT, R.PACK_READMIT, R.MOT_READMIT, R.AIR_READMIT,
        R.SW_READMIT] →
      Does (.guardCommit dt x comp) s dt (s.found.unguard.commitPlain x v))
    ∧ (∀ (s : State) (dt v comp : Nat), GuardReady s dt R.GLB_CFG_REF v comp →
      Does (.glbCfgRefCommit dt comp) s dt (s.found.unguard.refCommit v))
    ∧ (∀ (s : State) (dt v comp : Nat),
      (GuardReady s dt R.GNSS_READMIT v comp → Does (.gnssReadmit dt comp) s dt (s.found.unguard.readmitCommit R.GNSS_READMIT v))
      ∧ (GuardReady s dt R.PACK_READMIT v comp → Does (.packReadmit dt comp) s dt (s.found.unguard.readmitCommit R.PACK_READMIT v))
      ∧ (GuardReady s dt R.MOT_READMIT v comp → Does (.motReadmit dt comp) s dt (s.found.unguard.readmitCommit R.MOT_READMIT v))
      ∧ (GuardReady s dt R.AIR_READMIT v comp → Does (.airReadmit dt comp) s dt (s.found.unguard.readmitCommit R.AIR_READMIT v))
      ∧ (GuardReady s dt R.SW_READMIT v comp → Does (.swReadmit dt comp) s dt (s.found.unguard.readmitCommit R.SW_READMIT v))
      ∧ (GuardReady s dt R.KEN_READMIT v comp → Does (.kenReadmit dt comp) s dt (s.found.unguard.readmitCommit R.KEN_READMIT v)))
    ∧ ∀ (s : State) (dt v comp : Nat),
      (GuardReady s dt R.REC_CLEAR_RING v comp →
        Does (.recClearRing dt comp) s dt ((s.found.unguard.recClear false v).cfgSet R.REC_CLEAR_RING v))
      ∧ (GuardReady s dt R.REC_CLEAR_PROT v comp →
        Does (.recClearProt dt comp) s dt ((s.found.unguard.recClear true v).cfgSet R.REC_CLEAR_PROT v))
      ∧ (GuardReady s dt R.PWR_SOFT_RESET v comp →
        Does (.pwrSoftReset dt comp) s dt ((s.found.unguard.cfgSet R.PWR_SOFT_RESET v).softReset (s.now dt) v))
      ∧ (GuardReady s dt R.PWR_REQ v comp → s.m.running = true →
        Does (.pwrReq dt comp) s dt (s.found.unguard.pwrReq (s.now dt) v))
      ∧ (GuardReady s dt R.GLB_SW_RESET v comp →
        exec (.glbSwReset dt comp) s = .next (s.left ((s.found.unguard.wr R.GLB_SW_RESET v).beginReset (s.now dt) 5 false)))

/-- R61: a complement that comes to a guard armed for its register and in time, but is not the exact complement or meets a reserved value,
is discarded: counted, with GRD_FAIL and the offset, and no guard stays armed; without a guard armed for the register likewise. -/
def Obligations.GuardedCommitsFail : Prop :=
  (∀ (s : State) (dt x comp : Nat) (g : Guard), s.m.opens x = true → isGuarded x = true → s.m.glb.guard = some g → g.off = x →
      s.clk.raw + dt ≤ g.armedAt + msRaw 1 → (BitVec.ofNat 32 comp ≠ ~~~g.val ∨ reservedVal s.m x g.val.toNat = true) →
      x ≠ R.GLB_SW_RESET →
      Does (.guardCommit dt x comp) s dt (s.found.unguard.guardFail x))
    ∧ ∀ (s : State) (dt x comp : Nat), s.m.opens x = true → isGuarded x = true → s.m.glb.guard = none → x ≠ R.GLB_SW_RESET →
      Does (.guardCommit dt x comp) s dt (s.found.guardFail x)

/-- R430: `LEASH_TRIP` and `LEASH_ARM` accept only 0x0000_0001; a commit of another value is discarded under R61, and of 1 acts. -/
def Obligations.LeashCommitsAcceptOne : Prop :=
  ∀ (s : State) (dt v comp armed : Nat), s.m.opens R.LEASH_TRIP = true → v < 4294967296 → BitVec.ofNat 32 comp = ~~~BitVec.ofNat 32 v →
    s.clk.raw + dt ≤ armed + msRaw 1 →
    (s.m.glb.guard = some { off := R.LEASH_TRIP, val := BitVec.ofNat 32 v, armedAt := armed } →
      Does (.leashTrip dt comp) s dt
        (if v = 1 then
          Mod.leashSource { (s.found.unguard.cfgSet R.LEASH_TRIP 1) with leash := { s.m.leash with swReg := true } } (s.now dt) s.m.leash.swReg 3
        else s.found.unguard.guardFail R.LEASH_TRIP))
    ∧ (s.m.glb.guard = some { off := R.LEASH_ARM, val := BitVec.ofNat 32 v, armedAt := armed } →
      Does (.leashArm dt comp) s dt
        (if v = 1 then
          (s.found.unguard.cfgSet R.LEASH_ARM 1).armRequest (s.now dt) (if s.m.fld F.LEASH_CTL_ARM_SRC = 1 then 8 else 0)
        else s.found.unguard.guardFail R.LEASH_ARM))

/-! ## Host accesses to GLB (R52 to R77, R90, R91) -/

/-- R52, R55, R56, R59, R71, R72: a write of some byte lanes to a read-write register that has a shadow merges those lanes into the
shadow and changes nothing else; an unmapped access sets UNMAPPED and an access to a powered-off block PWR_OFF_ACCESS, and a read answers
0 or all ones. -/
def Obligations.HostAccesses : Prop :=
  (∀ (s : State) (dt a v be : Nat) (r : RegRow), rowOf a = some r → a % 4 = 0 → r.acc = .rw → shadowed a = true →
      (∀ c < 320, a ≠ R.GNSS_CH_ASSIGN c) → s.m.opens a = true → v < 4294967296 → 0 < be → be < 16 →
      Does (.registerWrite dt a v be) s dt (s.found.wrSh a (merge (s.m.rdSh a) (v &&& laneMask be) (laneMask be &&& r.rwm))))
    ∧ (∀ (s : State) (dt a : Nat) (w : Bool), s.m.barUp = true → a % 4 = 0 → rowOf a = none →
      Does (.unmappedAccess dt a w) s dt (if w then s.found.glbErr 5 a else (s.found.glbErr 5 a).emit (.readData 0)))
    ∧ ∀ (s : State) (dt a b : Nat) (w : Bool), s.m.barUp = true → a % 4 = 0 → rowOf a ≠ none → blockOf a = some b → s.m.blkOn b = false →
      Does (.poweredOffAccess dt a w) s dt (if w then s.found.glbErr 2 a else (s.found.glbErr 2 a).emit (.readData 0xFFFFFFFF))

/-- R59: a write to a register of a powered-off block changes no register of any block: it sets GLB_ERR.PWR_OFF_ACCESS, and with it only
GLB_ERR_ADDR and the interrupt status of source 0 may change. -/
def Obligations.PoweredOffWriteFrame : Prop :=
  ∀ (s : State) (dt a b : Nat), s.m.barUp = true → a % 4 = 0 → rowOf a ≠ none → blockOf a = some b → s.m.blkOn b = false →
    Answers (.poweredOffAccess dt a true) s fun t =>
      t.m.bit R.GLB_ERR 2 = true
        ∧ (∀ x, x ≠ R.GLB_ERR → x ≠ R.GLB_ERR_ADDR → x ≠ R.RING_IRQ_STAT → t.m.rd x = s.m.rd x) ∧ t.m.shadow = s.m.shadow
        ∧ t.m.gnss = s.m.gnss ∧ t.m.time = s.m.time ∧ t.m.pack = s.m.pack ∧ t.m.shep = s.m.shep ∧ t.m.mot = s.m.mot ∧ t.m.sw = s.m.sw
        ∧ t.m.air = s.m.air ∧ t.m.leash = s.m.leash ∧ t.m.pwr = s.m.pwr ∧ t.m.rcd = s.m.rcd ∧ t.m.perf = s.m.perf ∧ t.m.ken = s.m.ken
        ∧ t.m.brace = s.m.brace ∧ t.m.upd = s.m.upd ∧ t.m.nv = s.m.nv ∧ t.m.glb = s.m.glb ∧ t.m.ring.rings = s.m.ring.rings

/-- R73, R75: a write of a non-zero mask to GLB_APPLY fixes an instant 2 µs on; while an apply is pending a further one is dropped, sets
APPLY_BUSY and leaves the pending apply as it is. -/
def Obligations.ApplyPending : Prop :=
  (∀ (s : State) (dt mask : Nat), s.m.barUp = true → mask % 65536 ≠ 0 → s.m.glb.apply = none → s.m.on F.GLB_CFG_STAT_REFUSING = false →
      Answers (.glbApply dt mask) s fun t =>
        t.m.glb.apply = some (s.clk.raw + dt + usRaw 2, mask % 65536) ∧ t.m.on F.GLB_APPLY_STAT_PENDING = true
          ∧ ∀ x, x ≠ R.GLB_APPLY_STAT → t.m.rd x = s.m.rd x)
    ∧ ∀ (s : State) (dt mask at_ m0 : Nat), s.m.barUp = true → mask % 65536 ≠ 0 → s.m.glb.apply = some (at_, m0) →
      Answers (.glbApply dt mask) s fun t =>
        t.m.glb = s.m.glb ∧ t.m.bit R.GLB_ERR 6 = true
          ∧ ∀ x, x ≠ R.GLB_ERR → x ≠ R.GLB_ERR_ADDR → x ≠ R.RING_IRQ_STAT → t.m.rd x = s.m.rd x

/-- R73, R82, R90, R91: an apply whose instant has come takes place, counted with its tick; a walk ends at a boundary whose tick number is
a multiple of 8; GLB_ERR clears by bits, its enables are written. -/
def Obligations.GlbEvents : Prop :=
  (∀ (s : State) (dt at_ mask : Nat), s.m.glb.apply = some (at_, mask) → s.m.barUp = true → at_ ≤ s.clk.raw + dt →
      at_ < (s.now dt).nextBoundary →
      exec (.applyInstant dt) s = .next (s.left (s.found.applyAt (s.now dt) (s.now dt) at_ mask)))
    ∧ (∀ (s : State) (dt : Nat), (s.now dt).ended = true → (s.now dt).beginTick.tickNo % 8 = 0 → s.m.barUp = true →
      s.m.glb.judgedAt ≠ some (s.now dt).beginTick.tickNo → s.m.glb.walking = false →
      Does (.cfgWalkEnd dt) s dt
        { s.found with glb := { s.m.glb with
            walking := true, torn := false, incomplete := s.m.walkHole, judgedAt := some (s.now dt).beginTick.tickNo } })
    ∧ (∀ (s : State) (dt mask : Nat), s.m.barUp = true →
      Answers (.glbErrClear dt mask) s fun t =>
        t.m.rd R.GLB_ERR = s.m.rd R.GLB_ERR &&& (1023 - mask % 1024)
          ∧ (t.m.rd R.GLB_ERR = 0 → t.m.rd R.GLB_ERR_ADDR = 0)
          ∧ (t.m.rd R.GLB_ERR ≠ 0 → t.m.rd R.GLB_ERR_ADDR = s.m.rd R.GLB_ERR_ADDR)
          ∧ ∀ x, x ≠ R.GLB_ERR → x ≠ R.GLB_ERR_ADDR → t.m.rd x = s.m.rd x)
    ∧ ∀ (s : State) (dt v : Nat), s.m.barUp = true → (v % 1024 &&& (1023 - s.m.rd R.GLB_ERR_IRQ_EN % 1024) &&& s.m.rd R.GLB_ERR) = 0 →
      Does (.glbErrIrqEnWrite dt v) s dt (s.found.wr R.GLB_ERR_IRQ_EN (v % 1024))

/-- R65 to R67: a selection begins a sequence, or sets ERR; the snapshot becomes ready; data words are read and written one by one. -/
def Obligations.MailboxSequences : Prop :=
  (∀ (s : State) (dt sel v : Nat), sel ∈ mbxSels → s.m.opens sel = true →
      Does (.mbxSelect dt sel v) s dt (s.found.mbxSelect (s.now dt) sel v))
    ∧ (∀ (s : State) (dt sel : Nat) (q : MbxSeq), s.m.opens sel = true → AMap.find s.m.glb.mbx sel = some q → q.write = false →
      s.m.bit (sel + 4) 1 = true →
      Does (.mbxSnapshotReady dt sel) s dt
        ((s.found.setMbx sel (some { q with
            data := (padTo ((s.found.mbxItem (s.now dt) sel q.item q.inst).getD []) q.words).map (BitVec.ofNat 32) })).mbxStat
          sel true false false q.words))
    ∧ (∀ (s : State) (dt sel : Nat) (q : MbxSeq) (w : Word) (rest : List Word), sel ∈ mbxSels → s.m.opens sel = true →
      s.m.opens (sel + 8) = true → AMap.find s.m.glb.mbx sel = some q → s.m.mbxValid sel = true → q.write = false → q.data = w :: rest →
      Answers (.mbxDataRead dt sel) s fun t =>
        t.m.out = [.readData w]
          ∧ AMap.find t.m.glb.mbx sel = (if rest = [] then none else some { q with data := rest }))
    ∧ ∀ (s : State) (dt sel v : Nat) (q : MbxSeq), sel ∈ mbxSels → s.m.opens (sel + 8) = true → AMap.find s.m.glb.mbx sel = some q →
      s.m.mbxValid sel = true → q.write = true → q.data.length + 1 < q.words →
      Does (.mbxDataWrite dt sel v) s dt (s.found.setMbx sel (some { q with data := q.data ++ [BitVec.ofNat 32 v] }))

/-! ## Host rings (R93 to R130) -/

/-- R99, R100, R101, R120: a doorbell on a ring that is READY or STOPPED and passes the checks gives RING_PROD its value and changes
nothing else, in OVERWRITE it changes nothing at all; any other keeps RING_PROD, sets BAD_DB and, where BAD_DB read 0, raises the RING error source. -/
def Obligations.DoorbellsAdvanceOrFail : Prop :=
  ∀ (s : State) (dt n v : Nat), n < 10 → s.m.opens (R.RING_DB n) = true →
    ((s.m.ringState n = 1 ∨ s.m.ringState n = 2) → s.m.doorbellOk n v →
      Does (.ringDoorbell dt n v) s dt (if s.m.overwrites n then s.found else s.found.wr (R.RING_PROD n) (v % 131072)))
    ∧ (s.m.ringState n = 0 ∨ s.m.ringState n = 3 ∨ ¬ s.m.doorbellOk n v →
      Answers (.ringDoorbell dt n v) s fun t =>
        t.m.rd (R.RING_PROD n) = s.m.rd (R.RING_PROD n) ∧ t.m.bit (R.RING_STAT n) 16 = true
          ∧ (s.m.bit (R.RING_STAT n) 16 = false → t.m.bit R.RING_IRQ_STAT 1 = true)
          ∧ ∀ x, x ≠ R.RING_STAT n → x ≠ R.RING_IRQ_STAT → t.m.rd x = s.m.rd x)

/-- R103 to R106, R121, R127, R128: an enable captures the set-up or resumes; stop, flush, reset and a write of CONS act on the ring. -/
def Obligations.RingControl : Prop :=
  (∀ (s : State) (dt n : Nat), n < 10 → s.m.opens (R.RING_CTL n) = true → s.m.on (F.RING_CTL_EN n) = false → s.m.ringResetting n = false →
      s.m.ringState n = 0 → s.m.setupCode n = 0 →
      Answers (.ringEnable dt n) s fun t =>
        t.m.ringState n = 1 ∧ t.m.on (F.RING_CTL_EN n) = true
          ∧ t.m.rng n = { RingSt.off with
              base := s.m.rd (R.RING_BASE_LO n) + s.m.rd (R.RING_BASE_HI n) * 4294967296
              wb := s.m.rd (R.RING_WB_LO n) + s.m.rd (R.RING_WB_HI n) * 4294967296
              cfg := s.m.rd (R.RING_CFG n)
              log2 := (sizeLog (s.m.rd (R.RING_SIZE n))).getD 4 })
    ∧ (∀ (s : State) (dt n : Nat), n < 10 → s.m.opens (R.RING_CTL n) = true → s.m.on (F.RING_CTL_EN n) = false → s.m.ringResetting n = false →
      s.m.ringState n = 2 →
      Answers (.ringEnable dt n) s fun t => t.m.ringState n = 1 ∧ t.m.rng n = s.m.rng n)
    ∧ (∀ (s : State) (dt n : Nat), n < 10 → s.m.opens (R.RING_CTL n) = true → s.m.on (F.RING_CTL_EN n) = true → s.m.ringState n = 1 →
      Answers (.ringStop dt n) s fun t => t.m.ringState n = 2 ∧ t.m.rd (R.RING_PROD n) = s.m.rd (R.RING_PROD n))
    ∧ (∀ (s : State) (dt n : Nat), n < 10 → s.m.opens (R.RING_CTL n) = true → s.m.ringState n = 1 → ringIn n = true →
      Answers (.ringFlush dt n) s fun t =>
        (t.m.rng n).flushTo = some (s.m.rd (R.RING_PROD n)) ∧ (t.m.rng n).fetched = flushDescs (s.m.rng n).fetched
          ∧ t.m.on (F.RING_CTL_FLUSH n) = true)
    ∧ (∀ (s : State) (dt n : Nat), n < 10 → s.m.on (F.RING_CTL_FLUSH n) = true → s.m.flushSettled n = true →
      Answers (.ringFlushDone dt n) s fun t => t.m.on (F.RING_CTL_FLUSH n) = false ∧ (t.m.rng n).flushTo = none)
    ∧ (∀ (s : State) (dt n : Nat), n < 10 → s.m.opens (R.RING_CTL n) = true →
      Answers (.ringReset dt n) s fun t => t.m.on (F.RING_CTL_RESET n) = true ∧ t.m.on (F.RING_CTL_EN n) = false)
    ∧ (∀ (s : State) (dt n : Nat), n < 10 → s.m.ringResetting n = true →
      Answers (.ringResetDone dt n) s fun t =>
        t.m.ringState n = 0 ∧ t.m.rng n = RingSt.off ∧ t.m.rd (R.RING_PROD n) = 0 ∧ t.m.rd (R.RING_CONS n) = 0
          ∧ t.m.on (F.RING_CTL_RESET n) = false)
    ∧ ∀ (s : State) (dt n v : Nat), n < 10 → s.m.opens (R.RING_CONS n) = true → s.m.ringState n = 2 → v < (s.m.rng n).span →
      (s.m.rd (R.RING_PROD n) + (s.m.rng n).span - v % (s.m.rng n).span) % (s.m.rng n).span ≤ 2 ^ (s.m.rng n).log2 →
      Answers (.ringConsWrite dt n v) s fun t => t.m.rd (R.RING_CONS n) = v % 4294967296 ∧ (t.m.rng n).fetched = []

/-- R108 to R126: descriptors are fetched, dispatched and completed, items queued and moved to host memory, faults captured, and
interrupts enabled and delivered, each where its condition holds. -/
def Obligations.RingTransport : Prop :=
  (∀ (s : State) (dt n : Nat) (b : List Byte), s.m.mayFetch n = true → Does (.descriptorFetch dt n b) s dt (s.found.fetchDesc n b))
    ∧ (∀ (s : State) (dt : Nat) (d : List Byte), Does (.commandDispatch dt d) s dt (s.found.dispatch (s.now dt) d))
    ∧ (∀ (s : State) (dt n kind : Nat) (d : List Byte), ringCarries n kind = true → d.length ≤ ringMax n → s.m.mayItem n = true →
      s.m.ringState n ≠ 0 → (s.m.rng n).queue.length < ringDepth n →
      Answers (.itemEnqueue dt n kind d) s fun t =>
        (t.m.rng n).queue = (s.m.rng n).queue ++ [{ kind := kind, data := d, tick := (s.now dt).tick }] ∧ t.m.live = s.m.live)
    ∧ (∀ (s : State) (dt n : Nat), n < 10 → ringIn n = false → s.m.ringState n = 1 → s.m.ringResetting n = false →
      Does (.itemDmaToHost dt n) s dt (s.found.fillBuffer n))
    ∧ (∀ (s : State) (dt n : Nat), s.m.mayComplete n = true → Does (.descriptorComplete dt n) s dt (s.found.completeHead (s.now dt) n))
    ∧ (∀ (s : State) (dt n cause addr : Nat) (w : Bool) (on : Option Nat), n < 10 → s.m.ringState n = 1 →
      Does (.dmaFault dt n w cause addr on) s dt (s.found.dmaFault n w cause addr on))
    ∧ (∀ (s : State) (dt addr : Nat) (w : Bool), Does (.busMasterDisable dt addr w) s dt (s.found.bmeOff addr w))
    ∧ (∀ (s : State) (dt n : Nat), n < 10 → s.m.fld (F.RING_COAL_TIME n) ≠ 0 → 0 < (s.m.rng n).uncovered →
      (s.m.rng n).uncoveredAt + usRaw (s.m.fld (F.RING_COAL_TIME n)) ≤ s.clk.raw + dt →
      Answers (.ringCoalTimeout dt n) s fun t => (t.m.rng n).uncovered = 0 ∧ t.m.bit R.RING_IRQ_STAT (2 + n) = true)
    ∧ (∀ (s : State) (dt v : Nat), s.m.opens R.RING_IRQ_EN = true →
      Answers (.ringIrqEnWrite dt v) s fun t => t.m.rd R.RING_IRQ_EN = v % 134217728 ∧ t.m.rd R.RING_IRQ_STAT = s.m.rd R.RING_IRQ_STAT)
    ∧ (∀ (s : State) (dt : Nat), s.m.opens R.RING_DMA_ERR_INFO = true →
      Answers (.ringDmaErrClear dt) s fun t =>
        t.m.rd R.RING_DMA_ERR_INFO = 0 ∧ t.m.rd R.RING_DMA_ERR_LO = 0 ∧ t.m.rd R.RING_DMA_ERR_HI = 0)
    ∧ ∀ (s : State) (dt v : Nat), v < 32 → s.m.barUp = true → s.m.ring.msixPend.testBit v = true →
      Answers (.msixVectorUnmask dt v) s fun t =>
        t.m.out = [.msix v] ∧ t.m.ring.msixMask.testBit v = false ∧ t.m.ring.msixPend.testBit v = false

/-- R116, R118: a result posted while ring 1 is set up and has room stands last in its queue, as the 24-byte header with the payload
behind it; with NO_RESULT set only a RESULT of 0 is withheld. -/
def Obligations.ResultsPosted : Prop :=
  ∀ (m : Mod) (k : Clock) (block opcode code : Nat) (h : Hdr) (p : List Byte), m.takesResult = true →
    (h.noResult = false ∨ code ≠ 0 →
      ((m.reply k block opcode code h p).rng 1).queue = (m.rng 1).queue ++ [resultItem k block opcode code h p])
    ∧ (h.noResult = true → code = 0 → ((m.reply k block opcode code h p).rng 1).queue = (m.rng 1).queue)
    ∧ (m.reply k block opcode code h p).live = m.live

/-! ## Elements and background activities (R34 to R41) -/

/-- R34, R36, R37: of an element in service that has not faulted in this tick, a fault begins a retry; a third one within 1,000 ticks, or
one during its retry or in the tick of its re-admission, retires it: it enters the retirement map. -/
def Obligations.FaultsRetryOrRetire : Prop :=
  ∀ (m : Mod) (k : Clock) (kind i : Nat), m.isRetired kind i = false → k.tickNo ∉ (m.elemAt kind i).recent k.tickNo →
    ((m.elemAt kind i).retry = false → (m.elemAt kind i).restored ≠ some k.tickNo → ((m.elemAt kind i).recent k.tickNo).length < 2 →
      (m.elemJudge k kind i).2 = .retry ∧ ((m.elemJudge k kind i).1.elemAt kind i).retry = true
        ∧ (m.elemJudge k kind i).1.nv = m.nv ∧ (m.elemJudge k kind i).1.live = m.live)
    ∧ ((m.elemAt kind i).retry = true ∨ (m.elemAt kind i).restored = some k.tickNo ∨ 2 ≤ ((m.elemAt kind i).recent k.tickNo).length →
      (m.elemJudge k kind i).2 = .retired ∧ (m.elemJudge k kind i).1.isRetired kind i = true)

/-- R34, R35, R41, R163: faults, the end of retries, the background activities and the calibration of a channel take place where their
block works; LPDDR is scrubbed by the bursts due, at most 4, a thousandth of the tables each tick, one block of flash at a time. -/
def Obligations.ElementsAndBackground : Prop :=
  (∀ (s : State) (dt kind i : Nat), s.m.elemUp kind = true →
      Does (.elementFault dt kind i) s dt (s.found.elementFault (s.now dt) kind i))
    ∧ (∀ (s : State) (dt kind i : Nat), s.m.elemUp kind = true → (s.now dt).ended = true →
      Does (.elementRetryEnd dt kind i) s dt (s.found.elementRetryEnd (s.now dt) kind i))
    ∧ (∀ (s : State) (dt : Nat), s.m.running = true → s.m.pstate = 0 → 0 < (s.clk.raw + dt - s.m.back.scrubAt) / usRaw 64 →
      (s.clk.raw + dt - s.m.back.scrubAt) / usRaw 64 ≤ 4 →
      Does (.lpddrScrub dt) s dt
        { s.found with back := { s.m.back with
            scrubPos := (s.m.back.scrubPos + (s.clk.raw + dt - s.m.back.scrubAt) / usRaw 64) % scrubPass
            scrubAt := s.m.back.scrubAt + (s.clk.raw + dt - s.m.back.scrubAt) / usRaw 64 * usRaw 64 } })
    ∧ (∀ (s : State) (dt : Nat), s.m.running = true → s.m.pstate = 0 → s.m.back.parityTick < s.clk.tickNo →
      Does (.tableParityScrub dt) s dt
        { s.found with back := { s.m.back with
            parityPos := (s.m.back.parityPos + min 2 (s.clk.tickNo - s.m.back.parityTick)) % 1000, parityTick := s.clk.tickNo } })
    ∧ (∀ (s : State) (dt : Nat), s.m.running = true → s.m.pstate = 0 →
      Does (.flashRefresh dt) s dt { s.found with back := { s.m.back with flashPos := s.m.back.flashPos + 1, flashAt := s.clk.raw + dt } })
    ∧ ∀ (s : State) (dt c : Nat) (bias : Int), s.m.live? 9 = true → s.m.on F.GNSS_CTL_EN = true → c < 320 → s.m.calOpen c = true →
      Does (.gnssCal dt c bias) s dt (s.found.gnssCal (s.now dt) c bias)

/-! ## GNSS (R131 to R173) -/

/-- R134, R136: a band above its threshold sets JAM and its event, one below clears JAM; the antenna's state is judged while its bias is on,
and again 10 s after a short removed it. -/
def Obligations.AntennaAndJamming : Prop :=
  (∀ (s : State) (dt band : Nat) (p : Int), s.m.blkOn 9 = true → band < 3 → ((s.m.rd R.GNSS_JAM_THR % 256 : Nat) : Int) < p →
      Answers (.bandJam dt band p) s fun t =>
        t.m.bit (agcReg band) 31 = true ∧ t.m.bit R.GNSS_EVT 1 = true ∧ bitsOf (t.m.rd (agcReg band)) 15 8 = unsigned 8 p)
    ∧ (∀ (s : State) (dt band : Nat) (p : Int), s.m.blkOn 9 = true → band < 3 → p < ((s.m.rd R.GNSS_JAM_THR % 256 : Nat) : Int) →
      Answers (.bandJamClear dt band p) s fun t =>
        t.m.bit (agcReg band) 31 = false ∧ t.m.rd R.GNSS_EVT = s.m.rd R.GNSS_EVT ∧ t.m.gnss = s.m.gnss)
    ∧ (∀ (s : State) (dt mA : Nat) (limit : Bool), s.m.domOn 4 = true → s.m.gnss.biasRemoved = false →
      Does (.antennaStateChange dt mA limit) s dt (s.found.antJudge (s.now dt) mA limit))
    ∧ ∀ (s : State) (dt mA : Nat) (limit : Bool), s.m.domOn 4 = true → s.m.gnss.biasRemoved = true →
      s.m.gnss.biasAt + secRaw 10 ≤ s.clk.raw + dt →
      Does (.antBiasRetry dt mA limit) s dt (s.found.antJudge (s.now dt) mA limit)

/-- R142, R145, R152: host software assigns a channel of the host pool through its shadow; dumps, the 500 ms of PULLIN and the 10 s of LOST
act on the channel they name; a HOST channel without STEER for GNSS_HOST_COAST ticks returns to FW. -/
def Obligations.ChannelCommands : Prop :=
  (∀ (s : State) (dt c v : Nat), c < 320 → s.m.opens (R.GNSS_CH_ASSIGN c) = true → s.m.hostPool c = true →
      Does (.gnssChAssign dt c v) s dt (s.found.wrSh (R.GNSS_CH_ASSIGN c) (v &&& 0x00F1FFFF)))
    ∧ (∀ (s : State) (dt c : Nat) (d : DumpIn), s.m.live? 9 = true → c < 320 → s.m.chState c = 3 →
      Does (.channelDump dt c d) s dt ((s.found.dumpTake c d).dumpTrack (s.now dt) c d))
    ∧ (∀ (s : State) (dt c : Nat) (d : DumpIn), s.m.live? 9 = true → c < 320 → s.m.chState c = 2 →
      Does (.channelDump dt c d) s dt ((s.found.dumpTake c d).dumpPullin (s.now dt) c d))
    ∧ (∀ (s : State) (dt c : Nat), s.m.live? 9 = true → c < 320 → s.m.chState c = 2 → (s.m.gch c).since + msRaw 500 ≤ s.clk.raw + dt →
      Answers (.pullinTimeout dt c) s fun t =>
        t.m.chState c = 1 ∧ t.m.rd (R.GNSS_CH_LOCKTIME c) = 0 ∧ (t.m.gch c).since = s.clk.raw + dt
          ∧ ∀ c', c' ≠ c → t.m.gch c' = s.m.gch c' ∧ t.m.chState c' = s.m.chState c')
    ∧ (∀ (s : State) (dt c : Nat), s.m.live? 9 = true → c < 320 → s.m.chState c = 4 → (s.m.gch c).since + secRaw 10 ≤ s.clk.raw + dt →
      Answers (.lostTimeout dt c) s fun t =>
        t.m.chState c = 1 ∧ t.m.rd (R.GNSS_CH_LOCKTIME c) = 0 ∧ (t.m.gch c).since = s.clk.raw + dt
          ∧ ∀ c', c' ≠ c → t.m.gch c' = s.m.gch c' ∧ t.m.chState c' = s.m.chState c')
    ∧ ∀ (s : State) (dt c : Nat), s.m.live? 9 = true → c < 320 → (s.now dt).ended = true → s.m.coastDue c = true →
      Answers (.hostCoastExpiry dt c) s fun t =>
        t.m.fld (F.GNSS_CH_CTL_LOOP c) = 0 ∧ t.m.bit R.GNSS_EVT 4 = true ∧ (t.m.gch c).noSteer = 0

/-- R26, R147, R151, R153, R154: SEARCH, CANCEL, STEER and ACC_STREAM wait for the first latch after their acceptance. There a SEARCH joins
the queue as a host job; CANCEL stops a running one at the end of its current pass; STEER stands for its channel; a stream starts on a
channel in HOST mode while fewer than 16 run. -/
def Obligations.GnssRingCommands : Prop :=
  (∀ (s : State) (dt : Nat) (h : Hdr), s.m.live? 9 = true →
      let waits (c : Instr) (op : Nat) (x : GnssCmd) : Prop :=
        Does c s dt { s.found with gnss := { s.m.gnss with cmds := s.m.gnss.cmds ++ [(acceptedIn 9 op (s.now dt).tick h, x)] } }
      (∀ j reserved, waits (.search dt h j reserved) 1 (.search j reserved))
        ∧ (∀ tag, waits (.searchCancel dt h tag) 2 (.cancel tag))
        ∧ (∀ c flags rate freq codeAdj carrAdj reserved,
          waits (.steer dt h c flags rate freq codeAdj carrAdj reserved) 3 (.steer c flags rate freq codeAdj carrAdj reserved))
        ∧ ∀ c on reserved, waits (.accStream dt h c on reserved) 4 (.stream c on reserved))
    ∧ (∀ (s : State) (dt reserved : Nat) (h : Handed) (j : SearchJob), s.m.searchCode j reserved = 0 →
      s.m.gnssDo (s.now dt) (h, .search j reserved)
        = s.m.jobQueue { j with host := true, tag := h.tag, noResult := h.noResult, acceptTick := h.acceptTick })
    ∧ (∀ (s : State) (dt tag : Nat) (h : Handed) (j : SearchJob) (at_ : Nat) (c : Bool),
      s.m.gnss.jobs.find? (fun j => j.host && j.tag == tag) = none → s.m.gnss.running = some (j, at_, c) → j.host = true → j.tag = tag →
      s.m.gnssDo (s.now dt) (h, .cancel tag)
        = ({ s.m with gnss := { s.m.gnss with
          running := some (j, if c then at_ else
            at_ + ((s.now dt).raw - at_ + max 1 (msRaw j.dwell) - 1) / max 1 (msRaw j.dwell) * max 1 (msRaw j.dwell), true) } } : Mod).finish
              (s.now dt) h 0 [])
    ∧ (∀ (s : State) (dt c flags rate freq codeAdj carrAdj : Nat) (h : Handed), flags ≤ 3 → s.m.hostChCode c = 0 →
      (s.m.gch c).steer = none →
      (let t := s.m.gnssDo (s.now dt) (h, .steer c flags rate freq codeAdj carrAdj 0);
        (t.gch c).steer = some
          { tag := h.tag, noResult := h.noResult, flags := flags, codeRate := BitVec.ofNat 32 rate, carrFreq := BitVec.ofNat 32 freq,
            codeAdj := BitVec.ofNat 32 codeAdj, carrAdj := BitVec.ofNat 32 carrAdj, acceptTick := h.acceptTick }
          ∧ t.live = s.m.live))
    ∧ (∀ (s : State) (dt c : Nat) (h : Handed), s.m.hostChCode c = 0 → (s.m.gch c).stream = none →
      (s.m.gnss.ch.filter fun p => p.2.stream.isSome).length < 16 →
      ((s.m.gnssDo (s.now dt) (h, .stream c 1 0)).gch c).stream
        = some { tag := h.tag, noResult := h.noResult, acceptTick := h.acceptTick, live := false, stopping := false })
    ∧ (∀ (s : State) (dt : Nat) (j : SearchJob), s.m.live? 9 = true → s.m.gnss.running = none →
      nextJob s.m.gnss.jobs s.m.gnss.lastHost = some j →
      Answers (.searchJobStart dt) s fun t =>
        t.m.gnss.running = some (j, s.clk.raw + dt, false) ∧ t.m.gnss.jobs = dropJob j s.m.gnss.jobs)
    ∧ ∀ (s : State) (dt at_ : Nat) (i : SearchIn) (j : SearchJob), s.m.live? 9 = true → s.m.gnss.running = some (j, at_, false) →
      at_ + msRaw (j.dwell * (j.passes + (if i.strong then s.m.verifyN else 0))) ≤ s.clk.raw + dt → j.host = false →
      i.strong = false →
      Answers (.searchJobEnd dt i) s fun t =>
        t.m.gnss.running = none ∧ t.m.rd R.GNSS_SRCH_JOB_CNT = (s.m.rd R.GNSS_SRCH_JOB_CNT + 1) % 4294967296

/-- R23, R156, R157: a measurement set not published at the deadline is discarded and counted; a decoded ephemeris becomes current. -/
def Obligations.MeasurementsAndEphemerides : Prop :=
  (∀ (s : State) (dt : Nat), s.m.live? 9 = true → (s.now dt).lateTick = true → s.m.gnss.set_.isSome = true →
      Answers (.gnssMeasDeadline dt) s fun t => t.m.gnss.set_ = none)
    ∧ ∀ (s : State) (dt sys sv : Nat) (healthy : Bool) (isb : Option Int), s.m.live? 9 = true → svOk sys sv = true →
      Answers (.ephemerisDecoded dt sys sv healthy isb) s fun t =>
        t.m.ephOf sys sv = { current := true, healthy := healthy, at_ := s.clk.raw + dt } ∧ t.m.live = s.m.live

/-! ## PACK (R174 to R219) -/

/-- R174 to R178: a survey start, a sample for a whole second while surveying, a base that moved, an entered position and a station
description take effect. -/
def Obligations.BasePosition : Prop :=
  (∀ (s : State) (dt : Nat), s.m.opens R.PACK_BASE_CMD = true → s.m.fld F.PACK_BASE_CTL_SOURCE = 0 →
      Does (.surveyStart dt) s dt { s.found with pack := { s.m.pack with svyStart := true } })
    ∧ (∀ (s : State) (dt : Nat) (x y z : Int), s.m.live? 10 = true → s.m.baseState = 1 → s.clk.tickNo % 100 = 1 → s.m.fixNow = true →
      s.m.pack.svyTick ≠ some s.clk.tickNo →
      Answers (.surveySample dt x y z) s fun t =>
        t.m.pack.svyN = s.m.pack.svyN + 1 ∧ t.m.pack.svyTick = some s.clk.tickNo
          ∧ t.m.pack.svySum = [nth 0 s.m.pack.svySum 0 + x, nth 0 s.m.pack.svySum 1 + y, nth 0 s.m.pack.svySum 2 + z])
    ∧ (∀ (s : State) (dt h v : Nat), s.m.live? 10 = true → s.m.baseGood = true → (s.m.moveThr < h ∨ s.m.moveThr < v) →
      Does (.baseMoveCheck dt h v) s dt { s.found with pack := { s.m.pack with moved := true } })
    ∧ (∀ (s : State) (dt acc : Nat) (x y z arpH : Int), s.m.opens R.PACK_MBX_DATA = true →
      Does (.basePosWrite dt x y z arpH acc) s dt
        { s.found with pack := { s.m.pack with enteredShadow := some { x := x, y := y, z := z, arpH := arpH, acc := acc } } })
    ∧ ∀ (s : State) (dt : Nat) (ws : List Word), s.m.opens R.PACK_MBX_DATA = true →
      Does (.stationDescWrite dt ws) s dt { s.found with pack := { s.m.pack with descShadow := (ws ++ List.replicate 32 0).take 32 } }

/-- R193, R195, R198, R207, R210: the next flow is admitted, a flow in service ends, a search ends, the flows left at the deadline are
discarded, a rover's filter is reset. -/
def Obligations.Flows : Prop :=
  (∀ (s : State) (dt ready : Nat) (f : Flow) (rest : List Flow), s.m.live? 10 = true → s.m.pack.waiting = f :: rest →
      s.m.mayAdmit f = true →
      Answers (.flowAdmit dt ready) s fun t =>
        t.m.pack.waiting = rest ∧ t.m.pack.flows = s.m.pack.flows ++ [{ f with ready := ready }])
    ∧ (∀ (s : State) (dt r : Nat) (i : FlowIn) (f : Flow), s.m.live? 10 = true → (s.now dt).lateTick = false →
      s.m.pack.flows.find? (fun f => f.rover == r) = some f →
      Does (.flowEnd dt r i) s dt (s.found.flowEnd (s.now dt) r i))
    ∧ (∀ (s : State) (dt : Nat), s.m.live? 10 = true → (s.now dt).lateTick = true →
      Answers (.packDeadline dt) s fun t =>
        t.m.pack.flows = [] ∧ t.m.pack.waiting = []
          ∧ t.m.pack.discarded = s.m.pack.discarded + (s.m.pack.flows.length + s.m.pack.waiting.length))
    ∧ (∀ (s : State) (dt r : Nat) (i : AsuIn) (f : Flow), s.m.live? 10 = true → s.m.pack.flows.find? (fun f => f.rover == r) = some f →
      i.amb ≤ 64 → r < 256 →
      Answers (.asuSearchEnd dt r i) s fun t =>
        (t.m.rv r).search = some { trunc := decide (s.m.nodeMax ≤ i.nodes), ratio := min 65535 i.ratio, ints := i.ints, sats := i.sats })
    ∧ ∀ (s : State) (dt r : Nat), r < 256 → s.m.opens (R.ROVER_FILTER_CMD r) = true →
      Answers (.roverFilterReset dt r) s fun t =>
        t.m.rv r = { s.m.rv r with reset := true } ∧ (∀ r', r' ≠ r → t.m.rv r' = s.m.rv r') ∧ t.m.live = s.m.live ∧ t.m.shadow = s.m.shadow

/-- R26, R202, R216: LOAD_GRAPH and UNLOAD_GRAPH wait for the first latch after their acceptance; there a graph that no rover names is
unloaded, and its result is posted. -/
def Obligations.Graphs : Prop :=
  (∀ (s : State) (dt : Nat) (h : Hdr), s.m.live? 10 = true →
      let waits (c : Instr) (op : Nat) (x : PackCmd) : Prop :=
        Does c s dt { s.found with pack := { s.m.pack with cmds := s.m.pack.cmds ++ [(acceptedIn 10 op (s.now dt).tick h, x)] } }
      (∀ addr reserved img, waits (.loadGraph dt h addr reserved img) 1 (.load addr reserved img))
        ∧ ∀ g reserved, waits (.unloadGraph dt h g reserved) 2 (.unload g reserved))
    ∧ ∀ (s : State) (dt g : Nat) (h : Handed) (x : Graph), 0x80 ≤ g → AMap.find s.m.pack.graphs g = some x →
      s.m.graphUsers g = 0 → s.m.takesResult = true → h.noResult = false →
      (let t := s.m.packDo (s.now dt) (h, .unload g 0);
        AMap.find t.pack.graphs g = none ∧ (AMap.del g t.pack.graphs = AMap.del g s.m.pack.graphs)
          ∧ (t.rng 1).queue = (s.m.rng 1).queue
            ++ [{ kind := 2, data := resultBytes h.block h.opcode 0 h.tag h.acceptTick (s.now dt).tick [], tick := (s.now dt).tick }])

/-! ## TIME (R220 to R257) -/

/-- R227, R228: REF_IN serves once qualified and is dropped when lost, each moving published time by 1 ns at most; an edge of PPS_IN on
the selected level is measured. -/
def Obligations.TimeReferences : Prop :=
  (∀ (s : State) (dt : Nat), s.m.live? 1 = true → s.m.on F.TIME_SRC_CTL_REF_EN = true → s.m.on F.TIME_STAT_REF_LOCK = false →
      Answers (.refQualified dt) s fun t =>
        t.m.on F.TIME_STAT_REF_LOCK = true ∧ t.m.bit R.TIME_EVT 6 = true
          ∧ (t.clk.now - (s.now dt).now).natAbs ≤ 16777216 ∧ t.clk.raw = s.clk.raw + dt)
    ∧ (∀ (s : State) (dt : Nat), s.m.live? 1 = true → s.m.on F.TIME_STAT_REF_LOCK = true →
      Answers (.refLost dt) s fun t =>
        t.m.on F.TIME_STAT_REF_LOCK = false ∧ t.m.bit R.TIME_EVT 5 = true
          ∧ (t.clk.now - (s.now dt).now).natAbs ≤ 16777216 ∧ t.clk.raw = s.clk.raw + dt)
    ∧ ∀ (s : State) (dt : Nat) (rise : Bool), s.m.live? 1 = true → s.m.fld F.TIME_SRC_CTL_SRC = 1 → rise ≠ s.m.on F.TIME_SRC_CTL_PPS_POL →
      s.m.time.ppsAt = none →
      Answers (.ppsInEdge dt rise) s fun t => t.m.time.ppsAt = some (s.clk.raw + dt) ∧ t.m.live = s.m.live

/-- R229, R230, R233, R235, R237: LOCKED becomes HOLDOVER when its source is lost, HOLDOVER becomes UNTRACEABLE past the threshold, a steady
source begins the return, a planned step is taken at its boundary; SET is accepted in UNTRACEABLE for a whole second and plans a step. -/
def Obligations.TimeStates : Prop :=
  (∀ (s : State) (dt : Nat), s.m.live? 1 = true → (s.now dt).atBoundary = true → s.m.tstate = 0 → s.m.srcLost (s.now dt) = true →
      Answers (.timeSourceLoss dt) s fun t =>
        t.m.tstate = 1 ∧ t.m.bit R.TIME_EVT 0 = true ∧ t.m.time.hoStart = s.clk.raw + dt ∧ t.m.time.hoOn = true)
    ∧ (∀ (s : State) (dt : Nat), s.m.live? 1 = true → (s.now dt).atBoundary = true → s.m.tstate = 1 → s.m.time.hoOn = true →
      s.m.untraceNs < s.m.modelUnc (s.now dt) →
      Answers (.holdoverLimit dt) s fun t => t.m.tstate = 2 ∧ t.m.bit R.TIME_EVT 2 = true)
    ∧ (∀ (s : State) (dt : Nat) (e : Int), s.m.live? 1 = true → (s.now dt).atBoundary = true → s.m.tstate ≠ 0 →
      s.m.on F.TIME_STAT_RETURNING = false → s.m.srcSteady (s.now dt) = true → s.m.time.err = some e →
      Does (.timeReturnBegin dt) s dt ((s.found.beginReturn.returnMeas (s.now dt) e).annShow))
    ∧ (∀ (s : State) (dt : Nat) (st : StepPend), s.m.live? 1 = true → s.m.stepDue (s.now dt) = some st →
      Answers (.timeStep dt) s fun t =>
        t.m.time.step = none ∧ t.clk.now = (s.now dt).now + st.delta ∧ t.clk.raw = s.clk.raw + dt
          ∧ t.m.rd R.TIME_STEP_CNT = (s.m.rd R.TIME_STEP_CNT + 1) % 4294967296)
    ∧ (∀ (s : State) (dt ns unc : Nat), s.m.opens R.TIME_MBX_DATA = true → s.m.tstate = 2 → ns % 1000000000 = 0 →
      Does (.timeSet dt ns unc) s dt
        (s.found.stepPlan (s.now dt) ((ns : Int) * uPerNs - (s.now dt).stepAt) true true unc))
    ∧ ∀ (s : State) (dt ns unc : Nat), s.m.opens R.TIME_MBX_DATA = true → (s.m.tstate ≠ 2 ∨ ns % 1000000000 ≠ 0) →
      Answers (.timeSet dt ns unc) s fun t => t.m.bit R.TIME_EVT 8 = true ∧ t.m.time = s.m.time ∧ t.clk = s.clk.adv dt

/-- R239, R240, R242, R243: a pulse rises and ends where its instant has come; a selected edge of a capture input enters its FIFO with
published time, or is dropped and counted where 16 wait; a pop takes the oldest. -/
def Obligations.PulsesAndCaptures : Prop :=
  (∀ (s : State) (dt i e : Nat), s.m.live? 1 = true → i < 8 → (s.m.pulse i).next = some e → s.m.edgeAt i e ≤ (s.now dt).now →
      s.m.pulseOut = true →
      Answers (.pulseEdge dt i) s fun t => t.m.out = [.pulse i true] ∧ (t.m.pulse i).last = some e)
    ∧ (∀ (s : State) (dt i e : Nat), s.m.live? 1 = true → i < 8 → (s.m.pulse i).activeTill = some e → s.m.edgeAt i e ≤ (s.now dt).now →
      Answers (.pulseEnd dt i) s fun t => t.m.out = [.pulse i false] ∧ (t.m.pulse i).activeTill = none)
    ∧ (∀ (s : State) (dt n : Nat) (rise : Bool), s.m.live? 1 = true → n < 4 → s.m.capSel n rise = true → (s.m.capIn n).lastEdge = none →
      (s.m.capIn n).fifo.length < 16 →
      Answers (.captureEdge dt n rise) s fun t =>
        (t.m.capIn n).fifo = (s.m.capIn n).fifo
            ++ [{ ns := Clock.fullNs ((s.now dt).now - psToU (s.m.rdI (R.TIME_EVTIN_DLY_EFF n)))
                  frac := Clock.frac ((s.now dt).now - psToU (s.m.rdI (R.TIME_EVTIN_DLY_EFF n))), rise := rise }]
          ∧ (∀ n', n' ≠ n → t.m.capIn n' = s.m.capIn n') ∧ t.m.live = s.m.live)
    ∧ (∀ (s : State) (dt n : Nat) (rise : Bool), s.m.live? 1 = true → n < 4 → s.m.capSel n rise = true → (s.m.capIn n).lastEdge = none →
      16 ≤ (s.m.capIn n).fifo.length →
      Answers (.captureEdge dt n rise) s fun t =>
        (t.m.capIn n).fifo = (s.m.capIn n).fifo ∧ t.m.rd (R.TIME_CAP_DROP_CNT n) = (s.m.rd (R.TIME_CAP_DROP_CNT n) + 1) % 4294967296
          ∧ t.m.bit R.TIME_EVT 9 = true)
    ∧ ∀ (s : State) (dt n : Nat), n < 4 → s.m.opens (R.TIME_CAP_POP n) = true →
      Answers (.timeCapPop dt n) s fun t => (t.m.capIn n).fifo = (s.m.capIn n).fifo.drop 1 ∧ t.m.live = s.m.live

/-- R244 to R248: a better Announce of the configured domain makes a port PASSIVE and shows FOREIGN_GM; it is forgotten after three
intervals; grandmaster messages and peer delay requests go out where they are due. -/
def Obligations.PtpMessages : Prop :=
  (∀ (s : State) (dt p : Nat) (a : AnnounceIn), s.m.live? 1 = true → p < 9 → s.m.on (F.TIME_PTPP_CTL_EN p) = true →
      a.wellFormed = true → a.domain = s.m.fld F.TIME_PTP_CTL_DOMAIN →
      Answers (.ptpAnnounceRx dt p a) s fun t =>
        ∃ f, AMap.find t.m.time.foreign p = some f ∧ f.data = a.data ∧ f.lastRaw = s.clk.raw + dt)
    ∧ (∀ (s : State) (dt p : Nat) (f : Foreign), s.m.live? 1 = true → p < 9 → AMap.find s.m.time.foreign p = some f →
      f.lastRaw + 3 * intvRaw f.interval ≤ s.clk.raw + dt →
      Answers (.announceReceiptTimeout dt p) s fun t =>
        AMap.find t.m.time.foreign p = none
          ∧ (s.m.fld (F.TIME_PTPP_STAT_PORT p) = 7 → t.m.fld (F.TIME_PTPP_STAT_PORT p) = 6))
    ∧ (∀ (s : State) (dt p kind : Nat), s.m.live? 1 = true → p < 9 → kind < 2 → s.m.gmOn p = true → s.m.fld (F.TIME_PTPP_STAT_PORT p) = 6 →
      s.m.ptpDue (s.now dt) p kind = true →
      Does (.ptpGmTx dt p kind) s dt (s.found.gmSend (s.now dt) p kind))
    ∧ ∀ (s : State) (dt p d : Nat), s.m.live? 1 = true → p < 9 → s.m.on (F.TIME_PTPP_CTL_EN p) = true →
      s.m.on F.TIME_PTP_CTL_PROFILE = true → s.m.ptpDue (s.now dt) p 2 = true →
      Answers (.pdelayReqTx dt p (some d)) s fun t =>
        t.m.rd (R.TIME_PTPP_PDELAY p) = d % 4294967296 ∧ t.m.on (F.TIME_PTPP_STAT_PDELAY_VALID p) = true

/-! ## The Shepherd (R258 to R308) -/

/-- R26, R304: ACTIVATE_NET, RELEASE, PLACE, UNBLOCK and the task commands, with their fields in order, wait for the latch. -/
def Obligations.ShepherdCommandsWait : Prop :=
  ∀ (s : State) (dt : Nat) (h : Hdr), s.m.shepUp = true →
    (∀ atTick, Answers (.activateNet dt h atTick 0) s fun t => Waits s t dt h (.activate atTick))
    ∧ (∀ rover flags tag, flags ≤ 1 → Answers (.release dt h rover flags tag) s fun t =>
        Waits s t dt h (.release (rover % 256) (flags == 1) tag) ∧ t.m.live = s.m.live)
    ∧ (∀ rover chain, Answers (.place dt h rover 0 chain) s fun t => Waits s t dt h (.place (rover % 256) chain) ∧ t.m.live = s.m.live)
    ∧ (∀ chain, Answers (.unblock dt h chain 0) s fun t => Waits s t dt h (.unblock chain) ∧ t.m.live = s.m.live)
    ∧ (∀ task prio need from_ to_ notBefore deadline payload, task < 4096 → prio ≤ 7 →
        Answers (.taskAdd dt h task prio 0 need from_ to_ notBefore deadline payload) s fun t =>
          Waits s t dt h (.taskAdd task
            { status := 1, prio := prio, need := need, from_ := from_, to_ := to_, notBefore := notBefore, deadline := deadline,
              payload := payload, rover := 0 }) ∧ t.m.live = s.m.live)
    ∧ (∀ task, task < 4096 → Answers (.taskCancel dt h task 0) s fun t => Waits s t dt h (.taskCancel task) ∧ t.m.live = s.m.live)
    ∧ ∀ task, task < 4096 → Answers (.taskDone dt h task 0) s fun t => Waits s t dt h (.taskDone task) ∧ t.m.live = s.m.live

/-- R26, R264, R279, R280: LOAD_NET waits for the first latch after its acceptance; a well-formed ROUTE becomes its rover's pending request. -/
def Obligations.NetworkAndRoutes : Prop :=
  (∀ (s : State) (dt addr reserved : Nat) (h : Hdr) (img : Option (List Byte)), s.m.shepUp = true →
      Answers (.loadNet dt h addr reserved img) s fun t => Waits s t dt h (.load addr reserved img) ∧ t.m.live = s.m.live)
    ∧ ∀ (s : State) (dt : Nat) (h : Hdr) (d : List Byte) (q : RouteReq) (n : Net), s.m.shepUp = true → parseReq d = some q →
      s.m.shep.active = some n → (s.m.srv q.rover).req = none →
      Answers (.route dt h d) s fun t =>
        (t.m.srv q.rover).req = some
          { q with fromAir := false, tag := h.tag, noResult := h.noResult, acceptTick := (s.now dt).tick, seq := s.m.shep.seq }

/-- R277, R291, R299, R307: a part-evaluated request is carried over at T+1 ms, an overstayed span becomes OCCUPY, a task expires, a poisoned
span blocks its chain, a parity error blocks a chain for the tick, a table entry is selected. -/
def Obligations.ShepherdEvents : Prop :=
  (∀ (s : State) (dt r : Nat), s.m.shepUp = true → 1000000 ≤ (s.now dt).subNs (s.now dt).raw → s.m.shep.partEval = some r →
      Answers (.shepDeadline dt) s fun t => t.m.shep.partEval = none ∧ t.m.shep.discarded = true)
    ∧ (∀ (s : State) (dt chain cell : Nat) (n : Net) (sp : Span), s.m.shepUp = true → s.m.shepRuns = true → cell < 8 →
      s.m.shep.active = some n → AMap.find s.m.shep.cells (chain * 8 + cell) = some sp → sp.kind = 0 → sp.opn = false →
      0 ≤ tickDiff (s.now dt).tick sp.fin → s.m.touches sp.rover chain = true →
      Does (.spanOverstay dt chain cell) s dt
        ((((s.found.setSpan (chain * 8 + cell) { sp with kind := 2, opn := true }).shepNotice (s.now dt) 0x8005 sp.rover 0xFF chain 0xFFFF
          sp.fin).shepEvt 4).openRule (s.now dt) n sp.rover chain sp.start))
    ∧ (∀ (s : State) (dt task : Nat), s.m.shepUp = true → s.m.shepRuns = true → (s.m.taskAt task).status = 1 →
      (s.m.taskAt task).deadline ≠ 0 → 0 < tickDiff (s.now dt).tick (s.m.taskAt task).deadline →
      Answers (.taskExpiry dt task) s fun t =>
        t.m.taskAt task = Task.free ∧ t.m.bit R.SHEP_EVT 10 = true ∧ ∀ n, n ≠ task → t.m.taskAt n = s.m.taskAt n)
    ∧ (∀ (s : State) (dt chain cell : Nat), s.m.shepUp = true → chain < 16384 → cell < 8 →
      Answers (.spanPoison dt chain cell) s fun t =>
        AMap.find t.m.shep.cells (chain * 8 + cell) = none ∧ t.m.chainBlocked chain = true ∧ t.m.bit R.SHEP_EVT 9 = true
          ∧ t.m.rd R.SHEP_PARITY_CNT = (s.m.rd R.SHEP_PARITY_CNT + 1) % 4294967296)
    ∧ (∀ (s : State) (dt chain : Nat), s.m.shepUp = true → chain < 16384 →
      Answers (.netParityError dt chain) s fun t =>
        t.m.chainBlocked chain = true ∧ t.m.shep.cells = s.m.shep.cells
          ∧ t.m.rd R.SHEP_PARITY_CNT = (s.m.rd R.SHEP_PARITY_CNT + 1) % 4294967296)
    ∧ ∀ (s : State) (dt v : Nat), s.m.opens R.SHEP_TBL_SEL = true →
      Answers (.shepTblSel dt v) s fun t => t.m.rd R.SHEP_TBL_SEL = v % 67108864 ∧ t.m.shep = s.m.shep

/-! ## MOT (R309 to R356) -/

/-- R26, R351: MOVE, CONVOY, HOME, HALT, SET_POS and CLEAR with their fields in order wait for MOT's next latch, in acceptance order, and
change nothing else. -/
def Obligations.MotionCommandsWait : Prop :=
  ∀ (s : State) (dt : Nat) (h : Hdr), s.m.motUp = true →
    let waits (c : Instr) (op : Nat) (cmd : MotCmd) : Prop :=
      Does c s dt { s.found with mot := { s.m.mot with cmds := s.m.mot.cmds
        ++ [{ cmd := cmd, h := { block := 12, opcode := op, tag := h.tag, noResult := h.noResult, acceptTick := (s.now dt).tick } }] } }
    (∀ ch flags target vmax amax jmax start, ch ≤ 255 → flags ≤ 1 →
        waits (.move dt h ch flags target vmax amax jmax start) 1 (.move ch (flags == 1) (signed 64 target) vmax amax jmax start))
    ∧ (∀ group start (l : List (Nat × Nat × Nat)), group ≤ 15 → 2 ≤ l.length → l.length ≤ 16 →
        (∀ e ∈ l, e.1 ≤ 255 ∧ e.2.1 = 0) → (l.map Prod.fst).Nodup →
        waits (.convoy dt h group l.length 0 start l) 2 (.convoy group start (l.map fun e => (e.1, signed 64 e.2.2))))
    ∧ (∀ ch dir mode speed ofs, ch ≤ 255 → dir ≤ 1 → mode ≤ 1 →
        waits (.home dt h ch dir mode speed ofs) 3 (.home ch (dir == 1) (mode == 1) speed (signed 64 ofs)))
    ∧ (∀ ch, (ch ≤ 255 ∨ ch = 0xFFFF) → waits (.halt dt h ch 0 0) 4 (.halt ch))
    ∧ (∀ ch pos, ch ≤ 255 → waits (.setPos dt h ch 0 pos) 5 (.setPos ch (signed 64 pos)))
    ∧ ∀ ch, ch ≤ 255 → waits (.clear dt h ch 0) 6 (.clear ch)

/-- R320, R321, R337, R339: the window plans once a tick from T+1 ms; at T+3 ms it ends and what is unfinished is discarded; a step of a channel
with no limit asserted follows the planned position, and a difference of more than one step is a fault. -/
def Obligations.WindowAndSteps : Prop :=
  (∀ (s : State) (dt : Nat) (i : MotIn), s.m.motPlans = true → 1000000 ≤ (s.now dt).subNs (s.now dt).raw →
      s.m.mot.winTick ≠ some s.clk.tickNo →
      Does (.motWindow dt i) s dt
        ((Mod.motWindow { s.found with brace := { s.m.brace with grants := s.m.shep.toMot } } (s.now dt) i).sendMotDelta (s.now dt)))
    ∧ (∀ (s : State) (dt : Nat), s.m.motUp = true → 3000000 ≤ (s.now dt).subNs (s.now dt).raw → s.m.on F.MOT_STAT_WINDOW_BUSY = true →
      Answers (.motWindowEnd dt) s fun t =>
        t.m.on F.MOT_STAT_WINDOW_BUSY = false ∧ t.m.fld F.MOT_LAST_END_DISCARDED = min 255 s.m.mot.cut ∧ t.m.mot.cut = 0)
    ∧ (∀ (s : State) (dt ch : Nat), s.m.motUp = true → (s.m.mch ch).kind = 2 →
      stepTo (s.m.mch ch).step (s.m.chNow (s.now dt) ch).p ≠ (s.m.mch ch).step → s.m.motOut = true → s.m.on F.BRACE_STAT_GATE_OPEN = true →
      (s.m.mch ch).edgeAt = none → s.m.funcOn ch 1 = false → s.m.funcOn ch 2 = false →
      Answers (.stepEdge dt ch) s fun t =>
        (t.m.mch ch).step = stepTo (s.m.mch ch).step (s.m.chNow (s.now dt) ch).p ∧ (t.m.mch ch).edgeAt = some (s.clk.raw + dt)
          ∧ (∃ dir, t.m.out = [.stepEdge (s.m.mch ch).idx dir]) ∧ ∀ c, c ≠ ch → t.m.mch c = s.m.mch c)
    ∧ ∀ (s : State) (dt ch : Nat), s.m.motUp = true → (s.m.mch ch).kind = 2 → s.m.motOut = true → s.m.mst ch < 7 →
      3 * posU < (2 * (s.m.chNow (s.now dt) ch).p - 2 * (s.m.mch ch).step * posU).natAbs →
      Does (.stepTrackCheck dt ch) s dt (s.found.motFault (s.now dt) ch)

/-- R314, R340 to R345: edges of the switch inputs, their qualification, the end of CHATTER, HOME_RANGE without an edge, and the ends of moves
and stops take effect where their conditions hold. -/
def Obligations.InputsAndEnds : Prop :=
  (∀ (s : State) (dt i : Nat) (level : Bool), s.m.motUp = true → i < 64 → (s.m.swin i).raw ≠ level →
      s.m.fld (F.MOT_IN_CTL_FILT i) ≠ 0 →
      Answers (.switchInputEdge dt i level) s fun t => (t.m.swin i).raw = level ∧ (t.m.swin i).lastAt = s.clk.raw + dt)
    ∧ (∀ (s : State) (dt i : Nat), s.m.motUp = true → i < 64 → Does (.inputQualified dt i) s dt (s.found.inputQualify (s.now dt) i))
    ∧ (∀ (s : State) (dt i : Nat), s.m.motUp = true → i < 64 → s.m.on (F.MOT_IN_STAT_CHATTER i) = true →
      (s.m.swin i).lastAt + msRaw (max 1 (s.m.fld (F.MOT_IN_CHAT_CHAT_STABLE i))) ≤ s.clk.raw + dt →
      Does (.chatterEnd dt i) s dt
        (((s.found.setB (F.MOT_IN_STAT_CHATTER i) false).setSwin i { s.m.swin i with moves := [] }).inputQualify (s.now dt) i))
    ∧ (∀ (s : State) (dt ch : Nat) (h : Homing), s.m.motUp = true → (s.m.mch ch).homing = some h → s.m.mst ch = 3 → h.phase = 2 →
      (homeRange ch : Int) * posU ≤ ((s.m.chNow (s.now dt) ch).p - h.from_).natAbs →
      Answers (.homingRange dt ch) s fun t => t.m.on (F.MOT_CH_STAT_HEEL_REQ ch) = true ∧ (t.m.mch ch).status = 0x000A)
    ∧ (∀ (s : State) (dt ch : Nat), s.m.motUp = true → ch < 256 → (s.m.mch ch).idx < 256 → s.m.chDone (s.now dt) ch = true → s.m.mst ch = 2 →
      Answers (.moveEnd dt ch) s fun t => t.m.mst ch = 1 ∧ t.m.bit (R.MOT_CH_EVT ch) 0 = true)
    ∧ ∀ (s : State) (dt ch : Nat), s.m.motUp = true → ch < 256 → (s.m.mch ch).idx < 256 → s.m.chDone (s.now dt) ch = true →
      (s.m.mst ch = 4 ∨ s.m.mst ch = 5) →
      Answers (.stopEnd dt ch) s fun t => t.m.mst ch = 1

/-- R346 to R348: a REMOTE channel's setpoint goes out for each grid instant while the gate is open, a status frame is taken, and without one
for TIMEOUT periods the channel faults. -/
def Obligations.RemoteFrames : Prop :=
  (∀ (s : State) (dt ch : Nat),
      Does (.setpointFrameTx dt ch) s dt (s.found.setpointTx (s.now dt) ch))
    ∧ (∀ (s : State) (dt : Nat) (d : List Byte) (e : Nat × Nat × Int), 44 ≤ d.length → leAt d 0 1 = 1 → leAt d 1 1 = 2 → leAt d 2 2 ≤ 255 →
      (s.m.mch (leAt d 2 2)).kind = 3 → s.m.on (F.MOT_CH_REM_CFG_STATUS_EN (leAt d 2 2)) = true → s.m.live? 12 = true →
      s.m.on (F.MOT_CH_REM_CFG_AUTH_EN (leAt d 2 2)) = false →
      (s.m.mch (leAt d 2 2)).sent.find? (fun e => e.1 == leAt d 4 4) = some e →
      let taken := s.found.setMch (leAt d 2 2) { s.m.mch (leAt d 2 2) with statusAt := Clock.fullNs (s.now dt).now }
      Does (.statusFrameRx dt d) s dt
        (if s.m.rd (R.MOT_CH_FERR_MAX (leAt d 2 2)) * 65536 < (signed 64 (leAt d 16 8) - e.2.2).natAbs ∨ (leAt d 33 1).testBit 1 = true then
          taken.motFault (s.now dt) (leAt d 2 2) else taken))
    ∧ ∀ (s : State) (dt ch : Nat), (s.m.mch ch).kind = 3 → s.m.on (F.MOT_CH_REM_CFG_STATUS_EN ch) = true →
      (s.m.mch ch).sent.isEmpty = false → s.m.motOut = true → s.m.mst ch < 7 →
      (s.m.mch ch).statusAt + max 1 (s.m.fld (F.MOT_CH_REM_CFG_TIMEOUT ch)) * s.m.remPeriod ch < Clock.fullNs (s.now dt).now →
      Does (.statusTimeout dt ch) s dt
        ((s.found.setMch ch { s.m.mch ch with statusAt := Clock.fullNs (s.now dt).now }).motFault (s.now dt) ch)

/-! ## AIR (R357 to R405) -/

/-- R367, R380, R382, R383, R395: each frame goes out on its path, in its grain and of its type, where its conditions hold, its key can
be used and the budget allows it. -/
def Obligations.FramesGoOut : Prop :=
  (∀ (s : State) (dt c : Nat), c < 2 → (s.now dt).phase ≠ 0 → s.m.mayToken = true → s.m.tokenSlot (s.now dt) c = true →
      s.m.pathFree (s.now dt) c false →
      Answers (.tokenTx dt c) s fun t =>
        Sent s t dt c 2 (100 * (s.now dt).phase) ∧ t.m.pwr.lastToken = s.clk.raw + dt)
    ∧ (∀ (s : State) (dt c : Nat), c < 2 → (s.now dt).phase = 0 → s.m.mayBeacon = true → s.m.tokenSlot (s.now dt) c = true →
      s.m.pathFree (s.now dt) c false →
      Answers (.beaconTx dt c) s fun t => Sent s t dt c 1 0 ∧ t.m.pwr.lastToken = (if s.m.mayToken then s.clk.raw + dt else s.m.pwr.lastToken))
    ∧ (∀ (s : State) (dt c : Nat), c < 2 → s.m.mayBeacon = true → s.m.airTx c = true → nth none s.m.air.dlTick c ≠ some s.clk.tickNo →
      (downArea (wbWidth (s.m.wbCfg c)) (s.now dt).phase).1 ≤ (s.now dt).grain →
      (s.now dt).grain < (downArea (wbWidth (s.m.wbCfg c)) (s.now dt).phase).1 + (downArea (wbWidth (s.m.wbCfg c)) (s.now dt).phase).2 →
      Answers (.downlinkTx dt c) s fun t =>
        t.m.shep.toAir = [] ∧ t.m.shep.toAirTask = [] ∧ t.m.mot.toAir = []
          ∧ ∀ o ∈ t.m.out, (∃ v, o = .msix v) ∨ ∃ grain chan power data, o = .radio c 3 grain chan power data)
    ∧ (∀ (s : State) (dt c : Nat) (f : AirFrame) (ver : Nat), c < 2 → s.m.mayBeacon = true → s.m.airTx c = true → s.m.air.drop = none →
      nth 0 s.m.air.hostFree c ≤ s.clk.tickNo * 100 + (s.now dt).grain → s.m.sw.air.find? (fun f => f.chans.contains c) = some f →
      ver = (if f.sub = 0 then s.m.floorVer c else s.m.roverVer f.sub) →
      (grainRange (s.now dt).grain (grainsOf (wbAir (wbWidth (s.m.wbCfg c)) (wbDl (s.m.wbCfg c))
        (frameLen ver (airElement 6 f.sub f.data).length)))).all
          (s.m.hostGrain (s.now dt) c (s.m.heldGrains c (s.now dt).phase)
            (if (s.now dt).phase = 5 then s.m.winGrains c (s.now dt).sfNo else [])) = true →
      f.data.length ≤ 1536 → s.m.pathFree (s.now dt) c false →
      Answers (.dataTx dt c) s fun t =>
        Sent s t dt c 7 (100 * (s.now dt).phase + (s.now dt).grain) ∧ ∀ g ∈ t.m.sw.air, (g ∈ s.m.sw.air ∧ g ≠ f) ∨ g = { f with chans := f.chans.filter (· != c) })
    ∧ (∀ (s : State) (dt : Nat), (s.now dt).phase = 0 → s.m.mayBeacon = true → s.m.airTx 2 = true → s.m.air.sgSf ≠ some (s.now dt).sfNo →
      s.m.sgDropping = false → s.m.pathFree (s.now dt) 2 false →
      Answers (.sgBeaconTx dt) s fun t => Sent s t dt 2 5 0 ∧ t.m.air.sgSf = some (s.now dt).sfNo)
    ∧ (∀ (s : State) (dt tick : Nat) (body : List Byte), s.m.mayBeacon = true → s.m.mayCorrect = true → s.m.airTx 2 = true →
      s.m.on F.AIR_CTL_SG_CORR = true → s.m.air.sgSf = some (s.now dt).sfNo → s.m.air.corrSf = none → s.m.sgDropping = false →
      s.m.air.rtcm = some (tick, body) → body.length ≤ 1000 → s.m.air.sgHeld = false → s.m.pathFree (s.now dt) 2 false →
      Answers (.corrFbTx dt) s fun t =>
        Sent s t dt 2 6 (100 * (s.now dt).phase + (s.now dt).grain) ∧ t.m.air.corrSf = some (s.now dt).sfNo ∧ t.m.air.rtcm = none)
    ∧ (∀ (s : State) (dt c : Nat) (d : AirDrop), c < 2 → s.m.air.drop = some d → s.m.mayBeacon = true → s.m.airTx c = true →
      nth 0 d.left c ≠ 0 → nth none d.grain c ≠ some (s.clk.tickNo * 100 + (s.now dt).grain) → d.begun.contains c = true →
      s.m.grainSilent c (s.now dt).phase (s.now dt).grain = false → s.m.pathFree (s.now dt) c true →
      Answers (.dropFrameTx dt c) s fun t =>
        Sent s t dt c 4 (100 * (s.now dt).phase + (s.now dt).grain)
          ∧ t.m.rd R.AIR_DROP_TX_CNT = (s.m.rd R.AIR_DROP_TX_CNT + 1) % 4294967296
          ∧ ∃ e, t.m.air.drop = some e ∧ nth 0 e.left c = nth 0 d.left c - 1 ∧ e.tick = d.tick ∧ e.cause = d.cause ∧ e.id = d.id)
    ∧ ∀ (s : State) (dt : Nat) (d : AirDrop), s.m.air.drop = some d → s.m.mayBeacon = true → s.m.airTx 2 = true → nth 0 d.left 2 ≠ 0 →
      s.m.pathFree (s.now dt) 2 true →
      Answers (.sgDropTx dt) s fun t =>
        Sent s t dt 2 4 (100 * (s.now dt).phase + (s.now dt).grain)
          ∧ t.m.rd R.AIR_DROP_TX_CNT = (s.m.rd R.AIR_DROP_TX_CNT + 1) % 4294967296
          ∧ ∃ e, t.m.air.drop = some e ∧ nth 0 e.left 2 = nth 0 d.left 2 - 1

/-- R365, R377, R386, R389, R392, R398: slot assignments whose EFFECTIVE has come are in force, a third silent superframe lapses a
context, a burst in another rover's place is a miss, CLEAR_DRIFT, a new region and the expiry of RTCM take effect. -/
def Obligations.RoverLinks : Prop :=
  (∀ (s : State) (dt r : Nat) (a : SlotAsg), (s.now dt).ended = true → (s.now dt).phase = 9 → r < 256 → (s.m.arv r).next = some a →
      a.eff ≤ (s.now dt).sfNo + 1 → s.m.on (F.ROVER_LINK_CTL_EN r) = true →
      Answers (.slotMapEffective dt) s fun t =>
        (t.m.arv r).cur = some a ∧ (t.m.arv r).next = none ∧ t.m.rd (R.ROVER_LINK_SLOT r) = slotReg r a true % 4294967296
          ∧ t.m.rd R.AIR_MAP_SERIAL = (s.m.rd R.AIR_MAP_SERIAL + 1) % 4294967296)
    ∧ (∀ (s : State) (dt r : Nat), (s.now dt).ended = true → (s.now dt).phase = 9 → r < 256 → s.m.airListens = true →
      s.m.air.judged ≠ some (s.now dt).sfNo → s.m.on (F.ROVER_LINK_SLOT_VALID r) = true → (s.m.arv r).heardSf ≠ some (s.now dt).sfNo →
      s.m.fld (F.ROVER_LINK_STAT_SILENT r) = 2 → s.m.fld (F.ROVER_LINK_STAT_LINK r) = 1 →
      Answers (.roverLinkLapse dt) s fun t =>
        t.m.fld (F.ROVER_LINK_STAT_SILENT r) = 3 ∧ t.m.fld (F.ROVER_LINK_STAT_LINK r) = 2 ∧ t.m.bit (R.ROVER_LINK_EVT r) 0 = true
          ∧ t.m.bit R.AIR_EVT 2 = true)
    ∧ (∀ (s : State) (dt r : Nat) (u : UpIn), u.chan ≤ 1 → s.m.airRx (s.now dt) u = true → r < 256 → s.m.on (F.ROVER_LINK_CTL_EN r) = true →
      ((s.m.upWindows (s.now dt) u.chan).find? fun w => decide (w.begin_ ≤ u.startNs) && decide (u.startNs < w.end_) && decide (u.endNs ≤ w.end_))
        = none →
      missRover (s.m.upWindows (s.now dt) u.chan) u = some r → s.m.on (F.ROVER_LINK_STAT_RESYNC r) = false →
      s.m.on (F.ROVER_LINK_STAT_DRIFT_FAULT r) = false → s.m.fld (F.ROVER_LINK_STAT_RESYNC_RUN r) < 2 →
      Answers (.uplinkBurstRx dt u) s fun t =>
        t.m.on (F.ROVER_LINK_STAT_RESYNC r) = true ∧ t.m.rd (R.ROVER_MISSLOT_CNT r) = (s.m.rd (R.ROVER_MISSLOT_CNT r) + 1) % 4294967296
          ∧ t.m.rd (R.ROVER_UP_CNT r) = s.m.rd (R.ROVER_UP_CNT r))
    ∧ (∀ (s : State) (dt : Nat) (u : UpIn) (w : UpWin), u.chan ≤ 1 → s.m.airRx (s.now dt) u = true →
      ((s.m.upWindows (s.now dt) u.chan).find? fun w => decide (w.begin_ ≤ u.startNs) && decide (u.startNs < w.end_) && decide (u.endNs ≤ w.end_))
        = some w →
      Does (.uplinkBurstRx dt u) s dt (s.found.uplinkRx (s.now dt) u))
    ∧ (∀ (s : State) (dt r : Nat), r < 256 → s.m.opens (R.ROVER_LINK_CMD r) = true →
      Answers (.clearDrift dt r) s fun t =>
        t.m.on (F.ROVER_LINK_STAT_DRIFT_FAULT r) = false ∧ t.m.fld (F.ROVER_LINK_STAT_RESYNC_RUN r) = 0
          ∧ ∀ x, x ≠ R.ROVER_LINK_STAT r → t.m.rd x = s.m.rd x)
    ∧ (∀ (s : State) (dt : Nat), (s.now dt).ended = true → (s.now dt).phase = 9 → s.m.air.regionPend = true →
      Answers (.regionChange dt) s fun t => t.m.air.region = s.m.rd R.AIR_REGION % 256 ∧ t.m.air.regionPend = false)
    ∧ ∀ (s : State) (dt : Nat) (e : AirElem), e ∈ s.m.air.queue →
      Answers (.rtcmElementExpiry dt) s fun t =>
        (e ∈ t.m.air.queue ↔ ¬ (e.kind = 4 ∧ 10 ≤ tickDiff (s.now dt).tick e.instant))

/-! ## The Leash (R406 to R432) -/

/-- R408, R411 to R414, R420: an input that de-energises trips at once, or after PULSE_TOL; a monitor condition, a wrong readback and a TRIP
command trip; a TRIP while its source is active, an input that energises and a discrepancy do not. -/
def Obligations.LeashTrips : Prop :=
  (∀ (s : State) (dt x : Nat), s.m.leashUp = true → x < 2 → s.m.on (inField x) = true → s.m.inputOff = false → s.m.pulseTol = 0 →
      Answers (.leashInputDeenergise dt x) s fun t => Tripped s t dt (x + 1) ∧ t.m.on (inField x) = false)
    ∧ (∀ (s : State) (dt x : Nat), s.m.leashUp = true → x < 2 → s.m.on (inField x) = true → s.m.pulseTol ≠ 0 →
      Answers (.leashInputDeenergise dt x) s fun t =>
        t.m.on (inField x) = false ∧ (t.m.inCh x).at_ = s.clk.raw + dt ∧ t.m.lstate = s.m.lstate ∧ t.m.out = []
          ∧ t.m.rd R.LEASH_TRIP_CNT = s.m.rd R.LEASH_TRIP_CNT)
    ∧ (∀ (s : State) (dt x : Nat), s.m.leashUp = true → x < 2 → s.m.on (inField x) = false → (s.m.inCh x).off = false →
      (s.m.inCh x).at_ + usRaw s.m.pulseTol ≤ s.clk.raw + dt → s.m.inputOff = false →
      Answers (.leashPulseTolExpiry dt x) s fun t => Tripped s t dt (x + 1))
    ∧ (∀ (s : State) (dt x : Nat), s.m.leashUp = true → x < 2 → s.m.on (inField x) = false →
      Answers (.leashInputEnergise dt x) s fun t =>
        t.m.on (inField x) = true ∧ (t.m.inCh x).off = false ∧ t.m.lstate = s.m.lstate ∧ ∀ a, a ≠ R.LEASH_STAT → t.m.rd a = s.m.rd a)
    ∧ (∀ (s : State) (dt : Nat) (h : Hdr), s.m.live? 5 = true →
      (s.m.leash.swCmd = false → Answers (.trip dt h 0) s fun t => Tripped s t dt 4 ∧ t.m.leash.swCmd = true)
      ∧ (s.m.leash.swCmd = true → Does (.trip dt h 0) s dt (s.found.reply (s.now dt) 5 1 0 h (le 2 (s.m.rd R.LEASH_TRIP_ID) ++ le 2 0))))
    ∧ (∀ (s : State) (dt cond : Nat), s.m.leashUp = true → 1 ≤ cond → cond ≤ 4 → s.m.leash.mon = 0 → s.m.fld F.LEASH_STAT_MON_SRC = 0 →
      Answers (.monitorTrip dt cond true) s fun t =>
        Tripped s t dt 5 ∧ t.m.fld F.LEASH_STAT_MON_SRC = cond ∧ t.m.leash.mon = 2 ^ cond ∧ t.m.bit R.LEASH_EVT 5 = true)
    ∧ (∀ (s : State) (dt cond : Nat), s.m.leashUp = true → 1 ≤ cond → cond ≤ 4 →
      Answers (.monitorTrip dt cond false) s fun t => t.m.leash.mon.testBit cond = false ∧ t.m.live = s.m.live)
    ∧ (∀ (s : State) (dt : Nat) (a b : Bool), s.m.leashUp = true → s.m.leash.mon = 0 →
      (a ≠ (s.m.lstate == 2 && s.m.on F.BRACE_STAT_GATE_OPEN) ∨ b ≠ (s.m.lstate == 2 && s.m.on F.BRACE_STAT_GATE_OPEN)) →
      Answers (.outputReadbackFault dt a b) s fun t => Tripped s t dt 5 ∧ t.m.bit R.LEASH_EVT 9 = true)
    ∧ ∀ (s : State) (dt from_ : Nat), s.m.leashUp = true → s.m.leash.differ = some from_ → from_ + msRaw s.m.discMs < s.clk.raw + dt →
      s.m.on F.LEASH_STAT_DISC = false →
      Answers (.leashDiscrepancy dt) s fun t =>
        t.m.on F.LEASH_STAT_DISC = true ∧ t.m.bit R.LEASH_EVT 3 = true ∧ t.m.lstate = s.m.lstate ∧ t.m.out.all (· != .leashOut false false) = true

/-- R417, R419, R421 to R426: a pulse of the ARM pin of the right length, with nothing of R422 against it, makes ARMING; ARMED
comes at a tick boundary 1 ms on and energises the outputs while the Brace gate is open; self-tests pass, fail or pulse the outputs; the
fleet Heel's sources set and clear. -/
def Obligations.LeashArmsAndTests : Prop :=
  (∀ (s : State) (dt us : Nat), s.m.leashUp = true → s.m.lstate = 0 → 50000 ≤ us → us ≤ 3000000 → s.m.fld F.LEASH_CTL_ARM_SRC ≠ 0 →
      s.m.armCode (s.now dt) false = 0 →
      Answers (.armPinRelease dt us) s fun t =>
        t.m.lstate = 1 ∧ t.m.leash.armAt = s.clk.raw + dt ∧ t.m.leash.swReg = false ∧ t.m.leash.swCmd = false ∧ t.m.leash.partner = false
          ∧ ∀ a, a ≠ R.LEASH_STAT → t.m.rd a = s.m.rd a)
    ∧ (∀ (s : State) (dt us : Nat), s.m.leashUp = true → s.m.lstate = 0 → s.m.armCode (s.now dt) false ≠ 0 →
      Answers (.armPinRelease dt us) s fun t =>
        t.m.lstate = 0 ∧ t.m.fld F.LEASH_STAT_ARM_REFUSE = s.m.armCode (s.now dt) false ∧ t.m.bit R.LEASH_EVT 2 = true
          ∧ t.m.leash = s.m.leash)
    ∧ (∀ (s : State) (dt : Nat), s.m.leashUp = true → (s.now dt).ended = true → s.m.lstate = 1 → s.m.leash.armAt + msRaw 1 ≤ s.clk.raw + dt →
      Answers (.leashArmed dt) s fun t =>
        t.m.lstate = 2 ∧ t.m.on F.LEASH_STAT_OUT_A = s.m.on F.BRACE_STAT_GATE_OPEN ∧ t.m.on F.LEASH_STAT_OUT_B = s.m.on F.BRACE_STAT_GATE_OPEN
          ∧ t.m.rd R.LEASH_ARM_CNT = (s.m.rd R.LEASH_ARM_CNT + 1) % 4294967296 ∧ t.m.bit R.LEASH_EVT 1 = true)
    ∧ (∀ (s : State) (dt : Nat) (ok : Bool), s.m.leashUp = true →
      (s.m.leash.testWaits = true ∨ s.m.leash.testAt + secRaw s.m.testPeriod ≤ s.clk.raw + dt) → s.m.leash.test = none → s.m.pstate ≠ 2 →
      Answers (.leashSelftest dt ok) s fun t =>
        (ok = true → s.m.lstate = 2 → s.m.serves = true →
          t.m.out = [.leashPulse 0 s.m.testW] ∧ t.m.leash.test = some (s.clk.raw + dt) ∧ t.m.live = s.m.live)
        ∧ (ok = true → s.m.lstate ≠ 2 →
          t.m.rd R.LEASH_TEST_CNT = (s.m.rd R.LEASH_TEST_CNT + 1) % 4294967296 ∧ t.m.on F.LEASH_STAT_TEST_FAIL = false
            ∧ t.m.rd R.LEASH_TEST_LAST = (s.now dt).tick)
        ∧ (ok = false → s.m.on F.LEASH_STAT_TEST_FAIL = false →
          Tripped s t dt 6 ∧ t.m.on F.LEASH_STAT_TEST_FAIL = true
            ∧ t.m.rd R.LEASH_TEST_FAIL_CNT = (s.m.rd R.LEASH_TEST_FAIL_CNT + 1) % 4294967296))
    ∧ (∀ (s : State) (dt : Nat) (ok : Bool), s.m.opens R.LEASH_TEST_CMD = true →
      Does (.leashTestNow dt ok) s dt (s.found.testDue (s.now dt) ok))
    ∧ (∀ (s : State) (dt from_ : Nat), s.m.leashUp = true → s.m.leash.test = some from_ → from_ + usRaw s.m.testW + msRaw 10 ≤ s.clk.raw + dt →
      Answers (.leashSelftestEnd dt true) s fun t =>
        t.m.leash.test = none ∧ t.m.rd R.LEASH_TEST_CNT = (s.m.rd R.LEASH_TEST_CNT + 1) % 4294967296
          ∧ t.m.out = [.leashPulse 1 s.m.testW])
    ∧ (∀ (s : State) (dt : Nat), s.m.leashUp = true → s.m.on F.LEASH_CTL_HEEL_PIN_EN = true → s.m.fld F.LEASH_STAT_HEEL_SRC = 0 →
      Answers (.heelPinAssert dt) s fun t =>
        t.m.fld F.LEASH_STAT_HEEL_SRC = 1 ∧ t.m.bit R.LEASH_EVT 6 = true ∧ t.m.leash.heelPin = true ∧ t.m.lstate = s.m.lstate)
    ∧ (∀ (s : State) (dt : Nat), s.m.leashUp = true → s.m.fld F.LEASH_STAT_HEEL_SRC = 1 →
      Answers (.heelPinRelease dt) s fun t =>
        t.m.fld F.LEASH_STAT_HEEL_SRC = 0 ∧ t.m.bit R.LEASH_EVT 7 = true ∧ t.m.leash.heelPin = false)
    ∧ (∀ (s : State) (dt : Nat) (h : Hdr), s.m.live? 5 = true →
      Does (.heelAll dt h 0) s dt ((s.found.heelSet 1).reply (s.now dt) 5 2 0 h []))
    ∧ (∀ (s : State) (dt : Nat) (h : Hdr), s.m.live? 5 = true → 2 ≤ s.m.fld F.LEASH_STAT_HEEL_SRC →
      Does (.heelEnd dt h 0) s dt ((s.found.heelClr 6).reply (s.now dt) 5 3 0 h []))
    ∧ ∀ (s : State) (dt : Nat), s.m.leashUp = true → s.m.paired = true →
      Answers (.leashPartnerDiff dt) s fun t => t.m.bit R.LEASH_EVT 8 = true ∧ t.m.leash = s.m.leash ∧ t.m.lstate = s.m.lstate

/-! ## The switch (R433 to R454) -/

/-- R433, R434, R435, R438, R439, R447, R449, R450: a frame that ends in an error is dropped and teaches nothing, one on a FORWARDING port is
counted and classified, an egress port sends the frame at the head of the queue it serves, a packet from the host is taken, frames of 500 ms leave
P9's queue, a link changes, a parity failure is counted and logged. -/
def Obligations.SwitchFrames : Prop :=
  (∀ (s : State) (dt port sub : Nat) (d : List Byte) (bad : Bool), s.m.swUp = true → s.m.on F.SW_CTL_EN = true → port < 10 →
      bad = true ∨ d.length < 60 ∨ s.m.swMtu port < d.length →
      Answers (.frameReceive dt port sub d bad) s fun t =>
        t.m.rd (R.SW_P_DROP_CNT port) = (s.m.rd (R.SW_P_DROP_CNT port) + 1) % 4294967296
          ∧ (∀ x, x ≠ R.SW_P_DROP_CNT port → t.m.rd x = s.m.rd x) ∧ t.m.sw = s.m.sw ∧ t.m.ring = s.m.ring)
    ∧ (∀ (s : State) (dt port sub : Nat) (d : List Byte), s.m.swUp = true → s.m.on F.SW_CTL_EN = true → port < 10 → 60 ≤ d.length →
      d.length ≤ s.m.swMtu port →
      Does (.frameReceive dt port sub d false) s dt
        (if s.m.swPortOn port then ((s.found.inc (R.SW_P_RX_CNT port)).swBytes port 0 d.length).classify (s.now dt) port sub d
         else ((s.found.inc (R.SW_P_RX_CNT port)).swBytes port 0 d.length).swDrop port))
    ∧ (∀ (s : State) (dt port q : Nat) (f : EgFrame) (l : List EgFrame), s.m.swUp = true → port < 8 → s.m.swPortOn port = true →
      s.m.nextQueue port = some q → s.m.egq port q = f :: l → s.m.on F.TIME_PTP_CTL_TC_EN = false →
      Answers (.egressTransmit dt port) s fun t =>
        t.m.out = [.frame port f.data] ∧ t.m.egq port q = l
          ∧ t.m.rd (R.SW_P_TX_CNT port) = (s.m.rd (R.SW_P_TX_CNT port) + 1) % 4294967296
          ∧ ∀ q', q' < 4 → q' ≠ q → t.m.egq port q' = s.m.egq port q')
    ∧ (∀ (s : State) (dt n i c : Nat) (data : List Byte), s.m.barUp = true → n = 6 ∨ n = 7 → firstItem (s.m.rng n).fetched = some (i, c) →
      s.m.ringState n = 1 → s.m.ringResetting n = false → s.m.fenced n i (((s.m.rng n).fetched.drop i).take c) = false →
      Does (.packetTx dt n data) s dt (s.found.packetTx (s.now dt) n data))
    ∧ (∀ (s : State) (dt : Nat) (f : AirFrame), s.m.swUp = true →
      Answers (.p9FrameExpiry dt) s fun t => f ∈ t.m.sw.air ↔ f ∈ s.m.sw.air ∧ s.clk.raw + dt < f.inRaw + msRaw 500)
    ∧ (∀ (s : State) (dt port speed : Nat) (up : Bool), s.m.swUp = true → port < 10 → s.m.on (F.SW_P_STAT_LINK port) ≠ up →
      Answers (.linkChange dt port up speed) s fun t =>
        t.m.on (F.SW_P_STAT_LINK port) = up ∧ t.m.bit R.SW_EVT 0 = true
          ∧ (up = false → t.m.fld (F.SW_P_STAT_SPEED port) = 0)
          ∧ (up = false → s.m.on (F.SW_P_CTL_FLUSH_ON_DOWN port) = true → s.m.sw.events.length < 256 → s.m.sw.waiting = [] →
            t.m.sw.events = s.m.sw.events ++ [.linkDown port])
          ∧ (up = true → t.m.sw = s.m.sw))
    ∧ ∀ (s : State) (dt table index : Nat), s.m.swUp = true →
      Answers (.swParityFail dt table index) s fun t =>
        t.m.rd R.SW_PARITY_CNT = (s.m.rd R.SW_PARITY_CNT + 1) % 4294967296 ∧ t.m.bit R.SW_EVT 4 = true
          ∧ t.m.rd R.SW_PARITY_LOG = 2147483648 + table % 16 + index % 2097152 * 16
          ∧ (table ≠ 0 → t.m.sw = s.m.sw) ∧ t.m.sw.mac = s.m.sw.mac

/-- R440, R441, R443: the learn queue handles its head by the first case of the table, so an unknown source takes a free way of its set; aging
removes the dynamic entries that were not hit and clears HIT; moves return to 0 at a whole second; PINNED clears after HOLD. -/
def Obligations.MacTable : Prop :=
  (∀ (s : State) (dt : Nat) (e : SwEvent) (l : List SwEvent), s.m.swUp = true → s.m.sw.events = e :: l → s.m.sw.waiting = [] →
      Does (.learnEvent dt) s dt
        (Mod.lqShow (Mod.eventDo { s.found with sw := { s.m.sw with events := l ++ [], waiting := [] } } (s.now dt) e)))
    ∧ (∀ (s : State) (dt port mac vid sub i : Nat) (l : List SwEvent), s.m.swUp = true → s.m.sw.events = .learn port mac vid sub :: l →
      s.m.sw.waiting = [] → port < 10 → s.m.macFind mac vid = none → s.m.freeWay (macSet mac vid) = some i →
      ((s.m.sw.mac.filter fun e => e.2.port == port && !e.2.static_).length < s.m.learnLimit port) →
      Answers (.learnEvent dt) s fun t =>
        AMap.find t.m.sw.mac i = some
            { mac := mac, vid := vid, port := port, sub := sub, static_ := false, hit := true, pinned := false, moves := 0, pinTill := 0 }
          ∧ i / 4 = macSet mac vid ∧ (∀ j, j ≠ i → AMap.find t.m.sw.mac j = AMap.find s.m.sw.mac j) ∧ t.m.sw.events = l)
    ∧ (∀ (s : State) (dt : Nat), s.m.swUp = true → s.m.fld F.SW_CTL_AGE ≠ 0 → s.m.sw.agedAt + secRaw (s.m.fld F.SW_CTL_AGE) ≤ s.clk.raw + dt →
      Answers (.macAging dt) s fun t =>
        (∀ x ∈ t.m.sw.mac, x.2.static_ = true ∨ (x.2.hit = false ∧ ∃ y ∈ s.m.sw.mac, y.1 = x.1 ∧ y.2.hit = true))
          ∧ t.m.sw.agedAt = s.clk.raw + dt)
    ∧ (∀ (s : State) (dt : Nat), s.m.swUp = true → Clock.fullNs (s.now dt).now / 1000000000 ≠ s.m.sw.moveSec →
      Answers (.moveCountReset dt) s fun t =>
        (∀ x ∈ t.m.sw.mac, x.2.moves = 0) ∧ t.m.sw.moveSec = Clock.fullNs (s.now dt).now / 1000000000
          ∧ t.m.sw.mac.map Prod.fst = s.m.sw.mac.map Prod.fst ∧ t.m.live = s.m.live)
    ∧ ∀ (s : State) (dt i : Nat) (e : MacEnt), s.m.swUp = true → AMap.find s.m.sw.mac i = some e → e.pinned = true →
      e.pinTill ≤ s.clk.raw + dt →
      Answers (.pinHoldExpiry dt i) s fun t =>
        AMap.find t.m.sw.mac i = some { e with pinned := false } ∧ (∀ j, j ≠ i → AMap.find t.m.sw.mac j = AMap.find s.m.sw.mac j)
          ∧ t.m.live = s.m.live

/-- R440, R444 to R446, R451, R453: MAC commands with fields in range enter the learn queue; VLAN, interface and next-hop entries are written at
once, prefixes are added and removed; a table entry is selected. -/
def Obligations.SwitchCommands : Prop :=
  (∀ (s : State) (dt : Nat) (h : Hdr), s.m.swUp = true → s.m.sw.events.length < 256 → s.m.sw.waiting = [] →
      (∀ mac vid port sub, 1 ≤ vid → vid ≤ 4094 → port ≤ 9 →
        Answers (.macAdd dt h mac vid port sub 0) s fun t =>
          t.m.sw = { s.m.sw with events := s.m.sw.events ++ [.add (swHd h (s.now dt) 1) mac vid port sub] })
      ∧ (∀ mac vid, 1 ≤ vid → vid ≤ 4094 →
        Answers (.macDel dt h mac vid) s fun t =>
          t.m.sw = { s.m.sw with events := s.m.sw.events ++ [.del (swHd h (s.now dt) 2) mac vid] })
      ∧ ∀ port flags vid, port ≤ 9 ∨ port = 0xFF → flags ≤ 1 → (1 ≤ vid ∧ vid ≤ 4094) ∨ vid = 0xFFFF →
        Answers (.macFlush dt h port flags vid) s fun t =>
          t.m.sw = { s.m.sw with events := s.m.sw.events ++ [.flush (swHd h (s.now dt) 3) port (flags == 1) vid] })
    ∧ (∀ (s : State) (dt : Nat) (h : Hdr), s.m.swUp = true →
      (∀ vid member untag flags, 1 ≤ vid → vid ≤ 4094 → member ≤ 1023 → untag ≤ 1023 → flags ≤ 1 →
        Answers (.vlanSet dt h vid member untag flags) s fun t =>
          let at_ (m : Mod) := AMap.get (fun _ => ({ member := 0, untag := 0, valid := false } : Vlan)) m.sw.vlan
          at_ t.m vid = { member := member, untag := untag, valid := flags == 1 } ∧ ∀ v, v ≠ vid → at_ t.m v = at_ s.m v)
      ∧ (∀ rif flags vid ip4 len4 ip6, rif ≤ 15 → flags ≤ 3 → flags = 0 ∨ (1 ≤ vid ∧ vid ≤ 4094) → len4 ≤ 32 →
        Answers (.rifSet dt h rif flags vid ip4 len4 0 ip6) s fun t =>
          let at_ (m : Mod) := AMap.get (fun _ => ({ v4 := false, v6 := false, vid := 0, ip4 := 0, len4 := 0, ip6 := 0 } : Rif)) m.sw.rif
          at_ t.m rif = { v4 := flags.testBit 0, v6 := flags.testBit 1, vid := vid, ip4 := ip4, len4 := len4, ip6 := ip6 }
            ∧ ∀ r, r ≠ rif → at_ t.m r = at_ s.m r)
      ∧ (∀ nh flags mac vid, nh ≤ 1023 → flags ≤ 1 → flags = 0 ∨ (1 ≤ vid ∧ vid ≤ 4094) →
        Answers (.nhSet dt h nh flags mac vid) s fun t =>
          let at_ (m : Mod) := AMap.get (fun _ => ({ valid := false, mac := 0, vid := 0 } : NextHop)) m.sw.nh
          at_ t.m nh = { valid := flags == 1, mac := mac, vid := vid } ∧ ∀ n, n ≠ nh → at_ t.m n = at_ s.m n)
      ∧ (∀ plen nh pfx, routeBad 4 plen nh 0 pfx = false → s.m.sw.routes4.length < 4096 →
        (s.m.sw.routes4.any fun q => q.bits == prefixBits false pfx && q.len == plen) = false →
        Answers (.routeAdd dt h 4 plen nh pfx 0) s fun t =>
          t.m.sw = { s.m.sw with routes4 := s.m.sw.routes4 ++ [{ bits := prefixBits false pfx, len := plen, nh := nh }] })
      ∧ (∀ plen nh pfx, routeBad 6 plen nh 0 pfx = false → s.m.sw.routes6.length < 1024 →
        (s.m.sw.routes6.any fun q => q.bits == prefixBits true pfx && q.len == plen) = false →
        Answers (.routeAdd dt h 6 plen nh pfx 0) s fun t =>
          t.m.sw = { s.m.sw with routes6 := s.m.sw.routes6 ++ [{ bits := prefixBits true pfx, len := plen, nh := nh }] })
      ∧ (∀ plen pfx, routeBad 4 plen 0 0 pfx = false →
        (s.m.sw.routes4.any fun q => q.bits == prefixBits false pfx && q.len == plen) = true →
        Answers (.routeDel dt h 4 plen 0 pfx 0) s fun t =>
          t.m.sw = { s.m.sw with routes4 := s.m.sw.routes4.filter fun q => !(q.bits == prefixBits false pfx && q.len == plen) })
      ∧ ∀ plen pfx, routeBad 6 plen 0 0 pfx = false →
        (s.m.sw.routes6.any fun q => q.bits == prefixBits true pfx && q.len == plen) = true →
        Answers (.routeDel dt h 6 plen 0 pfx 0) s fun t =>
          t.m.sw = { s.m.sw with routes6 := s.m.sw.routes6.filter fun q => !(q.bits == prefixBits true pfx && q.len == plen) })
    ∧ ∀ (s : State) (dt v : Nat), s.m.opens R.SW_TBL_SEL = true →
      Answers (.swTblSel dt v) s fun t =>
        t.m.rd R.SW_TBL_SEL = v % 67108864 ∧ t.m.sw = s.m.sw
          ∧ (t.m.on F.SW_TBL_STAT_VALID = !t.m.on F.SW_TBL_STAT_ERR)

/-! ## The Brace (R455 to R487) -/

/-- R481: of frames of the type asked for, with the key usable, exactly those with the right tag, Brace ID, time and a newer SEQ are accepted
and move the last SEQ on; every other is counted in BRACE_AUTH_FAIL_CNT. -/
def Obligations.BraceFramesJudged : Prop :=
  ∀ (m : Mod) (k : Clock) (type : Nat) (d : List Byte), m.braceUp = true → 48 ≤ d.length → leAt d 1 1 = type →
    m.slotAllows (m.rd R.BRACE_KEY % 64) [1] 0 2 = true →
    let good : Prop :=
      (Config.aesCmac (m.slotKey (m.rd R.BRACE_KEY % 64)) (d.take (d.length - 16))).take 16 = d.drop (d.length - 16)
        ∧ leAt d 2 2 = d.length ∧ leAt d 4 2 = m.rd R.BRACE_ID % 65536
        ∧ (Int.ofNat (leAt d 12 8) - Int.ofNat (Clock.fullNs k.now)).natAbs ≤ (if m.on F.BRACE_STAT_TIME_ALIGNED then 1000000 else 10000000000)
        ∧ ∀ q, m.brace.rxSeq = some q → 0 < tickDiff (leAt d 8 4) q
    (good → ∃ f, (m.braceFrame k type d).2 = some f ∧ f.body = (d.take (d.length - 16)).drop 32 ∧ f.tick = leAt d 20 4
        ∧ (m.braceFrame k type d).1.brace.rxSeq = some (leAt d 8 4)
        ∧ (m.braceFrame k type d).1.rd R.BRACE_RX_CNT = (m.rd R.BRACE_RX_CNT + 1) % 4294967296
        ∧ (m.braceFrame k type d).1.rd R.BRACE_AUTH_FAIL_CNT = m.rd R.BRACE_AUTH_FAIL_CNT)
      ∧ (¬ good → (m.braceFrame k type d).2 = none ∧ (m.braceFrame k type d).1.brace = m.brace
        ∧ (m.braceFrame k type d).1.rd R.BRACE_AUTH_FAIL_CNT = (m.rd R.BRACE_AUTH_FAIL_CNT + 1) % 4294967296
        ∧ (m.braceFrame k type d).1.rd R.BRACE_RX_CNT = m.rd R.BRACE_RX_CNT)

/-- R458 to R461, R467 to R469: the gate closes when BRACE_HOLD_IN asserts and its window begins when it is released; claims that are due assert
BRACE_HOLD_OUT; 100 µs of a window open the gate; the keep-alive's end releases BRACE_HOLD_OUT and closes the gate; a takeover comes at a
boundary. -/
def Obligations.BraceLines : Prop :=
  (∀ (s : State) (dt : Nat), s.m.domOn 2 = true → s.m.on F.BRACE_STAT_HOLD_IN = false → s.m.on F.BRACE_STAT_GATE_OPEN = true →
      Answers (.holdInChange dt true) s fun t =>
        t.m.on F.BRACE_STAT_HOLD_IN = true ∧ t.m.on F.BRACE_STAT_GATE_OPEN = false ∧ t.m.on F.LEASH_STAT_OUT_A = false
          ∧ t.m.on F.LEASH_STAT_OUT_B = false ∧ t.m.brace.windowAt = none ∧ t.m.role = s.m.role ∧ t.m.lstate = s.m.lstate)
    ∧ (∀ (s : State) (dt : Nat), s.m.domOn 2 = true → s.m.on F.BRACE_STAT_HOLD_IN = true → s.m.on F.BRACE_STAT_HOLD_OUT = true →
      Answers (.holdInChange dt false) s fun t =>
        t.m.on F.BRACE_STAT_HOLD_IN = false ∧ t.m.brace.windowAt = some (s.clk.raw + dt)
          ∧ t.m.on F.BRACE_STAT_GATE_OPEN = s.m.on F.BRACE_STAT_GATE_OPEN)
    ∧ (∀ (s : State) (dt : Nat), s.m.running = true → s.m.on F.BRACE_CTL_MODE = false → s.m.role = 3 →
      s.m.on F.BRACE_STAT_HOLD_OUT = false → s.m.on F.BRACE_STAT_HOLD_IN = false → s.m.brace.kaDead = false → s.m.brace.retryAt = none →
      Answers (.braceClaim dt) s fun t =>
        t.m.on F.BRACE_STAT_HOLD_OUT = true ∧ t.m.brace.windowAt = some (s.clk.raw + dt) ∧ t.m.out = [.holdOut true]
          ∧ t.m.on F.BRACE_STAT_GATE_OPEN = s.m.on F.BRACE_STAT_GATE_OPEN)
    ∧ (∀ (s : State) (dt w : Nat), s.m.brace.windowAt = some w → s.m.on F.BRACE_STAT_HOLD_OUT = true → s.m.on F.BRACE_STAT_HOLD_IN = false →
      s.m.on F.BRACE_STAT_GATE_OPEN = false → s.m.brace.kaDead = false →
      (w + usRaw 100 ≤ s.clk.raw + dt →
        Answers (.gateOpen dt) s fun t =>
          t.m.on F.BRACE_STAT_GATE_OPEN = true ∧ (s.m.on F.BRACE_CTL_MODE = false → s.m.standby = true → t.m.role = 0)
            ∧ (s.m.on F.BRACE_CTL_MODE = true → t.m.role = s.m.role)
            ∧ t.m.on F.LEASH_STAT_OUT_A = (s.m.leashUp && s.m.lstate == 2))
      ∧ (s.clk.raw + dt < w + usRaw 100 → Does (.gateOpen dt) s dt s.found))
    ∧ (∀ (s : State) (dt at_ : Nat), s.m.brace.retryAt = some at_ → at_ ≤ s.clk.raw + dt →
      Does (.claimRetry dt) s dt (Mod.braceJudge { s.found with brace := { s.m.brace with retryAt := none } } (s.now dt) false))
    ∧ (∀ (s : State) (dt : Nat), s.m.running = true → s.m.brace.kaDead = false → s.m.brace.fedAt + msRaw (10 * s.m.kaTicks) ≤ s.clk.raw + dt →
      Answers (.keepaliveExpiry dt) s fun t =>
        t.m.brace.kaDead = true ∧ t.m.on F.BRACE_STAT_HOLD_OUT = false ∧ t.m.on F.BRACE_STAT_GATE_OPEN = false
          ∧ t.m.on F.LEASH_STAT_OUT_A = false ∧ t.m.on F.LEASH_STAT_OUT_B = false)
    ∧ (∀ (s : State) (dt at_ : Nat), s.m.braceUp = true → s.m.standby = true → s.m.brace.joinAt = some at_ → s.m.partner? = none →
      at_ + (msRaw (100 * s.m.joinWait) + if s.m.preferred then 0 else secRaw 1) ≤ s.clk.raw + dt → s.m.eligible = true →
      s.m.on F.BRACE_STAT_HOLD_IN = false → s.m.on F.BRACE_STAT_HOLD_OUT = false → s.m.brace.kaDead = false → s.m.brace.retryAt = none →
      Answers (.joinWaitExpiry dt) s fun t =>
        t.m.on F.BRACE_STAT_HOLD_OUT = true ∧ t.m.brace.windowAt = some (s.clk.raw + dt) ∧ t.m.brace.cause = 1 ∧ t.m.role = s.m.role)
    ∧ ∀ (s : State) (dt : Nat), (s.now dt).atBoundary = true →
      Does (.takeover dt) s dt (s.found.takeover (if (s.now dt).nextBoundary ≤ (s.now dt).raw then (s.now dt).beginTick else s.now dt))

/-- R426, R461, R463 to R465, R468, R473, R482: a heartbeat leaves on both paths once each whole ms while the keep-alive runs; verified ones are taken
up; HB_MISS missed ones in a row lose the path; the trip signal of an active partner trips a standby. -/
def Obligations.BraceHeartbeats : Prop :=
  (∀ (s : State) (dt : Nat), s.m.braceUp = true → s.m.brace.kaDead = false →
      s.m.brace.hbMs ≠ some (Clock.fullNs (s.now dt).now / 1000000) → s.m.slotAllows (s.m.rd R.BRACE_KEY % 64) [1] 0 2 = true →
      Answers (.heartbeatTx dt) s fun t =>
        (∃ a b, t.m.out = [.brace true 1 a, .brace false 1 b] ∧ a.length = 16)
          ∧ t.m.brace.hbMs = some (Clock.fullNs (s.now dt).now / 1000000) ∧ t.m.brace.hbSeq = (s.m.brace.hbSeq + 1) % 256
          ∧ t.m.rd R.BRACE_TX_CNT = (s.m.rd R.BRACE_TX_CNT + 1) % 4294967296)
    ∧ (∀ (s : State) (dt mac : Nat) (d : List Byte) (m : Mod) (f : BraceMsg), s.m.braceUp = true →
      s.found.braceFrame (s.now dt) 1 d = (m, some f) →
      Does (.heartbeatRx dt false d mac) s dt ((((m.hbMsg (s.now dt) f mac).coldShow (s.now dt)).braceJudge (s.now dt) true).demote (s.now dt)))
    ∧ (∀ (s : State) (dt mac : Nat) (d : List Byte), s.m.braceUp = true →
      Does (.heartbeatRx dt true d mac) s dt (s.found.hbLvds (s.now dt) d))
    ∧ (∀ (s : State) (dt : Nat), s.m.braceUp = true → s.m.on F.BRACE_STAT_HB_LVDS = true → s.m.brace.lvds.miss + 1 = s.m.hbMiss →
      s.m.brace.lvds.at_ + msRaw (s.m.brace.lvds.miss + 1) < s.clk.raw + dt → s.m.standby = false →
      Answers (.heartbeatMiss dt true false) s fun t =>
        t.m.on F.BRACE_STAT_HB_LVDS = false ∧ t.m.bit R.BRACE_EVT 4 = true ∧ t.m.on F.BRACE_STAT_TIME_ALIGNED = false
          ∧ t.m.rd R.BRACE_HB_LOSS_LVDS_CNT = (s.m.rd R.BRACE_HB_LOSS_LVDS_CNT + 1) % 4294967296
          ∧ t.m.brace.lvds.miss = s.m.hbMiss)
    ∧ (∀ (s : State) (dt : Nat) (d : List Byte) (p : Partner), s.m.braceUp = true → s.m.leashUp = true → s.m.standby = true →
      s.m.brace.partner = some p → p.role = 1 → s.m.leash.partner = false →
      Answers (.partnerTrip dt true d) s fun t => Tripped s t dt 7 ∧ t.m.leash.partner = true)
    ∧ ∀ (s : State) (dt : Nat) (d : List Byte) (p : Partner) (m : Mod) (f : BraceMsg), s.found.braceFrame (s.now dt) 2 d = (m, some f) →
      s.m.leashUp = true → s.m.standby = true → s.m.brace.partner = some p → p.role = 1 → s.m.leash.partner = false →
      Answers (.partnerTrip dt false d) s fun t => Tripped s t dt 7 ∧ t.m.leash.partner = true

/-- R471, R472, R485: a HANDOVER the partner is ready for is named to it and waits for its answer; at T+9 ms of the tick before B the hold line is
released; without an answer by T+9.5 ms it is dropped; an automatic return starts one; the partner accepts when HOT and eligible. -/
def Obligations.BraceHandovers : Prop :=
  (∀ (s : State) (dt atTick : Nat) (h : Hdr), s.m.live? 6 = true → s.m.role = 1 → s.m.partnerReady = true → s.m.brace.handover = none →
      atTick = 0 ∨ 10 ≤ tickDiff atTick (s.now dt).tick →
      Answers (.handover dt h atTick 0) s fun t =>
        t.m.brace.handover = some
          { b := if atTick = 0 then (s.now dt).sfAhead else atTick, giving := true, hdr := some (h.tag, h.noResult, (s.now dt).tick), cause := 3,
            accepted := false, released := false }
          ∧ t.m.role = 1 ∧ (t.m.rng 1).queue = (s.m.rng 1).queue)
    ∧ (∀ (s : State) (dt : Nat) (h : Hdr), s.m.live? 6 = true → s.m.standby = true → s.m.on F.BRACE_CTL_MODE = true →
      Does (.braceResync dt h 0) s dt ((s.found.fullReq (s.now dt)).reply (s.now dt) 6 2 0 h []))
    ∧ (∀ (s : State) (dt : Nat) (o : Handover), s.m.brace.handover = some o → o.giving = true → o.accepted = true → o.released = false →
      ((s.now dt).tick + 1) % 4294967296 = o.b → 9000000 ≤ (s.now dt).subNs (s.now dt).raw → s.m.mirrors = false →
      Answers (.handoverRelease dt) s fun t =>
        t.m.brace.handover = some { o with released := true } ∧ t.m.on F.BRACE_STAT_HOLD_OUT = false
          ∧ t.m.on F.BRACE_STAT_GATE_OPEN = false ∧ t.m.role = s.m.role)
    ∧ (∀ (s : State) (dt : Nat) (o : Handover), s.m.brace.handover = some o → ((s.now dt).tick + 1) % 4294967296 = o.b →
      9500000 ≤ (s.now dt).subNs (s.now dt).raw → o.giving = true → o.released = false →
      Does (.handoverAbort dt) s dt
        (Mod.handoverResult { s.found with brace := { s.m.brace with handover := none } } (s.now dt) o 0x105))
    ∧ (∀ (s : State) (dt since : Nat), s.m.brace.readySince = some since → s.m.role = 1 → s.m.on F.BRACE_CTL_RETURN = true →
      s.m.preferred = false → s.m.partnerReady = true → s.m.brace.handover = none → since + secRaw s.m.returnHold ≤ s.clk.raw + dt →
      Answers (.autoReturn dt) s fun t =>
        t.m.brace.handover = some
          { b := (s.now dt).sfAhead, giving := true, hdr := none, cause := 4, accepted := false, released := false } ∧ t.m.role = 1)
    ∧ (∀ (s : State) (dt : Nat) (d : List Byte) (m : Mod) (f : BraceMsg), s.found.braceFrame (s.now dt) 0x40 d = (m, some f) → m.role = 2 →
      m.eligible = true → m.brace.mismatch = false →
      Answers (.handoverMsg dt d) s fun t =>
        ∃ o, t.m.brace.handover = some o ∧ o.b = leAt f.body 0 4 ∧ o.giving = false ∧ o.accepted = true)
    ∧ ∀ (s : State) (dt : Nat) (d : List Byte) (m : Mod) (f : BraceMsg) (o : Handover), s.found.braceFrame (s.now dt) 0x41 d = (m, some f) →
      s.m.brace.handover = some o → o.giving = true → o.accepted = false → leAt f.body 0 4 = o.b → leAt f.body 4 1 = 0 →
      Answers (.handoverAck dt d) s fun t => t.m.brace.handover = some { o with accepted := true } ∧ t.m.role = s.m.role

/-- R235, R474 to R477, R482: what an accepted frame of the mirror brings a paired standby, or the active unit, is committed; a missing
acknowledgement at T+3.5 ms ends synchronisation. -/
def Obligations.BraceMirror : Prop :=
  (∀ (s : State) (dt : Nat) (d : List Byte) (m : Mod) (f : BraceMsg), m.standby = true → m.paired = true →
      (s.found.braceFrame (s.now dt) 0x10 d = (m, some f) →
        Answers (.shepDelta dt d) s fun t =>
          t.m.brace.mirror = (parseRecs (f.body.length / 8) f.body).foldl mirrorPut s.m.brace.mirror ∧ t.m.shep = s.m.shep ∧ t.m.mot = s.m.mot)
      ∧ (s.found.braceFrame (s.now dt) 0x11 d = (m, some f) →
        Answers (.motDelta dt d) s fun t =>
          t.m.brace.mirror = (parseRecs (f.body.length / 8) f.body).foldl mirrorPut s.m.brace.mirror ∧ t.m.shep = s.m.shep ∧ t.m.mot = s.m.mot)
      ∧ (s.found.braceFrame (s.now dt) 0x13 d = (m, some f) →
        Answers (.tickEnd dt d) s fun t =>
          t.m.brace.auth = f.body.take 32 ∧ t.m.brace.leashState = leAt f.body 32 1 ∧ t.m.brace.tripId = leAt f.body 34 2)
      ∧ (s.found.braceFrame (s.now dt) 0x20 d = (m, some f) → Does (.sfSync dt d) s dt (s.found.sfSyncRx (s.now dt) d))
      ∧ (s.found.braceFrame (s.now dt) 0x31 d = (m, some f) →
        Answers (.fullData dt d) s fun t =>
          t.m.brace.mirror = (parseRecs (f.body.length / 8) f.body).foldl mirrorPut s.m.brace.mirror ∧ t.m.live = m.live)
      ∧ (s.found.braceFrame (s.now dt) 0x32 d = (m, some f) → m.brace.syncing = true → mirrorCrc m.brace.mirror = leAt f.body 0 4 →
        Answers (.fullDone dt d) s fun t => t.m.on F.BRACE_STAT_SYNCED = true ∧ t.m.bit R.BRACE_EVT 7 = true ∧ t.m.brace.syncing = false))
    ∧ (∀ (s : State) (dt : Nat) (d : List Byte) (m : Mod) (f : BraceMsg), s.found.braceFrame (s.now dt) 0x30 d = (m, some f) →
      m.role = 1 → m.paired = true → Does (.fullReq dt d) s dt (m.sendFull (s.now dt)))
    ∧ (∀ (s : State) (dt : Nat) (d : List Byte) (m : Mod) (f : BraceMsg), s.found.braceFrame (s.now dt) 0x12 d = (m, some f) →
      m.role = 1 → s.m.brace.ackTick = some s.clk.tickNo → f.tick = (s.now dt).tick →
      Answers (.ack dt d) s fun t => t.m.brace.acks = s.m.brace.acks ||| (leAt f.body 0 1 % 4))
    ∧ (∀ (s : State) (dt : Nat), s.m.ackHeld (s.now dt) = true → 3500000 ≤ (s.now dt).subNs (s.now dt).raw →
      Answers (.ackDeadline dt) s fun t =>
        t.m.on F.BRACE_STAT_SYNCED = false ∧ t.m.bit R.BRACE_EVT 6 = true
          ∧ t.m.rd R.BRACE_ACK_LATE_CNT = (s.m.rd R.BRACE_ACK_LATE_CNT + 1) % 4294967296)
    ∧ ∀ (s : State) (dt : Nat) (d : List Byte) (m : Mod) (f : BraceMsg), s.found.braceFrame (s.now dt) 0x50 d = (m, some f) →
      m.standby = true →
      Answers (.stepAnnounce dt d) s fun t =>
        t.m.time.step = some { at_ := (leAt f.body 0 8 : Nat) * uPerNs, delta := -(signed 64 (leAt f.body 8 8)) * 1048576,
                               initial := false, byHost := false, unc := 0 } ∧ t.m.live = m.live

/-! ## The Kennel (R488 to R522) -/

/-- R494, R495, R500, R503 to R506, R508, R517, R519: a blob sealed under a key opens to the same key; ERASE makes a slot ORPHAN at once and EMPTY at
the end of the tick; DERIVE installs the derived key; WRAP writes a blob to host memory; EXTEND, QUOTE, SIGN and VERIFY act on the slots and
registers they name. -/
def Obligations.KeysAndBlobs : Prop :=
  (∀ key iv aad text, Config.aesGcmOpen key iv aad (Config.aesGcmSeal key iv aad text).1 (Config.aesGcmSeal key iv aad text).2 = some text)
    ∧ (∀ (s : State) (dt slot addr size : Nat) (h : Hdr) (b : List Byte), s.m.live? 7 = true → addr % 8 = 0 →
      Does (.loadBlob dt h slot 0 addr size (some b)) s dt
        ((s.found.loadBlob slot size b).1.reply (s.now dt) 7 1 (s.found.loadBlob slot size b).2 h []))
    ∧ (∀ (s : State) (dt slot : Nat) (h : Hdr), s.m.live? 7 = true → 4 ≤ slot → slot ≤ 63 → s.m.slotState slot = 1 →
      Answers (.erase dt h slot 0) s fun t =>
        t.m.slotState slot = 2 ∧ t.m.on F.KEN_STAT_BUSY = true ∧ t.m.bit R.KEN_EVT 2 = true
          ∧ t.m.ken.erasing = s.m.ken.erasing ++ [{ slot := slot, tag := h.tag, noResult := h.noResult, acceptTick := (s.now dt).tick }])
    ∧ (∀ (s : State) (dt : Nat), s.m.live? 7 = true → (s.now dt).ended = true →
      Answers (.orphanZeroise dt) s fun t =>
        (∀ x, x < 64 → s.m.slotState x = 2 → t.m.slotState x = 0 ∧ AMap.find t.m.ken.slot x = none)
          ∧ (∀ x, x < 64 → s.m.slotState x ≠ 2 → t.m.slotState x = s.m.slotState x ∧ AMap.find t.m.ken.slot x = AMap.find s.m.ken.slot x)
          ∧ t.m.ken.erasing = [] ∧ t.m.on F.KEN_STAT_BUSY = t.m.ring.handed.any fun h => h.block == 7)
    ∧ (∀ (s : State) (dt parent slot type labelLen use user : Nat) (h : Hdr) (label context : List Byte), s.m.live? 7 = true →
      4 ≤ slot → slot ≤ 63 → parent ≤ 63 → 1 ≤ labelLen → labelLen ≤ 16 → type = 1 ∨ type = 2 → s.m.kenState ≠ 1 → s.m.slotState slot = 0 →
      s.m.slotErr parent = 0 → s.m.fld (F.KEN_SLOT_STAT_TYPE parent) = 2 ∨ s.m.fld (F.KEN_SLOT_STAT_TYPE parent) = 7 →
      (s.m.fld (F.KEN_SLOT_STAT_USE parent)).testBit 2 = true → user &&& s.m.fld (F.KEN_SLOT_STAT_USER parent) = user →
      policyOk type use user = true →
      Answers (.derive dt h parent slot type labelLen use user label context) s fun t =>
        t.m.slotState slot = 1 ∧ t.m.slotKey slot = kdf (s.m.slotKey parent) (label.take labelLen) (context.take 32)
          ∧ t.m.fld (F.KEN_SLOT_STAT_TYPE slot) = type ∧ t.m.slotParent slot = parent
          ∧ ∀ x, x < 64 → x ≠ slot → t.m.slotState x = s.m.slotState x ∧ t.m.slotKey x = s.m.slotKey x)
    ∧ (∀ (s : State) (dt slot parent bind addr size serial : Nat) (h : Hdr), s.m.live? 7 = true → 4 ≤ slot → slot ≤ 63 → parent ≤ 63 →
      parent ≠ 1 → parent ≠ 2 → bind ≤ 2 → addr % 8 = 0 → s.m.slotErr slot = 0 → s.m.slotErr parent = 0 →
      (s.m.fld (F.KEN_SLOT_STAT_USE slot)).testBit 5 = true → (s.m.fld (F.KEN_SLOT_STAT_USE parent)).testBit 1 = true →
      72 + (s.m.slotKey slot).length ≤ size →
      Answers (.wrap dt h slot parent bind 0 addr size serial 0 true) s fun t =>
        (∃ b, t.m.out.head? = some (.hostWrite b) ∧ b.length = 72 + (s.m.slotKey slot).length ∧ b.take 4 = [0x4B, 0x42, 0x4C, 0x42])
          ∧ t.m.ken = s.m.ken)
    ∧ (∀ (s : State) (dt : Nat) (h : Hdr) (nonce : List Byte), s.m.live? 7 = true → s.m.slotErr 1 = 0 →
      Does (.quote dt h nonce) s dt ((s.found.kenOp).reply (s.now dt) 7 6 0 h
        (s.found.quoteBody (s.now dt) nonce ++ Config.sign (s.m.slotKey 1) (Config.sha384 (s.found.quoteBody (s.now dt) nonce)))))
    ∧ (∀ (s : State) (dt index : Nat) (h : Hdr) (digest : List Byte), s.m.live? 7 = true → 4 ≤ index → index ≤ 7 →
      Answers (.extend dt h index 0 digest) s fun t =>
        t.m.measReg index = Config.sha384 (s.m.measReg index ++ digest.take 48) ∧ ∀ i, i ≠ index → t.m.measReg i = s.m.measReg i)
    ∧ (∀ (s : State) (dt slot : Nat) (h : Hdr) (digest : List Byte), s.m.live? 7 = true → s.m.hostUse slot 0 [3, 4] 3 = 0 →
      Does (.sign dt h slot 0 digest) s dt
        ((s.found.kenOp).reply (s.now dt) 7 8 0 h (Config.sign (s.m.slotKey slot) (digest.take 48))))
    ∧ ∀ (s : State) (dt slot : Nat) (h : Hdr) (digest sig : List Byte), s.m.live? 7 = true → s.m.hostUse slot 0 [5, 6] 4 = 0 →
      Does (.verify dt h slot 0 digest sig) s dt
        ((s.found.kenOp).reply (s.now dt) 7 9 (if Config.verify (s.m.slotKey slot) (digest.take 48) (sig.take 96) then 0 else 0x108) h [])

/-- R488, R492, R493, R510 to R516: ROOT_GEN gives a root, FUSE_PROG the customer roots, a tamper clear the next generation at the next boundary; a tamper zeroises the root
and every slot that is not BAD, is counted and ends in a reset 2 ms later; in HIBERNATE or OFF it is logged. The random bytes are free (log
entry 2). -/
def Obligations.RootsAndTamper : Prop :=
  (∀ (s : State) (dt flags : Nat) (h : Hdr), s.m.live? 7 = true → flags ≤ 1 → s.m.kenState ≠ 1 → (s.m.kenState = 0 → flags = 1) →
      s.m.ken.tamperAt = none →
      Answers (.rootGen dt h flags 0) s fun t =>
        (∃ key, t.m.ken.root = some key ∧ key.length = 32) ∧ t.m.on F.KEN_STAT_ROOT_VALID = true ∧ t.m.bit R.KEN_EVT 7 = true)
    ∧ (∀ (s : State) (dt : Nat) (h : Hdr) (roots : List (List Byte)), s.m.live? 7 = true → s.m.ken.cfr = none →
      Answers (.fuseProg dt h 0 roots) s fun t =>
        t.m.ken.cfr = some (roots.take 4) ∧ t.m.on F.KEN_STAT_CFR_PROG = true ∧ t.m.fld F.KEN_STAT_FUSE_GEN = 0)
    ∧ (∀ (s : State) (dt v comp : Nat), GuardReady s dt R.KEN_TAMPER_CLR v comp → s.m.kenState = 1 → s.m.ken.levels = 0 →
      s.m.ken.cfr.isSome = true → s.m.ken.gen < 3 →
      Answers (.kenTamperClr dt comp) s fun t =>
        t.m.ken.newState = some 2 ∧ t.m.ken.gen = s.m.ken.gen ∧ t.m.kenState = 1)
    ∧ (∀ (m : Mod) (k : Clock), m.ken.newState = some 2 → m.ken.gen < 3 →
      (m.kenBoundary k).ken.gen = m.ken.gen + 1 ∧ (m.kenBoundary k).fld F.KEN_STAT_FUSE_GEN = m.ken.gen + 1
        ∧ (m.kenBoundary k).kenState = 2 ∧ (m.kenBoundary k).bit R.KEN_EVT 1 = true
        ∧ (m.kenBoundary k).on F.KEN_TAMPER_CTL_LOCK = false)
    ∧ (∀ (s : State) (dt src : Nat), s.m.pwr.mode = 0 → 6 ≤ s.m.pwr.step → 1 ≤ src → src ≤ 5 → s.m.pwr.aonOk = true →
      s.m.ken.levels.testBit (src - 1) = false → s.m.tamperOn src = true →
      Answers (.tamperDetect dt src true) s fun t =>
        t.m.ken.root = none ∧ (∀ x, x < 64 → s.m.slotState x ≠ 3 → t.m.slotState x = 0) ∧ t.m.on F.KEN_STAT_ROOT_VALID = false
          ∧ t.m.rd R.KEN_TAMPER_CNT = (s.m.rd R.KEN_TAMPER_CNT + 1) % 4294967296 ∧ t.m.fld F.KEN_TAMPER_STAT_LAST = src
          ∧ t.m.ken.tamperAt.isSome = true ∧ t.m.on F.BRACE_STAT_GATE_OPEN = false)
    ∧ (∀ (s : State) (dt src : Nat), s.m.pwr.mode = 0 → 1 ≤ src → src ≤ 5 → s.m.pwr.aonOk = true →
      Answers (.tamperDetect dt src false) s fun t =>
        t.m.ken.levels.testBit (src - 1) = false ∧ t.m.ken.root = s.m.ken.root ∧ t.m.ken.slot = s.m.ken.slot
          ∧ t.m.rd R.KEN_TAMPER_CNT = s.m.rd R.KEN_TAMPER_CNT)
    ∧ (∀ (s : State) (dt at_ : Nat), s.m.ken.tamperAt = some at_ → s.m.pwr.mode = 0 → at_ + msRaw 2 ≤ s.clk.raw + dt →
      exec (.tamperReset dt) s = .next (s.left (s.found.beginReset (s.now dt) 6 false)))
    ∧ (∀ (s : State) (dt src : Nat), s.m.pwr.mode = 1 → 1 ≤ src → src ≤ 5 → s.m.pwr.aonOk = true → s.m.tamperOn src = true →
      Answers (.tamperSleep dt src) s fun t =>
        t.m.ken.root = none ∧ t.m.rd R.KEN_TAMPER_CNT = (s.m.rd R.KEN_TAMPER_CNT + 1) % 4294967296
          ∧ t.m.ken.unlogged = min 4 (s.m.ken.unlogged + 1) ∧ t.m.pwr = s.m.pwr)
    ∧ (∀ (s : State) (dt v comp : Nat), GuardReady s dt R.KEN_ZEROISE v comp →
      Does (.kenZeroise dt comp) s dt ((s.found.unguard.cfgSet R.KEN_ZEROISE v).tamper (s.now dt) 6))
    ∧ ∀ (s : State) (dt : Nat), s.m.pwr.mode = 0 →
      Answers (.vbatLow dt) s fun t => t.m.on F.KEN_STAT_VBAT_LOW = true ∧ t.m.bit R.KEN_EVT 6 = true ∧ t.m.pwr.vbatOk = false

/-! ## UPD (R523 to R545) -/

/-- R528, R529, R532, R533, R535: STAGE, VERIFY, INSTALL, ACTIVATE and CANCEL move UPD_STAT.STATE as the table of R528 says where it allows them. -/
def Obligations.PackagesAndBanks : Prop :=
  (∀ (s : State) (dt offset size addr flags : Nat) (h : Hdr) (d : List Byte), s.m.live? 8 = true → 1 ≤ size → size ≤ 16777216 → addr % 8 = 0 →
      offset + size ≤ 536870912 →
      (flags = 1 → offset = 0 → s.m.updState ∈ [0, 1, 2, 4] →
        Answers (.stage dt h offset size addr flags (some d) true) s fun t =>
          t.m.upd.staged = d.take size ∧ t.m.updState = 1 ∧ t.m.rd R.UPD_STAGE_LEN = (d.take size).length % 4294967296)
      ∧ (flags = 0 → offset = s.m.upd.staged.length → s.m.updState = 1 →
        Answers (.stage dt h offset size addr flags (some d) true) s fun t =>
          t.m.upd.staged = s.m.upd.staged ++ d.take size ∧ t.m.updState = 1)
      ∧ (flags = 1 → offset = 0 → s.m.updState = 6 →
        Answers (.stage dt h offset size addr flags (some d) true) s fun t =>
          t.m.upd.staged = d.take size ∧ t.m.updState = 6 ∧ t.m.on F.UPD_STAT_PKG_STAGED = false))
    ∧ (∀ (s : State) (dt : Nat) (h : Hdr), s.m.live? 8 = true → s.m.updState = 1 →
      Does (.packageVerify dt h 0) s dt
        (match s.found.packageCheck s.m.upd.staged with
          | (m, 0) => (((m.updAt fun u => { u with verified := s.m.upd.staged.take 64 }).setUpdState 2).updEvt 0).reply (s.now dt) 8 2 0 h
              (le 4 (leAt s.m.upd.staged 12 4) ++ le 4 (leAt s.m.upd.staged 20 4))
          | (m, c) => m.reply (s.now dt) 8 2 c h (List.replicate 8 0)))
    ∧ (∀ (s : State) (dt : Nat) (h : Hdr), s.m.live? 8 = true → s.m.updState = 2 →
      Answers (.install dt h 0) s fun t =>
        t.m.updState = 3 ∧ t.m.upd.prevValid = false ∧ t.m.upd.inst.isSome = true ∧ (t.m.upd.bank s.m.upd.otherBank).valid = false
          ∧ t.m.upd.bank s.m.upd.runBank = s.m.upd.bank s.m.upd.runBank)
    ∧ (∀ (s : State) (dt : Nat) (i : UpdHdr), s.m.live? 8 = true → s.m.upd.inst = some i →
      (∀ j, j < 8 → Config.sha384 (s.m.partImage s.m.upd.staged j) = (readPart s.m.upd.staged j).digest
        ∧ (s.m.partImage s.m.upd.staged j).length = (readPart s.m.upd.staged j).imgLen) →
      Answers (.installComplete dt true) s fun t =>
        t.m.updState = 4 ∧ t.m.upd.inst = none ∧ (t.m.upd.bank s.m.upd.otherBank).valid = true
          ∧ (t.m.upd.bank s.m.upd.otherBank).fwVer = leAt s.m.upd.staged 12 4 ∧ t.m.bit R.UPD_EVT 1 = true)
    ∧ (∀ (s : State) (dt atTick flags : Nat) (h : Hdr), s.m.live? 8 = true → flags ≤ 1 → s.m.updState = 4 →
      (flags = 1 ↔ s.m.on F.BRACE_CTL_MODE = true) → 100 ≤ tickDiff atTick (s.now dt).tick →
      Answers (.activate dt h atTick flags 0) s fun t =>
        t.m.updState = 5 ∧ t.m.upd.at_ = some (Int.ofNat s.clk.tickNo + tickDiff atTick (s.now dt).tick).toNat
          ∧ t.m.rd R.UPD_AT_TICK = atTick % 4294967296 ∧ t.m.upd.back = false ∧ t.m.bit R.UPD_EVT 2 = true)
    ∧ (∀ (s : State) (dt : Nat) (h : Hdr), s.m.live? 8 = true → s.m.updState = 5 → s.m.upd.closed = false →
      Answers (.cancel dt h 0) s fun t => t.m.updState = 4 ∧ t.m.upd.at_ = none ∧ t.m.rd R.UPD_AT_TICK = 0)
    ∧ (∀ (s : State) (dt at_ : Nat), s.m.live? 8 = true → (s.now dt).ended = true → s.m.upd.at_ = some at_ → s.m.updState = 5 →
      at_ ≤ (s.now dt).beginTick.tickNo + 10 → s.m.upd.closed = false →
      Answers (.cancelDeadline dt) s fun t => t.m.upd.closed = true ∧ t.m.updState = 5 ∧ t.m.upd.at_ = some at_)
    ∧ ∀ (s : State) (dt since : Nat), s.m.live? 8 = true → s.m.upd.pairAt = some since → s.m.upd.pairB = none →
      since + secRaw s.m.pairWait ≤ s.clk.raw + dt →
      Answers (.pairWaitExpiry dt) s fun t => t.m.updState = 4 ∧ t.m.upd.at_ = none ∧ t.m.bit R.UPD_EVT 6 = true

/-- R530, R534, R537 to R539: an activation restart names the other bank set, on trial, in the boot record and begins a reset; CONFIRM, ROLLBACK
and the end of the trial window end a trial; UPD_FUSE_SVN blows the fuses of the running release. -/
def Obligations.TrialsAndFuses : Prop :=
  (∀ (s : State) (dt at_ : Nat), s.m.running = true → (s.now dt).ended = true → s.m.upd.at_ = some at_ → s.m.updState = 5 →
      at_ ≤ (s.now dt).beginTick.tickNo → s.m.upd.pairAt = none → s.m.actSkipped = false → (s.m.upd.pair = false ∨ s.m.role ≠ 1) →
      Answers (.activationRestart dt) s fun t =>
        t.m.upd.rec_.run = s.m.upd.otherBank ∧ t.m.upd.rec_.trial = true ∧ t.m.pwr.step = 0 ∧ t.m.pwr.kind = 5 ∧ t.m.pwr.activation = true
          ∧ t.m.on F.BRACE_STAT_GATE_OPEN = false ∧ t.m.nv = s.m.nv)
    ∧ (∀ (s : State) (dt : Nat) (h : Hdr), s.m.live? 8 = true → s.m.updState = 6 → s.m.kenState ≠ 1 → s.m.upd.rollNow = false →
      s.m.upd.pair = false →
      Answers (.confirm dt h 0) s fun t =>
        t.m.updState = (if s.m.on F.UPD_STAT_PKG_STAGED then 2 else 0) ∧ t.m.upd.rec_.trial = false ∧ t.m.upd.rec_.run = s.m.upd.rec_.run
          ∧ t.m.upd.prevValid = true ∧ t.m.upd.trialAt = none ∧ t.m.bit R.UPD_EVT 4 = true ∧ t.m.on F.UPD_STAT_PKG_STAGED = false)
    ∧ (∀ (s : State) (dt : Nat) (h : Hdr), s.m.live? 8 = true → s.m.updState = 6 → s.m.upd.rollNow = false →
      Answers (.rollback dt h 0) s fun t => t.m.upd.rollNow = true ∧ t.m.updState = 6)
    ∧ (∀ (s : State) (dt atTick : Nat) (h : Hdr), s.m.live? 8 = true → s.m.updState ∈ [0, 1, 2, 4] → s.m.upd.prevValid = true →
      100 ≤ tickDiff atTick (s.now dt).tick → (atTick = 0 → s.m.upd.confAt = none) →
      Answers (.rollback dt h atTick) s fun t => t.m.updState = 5 ∧ t.m.upd.back = true ∧ t.m.upd.at_.isSome = true)
    ∧ (∀ (s : State) (dt since : Nat), s.m.running = true → (s.now dt).ended = true → s.m.upd.trialAt = some since → s.m.updState = 6 →
      since + secRaw s.m.trialS ≤ (s.now dt).beginTick.raw →
      Answers (.trialExpiry dt) s fun t =>
        t.m.upd.lastDue = some 2 ∧ t.m.pwr.step = 0 ∧ t.m.pwr.activation = true ∧ t.m.upd.rec_ = s.m.upd.rec_)
    ∧ ∀ (s : State) (dt v comp : Nat), GuardReady s dt R.UPD_FUSE_SVN v comp → v = s.m.rd R.UPD_SVN_RUN → s.m.upd.fused < v → s.m.updState ≠ 6 →
      Answers (.updFuseSvn dt comp) s fun t => t.m.upd.fused = v ∧ t.m.rd R.UPD_SVN_FUSED = v ∧ t.m.bit R.UPD_EVT 8 = true

/-! ## PWR (R546 to R568) -/

/-- R165, R166, R548, R550 to R552: a settled domain is powered; DOZE_ENTRY ends in SILENCING, SILENCING in DOZE, DOZE in HIBERNATE or through WAKING in
RUN, each at its boundary; bursts of DOZE begin and end. -/
def Obligations.PowerStates : Prop :=
  (∀ (s : State) (dt d at_ : Nat), d < 32 → AMap.find s.m.pwr.settling d = some at_ →
      (tickDom d = false ∨ ((s.now dt).ended = true ∧ at_ + msRaw 2 ≤ (s.now dt).nextBoundary)) →
      Answers (.domainSettled dt d) s fun t => t.m.domOn d = true ∧ AMap.find t.m.pwr.settling d = none)
    ∧ (∀ (s : State) (dt tick : Nat), s.m.running = true → (s.now dt).ended = true → s.m.pstate = 1 → s.m.pwr.heelTick = some tick →
      tick ≤ (s.now dt).beginTick.tickNo → s.m.allRest = true →
      Answers (.dozeSilence dt) s fun t => t.m.pstate = 4 ∧ t.m.pwr = s.m.pwr)
    ∧ (∀ (s : State) (dt : Nat), s.m.running = true → (s.now dt).ended = true → s.m.pstate = 4 → (s.now dt).beginTick.phase = 0 →
      s.m.pwr.lastToken + msRaw 30 ≤ (s.now dt).beginTick.raw →
      (s.m.fld F.PWR_STAT_TARGET ≠ 2 →
        Answers (.dozeEnter dt) s fun t =>
          t.m.pstate = 2 ∧ t.m.domOn 4 = false ∧ t.m.domOn 5 = false ∧ t.m.domOn 6 = false ∧ t.m.domOn 9 = false ∧ t.m.domOn 10 = false
            ∧ t.m.bit R.PWR_EVT 0 = true ∧ t.m.rd R.PWR_DOZE_CNT = (s.m.rd R.PWR_DOZE_CNT + 1) % 4294967296 ∧ t.clk = s.now dt)
      ∧ (s.m.fld F.PWR_STAT_TARGET = 2 → Answers (.dozeEnter dt) s fun t => t.m.pwr.mode = 1 ∧ t.m.nv = s.m.nv))
    ∧ (∀ (s : State) (dt : Nat), s.m.running = true → (s.now dt).ended = true → s.m.pstate = 2 → s.m.pwr.hibPending = true →
      Answers (.hibernateEnter dt) s fun t => t.m.pwr.mode = 1 ∧ t.m.nv = s.m.nv ∧ t.m.rd R.PWR_DOM_STAT = 1)
    ∧ (∀ (s : State) (dt : Nat), s.m.running = true → (s.now dt).ended = true → s.m.pstate = 3 → (s.now dt).beginTick.phase = 0 →
      s.m.pwr.wakeAt + msRaw 50 ≤ (s.now dt).beginTick.raw →
      Answers (.runResume dt) s fun t => t.m.pstate = 0 ∧ t.m.bit R.PWR_EVT 1 = true ∧ t.m.gnss.burst = none)
    ∧ (∀ (s : State) (dt : Nat), s.m.running = true → (s.now dt).ended = true → s.m.awake = false → s.m.gnss.burst = none →
      (s.now dt).beginTick.tickNo % 100 = 0 → s.m.on F.GNSS_CTL_EN = true → s.m.bit R.PWR_DOM_EN 4 = true → s.m.bit R.PWR_DOM_EN 5 = true →
      Answers (.dozeBurstStart dt) s fun t =>
        t.m.domOn 4 = true ∧ t.m.domOn 5 = true ∧ t.m.on F.PWR_STAT_BURST = true ∧ t.m.gnss.burst = some (s.now dt).beginTick.tickNo)
    ∧ ∀ (s : State) (dt b : Nat), s.m.running = true → (s.now dt).ended = true → s.m.gnss.burst = some b → s.m.pstate = 2 →
      b + s.m.burstTicks ≤ (s.now dt).beginTick.tickNo →
      Answers (.dozeBurstEnd dt) s fun t =>
        t.m.domOn 4 = false ∧ t.m.domOn 5 = false ∧ t.m.on F.PWR_STAT_BURST = false ∧ t.m.gnss.burst = none

/-- R220, R409, R555 to R558, R560, R562: a reset of any kind closes the gate, leaves the Leash TRIPPED and what flash and MRAM keep as it was, and begins
start-up; kinds 3 to 6 keep the timebase, and a time state LOCKED or HOLDOVER becomes HOLDOVER. -/
def Obligations.ResetsKeepAndLose : Prop :=
  ∀ (m : Mod) (k : Clock) (kind : Nat) (act : Bool), 1 ≤ kind → kind ≤ 7 →
    let r := m.beginReset k kind act
    r.2.pwr.step = 0 ∧ r.2.pwr.mode = 0 ∧ r.2.pwr.kind = kind ∧ r.2.pwr.activation = act ∧ r.2.nv = m.nv ∧ r.2.lstate = 0
      ∧ r.2.on F.BRACE_STAT_GATE_OPEN = false ∧ r.2.on F.BRACE_STAT_HOLD_OUT = false ∧ r.1.raw = k.raw ∧ r.2.ken.root = m.ken.root
      ∧ r.2.ken.slot = [] ∧ r.2.shep.cells = [] ∧ r.2.gnss = GnssSt.reset ∧ r.2.ring = RingBlk.reset
      ∧ (3 ≤ kind → kind ≤ 6 → r.1 = k ∧ r.2.sw = m.sw
        ∧ (m.on F.TIME_STAT_RETURNING = false → r.2.tstate = if m.tstate = 0 then 1 else m.tstate))
      ∧ (kind < 3 ∨ 6 < kind → r.2.time = TimeSt.reset ∧ r.2.sw = SwSt.reset ∧ r.2.rd R.PWR_DOM_STAT = 1)

/-- R553, R555, R557, R558, R560, R563, R565 to R567, R601, R621: the events of supply, pins, watchdog and wake each begin their kind of reset or power-down; start-up
from a boot record without a trial brings BAR0 up at step 9; seconds are counted; supply and temperature set their events. -/
def Obligations.SupplyAndWake : Prop :=
  (∀ (s : State) (dt : Nat), s.m.pwr.mode = 0 → exec (.rstN dt) s = .next (s.left (s.found.beginReset (s.now dt) 3 false)))
    ∧ (∀ (s : State) (dt : Nat), s.m.running = true → s.m.pwr.fedAt + msRaw s.m.wdtMs ≤ s.clk.raw + dt →
      exec (.watchdogExpiry dt) s = .next (s.left (s.found.beginReset (s.now dt) 4 false)))
    ∧ (∀ (s : State) (dt : Nat), s.m.pwr.mode ≠ 2 → s.m.pwr.vbatOk = true →
      exec (.brownOut dt false) s = .next (s.left (s.found.beginReset (s.now dt) 2 false))
        ∧ exec (.brownOut dt true) s = .next (s.left (s.found.powerDown (s.now dt) 2)))
    ∧ (∀ (s : State) (dt : Nat) (nothing vbat : Bool), s.m.pwr.mode = 2 →
      Answers (.powerOn dt nothing vbat) s fun t =>
        t.m.pwr.mode = 0 ∧ t.m.pwr.kind = 1 ∧ t.m.pwr.step = 0 ∧ t.m.pwr.vbatOk = vbat
          ∧ (nothing = true → t.m.pwr.aonFresh = true ∧ t.m.ken.root = none) ∧ t.m.nv = s.m.nv)
    ∧ (∀ (s : State) (dt : Nat), s.m.pwr.mode = 2 →
      Answers (.vbatLoss dt) s fun t => t.m.ken.root = none ∧ t.m.pwr.vbatOk = false ∧ t.m.pwr.aonOk = false ∧ t.m.nv = s.m.nv)
    ∧ (∀ (s : State) (dt : Nat), s.m.pwr.mode = 1 → s.m.bit R.PWR_WAKE_CTL 0 = true →
      exec (.wakePin dt) s = .next (s.left (s.found.beginReset (s.now dt) 7 false)))
    ∧ (∀ (s : State) (dt : Nat), s.m.pwr.mode = 1 → s.m.bit R.PWR_WAKE_CTL 1 = true → s.m.rd R.PWR_WAKE_SEC ≤ s.m.aonSec (s.now dt) →
      exec (.wakeAlarm dt) s = .next (s.left (s.found.beginReset (s.now dt) 7 false)))
    ∧ (∀ (s : State) (dt : Nat), s.m.pwr.mode = 0 →
      Answers (.perstN dt) s fun t =>
        t.m.ring = RingBlk.reset ∧ (∀ x, blockOf x ≠ some 2 → t.m.rd x = s.m.rd x) ∧ t.m.pwr = s.m.pwr ∧ t.m.shep = s.m.shep ∧ t.m.mot = s.m.mot)
    ∧ (∀ (s : State) (dt : Nat), s.m.pwr.mode = 0 → s.m.pwr.opAt + secRaw 1 ≤ s.clk.raw + dt →
      Answers (.opSecCount dt) s fun t =>
        t.m.nv.opSec = s.m.nv.opSec + 1 ∧ t.m.rd R.PWR_OP_SEC = (s.m.nv.opSec + 1) % 4294967296 ∧ t.m.pwr.opAt = s.m.pwr.opAt + secRaw 1)
    ∧ (∀ (s : State) (dt mV : Nat), s.m.barUp = true → mV < 4500 →
      Answers (.vinLow dt mV) s fun t => t.m.rd R.PWR_SUPPLY % 65536 = mV ∧ t.m.bit R.PWR_EVT 4 = true)
    ∧ (∀ (s : State) (dt : Nat) (temp : Int), s.m.barUp = true → 8500 < temp → temp < 32768 →
      Answers (.overtemp dt temp) s fun t => t.m.rd R.PWR_TEMP = temp.toNat ∧ t.m.bit R.PWR_EVT 5 = true)
    ∧ ∀ (s : State) (dt : Nat) (migOk selfOk : Bool) (u : UpdSt), s.m.pwr.mode = 0 → s.m.pwr.step < 9 → s.m.pwr.failed = false →
      s.m.upd.bootRom = some (u, false) → u.rec_.trial = false →
      Answers (.startUp dt migOk selfOk) s fun t =>
        t.m.barUp = true ∧ t.m.running = false
          ∧ t.m.rd R.PWR_RESET_CAUSE = (s.m.pwr.kind + if s.m.pwr.activation then 16 else 0) % 4294967296

/-! ## REC and PERF (R569 to R595) -/

/-- R573: with REC_CTL.EN 0 only the fixed triggers write records; with EN 1 another trigger writes them where its REC_TRIG_CTL.EN is 1, unless it is
held off or the queue is full. -/
def Obligations.TriggersWriteRecords : Prop :=
  ∀ (m : Mod) (k : Clock) (trig : Nat) (p : List Byte), 4 < trig → trig ≤ 15 →
    (m.on F.REC_CTL_EN = false → m.recTrig k trig p = m)
      ∧ (m.on F.REC_CTL_EN = true → m.on (F.REC_TRIG_CTL_EN (trig - 1)) = false → m.recTrig k trig p = m)
      ∧ (m.on F.REC_CTL_EN = true → m.on (F.REC_TRIG_CTL_EN (trig - 1)) = true → m.recHeld k trig = false → m.rcd.queue.length < 12 →
        ∃ q, (m.recTrig k trig p).rcd.queue = m.rcd.queue ++ [q] ∧ q.trig = trig ∧ q.seq = m.nv.seqNext ∧ q.payload = p ∧ q.tick = k.tick
          ∧ (m.recTrig k trig p).nv.seqNext = (m.nv.seqNext + 1) % 4294967296 ∧ (m.recTrig k trig p).live = m.live)

/-- R572, R573: a fixed trigger writes its record whatever REC_CTL and REC_TRIG_CTL say, protected, while fewer than 16 wait. -/
def Obligations.FixedTriggersAlwaysWrite : Prop :=
  ∀ (m : Mod) (k : Clock) (trig : Nat) (p : List Byte), 1 ≤ trig → trig ≤ 4 → m.rcd.queue.length < 16 →
    ∃ q, (m.recTrig k trig p).rcd.queue = m.rcd.queue ++ [q] ∧ q.trig = trig ∧ q.prot = true ∧ q.seq = m.nv.seqNext ∧ q.payload = p

/-- R569, R570, R576 to R580, R585, R587, R591, R595: the head of the queue is written to its region as a record of 52 + 8 N bytes whose CRC is that of the
bytes before it; the cursor finds records; snapshot lists, RECORD, dumps and DUMP_NOW act where they are allowed. -/
def Obligations.RecordsAndDumps : Prop :=
  (∀ (s : State) (dt : Nat) (q : RecQ) (rest : List RecQ), s.m.barUp = true → s.m.rcd.queue = q :: rest → s.m.rcd.backlog = [] →
      q.prot = true → rcdUsed s.m.nv.prot + 52 + 8 * (s.m.snapOffsets q).length ≤ 130048 →
      Answers (.recWrite dt) s fun t =>
        t.m.rcd.queue = rest ∧ t.m.nv.ring = s.m.nv.ring ∧ t.m.bit R.REC_EVT 5 = true
          ∧ ∃ r, t.m.nv.prot = s.m.nv.prot ++ [r] ∧ r.seq = q.seq ∧ r.trig = q.trig ∧ r.bytes.length = 52 + 8 * (s.m.snapOffsets q).length
            ∧ leAt r.bytes (r.bytes.length - 4) 4 = crc32c (r.bytes.take (r.bytes.length - 4)) % 4294967296
            ∧ leAt r.bytes 4 4 = q.seq % 4294967296)
    ∧ (∀ (s : State) (dt sq : Nat) (r : Rcd) (prot : Bool), s.m.opens R.REC_CUR_SEL = true → s.m.recBySeq (sq % 4294967296) = some (r, prot) →
      Answers (.recCurSel dt sq) s fun t =>
        t.m.rcd.cursor = some (r.seq, prot) ∧ t.m.on F.REC_CUR_STAT_VALID = true ∧ t.m.on F.REC_CUR_STAT_PROT = prot
          ∧ t.m.rd (R.REC_WIN 0) = leAt r.bytes 0 4 ∧ t.m.nv = s.m.nv)
    ∧ (∀ (s : State) (dt : Nat), s.m.opens R.REC_CUR_CMD = true →
      Does (.recNext dt) s dt (s.found.curLoad s.m.recNext)
        ∧ Does (.recOldestRing dt) s dt (s.found.curLoad (s.m.recOldest false))
        ∧ Does (.recOldestProt dt) s dt (s.found.curLoad (s.m.recOldest true)))
    ∧ (∀ (s : State) (dt list : Nat) (ws : List Nat), s.m.opens R.REC_MBX_DATA = true → list ≤ 15 → ws.length = 65 → ws.headD 0 % 128 ≤ 64 →
      ((((ws.drop 1).map fun w => w % 16777216).take (ws.headD 0 % 128)).any snapBad) = false →
      Answers (.snapListWrite dt list ws) s fun t =>
        AMap.find t.m.rcd.lists list = some (((ws.drop 1).map fun w => w % 16777216).take (ws.headD 0 % 128)) ∧ t.m.live = s.m.live)
    ∧ (∀ (s : State) (dt : Nat) (h : Hdr) (p : List Byte), s.m.live? 4 = true → s.m.trigOn 15 = true →
      Does (.record dt h p) s dt ((s.found.recTrig (s.now dt) 15 p).reply (s.now dt) 4 1 0 h []))
    ∧ (∀ (s : State) (dt : Nat) (d : Dump) (rest : List (Dump × Bool)), s.m.perf.due = (d, true) :: rest →
      Answers (.perfDump dt) s fun t =>
        t.m.perf.due = rest ∧ t.m.rd R.PERF_DUMP_SEQ = (s.m.rd R.PERF_DUMP_SEQ + 1) % 4294967296 ∧ t.m.bit R.PERF_EVT 1 = true
          ∧ t.m.rd R.PERF_DUMP_SKIP_CNT = s.m.rd R.PERF_DUMP_SKIP_CNT)
    ∧ ∀ (s : State) (dt : Nat) (h : Hdr), s.m.live? 3 = true → s.m.ringState 5 = 1 →
      Answers (.dumpNow dt h 0) s fun t =>
        t.m.perf.asked = s.m.perf.asked ++ [{ reason := 1, tag := h.tag, noResult := h.noResult, acceptTick := (s.now dt).tick }]
          ∧ t.m.live = s.m.live

/-! ## The tick (R14, R627) -/

/-- R14, R563, R565, R627: before step 9 of R563 no boundary is worked; from there to the first tick it begins the next tick and works configuration alone;
once ticks run, what the ending tick owes comes first, then publication, configuration and the latches. -/
def Obligations.TickBoundaries : Prop :=
  (∀ (s : State) (dt : Nat) (g : GnssIn) (pk : PackIn) (ti : TimeIn) (sh : ShepIn), s.m.barUp = false →
      Does (.tickBoundary dt g pk ti sh) s dt s.found)
    ∧ (∀ (s : State) (dt : Nat) (g : GnssIn) (pk : PackIn) (ti : TimeIn) (sh : ShepIn), s.m.barUp = true → s.m.running = false →
      s.m.glb.apply = none → s.m.time.step = none → max (s.now dt).raw (s.now dt).nextBoundary < s.m.pwr.resetAt + msRaw 3500 →
      Answers (.tickBoundary dt g pk ti sh) s fun t =>
        t.clk.tickNo = ((s.now dt).tickEnd / uPerTick).toNat ∧ t.clk.raw = max (s.now dt).raw (s.now dt).nextBoundary
          ∧ t.m.pwr.step = s.m.pwr.step ∧ t.m.perf.pseq = s.m.perf.pseq)
    ∧ ∀ (s : State) (dt : Nat) (g : GnssIn) (pk : PackIn) (ti : TimeIn) (sh : ShepIn), s.m.running = true →
      let x := s.found.tickEnding (s.now dt)
      let k := x.k.beginTick
      let p := (x.m.retriesEnd x.k).publishSky x.k k pk ti
      exec (.tickBoundary dt g pk ti sh) s = .next (s.left ((p.2.publishRest x.k p.1 x.us).tickBegin p.1 g pk sh))
end

