-- ==== Sys2Proof/Laws/Bits.lean ====
section
/-! SUPPORT. Fields of a number: what a range of bits reads as after it, or another one, is replaced. -/

namespace Sys2Proof.Machine

theorem bitsOf_lt (n hi lo : Nat) : bitsOf n hi lo < 2 ^ (hi + 1 - lo) := Nat.mod_lt _ (Nat.two_pow_pos _)

theorem testBit_bitsOf (n hi lo i : Nat) : (bitsOf n hi lo).testBit i = (decide (i < hi + 1 - lo) && n.testBit (lo + i)) := by
  simp [bitsOf, Nat.testBit_mod_two_pow, Nat.testBit_div_two_pow, Nat.add_comm]

/-- The bits of a number with bits [hi:lo] replaced (R9). -/
theorem testBit_putBits (n hi lo v i : Nat) (h : lo ≤ hi) :
    (putBits n hi lo v).testBit i = if lo ≤ i ∧ i ≤ hi then v.testBit (i - lo) else n.testBit i := by
  have hw : hi + 1 - lo + lo = hi + 1 := by omega
  have hn : n = 2 ^ (hi + 1) * (n / 2 ^ (hi + 1)) + (2 ^ lo * bitsOf n hi lo + n % 2 ^ lo) := by
    have h1 := (Nat.div_add_mod n (2 ^ lo)).symm
    have h2 := (Nat.div_add_mod (n / 2 ^ lo) (2 ^ (hi + 1 - lo))).symm
    rw [Nat.div_div_eq_div_mul, ← Nat.pow_add, Nat.add_comm lo, hw] at h2
    rw [bitsOf]
    rw [show 2 ^ (hi + 1) * (n / 2 ^ (hi + 1)) = 2 ^ lo * (2 ^ (hi + 1 - lo) * (n / 2 ^ (hi + 1))) by
      rw [← Nat.mul_assoc, ← Nat.pow_add, Nat.add_comm lo, hw]]
    generalize 2 ^ (hi + 1 - lo) = w at *
    generalize n / 2 ^ (hi + 1) = q at *
    generalize n / 2 ^ lo % w = r at *
    rw [h2] at h1
    rw [← Nat.add_assoc, ← Nat.mul_add]; exact h1
  have hlt : ∀ x < 2 ^ (hi + 1 - lo), 2 ^ lo * x + n % 2 ^ lo < 2 ^ (hi + 1) := by
    intro x hx
    have hp : 2 ^ (hi + 1) = 2 ^ lo * 2 ^ (hi + 1 - lo) := by rw [← Nat.pow_add, Nat.add_comm lo, hw]
    have h1 := Nat.mod_lt n (Nat.two_pow_pos lo)
    have h2 := Nat.mul_le_mul_left (2 ^ lo) (Nat.succ_le_of_lt hx)
    rw [Nat.mul_succ] at h2
    rw [hp]; omega
  have hb := bitsOf_lt n hi lo
  have hv : v % 2 ^ (hi + 1 - lo) < 2 ^ (hi + 1 - lo) := Nat.mod_lt _ (Nat.two_pow_pos _)
  have hput : putBits n hi lo v = 2 ^ (hi + 1) * (n / 2 ^ (hi + 1)) + (2 ^ lo * (v % 2 ^ (hi + 1 - lo)) + n % 2 ^ lo) := by
    simp only [putBits]
    rw [Nat.mul_comm (bitsOf n hi lo), Nat.mul_comm (v % _)]
    generalize bitsOf n hi lo = b at *
    generalize 2 ^ lo * b = x at *
    omega
  rw [hput, Nat.testBit_two_pow_mul_add _ (hlt _ hv)]
  conv_rhs => rw [hn, Nat.testBit_two_pow_mul_add _ (hlt _ hb)]
  have hm := Nat.mod_lt n (Nat.two_pow_pos lo)
  split
  · rw [Nat.testBit_two_pow_mul_add _ hm, Nat.testBit_two_pow_mul_add _ hm]
    split
    · rw [if_neg (by omega)]
    · rw [if_pos (by omega), Nat.testBit_mod_two_pow]
      simp; omega
  · rw [if_neg (by omega)]

/-- A replaced field reads as the new value. -/
theorem bitsOf_putBits (n hi lo v : Nat) (h : lo ≤ hi) : bitsOf (putBits n hi lo v) hi lo = v % 2 ^ (hi + 1 - lo) := by
  apply Nat.eq_of_testBit_eq
  intro i
  rw [testBit_bitsOf, testBit_putBits _ _ _ _ _ h, Nat.testBit_mod_two_pow]
  by_cases hi' : i < hi + 1 - lo
  · rw [if_pos (by omega), Nat.add_sub_cancel_left]
  · simp [hi']

/-- A replaced field leaves one that shares no bit with it. -/
theorem bitsOf_putBits_disj (n hi lo v hi' lo' : Nat) (h : lo ≤ hi) (d : hi < lo' ∨ hi' < lo) :
    bitsOf (putBits n hi lo v) hi' lo' = bitsOf n hi' lo' := by
  apply Nat.eq_of_testBit_eq
  intro i
  rw [testBit_bitsOf, testBit_bitsOf, testBit_putBits _ _ _ _ _ h]
  by_cases hi2 : i < hi' + 1 - lo'
  · rw [if_neg (by omega)]
  · simp [hi2]

/-- A field within 32 bits reads the same of the number cut to 32 bits. -/
theorem bitsOf_mod (n hi lo : Nat) (h : hi ≤ 31) : bitsOf (n % 4294967296) hi lo = bitsOf n hi lo := by
  apply Nat.eq_of_testBit_eq
  intro i
  rw [testBit_bitsOf, testBit_bitsOf, show 4294967296 = 2 ^ 32 from rfl, Nat.testBit_mod_two_pow]
  by_cases hi2 : i < hi + 1 - lo
  · have : lo + i < 32 := by omega
    simp [this]
  · simp [hi2]

theorem putBits_lt (n hi lo v : Nat) (hn : n < 4294967296) (h : lo ≤ hi) (h31 : hi ≤ 31) : putBits n hi lo v < 4294967296 := by
  rw [show 4294967296 = 2 ^ 32 from rfl]
  refine Nat.lt_pow_two_of_testBit _ fun i hi2 => ?_
  rw [testBit_putBits _ _ _ _ _ h, if_neg (by omega)]
  exact Nat.testBit_lt_two_pow (Nat.lt_of_lt_of_le hn (by rw [show 4294967296 = 2 ^ 32 from rfl]; exact Nat.pow_le_pow_right (by omega) hi2))

end Sys2Proof.Machine
end

