-- ==== Sys2Proof/Laws/Map.lean ====
section
/-! SUPPORT. Sparse tables: what a key reads as after an entry is listed, taken away or given a value; their canonical form. -/

namespace Sys2Proof.Machine

variable {α : Type}

theorem AMap.find_ins (k : Nat) (v : α) (m : AMap α) (q : Nat) :
    AMap.find (AMap.ins k v m) q = if q = k then some v else AMap.find m q := by
  induction m with
  | nil => simp [AMap.ins, AMap.find]
  | cons p t ih =>
    obtain ⟨k', v'⟩ := p
    simp only [AMap.ins]
    split
    · simp [AMap.find]
    · split
      · subst_vars; simp only [AMap.find]; split <;> rfl
      · simp only [AMap.find, ih]
        by_cases h : q = k' <;> by_cases h' : q = k <;> simp_all

theorem AMap.find_del (k : Nat) (m : AMap α) (q : Nat) :
    AMap.find (AMap.del k m) q = if q = k then none else AMap.find m q := by
  induction m with
  | nil => simp [AMap.del, AMap.find]
  | cons p t ih =>
    obtain ⟨k', v'⟩ := p
    simp only [AMap.del]
    split
    · subst_vars; simp only [AMap.find, ih]; split <;> rfl
    · simp only [AMap.find, ih]
      by_cases h : q = k' <;> by_cases h' : q = k <;> simp_all

theorem AMap.find_put [DecidableEq α] (d : Nat → α) (k : Nat) (v : α) (m : AMap α) (q : Nat) :
    AMap.find (AMap.put d k v m) q = if q = k then (if v = d k then none else some v) else AMap.find m q := by
  unfold AMap.put
  split <;> simp [AMap.find_del, AMap.find_ins]

/-- What a key reads as after another one, or itself, is given a value. -/
@[simp] theorem AMap.get_put [DecidableEq α] (d : Nat → α) (k : Nat) (v : α) (m : AMap α) (q : Nat) :
    AMap.get d (AMap.put d k v m) q = if q = k then v else AMap.get d m q := by
  simp only [AMap.get, AMap.find_put]
  split
  · subst_vars; split <;> simp_all
  · rfl

/-! ## The canonical form -/

theorem AMap.keys_del (k : Nat) (m : AMap α) : ∀ p ∈ AMap.del k m, p ∈ m ∧ p.1 ≠ k := by
  induction m with
  | nil => simp [AMap.del]
  | cons p t ih =>
    obtain ⟨k', v'⟩ := p
    simp only [AMap.del]
    split
    · intro p hp; exact ⟨List.mem_cons_of_mem _ (ih p hp).1, (ih p hp).2⟩
    · intro p hp
      rcases List.mem_cons.mp hp with rfl | hp
      · exact ⟨List.mem_cons_self .., by simp; omega⟩
      · exact ⟨List.mem_cons_of_mem _ (ih p hp).1, (ih p hp).2⟩

theorem AMap.mem_ins (k : Nat) (v : α) (m : AMap α) : ∀ p ∈ AMap.ins k v m, p = (k, v) ∨ p ∈ m := by
  induction m with
  | nil => simp [AMap.ins]
  | cons p t ih =>
    obtain ⟨k', v'⟩ := p
    simp only [AMap.ins]
    split
    · simp
    · split
      · intro p hp; rcases List.mem_cons.mp hp with h | h <;> simp [h]
      · intro p hp
        rcases List.mem_cons.mp hp with h | h
        · simp [h]
        · rcases ih p h with h | h <;> simp [h]

theorem AMap.sorted_del (k : Nat) (m : AMap α) (h : m.Pairwise fun a b => a.1 < b.1) :
    (AMap.del k m).Pairwise fun a b => a.1 < b.1 := by
  induction m with
  | nil => simp [AMap.del]
  | cons p t ih =>
    obtain ⟨k', v'⟩ := p
    rw [List.pairwise_cons] at h
    simp only [AMap.del]
    split
    · exact ih h.2
    · exact List.pairwise_cons.mpr ⟨fun q hq => h.1 q (AMap.keys_del k t q hq).1, ih h.2⟩

theorem AMap.sorted_ins (k : Nat) (v : α) (m : AMap α) (h : m.Pairwise fun a b => a.1 < b.1) :
    (AMap.ins k v m).Pairwise fun a b => a.1 < b.1 := by
  induction m with
  | nil => simp [AMap.ins]
  | cons p t ih =>
    obtain ⟨k', v'⟩ := p
    have h0 := h
    rw [List.pairwise_cons] at h
    simp only [AMap.ins]
    split
    · refine List.pairwise_cons.mpr ⟨fun q hq => ?_, h0⟩
      rcases List.mem_cons.mp hq with rfl | hq
      · assumption
      · have := h.1 q hq; simp at this ⊢; omega
    · split
      · subst_vars; exact List.pairwise_cons.mpr ⟨h.1, h.2⟩
      · refine List.pairwise_cons.mpr ⟨fun q hq => ?_, ih h.2⟩
        rcases AMap.mem_ins k v t q hq with rfl | hq
        · simp; omega
        · exact h.1 q hq

/-- Giving a key a value keeps the canonical form. -/
theorem AMap.put_wf [DecidableEq α] (d : Nat → α) (k : Nat) (v : α) (m : AMap α) (h : AMap.wf d m) : AMap.wf d (AMap.put d k v m) := by
  unfold AMap.put
  split
  · exact ⟨AMap.sorted_del k m h.1, fun p hp => h.2 p (AMap.keys_del k m p hp).1⟩
  · refine ⟨AMap.sorted_ins k v m h.1, fun p hp => ?_⟩
    rcases AMap.mem_ins k v m p hp with rfl | hp
    · assumption
    · exact h.2 p hp

theorem AMap.nil_wf [DecidableEq α] (d : Nat → α) : AMap.wf d ([] : AMap α) := ⟨List.Pairwise.nil, by simp⟩

end Sys2Proof.Machine
end

