-- ==== Sys2Proof/Laws/State.lean ====
section
/-! SUPPORT. What each primitive update of the module leaves as it was: one lemma per field per update. -/

namespace Sys2Proof.Machine

variable (m : Mod)

@[simp] theorem Mod.wr_shadow (a v : Nat) : (m.wr a v).shadow = m.shadow := (rfl)
@[simp] theorem Mod.wr_out (a v : Nat) : (m.wr a v).out = m.out := (rfl)
@[simp] theorem Mod.wr_seed (a v : Nat) : (m.wr a v).seed = m.seed := (rfl)
@[simp] theorem Mod.wr_glb (a v : Nat) : (m.wr a v).glb = m.glb := (rfl)
@[simp] theorem Mod.wr_ring (a v : Nat) : (m.wr a v).ring = m.ring := (rfl)
@[simp] theorem Mod.wr_gnss (a v : Nat) : (m.wr a v).gnss = m.gnss := (rfl)
@[simp] theorem Mod.wr_time (a v : Nat) : (m.wr a v).time = m.time := (rfl)
@[simp] theorem Mod.wr_pack (a v : Nat) : (m.wr a v).pack = m.pack := (rfl)
@[simp] theorem Mod.wr_shep (a v : Nat) : (m.wr a v).shep = m.shep := (rfl)
@[simp] theorem Mod.wr_mot (a v : Nat) : (m.wr a v).mot = m.mot := (rfl)
@[simp] theorem Mod.wr_sw (a v : Nat) : (m.wr a v).sw = m.sw := (rfl)
@[simp] theorem Mod.wr_air (a v : Nat) : (m.wr a v).air = m.air := (rfl)
@[simp] theorem Mod.wr_leash (a v : Nat) : (m.wr a v).leash = m.leash := (rfl)
@[simp] theorem Mod.wr_pwr (a v : Nat) : (m.wr a v).pwr = m.pwr := (rfl)
@[simp] theorem Mod.wr_rcd (a v : Nat) : (m.wr a v).rcd = m.rcd := (rfl)
@[simp] theorem Mod.wr_perf (a v : Nat) : (m.wr a v).perf = m.perf := (rfl)
@[simp] theorem Mod.wr_elem (a v : Nat) : (m.wr a v).elem = m.elem := (rfl)
@[simp] theorem Mod.wr_back (a v : Nat) : (m.wr a v).back = m.back := (rfl)
@[simp] theorem Mod.wr_ken (a v : Nat) : (m.wr a v).ken = m.ken := (rfl)
@[simp] theorem Mod.wr_brace (a v : Nat) : (m.wr a v).brace = m.brace := (rfl)
@[simp] theorem Mod.wr_upd (a v : Nat) : (m.wr a v).upd = m.upd := (rfl)
@[simp] theorem Mod.wr_nv (a v : Nat) : (m.wr a v).nv = m.nv := (rfl)

@[simp] theorem Mod.wrSh_live (a v : Nat) : (m.wrSh a v).live = m.live := (rfl)
@[simp] theorem Mod.wrSh_out (a v : Nat) : (m.wrSh a v).out = m.out := (rfl)
@[simp] theorem Mod.wrSh_seed (a v : Nat) : (m.wrSh a v).seed = m.seed := (rfl)
@[simp] theorem Mod.wrSh_glb (a v : Nat) : (m.wrSh a v).glb = m.glb := (rfl)
@[simp] theorem Mod.wrSh_ring (a v : Nat) : (m.wrSh a v).ring = m.ring := (rfl)
@[simp] theorem Mod.wrSh_gnss (a v : Nat) : (m.wrSh a v).gnss = m.gnss := (rfl)
@[simp] theorem Mod.wrSh_time (a v : Nat) : (m.wrSh a v).time = m.time := (rfl)
@[simp] theorem Mod.wrSh_pack (a v : Nat) : (m.wrSh a v).pack = m.pack := (rfl)
@[simp] theorem Mod.wrSh_shep (a v : Nat) : (m.wrSh a v).shep = m.shep := (rfl)
@[simp] theorem Mod.wrSh_mot (a v : Nat) : (m.wrSh a v).mot = m.mot := (rfl)
@[simp] theorem Mod.wrSh_sw (a v : Nat) : (m.wrSh a v).sw = m.sw := (rfl)
@[simp] theorem Mod.wrSh_air (a v : Nat) : (m.wrSh a v).air = m.air := (rfl)
@[simp] theorem Mod.wrSh_leash (a v : Nat) : (m.wrSh a v).leash = m.leash := (rfl)
@[simp] theorem Mod.wrSh_pwr (a v : Nat) : (m.wrSh a v).pwr = m.pwr := (rfl)
@[simp] theorem Mod.wrSh_rcd (a v : Nat) : (m.wrSh a v).rcd = m.rcd := (rfl)
@[simp] theorem Mod.wrSh_perf (a v : Nat) : (m.wrSh a v).perf = m.perf := (rfl)
@[simp] theorem Mod.wrSh_elem (a v : Nat) : (m.wrSh a v).elem = m.elem := (rfl)
@[simp] theorem Mod.wrSh_back (a v : Nat) : (m.wrSh a v).back = m.back := (rfl)
@[simp] theorem Mod.wrSh_ken (a v : Nat) : (m.wrSh a v).ken = m.ken := (rfl)
@[simp] theorem Mod.wrSh_brace (a v : Nat) : (m.wrSh a v).brace = m.brace := (rfl)
@[simp] theorem Mod.wrSh_upd (a v : Nat) : (m.wrSh a v).upd = m.upd := (rfl)
@[simp] theorem Mod.wrSh_nv (a v : Nat) : (m.wrSh a v).nv = m.nv := (rfl)

@[simp] theorem Mod.setF_shadow (f : Fld) (v : Nat) : (m.setF f v).shadow = m.shadow := (rfl)
@[simp] theorem Mod.setF_out (f : Fld) (v : Nat) : (m.setF f v).out = m.out := (rfl)
@[simp] theorem Mod.setF_seed (f : Fld) (v : Nat) : (m.setF f v).seed = m.seed := (rfl)
@[simp] theorem Mod.setF_glb (f : Fld) (v : Nat) : (m.setF f v).glb = m.glb := (rfl)
@[simp] theorem Mod.setF_ring (f : Fld) (v : Nat) : (m.setF f v).ring = m.ring := (rfl)
@[simp] theorem Mod.setF_gnss (f : Fld) (v : Nat) : (m.setF f v).gnss = m.gnss := (rfl)
@[simp] theorem Mod.setF_time (f : Fld) (v : Nat) : (m.setF f v).time = m.time := (rfl)
@[simp] theorem Mod.setF_pack (f : Fld) (v : Nat) : (m.setF f v).pack = m.pack := (rfl)
@[simp] theorem Mod.setF_shep (f : Fld) (v : Nat) : (m.setF f v).shep = m.shep := (rfl)
@[simp] theorem Mod.setF_mot (f : Fld) (v : Nat) : (m.setF f v).mot = m.mot := (rfl)
@[simp] theorem Mod.setF_sw (f : Fld) (v : Nat) : (m.setF f v).sw = m.sw := (rfl)
@[simp] theorem Mod.setF_air (f : Fld) (v : Nat) : (m.setF f v).air = m.air := (rfl)
@[simp] theorem Mod.setF_leash (f : Fld) (v : Nat) : (m.setF f v).leash = m.leash := (rfl)
@[simp] theorem Mod.setF_pwr (f : Fld) (v : Nat) : (m.setF f v).pwr = m.pwr := (rfl)
@[simp] theorem Mod.setF_rcd (f : Fld) (v : Nat) : (m.setF f v).rcd = m.rcd := (rfl)
@[simp] theorem Mod.setF_perf (f : Fld) (v : Nat) : (m.setF f v).perf = m.perf := (rfl)
@[simp] theorem Mod.setF_elem (f : Fld) (v : Nat) : (m.setF f v).elem = m.elem := (rfl)
@[simp] theorem Mod.setF_back (f : Fld) (v : Nat) : (m.setF f v).back = m.back := (rfl)
@[simp] theorem Mod.setF_ken (f : Fld) (v : Nat) : (m.setF f v).ken = m.ken := (rfl)
@[simp] theorem Mod.setF_brace (f : Fld) (v : Nat) : (m.setF f v).brace = m.brace := (rfl)
@[simp] theorem Mod.setF_upd (f : Fld) (v : Nat) : (m.setF f v).upd = m.upd := (rfl)
@[simp] theorem Mod.setF_nv (f : Fld) (v : Nat) : (m.setF f v).nv = m.nv := (rfl)

@[simp] theorem Mod.setB_shadow (f : Fld) (b : Bool) : (m.setB f b).shadow = m.shadow := (rfl)
@[simp] theorem Mod.setB_out (f : Fld) (b : Bool) : (m.setB f b).out = m.out := (rfl)
@[simp] theorem Mod.setB_seed (f : Fld) (b : Bool) : (m.setB f b).seed = m.seed := (rfl)
@[simp] theorem Mod.setB_glb (f : Fld) (b : Bool) : (m.setB f b).glb = m.glb := (rfl)
@[simp] theorem Mod.setB_ring (f : Fld) (b : Bool) : (m.setB f b).ring = m.ring := (rfl)
@[simp] theorem Mod.setB_gnss (f : Fld) (b : Bool) : (m.setB f b).gnss = m.gnss := (rfl)
@[simp] theorem Mod.setB_time (f : Fld) (b : Bool) : (m.setB f b).time = m.time := (rfl)
@[simp] theorem Mod.setB_pack (f : Fld) (b : Bool) : (m.setB f b).pack = m.pack := (rfl)
@[simp] theorem Mod.setB_shep (f : Fld) (b : Bool) : (m.setB f b).shep = m.shep := (rfl)
@[simp] theorem Mod.setB_mot (f : Fld) (b : Bool) : (m.setB f b).mot = m.mot := (rfl)
@[simp] theorem Mod.setB_sw (f : Fld) (b : Bool) : (m.setB f b).sw = m.sw := (rfl)
@[simp] theorem Mod.setB_air (f : Fld) (b : Bool) : (m.setB f b).air = m.air := (rfl)
@[simp] theorem Mod.setB_leash (f : Fld) (b : Bool) : (m.setB f b).leash = m.leash := (rfl)
@[simp] theorem Mod.setB_pwr (f : Fld) (b : Bool) : (m.setB f b).pwr = m.pwr := (rfl)
@[simp] theorem Mod.setB_rcd (f : Fld) (b : Bool) : (m.setB f b).rcd = m.rcd := (rfl)
@[simp] theorem Mod.setB_perf (f : Fld) (b : Bool) : (m.setB f b).perf = m.perf := (rfl)
@[simp] theorem Mod.setB_elem (f : Fld) (b : Bool) : (m.setB f b).elem = m.elem := (rfl)
@[simp] theorem Mod.setB_back (f : Fld) (b : Bool) : (m.setB f b).back = m.back := (rfl)
@[simp] theorem Mod.setB_ken (f : Fld) (b : Bool) : (m.setB f b).ken = m.ken := (rfl)
@[simp] theorem Mod.setB_brace (f : Fld) (b : Bool) : (m.setB f b).brace = m.brace := (rfl)
@[simp] theorem Mod.setB_upd (f : Fld) (b : Bool) : (m.setB f b).upd = m.upd := (rfl)
@[simp] theorem Mod.setB_nv (f : Fld) (b : Bool) : (m.setB f b).nv = m.nv := (rfl)

@[simp] theorem Mod.setBit_shadow (a i : Nat) : (m.setBit a i).shadow = m.shadow := (rfl)
@[simp] theorem Mod.setBit_out (a i : Nat) : (m.setBit a i).out = m.out := (rfl)
@[simp] theorem Mod.setBit_seed (a i : Nat) : (m.setBit a i).seed = m.seed := (rfl)
@[simp] theorem Mod.setBit_glb (a i : Nat) : (m.setBit a i).glb = m.glb := (rfl)
@[simp] theorem Mod.setBit_ring (a i : Nat) : (m.setBit a i).ring = m.ring := (rfl)
@[simp] theorem Mod.setBit_gnss (a i : Nat) : (m.setBit a i).gnss = m.gnss := (rfl)
@[simp] theorem Mod.setBit_time (a i : Nat) : (m.setBit a i).time = m.time := (rfl)
@[simp] theorem Mod.setBit_pack (a i : Nat) : (m.setBit a i).pack = m.pack := (rfl)
@[simp] theorem Mod.setBit_shep (a i : Nat) : (m.setBit a i).shep = m.shep := (rfl)
@[simp] theorem Mod.setBit_mot (a i : Nat) : (m.setBit a i).mot = m.mot := (rfl)
@[simp] theorem Mod.setBit_sw (a i : Nat) : (m.setBit a i).sw = m.sw := (rfl)
@[simp] theorem Mod.setBit_air (a i : Nat) : (m.setBit a i).air = m.air := (rfl)
@[simp] theorem Mod.setBit_leash (a i : Nat) : (m.setBit a i).leash = m.leash := (rfl)
@[simp] theorem Mod.setBit_pwr (a i : Nat) : (m.setBit a i).pwr = m.pwr := (rfl)
@[simp] theorem Mod.setBit_rcd (a i : Nat) : (m.setBit a i).rcd = m.rcd := (rfl)
@[simp] theorem Mod.setBit_perf (a i : Nat) : (m.setBit a i).perf = m.perf := (rfl)
@[simp] theorem Mod.setBit_elem (a i : Nat) : (m.setBit a i).elem = m.elem := (rfl)
@[simp] theorem Mod.setBit_back (a i : Nat) : (m.setBit a i).back = m.back := (rfl)
@[simp] theorem Mod.setBit_ken (a i : Nat) : (m.setBit a i).ken = m.ken := (rfl)
@[simp] theorem Mod.setBit_brace (a i : Nat) : (m.setBit a i).brace = m.brace := (rfl)
@[simp] theorem Mod.setBit_upd (a i : Nat) : (m.setBit a i).upd = m.upd := (rfl)
@[simp] theorem Mod.setBit_nv (a i : Nat) : (m.setBit a i).nv = m.nv := (rfl)

@[simp] theorem Mod.clrBit_shadow (a i : Nat) : (m.clrBit a i).shadow = m.shadow := (rfl)
@[simp] theorem Mod.clrBit_out (a i : Nat) : (m.clrBit a i).out = m.out := (rfl)
@[simp] theorem Mod.clrBit_seed (a i : Nat) : (m.clrBit a i).seed = m.seed := (rfl)
@[simp] theorem Mod.clrBit_glb (a i : Nat) : (m.clrBit a i).glb = m.glb := (rfl)
@[simp] theorem Mod.clrBit_ring (a i : Nat) : (m.clrBit a i).ring = m.ring := (rfl)
@[simp] theorem Mod.clrBit_gnss (a i : Nat) : (m.clrBit a i).gnss = m.gnss := (rfl)
@[simp] theorem Mod.clrBit_time (a i : Nat) : (m.clrBit a i).time = m.time := (rfl)
@[simp] theorem Mod.clrBit_pack (a i : Nat) : (m.clrBit a i).pack = m.pack := (rfl)
@[simp] theorem Mod.clrBit_shep (a i : Nat) : (m.clrBit a i).shep = m.shep := (rfl)
@[simp] theorem Mod.clrBit_mot (a i : Nat) : (m.clrBit a i).mot = m.mot := (rfl)
@[simp] theorem Mod.clrBit_sw (a i : Nat) : (m.clrBit a i).sw = m.sw := (rfl)
@[simp] theorem Mod.clrBit_air (a i : Nat) : (m.clrBit a i).air = m.air := (rfl)
@[simp] theorem Mod.clrBit_leash (a i : Nat) : (m.clrBit a i).leash = m.leash := (rfl)
@[simp] theorem Mod.clrBit_pwr (a i : Nat) : (m.clrBit a i).pwr = m.pwr := (rfl)
@[simp] theorem Mod.clrBit_rcd (a i : Nat) : (m.clrBit a i).rcd = m.rcd := (rfl)
@[simp] theorem Mod.clrBit_perf (a i : Nat) : (m.clrBit a i).perf = m.perf := (rfl)
@[simp] theorem Mod.clrBit_elem (a i : Nat) : (m.clrBit a i).elem = m.elem := (rfl)
@[simp] theorem Mod.clrBit_back (a i : Nat) : (m.clrBit a i).back = m.back := (rfl)
@[simp] theorem Mod.clrBit_ken (a i : Nat) : (m.clrBit a i).ken = m.ken := (rfl)
@[simp] theorem Mod.clrBit_brace (a i : Nat) : (m.clrBit a i).brace = m.brace := (rfl)
@[simp] theorem Mod.clrBit_upd (a i : Nat) : (m.clrBit a i).upd = m.upd := (rfl)
@[simp] theorem Mod.clrBit_nv (a i : Nat) : (m.clrBit a i).nv = m.nv := (rfl)

@[simp] theorem Mod.inc_shadow (a : Nat) : (m.inc a).shadow = m.shadow := (rfl)
@[simp] theorem Mod.inc_out (a : Nat) : (m.inc a).out = m.out := (rfl)
@[simp] theorem Mod.inc_seed (a : Nat) : (m.inc a).seed = m.seed := (rfl)
@[simp] theorem Mod.inc_glb (a : Nat) : (m.inc a).glb = m.glb := (rfl)
@[simp] theorem Mod.inc_ring (a : Nat) : (m.inc a).ring = m.ring := (rfl)
@[simp] theorem Mod.inc_gnss (a : Nat) : (m.inc a).gnss = m.gnss := (rfl)
@[simp] theorem Mod.inc_time (a : Nat) : (m.inc a).time = m.time := (rfl)
@[simp] theorem Mod.inc_pack (a : Nat) : (m.inc a).pack = m.pack := (rfl)
@[simp] theorem Mod.inc_shep (a : Nat) : (m.inc a).shep = m.shep := (rfl)
@[simp] theorem Mod.inc_mot (a : Nat) : (m.inc a).mot = m.mot := (rfl)
@[simp] theorem Mod.inc_sw (a : Nat) : (m.inc a).sw = m.sw := (rfl)
@[simp] theorem Mod.inc_air (a : Nat) : (m.inc a).air = m.air := (rfl)
@[simp] theorem Mod.inc_leash (a : Nat) : (m.inc a).leash = m.leash := (rfl)
@[simp] theorem Mod.inc_pwr (a : Nat) : (m.inc a).pwr = m.pwr := (rfl)
@[simp] theorem Mod.inc_rcd (a : Nat) : (m.inc a).rcd = m.rcd := (rfl)
@[simp] theorem Mod.inc_perf (a : Nat) : (m.inc a).perf = m.perf := (rfl)
@[simp] theorem Mod.inc_elem (a : Nat) : (m.inc a).elem = m.elem := (rfl)
@[simp] theorem Mod.inc_back (a : Nat) : (m.inc a).back = m.back := (rfl)
@[simp] theorem Mod.inc_ken (a : Nat) : (m.inc a).ken = m.ken := (rfl)
@[simp] theorem Mod.inc_brace (a : Nat) : (m.inc a).brace = m.brace := (rfl)
@[simp] theorem Mod.inc_upd (a : Nat) : (m.inc a).upd = m.upd := (rfl)
@[simp] theorem Mod.inc_nv (a : Nat) : (m.inc a).nv = m.nv := (rfl)

@[simp] theorem Mod.incBy_shadow (a n : Nat) : (m.incBy a n).shadow = m.shadow := (rfl)
@[simp] theorem Mod.incBy_out (a n : Nat) : (m.incBy a n).out = m.out := (rfl)
@[simp] theorem Mod.incBy_seed (a n : Nat) : (m.incBy a n).seed = m.seed := (rfl)
@[simp] theorem Mod.incBy_glb (a n : Nat) : (m.incBy a n).glb = m.glb := (rfl)
@[simp] theorem Mod.incBy_ring (a n : Nat) : (m.incBy a n).ring = m.ring := (rfl)
@[simp] theorem Mod.incBy_gnss (a n : Nat) : (m.incBy a n).gnss = m.gnss := (rfl)
@[simp] theorem Mod.incBy_time (a n : Nat) : (m.incBy a n).time = m.time := (rfl)
@[simp] theorem Mod.incBy_pack (a n : Nat) : (m.incBy a n).pack = m.pack := (rfl)
@[simp] theorem Mod.incBy_shep (a n : Nat) : (m.incBy a n).shep = m.shep := (rfl)
@[simp] theorem Mod.incBy_mot (a n : Nat) : (m.incBy a n).mot = m.mot := (rfl)
@[simp] theorem Mod.incBy_sw (a n : Nat) : (m.incBy a n).sw = m.sw := (rfl)
@[simp] theorem Mod.incBy_air (a n : Nat) : (m.incBy a n).air = m.air := (rfl)
@[simp] theorem Mod.incBy_leash (a n : Nat) : (m.incBy a n).leash = m.leash := (rfl)
@[simp] theorem Mod.incBy_pwr (a n : Nat) : (m.incBy a n).pwr = m.pwr := (rfl)
@[simp] theorem Mod.incBy_rcd (a n : Nat) : (m.incBy a n).rcd = m.rcd := (rfl)
@[simp] theorem Mod.incBy_perf (a n : Nat) : (m.incBy a n).perf = m.perf := (rfl)
@[simp] theorem Mod.incBy_elem (a n : Nat) : (m.incBy a n).elem = m.elem := (rfl)
@[simp] theorem Mod.incBy_back (a n : Nat) : (m.incBy a n).back = m.back := (rfl)
@[simp] theorem Mod.incBy_ken (a n : Nat) : (m.incBy a n).ken = m.ken := (rfl)
@[simp] theorem Mod.incBy_brace (a n : Nat) : (m.incBy a n).brace = m.brace := (rfl)
@[simp] theorem Mod.incBy_upd (a n : Nat) : (m.incBy a n).upd = m.upd := (rfl)
@[simp] theorem Mod.incBy_nv (a n : Nat) : (m.incBy a n).nv = m.nv := (rfl)

@[simp] theorem Mod.incF_shadow (f : Fld) : (m.incF f).shadow = m.shadow := (rfl)
@[simp] theorem Mod.incF_out (f : Fld) : (m.incF f).out = m.out := (rfl)
@[simp] theorem Mod.incF_seed (f : Fld) : (m.incF f).seed = m.seed := (rfl)
@[simp] theorem Mod.incF_glb (f : Fld) : (m.incF f).glb = m.glb := (rfl)
@[simp] theorem Mod.incF_ring (f : Fld) : (m.incF f).ring = m.ring := (rfl)
@[simp] theorem Mod.incF_gnss (f : Fld) : (m.incF f).gnss = m.gnss := (rfl)
@[simp] theorem Mod.incF_time (f : Fld) : (m.incF f).time = m.time := (rfl)
@[simp] theorem Mod.incF_pack (f : Fld) : (m.incF f).pack = m.pack := (rfl)
@[simp] theorem Mod.incF_shep (f : Fld) : (m.incF f).shep = m.shep := (rfl)
@[simp] theorem Mod.incF_mot (f : Fld) : (m.incF f).mot = m.mot := (rfl)
@[simp] theorem Mod.incF_sw (f : Fld) : (m.incF f).sw = m.sw := (rfl)
@[simp] theorem Mod.incF_air (f : Fld) : (m.incF f).air = m.air := (rfl)
@[simp] theorem Mod.incF_leash (f : Fld) : (m.incF f).leash = m.leash := (rfl)
@[simp] theorem Mod.incF_pwr (f : Fld) : (m.incF f).pwr = m.pwr := (rfl)
@[simp] theorem Mod.incF_rcd (f : Fld) : (m.incF f).rcd = m.rcd := (rfl)
@[simp] theorem Mod.incF_perf (f : Fld) : (m.incF f).perf = m.perf := (rfl)
@[simp] theorem Mod.incF_elem (f : Fld) : (m.incF f).elem = m.elem := (rfl)
@[simp] theorem Mod.incF_back (f : Fld) : (m.incF f).back = m.back := (rfl)
@[simp] theorem Mod.incF_ken (f : Fld) : (m.incF f).ken = m.ken := (rfl)
@[simp] theorem Mod.incF_brace (f : Fld) : (m.incF f).brace = m.brace := (rfl)
@[simp] theorem Mod.incF_upd (f : Fld) : (m.incF f).upd = m.upd := (rfl)
@[simp] theorem Mod.incF_nv (f : Fld) : (m.incF f).nv = m.nv := (rfl)

@[simp] theorem Mod.wrI_shadow (a : Nat) (v : Int) : (m.wrI a v).shadow = m.shadow := (rfl)
@[simp] theorem Mod.wrI_out (a : Nat) (v : Int) : (m.wrI a v).out = m.out := (rfl)
@[simp] theorem Mod.wrI_seed (a : Nat) (v : Int) : (m.wrI a v).seed = m.seed := (rfl)
@[simp] theorem Mod.wrI_glb (a : Nat) (v : Int) : (m.wrI a v).glb = m.glb := (rfl)
@[simp] theorem Mod.wrI_ring (a : Nat) (v : Int) : (m.wrI a v).ring = m.ring := (rfl)
@[simp] theorem Mod.wrI_gnss (a : Nat) (v : Int) : (m.wrI a v).gnss = m.gnss := (rfl)
@[simp] theorem Mod.wrI_time (a : Nat) (v : Int) : (m.wrI a v).time = m.time := (rfl)
@[simp] theorem Mod.wrI_pack (a : Nat) (v : Int) : (m.wrI a v).pack = m.pack := (rfl)
@[simp] theorem Mod.wrI_shep (a : Nat) (v : Int) : (m.wrI a v).shep = m.shep := (rfl)
@[simp] theorem Mod.wrI_mot (a : Nat) (v : Int) : (m.wrI a v).mot = m.mot := (rfl)
@[simp] theorem Mod.wrI_sw (a : Nat) (v : Int) : (m.wrI a v).sw = m.sw := (rfl)
@[simp] theorem Mod.wrI_air (a : Nat) (v : Int) : (m.wrI a v).air = m.air := (rfl)
@[simp] theorem Mod.wrI_leash (a : Nat) (v : Int) : (m.wrI a v).leash = m.leash := (rfl)
@[simp] theorem Mod.wrI_pwr (a : Nat) (v : Int) : (m.wrI a v).pwr = m.pwr := (rfl)
@[simp] theorem Mod.wrI_rcd (a : Nat) (v : Int) : (m.wrI a v).rcd = m.rcd := (rfl)
@[simp] theorem Mod.wrI_perf (a : Nat) (v : Int) : (m.wrI a v).perf = m.perf := (rfl)
@[simp] theorem Mod.wrI_elem (a : Nat) (v : Int) : (m.wrI a v).elem = m.elem := (rfl)
@[simp] theorem Mod.wrI_back (a : Nat) (v : Int) : (m.wrI a v).back = m.back := (rfl)
@[simp] theorem Mod.wrI_ken (a : Nat) (v : Int) : (m.wrI a v).ken = m.ken := (rfl)
@[simp] theorem Mod.wrI_brace (a : Nat) (v : Int) : (m.wrI a v).brace = m.brace := (rfl)
@[simp] theorem Mod.wrI_upd (a : Nat) (v : Int) : (m.wrI a v).upd = m.upd := (rfl)
@[simp] theorem Mod.wrI_nv (a : Nat) (v : Int) : (m.wrI a v).nv = m.nv := (rfl)

@[simp] theorem Mod.emit_live (o : Out) : (m.emit o).live = m.live := (rfl)
@[simp] theorem Mod.emit_shadow (o : Out) : (m.emit o).shadow = m.shadow := (rfl)
@[simp] theorem Mod.emit_seed (o : Out) : (m.emit o).seed = m.seed := (rfl)
@[simp] theorem Mod.emit_glb (o : Out) : (m.emit o).glb = m.glb := (rfl)
@[simp] theorem Mod.emit_ring (o : Out) : (m.emit o).ring = m.ring := (rfl)
@[simp] theorem Mod.emit_gnss (o : Out) : (m.emit o).gnss = m.gnss := (rfl)
@[simp] theorem Mod.emit_time (o : Out) : (m.emit o).time = m.time := (rfl)
@[simp] theorem Mod.emit_pack (o : Out) : (m.emit o).pack = m.pack := (rfl)
@[simp] theorem Mod.emit_shep (o : Out) : (m.emit o).shep = m.shep := (rfl)
@[simp] theorem Mod.emit_mot (o : Out) : (m.emit o).mot = m.mot := (rfl)
@[simp] theorem Mod.emit_sw (o : Out) : (m.emit o).sw = m.sw := (rfl)
@[simp] theorem Mod.emit_air (o : Out) : (m.emit o).air = m.air := (rfl)
@[simp] theorem Mod.emit_leash (o : Out) : (m.emit o).leash = m.leash := (rfl)
@[simp] theorem Mod.emit_pwr (o : Out) : (m.emit o).pwr = m.pwr := (rfl)
@[simp] theorem Mod.emit_rcd (o : Out) : (m.emit o).rcd = m.rcd := (rfl)
@[simp] theorem Mod.emit_perf (o : Out) : (m.emit o).perf = m.perf := (rfl)
@[simp] theorem Mod.emit_elem (o : Out) : (m.emit o).elem = m.elem := (rfl)
@[simp] theorem Mod.emit_back (o : Out) : (m.emit o).back = m.back := (rfl)
@[simp] theorem Mod.emit_ken (o : Out) : (m.emit o).ken = m.ken := (rfl)
@[simp] theorem Mod.emit_brace (o : Out) : (m.emit o).brace = m.brace := (rfl)
@[simp] theorem Mod.emit_upd (o : Out) : (m.emit o).upd = m.upd := (rfl)
@[simp] theorem Mod.emit_nv (o : Out) : (m.emit o).nv = m.nv := (rfl)

@[simp] theorem Mod.took_live : (m.took).live = m.live := (rfl)
@[simp] theorem Mod.took_shadow : (m.took).shadow = m.shadow := (rfl)
@[simp] theorem Mod.took_out : (m.took).out = m.out := (rfl)
@[simp] theorem Mod.took_glb : (m.took).glb = m.glb := (rfl)
@[simp] theorem Mod.took_ring : (m.took).ring = m.ring := (rfl)
@[simp] theorem Mod.took_gnss : (m.took).gnss = m.gnss := (rfl)
@[simp] theorem Mod.took_time : (m.took).time = m.time := (rfl)
@[simp] theorem Mod.took_pack : (m.took).pack = m.pack := (rfl)
@[simp] theorem Mod.took_shep : (m.took).shep = m.shep := (rfl)
@[simp] theorem Mod.took_mot : (m.took).mot = m.mot := (rfl)
@[simp] theorem Mod.took_sw : (m.took).sw = m.sw := (rfl)
@[simp] theorem Mod.took_air : (m.took).air = m.air := (rfl)
@[simp] theorem Mod.took_leash : (m.took).leash = m.leash := (rfl)
@[simp] theorem Mod.took_pwr : (m.took).pwr = m.pwr := (rfl)
@[simp] theorem Mod.took_rcd : (m.took).rcd = m.rcd := (rfl)
@[simp] theorem Mod.took_perf : (m.took).perf = m.perf := (rfl)
@[simp] theorem Mod.took_elem : (m.took).elem = m.elem := (rfl)
@[simp] theorem Mod.took_back : (m.took).back = m.back := (rfl)
@[simp] theorem Mod.took_ken : (m.took).ken = m.ken := (rfl)
@[simp] theorem Mod.took_brace : (m.took).brace = m.brace := (rfl)
@[simp] theorem Mod.took_upd : (m.took).upd = m.upd := (rfl)
@[simp] theorem Mod.took_nv : (m.took).nv = m.nv := (rfl)

@[simp] theorem Mod.perfAdd_live (i n : Nat) : (m.perfAdd i n).live = m.live := (rfl)
@[simp] theorem Mod.perfAdd_shadow (i n : Nat) : (m.perfAdd i n).shadow = m.shadow := (rfl)
@[simp] theorem Mod.perfAdd_out (i n : Nat) : (m.perfAdd i n).out = m.out := (rfl)
@[simp] theorem Mod.perfAdd_seed (i n : Nat) : (m.perfAdd i n).seed = m.seed := (rfl)
@[simp] theorem Mod.perfAdd_glb (i n : Nat) : (m.perfAdd i n).glb = m.glb := (rfl)
@[simp] theorem Mod.perfAdd_ring (i n : Nat) : (m.perfAdd i n).ring = m.ring := (rfl)
@[simp] theorem Mod.perfAdd_gnss (i n : Nat) : (m.perfAdd i n).gnss = m.gnss := (rfl)
@[simp] theorem Mod.perfAdd_time (i n : Nat) : (m.perfAdd i n).time = m.time := (rfl)
@[simp] theorem Mod.perfAdd_pack (i n : Nat) : (m.perfAdd i n).pack = m.pack := (rfl)
@[simp] theorem Mod.perfAdd_shep (i n : Nat) : (m.perfAdd i n).shep = m.shep := (rfl)
@[simp] theorem Mod.perfAdd_mot (i n : Nat) : (m.perfAdd i n).mot = m.mot := (rfl)
@[simp] theorem Mod.perfAdd_sw (i n : Nat) : (m.perfAdd i n).sw = m.sw := (rfl)
@[simp] theorem Mod.perfAdd_air (i n : Nat) : (m.perfAdd i n).air = m.air := (rfl)
@[simp] theorem Mod.perfAdd_leash (i n : Nat) : (m.perfAdd i n).leash = m.leash := (rfl)
@[simp] theorem Mod.perfAdd_pwr (i n : Nat) : (m.perfAdd i n).pwr = m.pwr := (rfl)
@[simp] theorem Mod.perfAdd_rcd (i n : Nat) : (m.perfAdd i n).rcd = m.rcd := (rfl)
@[simp] theorem Mod.perfAdd_elem (i n : Nat) : (m.perfAdd i n).elem = m.elem := (rfl)
@[simp] theorem Mod.perfAdd_back (i n : Nat) : (m.perfAdd i n).back = m.back := (rfl)
@[simp] theorem Mod.perfAdd_ken (i n : Nat) : (m.perfAdd i n).ken = m.ken := (rfl)
@[simp] theorem Mod.perfAdd_brace (i n : Nat) : (m.perfAdd i n).brace = m.brace := (rfl)
@[simp] theorem Mod.perfAdd_upd (i n : Nat) : (m.perfAdd i n).upd = m.upd := (rfl)
@[simp] theorem Mod.perfAdd_nv (i n : Nat) : (m.perfAdd i n).nv = m.nv := (rfl)

@[simp] theorem Mod.setRng_live (n : Nat) (r : RingSt) : (m.setRng n r).live = m.live := (rfl)
@[simp] theorem Mod.setRng_shadow (n : Nat) (r : RingSt) : (m.setRng n r).shadow = m.shadow := (rfl)
@[simp] theorem Mod.setRng_out (n : Nat) (r : RingSt) : (m.setRng n r).out = m.out := (rfl)
@[simp] theorem Mod.setRng_seed (n : Nat) (r : RingSt) : (m.setRng n r).seed = m.seed := (rfl)
@[simp] theorem Mod.setRng_glb (n : Nat) (r : RingSt) : (m.setRng n r).glb = m.glb := (rfl)
@[simp] theorem Mod.setRng_gnss (n : Nat) (r : RingSt) : (m.setRng n r).gnss = m.gnss := (rfl)
@[simp] theorem Mod.setRng_time (n : Nat) (r : RingSt) : (m.setRng n r).time = m.time := (rfl)
@[simp] theorem Mod.setRng_pack (n : Nat) (r : RingSt) : (m.setRng n r).pack = m.pack := (rfl)
@[simp] theorem Mod.setRng_shep (n : Nat) (r : RingSt) : (m.setRng n r).shep = m.shep := (rfl)
@[simp] theorem Mod.setRng_mot (n : Nat) (r : RingSt) : (m.setRng n r).mot = m.mot := (rfl)
@[simp] theorem Mod.setRng_sw (n : Nat) (r : RingSt) : (m.setRng n r).sw = m.sw := (rfl)
@[simp] theorem Mod.setRng_air (n : Nat) (r : RingSt) : (m.setRng n r).air = m.air := (rfl)
@[simp] theorem Mod.setRng_leash (n : Nat) (r : RingSt) : (m.setRng n r).leash = m.leash := (rfl)
@[simp] theorem Mod.setRng_pwr (n : Nat) (r : RingSt) : (m.setRng n r).pwr = m.pwr := (rfl)
@[simp] theorem Mod.setRng_rcd (n : Nat) (r : RingSt) : (m.setRng n r).rcd = m.rcd := (rfl)
@[simp] theorem Mod.setRng_perf (n : Nat) (r : RingSt) : (m.setRng n r).perf = m.perf := (rfl)
@[simp] theorem Mod.setRng_elem (n : Nat) (r : RingSt) : (m.setRng n r).elem = m.elem := (rfl)
@[simp] theorem Mod.setRng_back (n : Nat) (r : RingSt) : (m.setRng n r).back = m.back := (rfl)
@[simp] theorem Mod.setRng_ken (n : Nat) (r : RingSt) : (m.setRng n r).ken = m.ken := (rfl)
@[simp] theorem Mod.setRng_brace (n : Nat) (r : RingSt) : (m.setRng n r).brace = m.brace := (rfl)
@[simp] theorem Mod.setRng_upd (n : Nat) (r : RingSt) : (m.setRng n r).upd = m.upd := (rfl)
@[simp] theorem Mod.setRng_nv (n : Nat) (r : RingSt) : (m.setRng n r).nv = m.nv := (rfl)

@[simp] theorem Mod.putBit_shadow (a i : Nat) (b : Bool) : (m.putBit a i b).shadow = m.shadow := by simp only [Mod.putBit, apply_ite Mod.shadow, Mod.setBit_shadow, Mod.clrBit_shadow, ite_self]
@[simp] theorem Mod.putBit_out (a i : Nat) (b : Bool) : (m.putBit a i b).out = m.out := by simp only [Mod.putBit, apply_ite Mod.out, Mod.setBit_out, Mod.clrBit_out, ite_self]
@[simp] theorem Mod.putBit_seed (a i : Nat) (b : Bool) : (m.putBit a i b).seed = m.seed := by simp only [Mod.putBit, apply_ite Mod.seed, Mod.setBit_seed, Mod.clrBit_seed, ite_self]
@[simp] theorem Mod.putBit_glb (a i : Nat) (b : Bool) : (m.putBit a i b).glb = m.glb := by simp only [Mod.putBit, apply_ite Mod.glb, Mod.setBit_glb, Mod.clrBit_glb, ite_self]
@[simp] theorem Mod.putBit_ring (a i : Nat) (b : Bool) : (m.putBit a i b).ring = m.ring := by simp only [Mod.putBit, apply_ite Mod.ring, Mod.setBit_ring, Mod.clrBit_ring, ite_self]
@[simp] theorem Mod.putBit_gnss (a i : Nat) (b : Bool) : (m.putBit a i b).gnss = m.gnss := by simp only [Mod.putBit, apply_ite Mod.gnss, Mod.setBit_gnss, Mod.clrBit_gnss, ite_self]
@[simp] theorem Mod.putBit_time (a i : Nat) (b : Bool) : (m.putBit a i b).time = m.time := by simp only [Mod.putBit, apply_ite Mod.time, Mod.setBit_time, Mod.clrBit_time, ite_self]
@[simp] theorem Mod.putBit_pack (a i : Nat) (b : Bool) : (m.putBit a i b).pack = m.pack := by simp only [Mod.putBit, apply_ite Mod.pack, Mod.setBit_pack, Mod.clrBit_pack, ite_self]
@[simp] theorem Mod.putBit_shep (a i : Nat) (b : Bool) : (m.putBit a i b).shep = m.shep := by simp only [Mod.putBit, apply_ite Mod.shep, Mod.setBit_shep, Mod.clrBit_shep, ite_self]
@[simp] theorem Mod.putBit_mot (a i : Nat) (b : Bool) : (m.putBit a i b).mot = m.mot := by simp only [Mod.putBit, apply_ite Mod.mot, Mod.setBit_mot, Mod.clrBit_mot, ite_self]
@[simp] theorem Mod.putBit_sw (a i : Nat) (b : Bool) : (m.putBit a i b).sw = m.sw := by simp only [Mod.putBit, apply_ite Mod.sw, Mod.setBit_sw, Mod.clrBit_sw, ite_self]
@[simp] theorem Mod.putBit_air (a i : Nat) (b : Bool) : (m.putBit a i b).air = m.air := by simp only [Mod.putBit, apply_ite Mod.air, Mod.setBit_air, Mod.clrBit_air, ite_self]
@[simp] theorem Mod.putBit_leash (a i : Nat) (b : Bool) : (m.putBit a i b).leash = m.leash := by simp only [Mod.putBit, apply_ite Mod.leash, Mod.setBit_leash, Mod.clrBit_leash, ite_self]
@[simp] theorem Mod.putBit_pwr (a i : Nat) (b : Bool) : (m.putBit a i b).pwr = m.pwr := by simp only [Mod.putBit, apply_ite Mod.pwr, Mod.setBit_pwr, Mod.clrBit_pwr, ite_self]
@[simp] theorem Mod.putBit_rcd (a i : Nat) (b : Bool) : (m.putBit a i b).rcd = m.rcd := by simp only [Mod.putBit, apply_ite Mod.rcd, Mod.setBit_rcd, Mod.clrBit_rcd, ite_self]
@[simp] theorem Mod.putBit_perf (a i : Nat) (b : Bool) : (m.putBit a i b).perf = m.perf := by simp only [Mod.putBit, apply_ite Mod.perf, Mod.setBit_perf, Mod.clrBit_perf, ite_self]
@[simp] theorem Mod.putBit_elem (a i : Nat) (b : Bool) : (m.putBit a i b).elem = m.elem := by simp only [Mod.putBit, apply_ite Mod.elem, Mod.setBit_elem, Mod.clrBit_elem, ite_self]
@[simp] theorem Mod.putBit_back (a i : Nat) (b : Bool) : (m.putBit a i b).back = m.back := by simp only [Mod.putBit, apply_ite Mod.back, Mod.setBit_back, Mod.clrBit_back, ite_self]
@[simp] theorem Mod.putBit_ken (a i : Nat) (b : Bool) : (m.putBit a i b).ken = m.ken := by simp only [Mod.putBit, apply_ite Mod.ken, Mod.setBit_ken, Mod.clrBit_ken, ite_self]
@[simp] theorem Mod.putBit_brace (a i : Nat) (b : Bool) : (m.putBit a i b).brace = m.brace := by simp only [Mod.putBit, apply_ite Mod.brace, Mod.setBit_brace, Mod.clrBit_brace, ite_self]
@[simp] theorem Mod.putBit_upd (a i : Nat) (b : Bool) : (m.putBit a i b).upd = m.upd := by simp only [Mod.putBit, apply_ite Mod.upd, Mod.setBit_upd, Mod.clrBit_upd, ite_self]
@[simp] theorem Mod.putBit_nv (a i : Nat) (b : Bool) : (m.putBit a i b).nv = m.nv := by simp only [Mod.putBit, apply_ite Mod.nv, Mod.setBit_nv, Mod.clrBit_nv, ite_self]

@[simp] theorem Mod.satF_shadow (f : Fld) : (m.satF f).shadow = m.shadow := by simp only [Mod.satF, apply_ite Mod.shadow, Mod.setF_shadow, ite_self]
@[simp] theorem Mod.satF_out (f : Fld) : (m.satF f).out = m.out := by simp only [Mod.satF, apply_ite Mod.out, Mod.setF_out, ite_self]
@[simp] theorem Mod.satF_seed (f : Fld) : (m.satF f).seed = m.seed := by simp only [Mod.satF, apply_ite Mod.seed, Mod.setF_seed, ite_self]
@[simp] theorem Mod.satF_glb (f : Fld) : (m.satF f).glb = m.glb := by simp only [Mod.satF, apply_ite Mod.glb, Mod.setF_glb, ite_self]
@[simp] theorem Mod.satF_ring (f : Fld) : (m.satF f).ring = m.ring := by simp only [Mod.satF, apply_ite Mod.ring, Mod.setF_ring, ite_self]
@[simp] theorem Mod.satF_gnss (f : Fld) : (m.satF f).gnss = m.gnss := by simp only [Mod.satF, apply_ite Mod.gnss, Mod.setF_gnss, ite_self]
@[simp] theorem Mod.satF_time (f : Fld) : (m.satF f).time = m.time := by simp only [Mod.satF, apply_ite Mod.time, Mod.setF_time, ite_self]
@[simp] theorem Mod.satF_pack (f : Fld) : (m.satF f).pack = m.pack := by simp only [Mod.satF, apply_ite Mod.pack, Mod.setF_pack, ite_self]
@[simp] theorem Mod.satF_shep (f : Fld) : (m.satF f).shep = m.shep := by simp only [Mod.satF, apply_ite Mod.shep, Mod.setF_shep, ite_self]
@[simp] theorem Mod.satF_mot (f : Fld) : (m.satF f).mot = m.mot := by simp only [Mod.satF, apply_ite Mod.mot, Mod.setF_mot, ite_self]
@[simp] theorem Mod.satF_sw (f : Fld) : (m.satF f).sw = m.sw := by simp only [Mod.satF, apply_ite Mod.sw, Mod.setF_sw, ite_self]
@[simp] theorem Mod.satF_air (f : Fld) : (m.satF f).air = m.air := by simp only [Mod.satF, apply_ite Mod.air, Mod.setF_air, ite_self]
@[simp] theorem Mod.satF_leash (f : Fld) : (m.satF f).leash = m.leash := by simp only [Mod.satF, apply_ite Mod.leash, Mod.setF_leash, ite_self]
@[simp] theorem Mod.satF_pwr (f : Fld) : (m.satF f).pwr = m.pwr := by simp only [Mod.satF, apply_ite Mod.pwr, Mod.setF_pwr, ite_self]
@[simp] theorem Mod.satF_rcd (f : Fld) : (m.satF f).rcd = m.rcd := by simp only [Mod.satF, apply_ite Mod.rcd, Mod.setF_rcd, ite_self]
@[simp] theorem Mod.satF_perf (f : Fld) : (m.satF f).perf = m.perf := by simp only [Mod.satF, apply_ite Mod.perf, Mod.setF_perf, ite_self]
@[simp] theorem Mod.satF_elem (f : Fld) : (m.satF f).elem = m.elem := by simp only [Mod.satF, apply_ite Mod.elem, Mod.setF_elem, ite_self]
@[simp] theorem Mod.satF_back (f : Fld) : (m.satF f).back = m.back := by simp only [Mod.satF, apply_ite Mod.back, Mod.setF_back, ite_self]
@[simp] theorem Mod.satF_ken (f : Fld) : (m.satF f).ken = m.ken := by simp only [Mod.satF, apply_ite Mod.ken, Mod.setF_ken, ite_self]
@[simp] theorem Mod.satF_brace (f : Fld) : (m.satF f).brace = m.brace := by simp only [Mod.satF, apply_ite Mod.brace, Mod.setF_brace, ite_self]
@[simp] theorem Mod.satF_upd (f : Fld) : (m.satF f).upd = m.upd := by simp only [Mod.satF, apply_ite Mod.upd, Mod.setF_upd, ite_self]
@[simp] theorem Mod.satF_nv (f : Fld) : (m.satF f).nv = m.nv := by simp only [Mod.satF, apply_ite Mod.nv, Mod.setF_nv, ite_self]

@[simp] theorem Mod.sendMsg_live (x : Nat) : (m.sendMsg x).live = m.live := by simp only [Mod.sendMsg, apply_ite Mod.live, Mod.emit_live, ite_self]
@[simp] theorem Mod.sendMsg_shadow (x : Nat) : (m.sendMsg x).shadow = m.shadow := by simp only [Mod.sendMsg, apply_ite Mod.shadow, Mod.emit_shadow, ite_self]
@[simp] theorem Mod.sendMsg_seed (x : Nat) : (m.sendMsg x).seed = m.seed := by simp only [Mod.sendMsg, apply_ite Mod.seed, Mod.emit_seed, ite_self]
@[simp] theorem Mod.sendMsg_glb (x : Nat) : (m.sendMsg x).glb = m.glb := by simp only [Mod.sendMsg, apply_ite Mod.glb, Mod.emit_glb, ite_self]
@[simp] theorem Mod.sendMsg_gnss (x : Nat) : (m.sendMsg x).gnss = m.gnss := by simp only [Mod.sendMsg, apply_ite Mod.gnss, Mod.emit_gnss, ite_self]
@[simp] theorem Mod.sendMsg_time (x : Nat) : (m.sendMsg x).time = m.time := by simp only [Mod.sendMsg, apply_ite Mod.time, Mod.emit_time, ite_self]
@[simp] theorem Mod.sendMsg_pack (x : Nat) : (m.sendMsg x).pack = m.pack := by simp only [Mod.sendMsg, apply_ite Mod.pack, Mod.emit_pack, ite_self]
@[simp] theorem Mod.sendMsg_shep (x : Nat) : (m.sendMsg x).shep = m.shep := by simp only [Mod.sendMsg, apply_ite Mod.shep, Mod.emit_shep, ite_self]
@[simp] theorem Mod.sendMsg_mot (x : Nat) : (m.sendMsg x).mot = m.mot := by simp only [Mod.sendMsg, apply_ite Mod.mot, Mod.emit_mot, ite_self]
@[simp] theorem Mod.sendMsg_sw (x : Nat) : (m.sendMsg x).sw = m.sw := by simp only [Mod.sendMsg, apply_ite Mod.sw, Mod.emit_sw, ite_self]
@[simp] theorem Mod.sendMsg_air (x : Nat) : (m.sendMsg x).air = m.air := by simp only [Mod.sendMsg, apply_ite Mod.air, Mod.emit_air, ite_self]
@[simp] theorem Mod.sendMsg_leash (x : Nat) : (m.sendMsg x).leash = m.leash := by simp only [Mod.sendMsg, apply_ite Mod.leash, Mod.emit_leash, ite_self]
@[simp] theorem Mod.sendMsg_pwr (x : Nat) : (m.sendMsg x).pwr = m.pwr := by simp only [Mod.sendMsg, apply_ite Mod.pwr, Mod.emit_pwr, ite_self]
@[simp] theorem Mod.sendMsg_rcd (x : Nat) : (m.sendMsg x).rcd = m.rcd := by simp only [Mod.sendMsg, apply_ite Mod.rcd, Mod.emit_rcd, ite_self]
@[simp] theorem Mod.sendMsg_perf (x : Nat) : (m.sendMsg x).perf = m.perf := by simp only [Mod.sendMsg, apply_ite Mod.perf, Mod.emit_perf, ite_self]
@[simp] theorem Mod.sendMsg_elem (x : Nat) : (m.sendMsg x).elem = m.elem := by simp only [Mod.sendMsg, apply_ite Mod.elem, Mod.emit_elem, ite_self]
@[simp] theorem Mod.sendMsg_back (x : Nat) : (m.sendMsg x).back = m.back := by simp only [Mod.sendMsg, apply_ite Mod.back, Mod.emit_back, ite_self]
@[simp] theorem Mod.sendMsg_ken (x : Nat) : (m.sendMsg x).ken = m.ken := by simp only [Mod.sendMsg, apply_ite Mod.ken, Mod.emit_ken, ite_self]
@[simp] theorem Mod.sendMsg_brace (x : Nat) : (m.sendMsg x).brace = m.brace := by simp only [Mod.sendMsg, apply_ite Mod.brace, Mod.emit_brace, ite_self]
@[simp] theorem Mod.sendMsg_upd (x : Nat) : (m.sendMsg x).upd = m.upd := by simp only [Mod.sendMsg, apply_ite Mod.upd, Mod.emit_upd, ite_self]
@[simp] theorem Mod.sendMsg_nv (x : Nat) : (m.sendMsg x).nv = m.nv := by simp only [Mod.sendMsg, apply_ite Mod.nv, Mod.emit_nv, ite_self]

@[simp] theorem Mod.raise_shadow (x : Nat) : (m.raise x).shadow = m.shadow := by simp only [Mod.raise, apply_ite Mod.shadow, Mod.sendMsg_shadow, Mod.setBit_shadow, ite_self]
@[simp] theorem Mod.raise_seed (x : Nat) : (m.raise x).seed = m.seed := by simp only [Mod.raise, apply_ite Mod.seed, Mod.sendMsg_seed, Mod.setBit_seed, ite_self]
@[simp] theorem Mod.raise_glb (x : Nat) : (m.raise x).glb = m.glb := by simp only [Mod.raise, apply_ite Mod.glb, Mod.sendMsg_glb, Mod.setBit_glb, ite_self]
@[simp] theorem Mod.raise_gnss (x : Nat) : (m.raise x).gnss = m.gnss := by simp only [Mod.raise, apply_ite Mod.gnss, Mod.sendMsg_gnss, Mod.setBit_gnss, ite_self]
@[simp] theorem Mod.raise_time (x : Nat) : (m.raise x).time = m.time := by simp only [Mod.raise, apply_ite Mod.time, Mod.sendMsg_time, Mod.setBit_time, ite_self]
@[simp] theorem Mod.raise_pack (x : Nat) : (m.raise x).pack = m.pack := by simp only [Mod.raise, apply_ite Mod.pack, Mod.sendMsg_pack, Mod.setBit_pack, ite_self]
@[simp] theorem Mod.raise_shep (x : Nat) : (m.raise x).shep = m.shep := by simp only [Mod.raise, apply_ite Mod.shep, Mod.sendMsg_shep, Mod.setBit_shep, ite_self]
@[simp] theorem Mod.raise_mot (x : Nat) : (m.raise x).mot = m.mot := by simp only [Mod.raise, apply_ite Mod.mot, Mod.sendMsg_mot, Mod.setBit_mot, ite_self]
@[simp] theorem Mod.raise_sw (x : Nat) : (m.raise x).sw = m.sw := by simp only [Mod.raise, apply_ite Mod.sw, Mod.sendMsg_sw, Mod.setBit_sw, ite_self]
@[simp] theorem Mod.raise_air (x : Nat) : (m.raise x).air = m.air := by simp only [Mod.raise, apply_ite Mod.air, Mod.sendMsg_air, Mod.setBit_air, ite_self]
@[simp] theorem Mod.raise_leash (x : Nat) : (m.raise x).leash = m.leash := by simp only [Mod.raise, apply_ite Mod.leash, Mod.sendMsg_leash, Mod.setBit_leash, ite_self]
@[simp] theorem Mod.raise_pwr (x : Nat) : (m.raise x).pwr = m.pwr := by simp only [Mod.raise, apply_ite Mod.pwr, Mod.sendMsg_pwr, Mod.setBit_pwr, ite_self]
@[simp] theorem Mod.raise_rcd (x : Nat) : (m.raise x).rcd = m.rcd := by simp only [Mod.raise, apply_ite Mod.rcd, Mod.sendMsg_rcd, Mod.setBit_rcd, ite_self]
@[simp] theorem Mod.raise_perf (x : Nat) : (m.raise x).perf = m.perf := by simp only [Mod.raise, apply_ite Mod.perf, Mod.sendMsg_perf, Mod.setBit_perf, ite_self]
@[simp] theorem Mod.raise_elem (x : Nat) : (m.raise x).elem = m.elem := by simp only [Mod.raise, apply_ite Mod.elem, Mod.sendMsg_elem, Mod.setBit_elem, ite_self]
@[simp] theorem Mod.raise_back (x : Nat) : (m.raise x).back = m.back := by simp only [Mod.raise, apply_ite Mod.back, Mod.sendMsg_back, Mod.setBit_back, ite_self]
@[simp] theorem Mod.raise_ken (x : Nat) : (m.raise x).ken = m.ken := by simp only [Mod.raise, apply_ite Mod.ken, Mod.sendMsg_ken, Mod.setBit_ken, ite_self]
@[simp] theorem Mod.raise_brace (x : Nat) : (m.raise x).brace = m.brace := by simp only [Mod.raise, apply_ite Mod.brace, Mod.sendMsg_brace, Mod.setBit_brace, ite_self]
@[simp] theorem Mod.raise_upd (x : Nat) : (m.raise x).upd = m.upd := by simp only [Mod.raise, apply_ite Mod.upd, Mod.sendMsg_upd, Mod.setBit_upd, ite_self]
@[simp] theorem Mod.raise_nv (x : Nat) : (m.raise x).nv = m.nv := by simp only [Mod.raise, apply_ite Mod.nv, Mod.sendMsg_nv, Mod.setBit_nv, ite_self]

@[simp] theorem Mod.evt_shadow (r e b x : Nat) : (m.evt r e b x).shadow = m.shadow := by simp only [Mod.evt, apply_ite Mod.shadow, Mod.raise_shadow, Mod.setBit_shadow, ite_self]
@[simp] theorem Mod.evt_seed (r e b x : Nat) : (m.evt r e b x).seed = m.seed := by simp only [Mod.evt, apply_ite Mod.seed, Mod.raise_seed, Mod.setBit_seed, ite_self]
@[simp] theorem Mod.evt_glb (r e b x : Nat) : (m.evt r e b x).glb = m.glb := by simp only [Mod.evt, apply_ite Mod.glb, Mod.raise_glb, Mod.setBit_glb, ite_self]
@[simp] theorem Mod.evt_gnss (r e b x : Nat) : (m.evt r e b x).gnss = m.gnss := by simp only [Mod.evt, apply_ite Mod.gnss, Mod.raise_gnss, Mod.setBit_gnss, ite_self]
@[simp] theorem Mod.evt_time (r e b x : Nat) : (m.evt r e b x).time = m.time := by simp only [Mod.evt, apply_ite Mod.time, Mod.raise_time, Mod.setBit_time, ite_self]
@[simp] theorem Mod.evt_pack (r e b x : Nat) : (m.evt r e b x).pack = m.pack := by simp only [Mod.evt, apply_ite Mod.pack, Mod.raise_pack, Mod.setBit_pack, ite_self]
@[simp] theorem Mod.evt_shep (r e b x : Nat) : (m.evt r e b x).shep = m.shep := by simp only [Mod.evt, apply_ite Mod.shep, Mod.raise_shep, Mod.setBit_shep, ite_self]
@[simp] theorem Mod.evt_mot (r e b x : Nat) : (m.evt r e b x).mot = m.mot := by simp only [Mod.evt, apply_ite Mod.mot, Mod.raise_mot, Mod.setBit_mot, ite_self]
@[simp] theorem Mod.evt_sw (r e b x : Nat) : (m.evt r e b x).sw = m.sw := by simp only [Mod.evt, apply_ite Mod.sw, Mod.raise_sw, Mod.setBit_sw, ite_self]
@[simp] theorem Mod.evt_air (r e b x : Nat) : (m.evt r e b x).air = m.air := by simp only [Mod.evt, apply_ite Mod.air, Mod.raise_air, Mod.setBit_air, ite_self]
@[simp] theorem Mod.evt_leash (r e b x : Nat) : (m.evt r e b x).leash = m.leash := by simp only [Mod.evt, apply_ite Mod.leash, Mod.raise_leash, Mod.setBit_leash, ite_self]
@[simp] theorem Mod.evt_pwr (r e b x : Nat) : (m.evt r e b x).pwr = m.pwr := by simp only [Mod.evt, apply_ite Mod.pwr, Mod.raise_pwr, Mod.setBit_pwr, ite_self]
@[simp] theorem Mod.evt_rcd (r e b x : Nat) : (m.evt r e b x).rcd = m.rcd := by simp only [Mod.evt, apply_ite Mod.rcd, Mod.raise_rcd, Mod.setBit_rcd, ite_self]
@[simp] theorem Mod.evt_perf (r e b x : Nat) : (m.evt r e b x).perf = m.perf := by simp only [Mod.evt, apply_ite Mod.perf, Mod.raise_perf, Mod.setBit_perf, ite_self]
@[simp] theorem Mod.evt_elem (r e b x : Nat) : (m.evt r e b x).elem = m.elem := by simp only [Mod.evt, apply_ite Mod.elem, Mod.raise_elem, Mod.setBit_elem, ite_self]
@[simp] theorem Mod.evt_back (r e b x : Nat) : (m.evt r e b x).back = m.back := by simp only [Mod.evt, apply_ite Mod.back, Mod.raise_back, Mod.setBit_back, ite_self]
@[simp] theorem Mod.evt_ken (r e b x : Nat) : (m.evt r e b x).ken = m.ken := by simp only [Mod.evt, apply_ite Mod.ken, Mod.raise_ken, Mod.setBit_ken, ite_self]
@[simp] theorem Mod.evt_brace (r e b x : Nat) : (m.evt r e b x).brace = m.brace := by simp only [Mod.evt, apply_ite Mod.brace, Mod.raise_brace, Mod.setBit_brace, ite_self]
@[simp] theorem Mod.evt_upd (r e b x : Nat) : (m.evt r e b x).upd = m.upd := by simp only [Mod.evt, apply_ite Mod.upd, Mod.raise_upd, Mod.setBit_upd, ite_self]
@[simp] theorem Mod.evt_nv (r e b x : Nat) : (m.evt r e b x).nv = m.nv := by simp only [Mod.evt, apply_ite Mod.nv, Mod.raise_nv, Mod.setBit_nv, ite_self]

@[simp] theorem Mod.errCapture_shadow (b x : Nat) : (m.errCapture b x).shadow = m.shadow := by simp only [Mod.errCapture, apply_ite Mod.shadow, Mod.wr_shadow, ite_self]
@[simp] theorem Mod.errCapture_out (b x : Nat) : (m.errCapture b x).out = m.out := by simp only [Mod.errCapture, apply_ite Mod.out, Mod.wr_out, ite_self]
@[simp] theorem Mod.errCapture_seed (b x : Nat) : (m.errCapture b x).seed = m.seed := by simp only [Mod.errCapture, apply_ite Mod.seed, Mod.wr_seed, ite_self]
@[simp] theorem Mod.errCapture_glb (b x : Nat) : (m.errCapture b x).glb = m.glb := by simp only [Mod.errCapture, apply_ite Mod.glb, Mod.wr_glb, ite_self]
@[simp] theorem Mod.errCapture_ring (b x : Nat) : (m.errCapture b x).ring = m.ring := by simp only [Mod.errCapture, apply_ite Mod.ring, Mod.wr_ring, ite_self]
@[simp] theorem Mod.errCapture_gnss (b x : Nat) : (m.errCapture b x).gnss = m.gnss := by simp only [Mod.errCapture, apply_ite Mod.gnss, Mod.wr_gnss, ite_self]
@[simp] theorem Mod.errCapture_time (b x : Nat) : (m.errCapture b x).time = m.time := by simp only [Mod.errCapture, apply_ite Mod.time, Mod.wr_time, ite_self]
@[simp] theorem Mod.errCapture_pack (b x : Nat) : (m.errCapture b x).pack = m.pack := by simp only [Mod.errCapture, apply_ite Mod.pack, Mod.wr_pack, ite_self]
@[simp] theorem Mod.errCapture_shep (b x : Nat) : (m.errCapture b x).shep = m.shep := by simp only [Mod.errCapture, apply_ite Mod.shep, Mod.wr_shep, ite_self]
@[simp] theorem Mod.errCapture_mot (b x : Nat) : (m.errCapture b x).mot = m.mot := by simp only [Mod.errCapture, apply_ite Mod.mot, Mod.wr_mot, ite_self]
@[simp] theorem Mod.errCapture_sw (b x : Nat) : (m.errCapture b x).sw = m.sw := by simp only [Mod.errCapture, apply_ite Mod.sw, Mod.wr_sw, ite_self]
@[simp] theorem Mod.errCapture_air (b x : Nat) : (m.errCapture b x).air = m.air := by simp only [Mod.errCapture, apply_ite Mod.air, Mod.wr_air, ite_self]
@[simp] theorem Mod.errCapture_leash (b x : Nat) : (m.errCapture b x).leash = m.leash := by simp only [Mod.errCapture, apply_ite Mod.leash, Mod.wr_leash, ite_self]
@[simp] theorem Mod.errCapture_pwr (b x : Nat) : (m.errCapture b x).pwr = m.pwr := by simp only [Mod.errCapture, apply_ite Mod.pwr, Mod.wr_pwr, ite_self]
@[simp] theorem Mod.errCapture_rcd (b x : Nat) : (m.errCapture b x).rcd = m.rcd := by simp only [Mod.errCapture, apply_ite Mod.rcd, Mod.wr_rcd, ite_self]
@[simp] theorem Mod.errCapture_perf (b x : Nat) : (m.errCapture b x).perf = m.perf := by simp only [Mod.errCapture, apply_ite Mod.perf, Mod.wr_perf, ite_self]
@[simp] theorem Mod.errCapture_elem (b x : Nat) : (m.errCapture b x).elem = m.elem := by simp only [Mod.errCapture, apply_ite Mod.elem, Mod.wr_elem, ite_self]
@[simp] theorem Mod.errCapture_back (b x : Nat) : (m.errCapture b x).back = m.back := by simp only [Mod.errCapture, apply_ite Mod.back, Mod.wr_back, ite_self]
@[simp] theorem Mod.errCapture_ken (b x : Nat) : (m.errCapture b x).ken = m.ken := by simp only [Mod.errCapture, apply_ite Mod.ken, Mod.wr_ken, ite_self]
@[simp] theorem Mod.errCapture_brace (b x : Nat) : (m.errCapture b x).brace = m.brace := by simp only [Mod.errCapture, apply_ite Mod.brace, Mod.wr_brace, ite_self]
@[simp] theorem Mod.errCapture_upd (b x : Nat) : (m.errCapture b x).upd = m.upd := by simp only [Mod.errCapture, apply_ite Mod.upd, Mod.wr_upd, ite_self]
@[simp] theorem Mod.errCapture_nv (b x : Nat) : (m.errCapture b x).nv = m.nv := by simp only [Mod.errCapture, apply_ite Mod.nv, Mod.wr_nv, ite_self]

@[simp] theorem Mod.glbErr_shadow (b x : Nat) : (m.glbErr b x).shadow = m.shadow := by simp only [Mod.glbErr, Mod.evt_shadow, Mod.errCapture_shadow]
@[simp] theorem Mod.glbErr_seed (b x : Nat) : (m.glbErr b x).seed = m.seed := by simp only [Mod.glbErr, Mod.evt_seed, Mod.errCapture_seed]
@[simp] theorem Mod.glbErr_glb (b x : Nat) : (m.glbErr b x).glb = m.glb := by simp only [Mod.glbErr, Mod.evt_glb, Mod.errCapture_glb]
@[simp] theorem Mod.glbErr_gnss (b x : Nat) : (m.glbErr b x).gnss = m.gnss := by simp only [Mod.glbErr, Mod.evt_gnss, Mod.errCapture_gnss]
@[simp] theorem Mod.glbErr_time (b x : Nat) : (m.glbErr b x).time = m.time := by simp only [Mod.glbErr, Mod.evt_time, Mod.errCapture_time]
@[simp] theorem Mod.glbErr_pack (b x : Nat) : (m.glbErr b x).pack = m.pack := by simp only [Mod.glbErr, Mod.evt_pack, Mod.errCapture_pack]
@[simp] theorem Mod.glbErr_shep (b x : Nat) : (m.glbErr b x).shep = m.shep := by simp only [Mod.glbErr, Mod.evt_shep, Mod.errCapture_shep]
@[simp] theorem Mod.glbErr_mot (b x : Nat) : (m.glbErr b x).mot = m.mot := by simp only [Mod.glbErr, Mod.evt_mot, Mod.errCapture_mot]
@[simp] theorem Mod.glbErr_sw (b x : Nat) : (m.glbErr b x).sw = m.sw := by simp only [Mod.glbErr, Mod.evt_sw, Mod.errCapture_sw]
@[simp] theorem Mod.glbErr_air (b x : Nat) : (m.glbErr b x).air = m.air := by simp only [Mod.glbErr, Mod.evt_air, Mod.errCapture_air]
@[simp] theorem Mod.glbErr_leash (b x : Nat) : (m.glbErr b x).leash = m.leash := by simp only [Mod.glbErr, Mod.evt_leash, Mod.errCapture_leash]
@[simp] theorem Mod.glbErr_pwr (b x : Nat) : (m.glbErr b x).pwr = m.pwr := by simp only [Mod.glbErr, Mod.evt_pwr, Mod.errCapture_pwr]
@[simp] theorem Mod.glbErr_rcd (b x : Nat) : (m.glbErr b x).rcd = m.rcd := by simp only [Mod.glbErr, Mod.evt_rcd, Mod.errCapture_rcd]
@[simp] theorem Mod.glbErr_perf (b x : Nat) : (m.glbErr b x).perf = m.perf := by simp only [Mod.glbErr, Mod.evt_perf, Mod.errCapture_perf]
@[simp] theorem Mod.glbErr_elem (b x : Nat) : (m.glbErr b x).elem = m.elem := by simp only [Mod.glbErr, Mod.evt_elem, Mod.errCapture_elem]
@[simp] theorem Mod.glbErr_back (b x : Nat) : (m.glbErr b x).back = m.back := by simp only [Mod.glbErr, Mod.evt_back, Mod.errCapture_back]
@[simp] theorem Mod.glbErr_ken (b x : Nat) : (m.glbErr b x).ken = m.ken := by simp only [Mod.glbErr, Mod.evt_ken, Mod.errCapture_ken]
@[simp] theorem Mod.glbErr_brace (b x : Nat) : (m.glbErr b x).brace = m.brace := by simp only [Mod.glbErr, Mod.evt_brace, Mod.errCapture_brace]
@[simp] theorem Mod.glbErr_upd (b x : Nat) : (m.glbErr b x).upd = m.upd := by simp only [Mod.glbErr, Mod.evt_upd, Mod.errCapture_upd]
@[simp] theorem Mod.glbErr_nv (b x : Nat) : (m.glbErr b x).nv = m.nv := by simp only [Mod.glbErr, Mod.evt_nv, Mod.errCapture_nv]

end Sys2Proof.Machine
end

