-- ==== Sys2Proof/Laws/Regs.lean ====
section
/-! SUPPORT. Registers and fields: what one reads as after it, or another one, is written; what events and errors do. -/

namespace Sys2Proof.Machine

variable (m : Mod)

/-! ## Whole registers -/

theorem Mod.rd_lt (a : Nat) : m.rd a < 4294967296 := (AMap.get regReset m.live a).isLt

/-- A register reads as what its live copy holds. -/
theorem Mod.rd_eq {m n : Mod} (h : m.live = n.live) (x : Nat) : m.rd x = n.rd x := by simp [Mod.rd, h]

theorem Mod.rd_wr (a v x : Nat) : (m.wr a v).rd x = if x = a then v % 4294967296 else m.rd x := by
  simp only [Mod.rd, Mod.wr, AMap.get_put]
  split <;> simp [BitVec.toNat_ofNat]

@[simp] theorem Mod.rd_wr_same (a v : Nat) : (m.wr a v).rd a = v % 4294967296 := by simp [Mod.rd_wr]

theorem Mod.rd_wr_ne (a v : Nat) {x : Nat} (h : x ≠ a) : (m.wr a v).rd x = m.rd x := by simp [Mod.rd_wr, h]

theorem Mod.rdSh_wrSh (a v x : Nat) : (m.wrSh a v).rdSh x = if x = a then v % 4294967296 else m.rdSh x := by
  simp only [Mod.rdSh, Mod.wrSh, AMap.get_put]
  split <;> simp [BitVec.toNat_ofNat]

@[simp] theorem Mod.rdSh_wr (a v x : Nat) : (m.wr a v).rdSh x = m.rdSh x := (rfl)
@[simp] theorem Mod.rd_wrSh (a v x : Nat) : (m.wrSh a v).rd x = m.rd x := (rfl)
@[simp] theorem Mod.rd_emit (o : Out) (x : Nat) : (m.emit o).rd x = m.rd x := (rfl)
@[simp] theorem Mod.rd_took (x : Nat) : m.took.rd x = m.rd x := (rfl)
@[simp] theorem Mod.rd_perfAdd (i n x : Nat) : (m.perfAdd i n).rd x = m.rd x := (rfl)
@[simp] theorem Mod.rd_setRng (n : Nat) (r : RingSt) (x : Nat) : (m.setRng n r).rd x = m.rd x := (rfl)

theorem Mod.rd_inc (a x : Nat) : (m.inc a).rd x = if x = a then (m.rd a + 1) % 4294967296 else m.rd x := by
  simp [Mod.inc, Mod.rd_wr]

theorem Mod.rd_incBy (a n x : Nat) : (m.incBy a n).rd x = if x = a then (m.rd a + n) % 4294967296 else m.rd x := by
  simp [Mod.incBy, Mod.rd_wr]

theorem Mod.rd_setF_ne (f : Fld) (v : Nat) {x : Nat} (h : x ≠ f.off) : (m.setF f v).rd x = m.rd x := by
  simp [Mod.setF, Mod.rd_wr, h]

theorem Mod.rd_setB_ne (f : Fld) (b : Bool) {x : Nat} (h : x ≠ f.off) : (m.setB f b).rd x = m.rd x := by
  simp [Mod.setB, Mod.rd_setF_ne, h]

theorem Mod.rd_incF_ne (f : Fld) {x : Nat} (h : x ≠ f.off) : (m.incF f).rd x = m.rd x := by
  simp [Mod.incF, Mod.rd_setF_ne, h]

theorem Mod.rd_setBit_ne (a i : Nat) {x : Nat} (h : x ≠ a) : (m.setBit a i).rd x = m.rd x := by
  simp [Mod.setBit, Mod.rd_wr, h]

theorem Mod.rd_clrBit_ne (a i : Nat) {x : Nat} (h : x ≠ a) : (m.clrBit a i).rd x = m.rd x := by
  simp [Mod.clrBit, Mod.rd_wr, h]

/-! ## Bits -/

theorem Mod.bit_setBit (a i : Nat) (h : i < 32) : (m.setBit a i).bit a i = true := by
  simp only [Mod.bit, Mod.setBit, Mod.rd_wr_same]
  rw [show 4294967296 = 2 ^ 32 from rfl, Nat.testBit_mod_two_pow, Nat.testBit_or, Nat.testBit_two_pow]
  simp [h]

theorem Mod.bit_setBit_ne (a i : Nat) {x j : Nat} (h : x ≠ a ∨ j ≠ i) : (m.setBit a i).bit x j = m.bit x j := by
  by_cases hx : x = a
  · subst hx
    have hj : j ≠ i := by simpa using h
    simp only [Mod.bit, Mod.setBit, Mod.rd_wr_same]
    rw [show 4294967296 = 2 ^ 32 from rfl, Nat.testBit_mod_two_pow, Nat.testBit_or, Nat.testBit_two_pow]
    have hl := m.rd_lt x
    by_cases h32 : j < 32
    · simp [h32, Ne.symm hj]
    · have := Nat.testBit_lt_two_pow (Nat.lt_of_lt_of_le hl (show 4294967296 ≤ 2 ^ j by
        rw [show 4294967296 = 2 ^ 32 from rfl]; exact Nat.pow_le_pow_right (by omega) (by omega)))
      simp [h32, this]
  · simp [Mod.bit, Mod.rd_setBit_ne, hx]

/-! ## Fields -/

@[simp] theorem Mod.fld_emit (o : Out) (g : Fld) : (m.emit o).fld g = m.fld g := (rfl)
@[simp] theorem Mod.fld_took (g : Fld) : m.took.fld g = m.fld g := (rfl)
@[simp] theorem Mod.fld_setRng (n : Nat) (r : RingSt) (g : Fld) : (m.setRng n r).fld g = m.fld g := (rfl)

theorem Mod.fld_eq {m n : Mod} (h : m.live = n.live) (f : Fld) : m.fld f = n.fld f := by simp [Mod.fld, Mod.rd_eq h]

theorem Mod.fld_wr_ne (a v : Nat) {f : Fld} (h : f.off ≠ a) : (m.wr a v).fld f = m.fld f := by
  simp [Mod.fld, Mod.rd_wr, h]

/-- A field that is written reads as the new value, cut to its width. -/
theorem Mod.fld_setF (f : Fld) (v : Nat) (h : f.lo ≤ f.hi) (h31 : f.hi ≤ 31) : (m.setF f v).fld f = v % 2 ^ (f.hi + 1 - f.lo) := by
  simp only [Mod.fld, Mod.setF, Mod.rd_wr_same]
  rw [bitsOf_mod _ _ _ h31, bitsOf_putBits _ _ _ _ h]

/-- A field that is written leaves every field of another register, and every field that shares no bit with it. -/
theorem Mod.fld_setF_ne (f : Fld) (v : Nat) {g : Fld} (h : f.lo ≤ f.hi) (h31 : g.hi ≤ 31)
    (d : g.off ≠ f.off ∨ f.hi < g.lo ∨ g.hi < f.lo) : (m.setF f v).fld g = m.fld g := by
  by_cases ho : g.off = f.off
  · simp only [Mod.fld, Mod.setF, ho, Mod.rd_wr_same]
    rw [bitsOf_mod _ _ _ h31, bitsOf_putBits_disj _ _ _ _ _ _ h]
    simpa [ho] using d
  · simp [Mod.fld, Mod.rd_setF_ne, ho]

theorem Mod.on_setB (f : Fld) (b : Bool) (h : f.lo ≤ f.hi) (h31 : f.hi ≤ 31) : (m.setB f b).on f = b := by
  have hp : 1 < 2 ^ (f.hi + 1 - f.lo) := Nat.one_lt_two_pow (by omega)
  simp only [Mod.on, Mod.setB, Mod.fld_setF _ _ _ h h31]
  cases b <;> simp [Nat.mod_eq_of_lt hp]

theorem Mod.fld_setB_ne (f : Fld) (b : Bool) {g : Fld} (h : f.lo ≤ f.hi) (h31 : g.hi ≤ 31)
    (d : g.off ≠ f.off ∨ f.hi < g.lo ∨ g.hi < f.lo) : (m.setB f b).fld g = m.fld g := Mod.fld_setF_ne m f _ h h31 d

theorem Mod.on_setB_ne (f : Fld) (b : Bool) {g : Fld} (h : f.lo ≤ f.hi) (h31 : g.hi ≤ 31)
    (d : g.off ≠ f.off ∨ f.hi < g.lo ∨ g.hi < f.lo) : (m.setB f b).on g = m.on g := by
  simp [Mod.on, Mod.fld_setB_ne m f b h h31 d]

theorem Mod.on_setF_ne (f : Fld) (v : Nat) {g : Fld} (h : f.lo ≤ f.hi) (h31 : g.hi ≤ 31)
    (d : g.off ≠ f.off ∨ f.hi < g.lo ∨ g.hi < f.lo) : (m.setF f v).on g = m.on g := by
  simp [Mod.on, Mod.fld_setF_ne m f v h h31 d]

/-! ## Interrupts, events and errors (R90, R91, R125) -/

@[simp] theorem Mod.sendMsg_rings (x : Nat) : (m.sendMsg x).ring.rings = m.ring.rings := by simp only [Mod.sendMsg]; split <;> rfl
@[simp] theorem Mod.raise_rings (x : Nat) : (m.raise x).ring.rings = m.ring.rings := by simp only [Mod.raise]; split <;> simp
@[simp] theorem Mod.evt_rings (r e b x : Nat) : (m.evt r e b x).ring.rings = m.ring.rings := by
  unfold Mod.evt; (repeat' split) <;> simp
@[simp] theorem Mod.glbErr_rings (b x : Nat) : (m.glbErr b x).ring.rings = m.ring.rings := by simp [Mod.glbErr]
@[simp] theorem Mod.sendMsg_handed (x : Nat) : (m.sendMsg x).ring.handed = m.ring.handed := by simp only [Mod.sendMsg]; split <;> rfl
@[simp] theorem Mod.raise_handed (x : Nat) : (m.raise x).ring.handed = m.ring.handed := by simp only [Mod.raise]; split <;> simp
@[simp] theorem Mod.evt_handed (r e b x : Nat) : (m.evt r e b x).ring.handed = m.ring.handed := by
  unfold Mod.evt; (repeat' split) <;> simp
@[simp] theorem Mod.rng_evt (r e b x n : Nat) : (m.evt r e b x).rng n = m.rng n := by simp [Mod.rng]
@[simp] theorem Mod.rng_raise (x n : Nat) : (m.raise x).rng n = m.rng n := by simp [Mod.rng]
@[simp] theorem Mod.rng_wr (a v n : Nat) : (m.wr a v).rng n = m.rng n := (rfl)
@[simp] theorem Mod.rng_setF (f : Fld) (v n : Nat) : (m.setF f v).rng n = m.rng n := (rfl)
@[simp] theorem Mod.rng_setB (f : Fld) (b : Bool) (n : Nat) : (m.setB f b).rng n = m.rng n := (rfl)

/-- Raising a source touches the interrupt status alone among the registers. -/
theorem Mod.rd_raise_ne (x : Nat) {a : Nat} (h : a ≠ R.RING_IRQ_STAT) : (m.raise x).rd a = m.rd a := by
  simp only [Mod.raise]
  split
  · rw [Mod.rd_eq (Mod.sendMsg_live _ x), Mod.rd_setBit_ne _ _ _ h]
  · exact Mod.rd_setBit_ne _ _ _ h

theorem Mod.bit_raise (x : Nat) (h : x < 32) : (m.raise x).bit R.RING_IRQ_STAT x = true := by
  simp only [Mod.raise]
  split
  · rw [Mod.bit, Mod.rd_eq (Mod.sendMsg_live _ x)]; exact Mod.bit_setBit _ _ _ h
  · exact Mod.bit_setBit _ _ _ h

/-- An event touches its event register and the interrupt status alone. -/
theorem Mod.rd_evt_ne (r e b x : Nat) {a : Nat} (h : a ≠ r) (h' : a ≠ R.RING_IRQ_STAT) : (m.evt r e b x).rd a = m.rd a := by
  unfold Mod.evt
  (repeat' split) <;> simp [Mod.rd_raise_ne, Mod.rd_setBit_ne, h, h']

/-- After an event its bit reads 1. -/
theorem Mod.bit_evt (r e b x : Nat) (hb : b < 32) (hr : r ≠ R.RING_IRQ_STAT) : (m.evt r e b x).bit r b = true := by
  unfold Mod.evt
  split
  · assumption
  · split
    · rw [Mod.bit, Mod.rd_raise_ne _ _ hr]; exact Mod.bit_setBit _ _ _ hb
    · exact Mod.bit_setBit _ _ _ hb

/-- An error touches GLB_ERR, GLB_ERR_ADDR and the interrupt status alone. -/
theorem Mod.rd_glbErr_ne (b x : Nat) {a : Nat} (h : a ≠ R.GLB_ERR) (h1 : a ≠ R.GLB_ERR_ADDR) (h2 : a ≠ R.RING_IRQ_STAT) :
    (m.glbErr b x).rd a = m.rd a := by
  rw [Mod.glbErr, Mod.rd_evt_ne _ _ _ _ _ h h2]
  unfold Mod.errCapture
  split
  · exact Mod.rd_wr_ne _ _ _ h1
  · rfl

/-- After an error its bit of GLB_ERR reads 1. -/
theorem Mod.bit_glbErr (b x : Nat) (hb : b < 32) : (m.glbErr b x).bit R.GLB_ERR b = true :=
  Mod.bit_evt _ _ _ _ _ hb (by decide)

end Sys2Proof.Machine
end

