-- ==== Sys2Proof/Laws/Ops.lean ====
section
/-! SUPPORT. What the shared operations do: commands as events, host accesses, guards, results, items. -/

namespace Sys2Proof.Machine

/-! ## A command is an event on the module it finds -/

/-- A command written as an event does what the event makes of the module it finds. -/
theorem does_of_ev {c : Instr} {s : State} {dt : Nat} {f : Clock → Mod → Mod} {m : Mod} (h : exec c s = .next (s.ev dt f))
    (hm : f (s.now dt) s.found = m) : Does c s dt m := by
  subst hm; exact h

/-- A command written as an event answers the state in which the event leaves the module. -/
theorem answers_of_ev {c : Instr} {s : State} {dt : Nat} {f : Clock → Mod → Mod} {P : State → Prop} (h : exec c s = .next (s.ev dt f))
    (hp : P (s.after dt (f (s.now dt) s.found))) : Answers c s P := ⟨_, h, hp⟩

/-- The same for a command that may change the timebase. -/
theorem answers_of_evClk {c : Instr} {s : State} {dt : Nat} {f : Clock → Mod → Clock × Mod} {P : State → Prop}
    (h : exec c s = .next (s.evClk dt f)) (hp : P (s.left (f (s.now dt) s.found))) : Answers c s P := ⟨_, h, hp⟩

variable (s : State)

@[simp] theorem State.after_m (dt : Nat) (m : Mod) : (s.after dt m).m = m := (rfl)
@[simp] theorem State.after_clk (dt : Nat) (m : Mod) : (s.after dt m).clk = s.now dt := (rfl)
@[simp] theorem State.left_m (r : Clock × Mod) : (s.left r).m = r.2 := (rfl)
@[simp] theorem State.left_clk (r : Clock × Mod) : (s.left r).clk = r.1 := (rfl)
@[simp] theorem State.now_raw (dt : Nat) : (s.now dt).raw = s.clk.raw + dt := (rfl)
@[simp] theorem State.now_tickNo (dt : Nat) : (s.now dt).tickNo = s.clk.tickNo := (rfl)
@[simp] theorem State.found_out : s.found.out = [] := (rfl)
@[simp] theorem State.found_rd (a : Nat) : s.found.rd a = s.m.rd a := (rfl)
@[simp] theorem State.found_rdSh (a : Nat) : s.found.rdSh a = s.m.rdSh a := (rfl)
@[simp] theorem State.found_fld (f : Fld) : s.found.fld f = s.m.fld f := (rfl)
@[simp] theorem State.found_on (f : Fld) : s.found.on f = s.m.on f := (rfl)
@[simp] theorem State.found_bit (a i : Nat) : s.found.bit a i = s.m.bit a i := (rfl)
@[simp] theorem State.found_rng (n : Nat) : s.found.rng n = s.m.rng n := (rfl)
@[simp] theorem State.found_opens (a : Nat) : s.found.opens a = s.m.opens a := (rfl)
@[simp] theorem State.found_barUp : s.found.barUp = s.m.barUp := (rfl)
@[simp] theorem State.found_live? (b : Nat) : s.found.live? b = s.m.live? b := (rfl)
@[simp] theorem State.found_live : s.found.live = s.m.live := (rfl)
@[simp] theorem State.found_shadow : s.found.shadow = s.m.shadow := (rfl)
@[simp] theorem State.found_seed : s.found.seed = s.m.seed := (rfl)
@[simp] theorem State.found_glb : s.found.glb = s.m.glb := (rfl)
@[simp] theorem State.found_ring : s.found.ring = s.m.ring := (rfl)
@[simp] theorem State.found_gnss : s.found.gnss = s.m.gnss := (rfl)
@[simp] theorem State.found_time : s.found.time = s.m.time := (rfl)
@[simp] theorem State.found_pack : s.found.pack = s.m.pack := (rfl)
@[simp] theorem State.found_shep : s.found.shep = s.m.shep := (rfl)
@[simp] theorem State.found_mot : s.found.mot = s.m.mot := (rfl)
@[simp] theorem State.found_sw : s.found.sw = s.m.sw := (rfl)
@[simp] theorem State.found_air : s.found.air = s.m.air := (rfl)
@[simp] theorem State.found_leash : s.found.leash = s.m.leash := (rfl)
@[simp] theorem State.found_pwr : s.found.pwr = s.m.pwr := (rfl)
@[simp] theorem State.found_rcd : s.found.rcd = s.m.rcd := (rfl)
@[simp] theorem State.found_perf : s.found.perf = s.m.perf := (rfl)
@[simp] theorem State.found_elem : s.found.elem = s.m.elem := (rfl)
@[simp] theorem State.found_back : s.found.back = s.m.back := (rfl)
@[simp] theorem State.found_ken : s.found.ken = s.m.ken := (rfl)
@[simp] theorem State.found_brace : s.found.brace = s.m.brace := (rfl)
@[simp] theorem State.found_upd : s.found.upd = s.m.upd := (rfl)
@[simp] theorem State.found_nv : s.found.nv = s.m.nv := (rfl)

/-! ## Host accesses (R59, R565) -/

/-- An access to a register that opens acts. -/
theorem Mod.access_opens {m : Mod} {a : Nat} (f : Mod → Mod) (h : m.opens a = true) : m.access a f = f m := by
  unfold Mod.access Mod.opens at *
  cases hb : m.barUp <;> simp [hb] at h ⊢
  cases hc : blockOf a <;> simp [hc] at h ⊢
  simp [h]

end Sys2Proof.Machine
end

