-- ==== Sys2Proof/WellFormed.lean ====
section
/-! DEFINITION. Well-formed commands: every operand within the width of the field, register or index that carries it. -/

namespace Sys2Proof

/-- Bytes of BAR0 (R50). -/
def barBytes : Nat := 16777216

/-- A command's operands, each with the limit it stays below: the width of its field (R115 and the command tables), of a register (R54),
the count of rings (R93), channels (R131), ports (R427) or inputs. Operands absent here may hold any value. -/
def Instr.limits (i : Instr) : List (Nat × Nat) :=
  match i with
  | .tickBoundary _ _ _ _ _ => []
  | .elementFault _ kind _ => [(kind, 7)]
  | .elementRetryEnd _ kind _ => [(kind, 7)]
  | .lpddrScrub _ => []
  | .tableParityScrub _ => []
  | .flashRefresh _ => []
  | .registerWrite _ a v be => [(a, barBytes), (v, 4294967296), (be, 16)]
  | .unmappedAccess _ a _ => [(a, barBytes)]
  | .poweredOffAccess _ a _ => [(a, barBytes)]
  | .guardArm _ x v => [(x, barBytes), (v, 4294967296)]
  | .guardCommit _ x comp => [(x, barBytes), (comp, 4294967296)]
  | .guardExpiry _ => []
  | .mbxSelect _ sel v => [(sel, barBytes), (v, 4294967296)]
  | .mbxSnapshotReady _ sel => [(sel, barBytes)]
  | .mbxDataRead _ sel => [(sel, barBytes)]
  | .mbxDataWrite _ sel v => [(sel, barBytes), (v, 4294967296)]
  | .glbApply _ mask => [(mask, 4294967296)]
  | .applyInstant _ => []
  | .glbCfgRefCommit _ comp => [(comp, 4294967296)]
  | .cfgWalkEnd _ => []
  | .glbErrClear _ mask => [(mask, 4294967296)]
  | .glbSwReset _ comp => [(comp, 4294967296)]
  | .ringDoorbell _ n v => [(n, 10), (v, 4294967296)]
  | .ringEnable _ n => [(n, 10)]
  | .ringStop _ n => [(n, 10)]
  | .ringFlush _ n => [(n, 10)]
  | .ringFlushDone _ n => [(n, 10)]
  | .ringReset _ n => [(n, 10)]
  | .ringResetDone _ n => [(n, 10)]
  | .ringConsWrite _ n v => [(n, 10), (v, 4294967296)]
  | .descriptorFetch _ n bytes => [(n, 10), (bytes.length, 65536)]
  | .commandDispatch _ data => [(data.length, 65536)]
  | .itemEnqueue _ n kind data => [(n, 10), (kind, 256), (data.length, 65536)]
  | .itemDmaToHost _ n => [(n, 10)]
  | .descriptorComplete _ n => [(n, 10)]
  | .dmaFault _ n _ cause addr _ => [(n, 10), (cause, 256), (addr, 18446744073709551616)]
  | .busMasterDisable _ addr _ => [(addr, 18446744073709551616)]
  | .ringCoalTimeout _ n => [(n, 10)]
  | .ringIrqEnWrite _ v => [(v, 4294967296)]
  | .ringDmaErrClear _ => []
  | .antennaStateChange _ _ _ => []
  | .antBiasRetry _ _ _ => []
  | .bandJam _ band _ => [(band, 3)]
  | .bandJamClear _ band _ => [(band, 3)]
  | .gnssChAssign _ c v => [(c, 320), (v, 4294967296)]
  | .channelDump _ c _ => [(c, 320)]
  | .pullinTimeout _ c => [(c, 320)]
  | .lostTimeout _ c => [(c, 320)]
  | .searchJobStart _ => []
  | .searchJobEnd _ _ => []
  | .search _ h _ reserved => [(h.tag, 4294967296), (reserved, 65536)]
  | .searchCancel _ h tag => [(h.tag, 4294967296), (tag, 4294967296)]
  | .steer _ h c flags rate freq codeAdj carrAdj reserved => [(h.tag, 4294967296), (c, 65536), (flags, 65536), (rate, 4294967296), (freq, 4294967296), (codeAdj, 4294967296), (carrAdj, 4294967296), (reserved, 4294967296)]
  | .accStream _ h c on reserved => [(h.tag, 4294967296), (c, 65536), (on, 256), (reserved, 1099511627776)]
  | .hostCoastExpiry _ c => [(c, 320)]
  | .gnssMeasDeadline _ => []
  | .gnssCal _ c _ => [(c, 320)]
  | .dozeBurstStart _ => []
  | .dozeBurstEnd _ => []
  | .ephemerisDecoded _ _ _ _ _ => []
  | .surveyStart _ => []
  | .surveySample _ _ _ _ => []
  | .baseMoveCheck _ _ v => [(v, 4294967296)]
  | .flowAdmit _ _ => []
  | .flowEnd _ r _ => [(r, 257)]
  | .packDeadline _ => []
  | .asuSearchEnd _ r _ => [(r, 257)]
  | .loadGraph _ h addr reserved _ => [(h.tag, 4294967296), (addr, 18446744073709551616), (reserved, 4294967296)]
  | .unloadGraph _ h g reserved => [(h.tag, 4294967296), (g, 256), (reserved, 16777216)]
  | .roverFilterReset _ r => [(r, 256)]
  | .basePosWrite _ _ _ _ _ _ => []
  | .stationDescWrite _ _ => []
  | .refQualified _ => []
  | .refLost _ => []
  | .ppsInEdge _ _ => []
  | .timeSourceLoss _ => []
  | .holdoverLimit _ => []
  | .timeReturnBegin _ => []
  | .timeStep _ => []
  | .timeSet _ ns unc => [(ns, 18446744073709551616), (unc, 4294967296)]
  | .pulseEdge _ i => [(i, 8)]
  | .pulseEnd _ i => [(i, 8)]
  | .captureEdge _ n _ => [(n, 4)]
  | .timeCapPop _ n => [(n, 4)]
  | .ptpAnnounceRx _ p _ => [(p, 10)]
  | .ptpGmTx _ p kind => [(p, 10), (kind, 3)]
  | .loadNet _ h addr reserved _ => [(h.tag, 4294967296), (addr, 18446744073709551616), (reserved, 4294967296)]
  | .activateNet _ h atTick reserved => [(h.tag, 4294967296), (atTick, 4294967296), (reserved, 4294967296)]
  | .route _ h d => [(h.tag, 4294967296), (d.length, 65536)]
  | .release _ h rover flags tag => [(h.tag, 4294967296), (rover, 256), (flags, 256), (tag, 65536)]
  | .place _ h rover reserved chain => [(h.tag, 4294967296), (rover, 256), (reserved, 256), (chain, 65536)]
  | .unblock _ h chain reserved => [(h.tag, 4294967296), (chain, 65536), (reserved, 65536)]
  | .taskAdd _ h task prio reserved need from_ to_ notBefore deadline payload => [(h.tag, 4294967296), (task, 65536), (prio, 256), (reserved, 256), (need, 4294967296), (from_, 65536), (to_, 65536), (notBefore, 4294967296), (deadline, 4294967296), (payload, 4294967296)]
  | .taskCancel _ h task reserved => [(h.tag, 4294967296), (task, 65536), (reserved, 65536)]
  | .taskDone _ h task reserved => [(h.tag, 4294967296), (task, 65536), (reserved, 65536)]
  | .shepDeadline _ => []
  | .spanOverstay _ chain _ => [(chain, 65536)]
  | .taskExpiry _ task => [(task, 4096)]
  | .spanPoison _ chain _ => [(chain, 65536)]
  | .netParityError _ chain => [(chain, 65536)]
  | .shepTblSel _ v => [(v, 4294967296)]
  | .move _ h ch flags target vmax amax jmax start => [(h.tag, 4294967296), (ch, 65536), (flags, 65536), (target, 18446744073709551616), (vmax, 4294967296), (amax, 4294967296), (jmax, 4294967296), (start, 4294967296)]
  | .convoy _ h group n reserved start _ => [(h.tag, 4294967296), (group, 256), (n, 256), (reserved, 65536), (start, 4294967296)]
  | .home _ h ch dir mode speed ofs => [(h.tag, 4294967296), (ch, 65536), (dir, 256), (mode, 256), (speed, 4294967296), (ofs, 18446744073709551616)]
  | .halt _ h ch kind reserved => [(h.tag, 4294967296), (ch, 65536), (kind, 256), (reserved, 256)]
  | .setPos _ h ch reserved pos => [(h.tag, 4294967296), (ch, 65536), (reserved, 65536), (pos, 18446744073709551616)]
  | .clear _ h ch reserved => [(h.tag, 4294967296), (ch, 65536), (reserved, 65536)]
  | .motWindow _ _ => []
  | .motWindowEnd _ => []
  | .stepEdge _ ch => [(ch, 256)]
  | .stepTrackCheck _ ch => [(ch, 256)]
  | .switchInputEdge _ i _ => [(i, 64)]
  | .inputQualified _ i => [(i, 64)]
  | .chatterEnd _ i => [(i, 64)]
  | .homingRange _ ch => [(ch, 256)]
  | .moveEnd _ ch => [(ch, 256)]
  | .stopEnd _ ch => [(ch, 256)]
  | .setpointFrameTx _ ch => [(ch, 256)]
  | .statusFrameRx _ d => [(d.length, 65536)]
  | .statusTimeout _ ch => [(ch, 256)]
  | .tokenTx _ c => [(c, 2)]
  | .beaconTx _ c => [(c, 2)]
  | .downlinkTx _ c => [(c, 2)]
  | .dataTx _ c => [(c, 2)]
  | .sgBeaconTx _ => []
  | .corrFbTx _ => []
  | .dropFrameTx _ c => [(c, 2)]
  | .sgDropTx _ => []
  | .uplinkBurstRx _ _ => []
  | .roverLinkLapse _ => []
  | .slotMapEffective _ => []
  | .clearDrift _ r => [(r, 256)]
  | .regionChange _ => []
  | .rtcmElementExpiry _ => []
  | .leashInputDeenergise _ x => [(x, 2)]
  | .leashPulseTolExpiry _ x => [(x, 2)]
  | .leashInputEnergise _ x => [(x, 2)]
  | .leashTrip _ comp => [(comp, 4294967296)]
  | .trip _ h reserved => [(h.tag, 4294967296), (reserved, 4294967296)]
  | .heelAll _ h reserved => [(h.tag, 4294967296), (reserved, 4294967296)]
  | .heelEnd _ h reserved => [(h.tag, 4294967296), (reserved, 4294967296)]
  | .monitorTrip _ cond _ => [(cond, 5)]
  | .outputReadbackFault _ _ _ => []
  | .leashDiscrepancy _ => []
  | .leashArm _ comp => [(comp, 4294967296)]
  | .armPinRelease _ _ => []
  | .leashArmed _ => []
  | .leashSelftest _ _ => []
  | .leashTestNow _ _ => []
  | .heelPinAssert _ => []
  | .heelPinRelease _ => []
  | .partnerTrip _ _ d => [(d.length, 65536)]
  | .leashPartnerDiff _ => []
  | .frameReceive _ port sub d _ => [(port, 10), (sub, 256), (d.length, 65536)]
  | .learnEvent _ => []
  | .macAging _ => []
  | .moveCountReset _ => []
  | .pinHoldExpiry _ i => [(i, 65536)]
  | .linkChange _ port _ speed => [(port, 10), (speed, 4294967296)]
  | .p9FrameExpiry _ => []
  | .macAdd _ h mac vid port sub reserved => [(h.tag, 4294967296), (mac, 281474976710656), (vid, 65536), (port, 256), (sub, 256), (reserved, 65536)]
  | .macDel _ h mac vid => [(h.tag, 4294967296), (mac, 281474976710656), (vid, 65536)]
  | .macFlush _ h port flags vid => [(h.tag, 4294967296), (port, 256), (flags, 256), (vid, 65536)]
  | .vlanSet _ h vid member untag flags => [(h.tag, 4294967296), (vid, 65536), (member, 65536), (untag, 65536), (flags, 65536)]
  | .rifSet _ h rif flags vid ip4 len4 reserved ip6 => [(h.tag, 4294967296), (rif, 256), (flags, 256), (vid, 65536), (ip4, 4294967296), (len4, 256), (reserved, 72057594037927936), (ip6, 340282366920938463463374607431768211456)]
  | .nhSet _ h nh flags mac vid => [(h.tag, 4294967296), (nh, 65536), (flags, 65536), (mac, 281474976710656), (vid, 65536)]
  | .routeAdd _ h family plen nh pfx reserved => [(h.tag, 4294967296), (family, 256), (plen, 256), (nh, 65536), (pfx, 340282366920938463463374607431768211456), (reserved, 4294967296)]
  | .routeDel _ h family plen nh pfx reserved => [(h.tag, 4294967296), (family, 256), (plen, 256), (nh, 65536), (pfx, 340282366920938463463374607431768211456), (reserved, 4294967296)]
  | .swParityFail _ table index => [(table, 256), (index, 4294967296)]
  | .packetTx _ n data => [(n, 10), (data.length, 65536)]
  | .swTblSel _ v => [(v, 4294967296)]
  | .heartbeatTx _ => []
  | .heartbeatRx _ _ d mac => [(d.length, 65536), (mac, 281474976710656)]
  | .heartbeatMiss _ _ _ => []
  | .holdInChange _ _ => []
  | .braceClaim _ => []
  | .gateOpen _ => []
  | .claimRetry _ => []
  | .keepaliveExpiry _ => []
  | .joinWaitExpiry _ => []
  | .takeover _ => []
  | .handover _ h atTick reserved => [(h.tag, 4294967296), (atTick, 4294967296), (reserved, 4294967296)]
  | .braceResync _ h reserved => [(h.tag, 4294967296), (reserved, 4294967296)]
  | .handoverRelease _ => []
  | .handoverAbort _ => []
  | .autoReturn _ => []
  | .shepDelta _ d => [(d.length, 65536)]
  | .motDelta _ d => [(d.length, 65536)]
  | .ack _ d => [(d.length, 65536)]
  | .ackDeadline _ => []
  | .tickEnd _ d => [(d.length, 65536)]
  | .sfSync _ d => [(d.length, 65536)]
  | .fullReq _ d => [(d.length, 65536)]
  | .fullData _ d => [(d.length, 65536)]
  | .fullDone _ d => [(d.length, 65536)]
  | .handoverMsg _ d => [(d.length, 65536)]
  | .handoverAck _ d => [(d.length, 65536)]
  | .stepAnnounce _ d => [(d.length, 65536)]
  | .loadBlob _ h slot reserved addr size _ => [(h.tag, 4294967296), (slot, 256), (reserved, 16777216), (addr, 18446744073709551616), (size, 4294967296)]
  | .erase _ h slot reserved => [(h.tag, 4294967296), (slot, 256), (reserved, 16777216)]
  | .derive _ h parent slot type labelLen use user label context => [(h.tag, 4294967296), (parent, 256), (slot, 256), (type, 256), (labelLen, 256), (use, 65536), (user, 65536), (label.length, 65536), (context.length, 65536)]
  | .wrap _ h slot parent bind reserved addr size serial reserved2 _ => [(h.tag, 4294967296), (slot, 256), (parent, 256), (bind, 256), (reserved, 256), (addr, 18446744073709551616), (size, 4294967296), (serial, 4294967296), (reserved2, 4294967296)]
  | .rootGen _ h flags reserved => [(h.tag, 4294967296), (flags, 256), (reserved, 16777216)]
  | .quote _ h nonce => [(h.tag, 4294967296), (nonce.length, 65536)]
  | .extend _ h index reserved digest => [(h.tag, 4294967296), (index, 256), (reserved, 16777216), (digest.length, 65536)]
  | .sign _ h slot reserved digest => [(h.tag, 4294967296), (slot, 256), (reserved, 16777216), (digest.length, 65536)]
  | .verify _ h slot reserved digest sig => [(h.tag, 4294967296), (slot, 256), (reserved, 16777216), (digest.length, 65536), (sig.length, 65536)]
  | .fuseProg _ h reserved _ => [(h.tag, 4294967296), (reserved, 4294967296)]
  | .orphanZeroise _ => []
  | .tamperDetect _ src _ => [(src, 6)]
  | .tamperReset _ => []
  | .tamperSleep _ src => [(src, 6)]
  | .kenTamperClr _ comp => [(comp, 4294967296)]
  | .kenZeroise _ comp => [(comp, 4294967296)]
  | .kenReadmit _ comp => [(comp, 4294967296)]
  | .vbatLow _ => []
  | .gnssReadmit _ comp => [(comp, 4294967296)]
  | .packReadmit _ comp => [(comp, 4294967296)]
  | .motReadmit _ comp => [(comp, 4294967296)]
  | .airReadmit _ comp => [(comp, 4294967296)]
  | .swReadmit _ comp => [(comp, 4294967296)]
  | .stage _ h offset size addr flags _ _ => [(h.tag, 4294967296), (offset, 4294967296), (size, 4294967296), (addr, 18446744073709551616), (flags, 4294967296)]
  | .packageVerify _ h reserved => [(h.tag, 4294967296), (reserved, 4294967296)]
  | .install _ h reserved => [(h.tag, 4294967296), (reserved, 4294967296)]
  | .installComplete _ _ => []
  | .activate _ h atTick flags reserved => [(h.tag, 4294967296), (atTick, 4294967296), (flags, 256), (reserved, 16777216)]
  | .cancel _ h reserved => [(h.tag, 4294967296), (reserved, 4294967296)]
  | .cancelDeadline _ => []
  | .activationRestart _ => []
  | .pairWaitExpiry _ => []
  | .confirm _ h reserved => [(h.tag, 4294967296), (reserved, 4294967296)]
  | .rollback _ h atTick => [(h.tag, 4294967296), (atTick, 4294967296)]
  | .trialExpiry _ => []
  | .updFuseSvn _ comp => [(comp, 4294967296)]
  | .pwrReq _ comp => [(comp, 4294967296)]
  | .domainSettled _ d => [(d, 12)]
  | .dozeSilence _ => []
  | .dozeEnter _ => []
  | .hibernateEnter _ => []
  | .runResume _ => []
  | .wakePin _ => []
  | .wakeAlarm _ => []
  | .powerOn _ _ _ => []
  | .brownOut _ _ => []
  | .rstN _ => []
  | .watchdogExpiry _ => []
  | .perstN _ => []
  | .pwrSoftReset _ comp => [(comp, 4294967296)]
  | .startUp _ _ _ => []
  | .opSecCount _ => []
  | .vinLow _ _ => []
  | .overtemp _ _ => []
  | .recWrite _ => []
  | .recCurSel _ sq => [(sq, 4294967296)]
  | .recNext _ => []
  | .recOldestRing _ => []
  | .recOldestProt _ => []
  | .recClearRing _ comp => [(comp, 4294967296)]
  | .recClearProt _ comp => [(comp, 4294967296)]
  | .record _ h payload => [(h.tag, 4294967296), (payload.length, 65536)]
  | .snapListWrite _ list _ => [(list, 16)]
  | .perfDump _ => []
  | .dumpNow _ h reserved => [(h.tag, 4294967296), (reserved, 4294967296)]
  | .glbErrIrqEnWrite _ v => [(v, 4294967296)]
  | .msixVectorUnmask _ v => [(v, 32)]
  | .announceReceiptTimeout _ p => [(p, 10)]
  | .pdelayReqTx _ p _ => [(p, 10)]
  | .egressTransmit _ port => [(port, 10)]
  | .vbatLoss _ => []
  | .leashSelftestEnd _ _ => []

/-- Every operand is within its limit. -/
def Instr.wellFormed (i : Instr) : Bool := i.limits.all fun p => decide (p.1 < p.2)

end Sys2Proof
end

