-- ==== Sys2Proof/Tests/Slice0.lean ====
section
/-! SUPPORT. Tests: ill-formed commands are refused, worked examples of the spec, and for every statement with hypotheses a state and operands that meet them. -/

open Sys2Proof Sys2Proof.Machine

set_option linter.unusedVariables false

namespace Sys2Proof.Tests

set_option Elab.async false

/-- A whole register, as a field. -/
def w (a : Nat) : Fld := ⟨a, 31, 0⟩

/-- A module in its first tick or later, the domains of `dom` powered, the fields listed at the values given, all other registers as after reset. -/
def upD (dom : Nat) (l : List (Fld × Nat)) : Mod :=
  l.foldl (fun m e => m.setF e.1 e.2) { Mod.reset.wr R.PWR_DOM_STAT dom with pwr := { PwrSt.reset with step := 10 } }

/-- The same with every domain powered. -/
def up (l : List (Fld × Nat)) : Mod := upD 4095 l

/-- A machine at power-on, with no command waiting. -/
def st (m : Mod) : State := { clk := Clock.powerOn, m := m, pending := [] }

/-- A machine at the start of tick `n`. -/
def stAt (n : Nat) (m : Mod) : State :=
  { clk := { raw := n * 12500000, ancC := 0, ancT := 0, rate := 0, tickNo := n, tickStart := n * uPerTick, tickRaw := n * 12500000,
             tickEnd := (n + 1) * uPerTick }, m := m, pending := [] }

/-- A machine with a guard armed at once. -/
def armed (m : Mod) (x v : Nat) : State := st { m with glb := { m.glb with guard := some { off := x, val := BitVec.ofNat 32 v, armedAt := 0 } } }

def hdr : Hdr := { tag := 7, noResult := false }

/-- A guard just armed is ready for its complement. -/
theorem ready (m : Mod) (x v comp : Nat) (ho : m.opens x = true) (hv : v < 4294967296) (hc : BitVec.ofNat 32 comp = ~~~BitVec.ofNat 32 v)
    (hr : reservedVal m x v = false) : GuardReady (armed m x v) 0 x v comp := ⟨ho, hv, hc, hr, 0, rfl, Nat.zero_le _⟩

/-! ### Each check of WellFormed refuses an ill-formed command -/

def h0 : Hdr := { tag := 0, noResult := false }
def dump0 : DumpIn := { pli := 0, carrLock := true, codeLock := true, bitSync := true, timeRes := true, halfRes := true, cn0 := 40, acc := [], doppler := 0, fwRate := 0, fwFreq := 0, found := true }
def job0 : SearchJob := { host := true, tag := 7, noResult := false, acceptTick := 0, sys := 0, sv := 3, sig := 0, gloK := 0, doppCtr := 0, doppHalf := 1000, coh := 1, noncoh := 1, codeStart := 0, codeCells := 1, channel := 0xFFFF }
def asu0 : AsuIn := { op := 0, amb := 5, nodes := 0, ratio := 300, ints := [], sats := 5 }
def ann0 : AnnounceIn := { wellFormed := true, domain := 24, data := [], interval := 0 }

theorem illFormed_of {i : Instr} {p : Nat × Nat} (hp : p ∈ i.limits) (h : p.2 ≤ p.1) : i.wellFormed = false := by
  cases hw : i.wellFormed with
  | false => rfl
  | true => have := List.all_eq_true.mp hw p hp; simp at this; omega

/-- Commands elementFault to ringEnable, each with one operand at its limit. -/
theorem test_illFormed_1 : ∀ i ∈ (
    [.elementFault 0 7 0, .elementRetryEnd 0 7 0, .registerWrite 0 barBytes 0 0, .registerWrite 0 0 4294967296 0, .registerWrite 0 0 0 16,
     .unmappedAccess 0 barBytes false, .poweredOffAccess 0 barBytes false, .guardArm 0 barBytes 0, .guardArm 0 0 4294967296,
     .guardCommit 0 barBytes 0, .guardCommit 0 0 4294967296, .mbxSelect 0 barBytes 0, .mbxSelect 0 0 4294967296, .mbxSnapshotReady 0 barBytes,
     .mbxDataRead 0 barBytes, .mbxDataWrite 0 barBytes 0, .mbxDataWrite 0 0 4294967296, .glbApply 0 4294967296, .glbCfgRefCommit 0 4294967296,
     .glbErrClear 0 4294967296, .glbSwReset 0 4294967296, .ringDoorbell 0 10 0, .ringDoorbell 0 0 4294967296, .ringEnable 0 10] : List Instr), i.wellFormed = false := by
  decide +kernel

/-- Commands ringStop to pullinTimeout, each with one operand at its limit. -/
theorem test_illFormed_2 : ∀ i ∈ (
    [.ringStop 0 10, .ringFlush 0 10, .ringFlushDone 0 10, .ringReset 0 10, .ringResetDone 0 10, .ringConsWrite 0 10 0,
     .ringConsWrite 0 0 4294967296, .descriptorFetch 0 10 [], .itemEnqueue 0 10 0 [], .itemEnqueue 0 0 256 [], .itemDmaToHost 0 10,
     .descriptorComplete 0 10, .dmaFault 0 10 false 0 0 none, .dmaFault 0 0 false 256 0 none, .dmaFault 0 0 false 0 18446744073709551616 none,
     .busMasterDisable 0 18446744073709551616 false, .ringCoalTimeout 0 10, .ringIrqEnWrite 0 4294967296, .bandJam 0 3 0, .bandJamClear 0 3 0,
     .gnssChAssign 0 320 0, .gnssChAssign 0 0 4294967296, .channelDump 0 320 dump0, .pullinTimeout 0 320] : List Instr), i.wellFormed = false := by
  decide +kernel

/-- Commands lostTimeout to loadGraph, each with one operand at its limit. -/
theorem test_illFormed_3 : ∀ i ∈ (
    [.lostTimeout 0 320, .search 0 { tag := 4294967296, noResult := false } job0 0, .search 0 h0 job0 65536,
     .searchCancel 0 { tag := 4294967296, noResult := false } 0, .searchCancel 0 h0 4294967296,
     .steer 0 { tag := 4294967296, noResult := false } 0 0 0 0 0 0 0, .steer 0 h0 65536 0 0 0 0 0 0, .steer 0 h0 0 65536 0 0 0 0 0,
     .steer 0 h0 0 0 4294967296 0 0 0 0, .steer 0 h0 0 0 0 4294967296 0 0 0, .steer 0 h0 0 0 0 0 4294967296 0 0, .steer 0 h0 0 0 0 0 0 4294967296 0,
     .steer 0 h0 0 0 0 0 0 0 4294967296, .accStream 0 { tag := 4294967296, noResult := false } 0 0 0, .accStream 0 h0 65536 0 0,
     .accStream 0 h0 0 256 0, .accStream 0 h0 0 0 1099511627776, .hostCoastExpiry 0 320, .gnssCal 0 320 0, .baseMoveCheck 0 0 4294967296,
     .flowEnd 0 257 .fault, .asuSearchEnd 0 257 asu0, .loadGraph 0 { tag := 4294967296, noResult := false } 0 0 none,
     .loadGraph 0 h0 18446744073709551616 0 none] : List Instr), i.wellFormed = false := by
  decide +kernel

/-- Commands loadGraph to release, each with one operand at its limit. -/
theorem test_illFormed_4 : ∀ i ∈ (
    [.loadGraph 0 h0 0 4294967296 none, .unloadGraph 0 { tag := 4294967296, noResult := false } 0 0, .unloadGraph 0 h0 256 0,
     .unloadGraph 0 h0 0 16777216, .roverFilterReset 0 256, .timeSet 0 18446744073709551616 0, .timeSet 0 0 4294967296, .pulseEdge 0 8,
     .pulseEnd 0 8, .captureEdge 0 4 false, .timeCapPop 0 4, .ptpAnnounceRx 0 10 ann0, .ptpGmTx 0 10 0, .ptpGmTx 0 0 3,
     .loadNet 0 { tag := 4294967296, noResult := false } 0 0 none, .loadNet 0 h0 18446744073709551616 0 none, .loadNet 0 h0 0 4294967296 none,
     .activateNet 0 { tag := 4294967296, noResult := false } 0 0, .activateNet 0 h0 4294967296 0, .activateNet 0 h0 0 4294967296,
     .route 0 { tag := 4294967296, noResult := false } [], .release 0 { tag := 4294967296, noResult := false } 0 0 0, .release 0 h0 256 0 0,
     .release 0 h0 0 256 0] : List Instr), i.wellFormed = false := by
  decide +kernel

/-- Commands release to taskDone, each with one operand at its limit. -/
theorem test_illFormed_5 : ∀ i ∈ (
    [.release 0 h0 0 0 65536, .place 0 { tag := 4294967296, noResult := false } 0 0 0, .place 0 h0 256 0 0, .place 0 h0 0 256 0,
     .place 0 h0 0 0 65536, .unblock 0 { tag := 4294967296, noResult := false } 0 0, .unblock 0 h0 65536 0, .unblock 0 h0 0 65536,
     .taskAdd 0 { tag := 4294967296, noResult := false } 0 0 0 0 0 0 0 0 0, .taskAdd 0 h0 65536 0 0 0 0 0 0 0 0, .taskAdd 0 h0 0 256 0 0 0 0 0 0 0,
     .taskAdd 0 h0 0 0 256 0 0 0 0 0 0, .taskAdd 0 h0 0 0 0 4294967296 0 0 0 0 0, .taskAdd 0 h0 0 0 0 0 65536 0 0 0 0,
     .taskAdd 0 h0 0 0 0 0 0 65536 0 0 0, .taskAdd 0 h0 0 0 0 0 0 0 4294967296 0 0, .taskAdd 0 h0 0 0 0 0 0 0 0 4294967296 0,
     .taskAdd 0 h0 0 0 0 0 0 0 0 0 4294967296, .taskCancel 0 { tag := 4294967296, noResult := false } 0 0, .taskCancel 0 h0 65536 0,
     .taskCancel 0 h0 0 65536, .taskDone 0 { tag := 4294967296, noResult := false } 0 0, .taskDone 0 h0 65536 0, .taskDone 0 h0 0 65536] : List Instr), i.wellFormed = false := by
  decide +kernel

/-- Commands spanOverstay to home, each with one operand at its limit. -/
theorem test_illFormed_6 : ∀ i ∈ (
    [.spanOverstay 0 65536 0, .taskExpiry 0 4096, .spanPoison 0 65536 0, .netParityError 0 65536, .shepTblSel 0 4294967296,
     .move 0 { tag := 4294967296, noResult := false } 0 0 0 0 0 0 0, .move 0 h0 65536 0 0 0 0 0 0, .move 0 h0 0 65536 0 0 0 0 0,
     .move 0 h0 0 0 18446744073709551616 0 0 0 0, .move 0 h0 0 0 0 4294967296 0 0 0, .move 0 h0 0 0 0 0 4294967296 0 0,
     .move 0 h0 0 0 0 0 0 4294967296 0, .move 0 h0 0 0 0 0 0 0 4294967296, .convoy 0 { tag := 4294967296, noResult := false } 0 0 0 0 [],
     .convoy 0 h0 256 0 0 0 [], .convoy 0 h0 0 256 0 0 [], .convoy 0 h0 0 0 65536 0 [], .convoy 0 h0 0 0 0 4294967296 [],
     .home 0 { tag := 4294967296, noResult := false } 0 0 0 0 0, .home 0 h0 65536 0 0 0 0, .home 0 h0 0 256 0 0 0, .home 0 h0 0 0 256 0 0,
     .home 0 h0 0 0 0 4294967296 0, .home 0 h0 0 0 0 0 18446744073709551616] : List Instr), i.wellFormed = false := by
  decide +kernel

/-- Commands halt to downlinkTx, each with one operand at its limit. -/
theorem test_illFormed_7 : ∀ i ∈ (
    [.halt 0 { tag := 4294967296, noResult := false } 0 0 0, .halt 0 h0 65536 0 0, .halt 0 h0 0 256 0, .halt 0 h0 0 0 256,
     .setPos 0 { tag := 4294967296, noResult := false } 0 0 0, .setPos 0 h0 65536 0 0, .setPos 0 h0 0 65536 0, .setPos 0 h0 0 0 18446744073709551616,
     .clear 0 { tag := 4294967296, noResult := false } 0 0, .clear 0 h0 65536 0, .clear 0 h0 0 65536, .stepEdge 0 256, .stepTrackCheck 0 256,
     .switchInputEdge 0 64 false, .inputQualified 0 64, .chatterEnd 0 64, .homingRange 0 256, .moveEnd 0 256, .stopEnd 0 256, .setpointFrameTx 0 256,
     .statusTimeout 0 256, .tokenTx 0 2, .beaconTx 0 2, .downlinkTx 0 2] : List Instr), i.wellFormed = false := by
  decide +kernel

/-- Commands dataTx to macAdd, each with one operand at its limit. -/
theorem test_illFormed_8 : ∀ i ∈ (
    [.dataTx 0 2, .dropFrameTx 0 2, .clearDrift 0 256, .leashInputDeenergise 0 2, .leashPulseTolExpiry 0 2, .leashInputEnergise 0 2,
     .leashTrip 0 4294967296, .trip 0 { tag := 4294967296, noResult := false } 0, .trip 0 h0 4294967296,
     .heelAll 0 { tag := 4294967296, noResult := false } 0, .heelAll 0 h0 4294967296, .heelEnd 0 { tag := 4294967296, noResult := false } 0,
     .heelEnd 0 h0 4294967296, .monitorTrip 0 5 false, .leashArm 0 4294967296, .frameReceive 0 10 0 [] false, .frameReceive 0 0 256 [] false,
     .pinHoldExpiry 0 65536, .linkChange 0 10 false 0, .linkChange 0 0 false 4294967296,
     .macAdd 0 { tag := 4294967296, noResult := false } 0 0 0 0 0, .macAdd 0 h0 281474976710656 0 0 0 0, .macAdd 0 h0 0 65536 0 0 0,
     .macAdd 0 h0 0 0 256 0 0] : List Instr), i.wellFormed = false := by
  decide +kernel

/-- Commands macAdd to nhSet, each with one operand at its limit. -/
theorem test_illFormed_9 : ∀ i ∈ (
    [.macAdd 0 h0 0 0 0 256 0, .macAdd 0 h0 0 0 0 0 65536, .macDel 0 { tag := 4294967296, noResult := false } 0 0, .macDel 0 h0 281474976710656 0,
     .macDel 0 h0 0 65536, .macFlush 0 { tag := 4294967296, noResult := false } 0 0 0, .macFlush 0 h0 256 0 0, .macFlush 0 h0 0 256 0,
     .macFlush 0 h0 0 0 65536, .vlanSet 0 { tag := 4294967296, noResult := false } 0 0 0 0, .vlanSet 0 h0 65536 0 0 0, .vlanSet 0 h0 0 65536 0 0,
     .vlanSet 0 h0 0 0 65536 0, .vlanSet 0 h0 0 0 0 65536, .rifSet 0 { tag := 4294967296, noResult := false } 0 0 0 0 0 0 0,
     .rifSet 0 h0 256 0 0 0 0 0 0, .rifSet 0 h0 0 256 0 0 0 0 0, .rifSet 0 h0 0 0 65536 0 0 0 0, .rifSet 0 h0 0 0 0 4294967296 0 0 0,
     .rifSet 0 h0 0 0 0 0 256 0 0, .rifSet 0 h0 0 0 0 0 0 72057594037927936 0, .rifSet 0 h0 0 0 0 0 0 0 340282366920938463463374607431768211456,
     .nhSet 0 { tag := 4294967296, noResult := false } 0 0 0 0, .nhSet 0 h0 65536 0 0 0] : List Instr), i.wellFormed = false := by
  decide +kernel

/-- Commands nhSet to braceResync, each with one operand at its limit. -/
theorem test_illFormed_10 : ∀ i ∈ (
    [.nhSet 0 h0 0 65536 0 0, .nhSet 0 h0 0 0 281474976710656 0, .nhSet 0 h0 0 0 0 65536,
     .routeAdd 0 { tag := 4294967296, noResult := false } 0 0 0 0 0, .routeAdd 0 h0 256 0 0 0 0, .routeAdd 0 h0 0 256 0 0 0,
     .routeAdd 0 h0 0 0 65536 0 0, .routeAdd 0 h0 0 0 0 340282366920938463463374607431768211456 0, .routeAdd 0 h0 0 0 0 0 4294967296,
     .routeDel 0 { tag := 4294967296, noResult := false } 0 0 0 0 0, .routeDel 0 h0 256 0 0 0 0, .routeDel 0 h0 0 256 0 0 0,
     .routeDel 0 h0 0 0 65536 0 0, .routeDel 0 h0 0 0 0 340282366920938463463374607431768211456 0, .routeDel 0 h0 0 0 0 0 4294967296,
     .swParityFail 0 256 0, .swParityFail 0 0 4294967296, .packetTx 0 10 [], .swTblSel 0 4294967296, .heartbeatRx 0 false [] 281474976710656,
     .handover 0 { tag := 4294967296, noResult := false } 0 0, .handover 0 h0 4294967296 0, .handover 0 h0 0 4294967296,
     .braceResync 0 { tag := 4294967296, noResult := false } 0] : List Instr), i.wellFormed = false := by
  decide +kernel

/-- Commands braceResync to wrap, each with one operand at its limit. -/
theorem test_illFormed_11 : ∀ i ∈ (
    [.braceResync 0 h0 4294967296, .loadBlob 0 { tag := 4294967296, noResult := false } 0 0 0 0 none, .loadBlob 0 h0 256 0 0 0 none,
     .loadBlob 0 h0 0 16777216 0 0 none, .loadBlob 0 h0 0 0 18446744073709551616 0 none, .loadBlob 0 h0 0 0 0 4294967296 none,
     .erase 0 { tag := 4294967296, noResult := false } 0 0, .erase 0 h0 256 0, .erase 0 h0 0 16777216,
     .derive 0 { tag := 4294967296, noResult := false } 0 0 0 0 0 0 [] [], .derive 0 h0 256 0 0 0 0 0 [] [], .derive 0 h0 0 256 0 0 0 0 [] [],
     .derive 0 h0 0 0 256 0 0 0 [] [], .derive 0 h0 0 0 0 256 0 0 [] [], .derive 0 h0 0 0 0 0 65536 0 [] [], .derive 0 h0 0 0 0 0 0 65536 [] [],
     .wrap 0 { tag := 4294967296, noResult := false } 0 0 0 0 0 0 0 0 false, .wrap 0 h0 256 0 0 0 0 0 0 0 false, .wrap 0 h0 0 256 0 0 0 0 0 0 false,
     .wrap 0 h0 0 0 256 0 0 0 0 0 false, .wrap 0 h0 0 0 0 256 0 0 0 0 false, .wrap 0 h0 0 0 0 0 18446744073709551616 0 0 0 false,
     .wrap 0 h0 0 0 0 0 0 4294967296 0 0 false, .wrap 0 h0 0 0 0 0 0 0 4294967296 0 false] : List Instr), i.wellFormed = false := by
  decide +kernel

/-- Commands wrap to motReadmit, each with one operand at its limit. -/
theorem test_illFormed_12 : ∀ i ∈ (
    [.wrap 0 h0 0 0 0 0 0 0 0 4294967296 false, .rootGen 0 { tag := 4294967296, noResult := false } 0 0, .rootGen 0 h0 256 0,
     .rootGen 0 h0 0 16777216, .quote 0 { tag := 4294967296, noResult := false } [], .extend 0 { tag := 4294967296, noResult := false } 0 0 [],
     .extend 0 h0 256 0 [], .extend 0 h0 0 16777216 [], .sign 0 { tag := 4294967296, noResult := false } 0 0 [], .sign 0 h0 256 0 [],
     .sign 0 h0 0 16777216 [], .verify 0 { tag := 4294967296, noResult := false } 0 0 [] [], .verify 0 h0 256 0 [] [], .verify 0 h0 0 16777216 [] [],
     .fuseProg 0 { tag := 4294967296, noResult := false } 0 [], .fuseProg 0 h0 4294967296 [], .tamperDetect 0 6 false, .tamperSleep 0 6,
     .kenTamperClr 0 4294967296, .kenZeroise 0 4294967296, .kenReadmit 0 4294967296, .gnssReadmit 0 4294967296, .packReadmit 0 4294967296,
     .motReadmit 0 4294967296] : List Instr), i.wellFormed = false := by
  decide +kernel

/-- Commands airReadmit to domainSettled, each with one operand at its limit. -/
theorem test_illFormed_13 : ∀ i ∈ (
    [.airReadmit 0 4294967296, .swReadmit 0 4294967296, .stage 0 { tag := 4294967296, noResult := false } 0 0 0 0 none false,
     .stage 0 h0 4294967296 0 0 0 none false, .stage 0 h0 0 4294967296 0 0 none false, .stage 0 h0 0 0 18446744073709551616 0 none false,
     .stage 0 h0 0 0 0 4294967296 none false, .packageVerify 0 { tag := 4294967296, noResult := false } 0, .packageVerify 0 h0 4294967296,
     .install 0 { tag := 4294967296, noResult := false } 0, .install 0 h0 4294967296, .activate 0 { tag := 4294967296, noResult := false } 0 0 0,
     .activate 0 h0 4294967296 0 0, .activate 0 h0 0 256 0, .activate 0 h0 0 0 16777216, .cancel 0 { tag := 4294967296, noResult := false } 0,
     .cancel 0 h0 4294967296, .confirm 0 { tag := 4294967296, noResult := false } 0, .confirm 0 h0 4294967296,
     .rollback 0 { tag := 4294967296, noResult := false } 0, .rollback 0 h0 4294967296, .updFuseSvn 0 4294967296, .pwrReq 0 4294967296,
     .domainSettled 0 12] : List Instr), i.wellFormed = false := by
  decide +kernel

/-- Commands pwrSoftReset to egressTransmit, each with one operand at its limit. -/
theorem test_illFormed_14 : ∀ i ∈ (
    [.pwrSoftReset 0 4294967296, .recCurSel 0 4294967296, .recClearRing 0 4294967296, .recClearProt 0 4294967296,
     .record 0 { tag := 4294967296, noResult := false } [], .snapListWrite 0 16 [], .dumpNow 0 { tag := 4294967296, noResult := false } 0,
     .dumpNow 0 h0 4294967296, .glbErrIrqEnWrite 0 4294967296, .msixVectorUnmask 0 32, .announceReceiptTimeout 0 10, .pdelayReqTx 0 10 none,
     .egressTransmit 0 10] : List Instr), i.wellFormed = false := by
  decide +kernel

/-- Commands with a byte string of 64 KiB or more. -/
theorem test_illFormed_15 (d : List Byte) (hd : 65536 ≤ d.length) : ∀ i ∈ (
    [.descriptorFetch 0 0 d, .commandDispatch 0 d, .itemEnqueue 0 0 0 d, .route 0 h0 d, .statusFrameRx 0 d, .partnerTrip 0 false d,
     .frameReceive 0 0 0 d false, .packetTx 0 0 d, .heartbeatRx 0 false d 0, .shepDelta 0 d, .motDelta 0 d, .ack 0 d, .tickEnd 0 d, .sfSync 0 d,
     .fullReq 0 d, .fullData 0 d, .fullDone 0 d, .handoverMsg 0 d, .handoverAck 0 d, .stepAnnounce 0 d, .derive 0 h0 0 0 0 0 0 0 d [],
     .derive 0 h0 0 0 0 0 0 0 [] d, .quote 0 h0 d, .extend 0 h0 0 0 d, .sign 0 h0 0 0 d, .verify 0 h0 0 0 d [], .verify 0 h0 0 0 [] d, .record 0 h0 d] : List Instr), i.wellFormed = false := by
  simp only [List.forall_mem_cons]
  exact ⟨illFormed_of (p := (d.length, 65536)) (List.mem_of_getElem? (i := 1) rfl) hd,
    illFormed_of (p := (d.length, 65536)) (List.mem_of_getElem? (i := 0) rfl) hd,
    illFormed_of (p := (d.length, 65536)) (List.mem_of_getElem? (i := 2) rfl) hd,
    illFormed_of (p := (d.length, 65536)) (List.mem_of_getElem? (i := 1) rfl) hd,
    illFormed_of (p := (d.length, 65536)) (List.mem_of_getElem? (i := 0) rfl) hd,
    illFormed_of (p := (d.length, 65536)) (List.mem_of_getElem? (i := 0) rfl) hd,
    illFormed_of (p := (d.length, 65536)) (List.mem_of_getElem? (i := 2) rfl) hd,
    illFormed_of (p := (d.length, 65536)) (List.mem_of_getElem? (i := 1) rfl) hd,
    illFormed_of (p := (d.length, 65536)) (List.mem_of_getElem? (i := 0) rfl) hd,
    illFormed_of (p := (d.length, 65536)) (List.mem_of_getElem? (i := 0) rfl) hd,
    illFormed_of (p := (d.length, 65536)) (List.mem_of_getElem? (i := 0) rfl) hd,
    illFormed_of (p := (d.length, 65536)) (List.mem_of_getElem? (i := 0) rfl) hd,
    illFormed_of (p := (d.length, 65536)) (List.mem_of_getElem? (i := 0) rfl) hd,
    illFormed_of (p := (d.length, 65536)) (List.mem_of_getElem? (i := 0) rfl) hd,
    illFormed_of (p := (d.length, 65536)) (List.mem_of_getElem? (i := 0) rfl) hd,
    illFormed_of (p := (d.length, 65536)) (List.mem_of_getElem? (i := 0) rfl) hd,
    illFormed_of (p := (d.length, 65536)) (List.mem_of_getElem? (i := 0) rfl) hd,
    illFormed_of (p := (d.length, 65536)) (List.mem_of_getElem? (i := 0) rfl) hd,
    illFormed_of (p := (d.length, 65536)) (List.mem_of_getElem? (i := 0) rfl) hd,
    illFormed_of (p := (d.length, 65536)) (List.mem_of_getElem? (i := 0) rfl) hd,
    illFormed_of (p := (d.length, 65536)) (List.mem_of_getElem? (i := 7) rfl) hd,
    illFormed_of (p := (d.length, 65536)) (List.mem_of_getElem? (i := 8) rfl) hd,
    illFormed_of (p := (d.length, 65536)) (List.mem_of_getElem? (i := 1) rfl) hd,
    illFormed_of (p := (d.length, 65536)) (List.mem_of_getElem? (i := 3) rfl) hd,
    illFormed_of (p := (d.length, 65536)) (List.mem_of_getElem? (i := 3) rfl) hd,
    illFormed_of (p := (d.length, 65536)) (List.mem_of_getElem? (i := 3) rfl) hd,
    illFormed_of (p := (d.length, 65536)) (List.mem_of_getElem? (i := 4) rfl) hd,
    illFormed_of (p := (d.length, 65536)) (List.mem_of_getElem? (i := 1) rfl) hd, fun i hi => absurd hi List.not_mem_nil⟩

/-! ### Worked examples of the spec, one command each -/

/-- What a command leaves, read off its next state; nothing where it answers none. -/
def left (c : Instr) (s : State) (f : Mod → List Nat) : List Nat :=
  match exec c s with
  | .next t => f t.m
  | _ => []

/-- A machine at the start of the tick that begins at 1,400,000,000.140 s. -/
def tickN (m : Mod) : State :=
  { clk := { raw := 0, ancC := 0, ancT := 140000000014 * uPerTick, rate := 0, tickNo := 140000000014, tickStart := 140000000014 * uPerTick,
             tickRaw := 0, tickEnd := 140000000015 * uPerTick }, m := m, pending := [] }

/-- 00_scope, worked example: tick counter, phase and superframe number at 1,400,000,000.120 s. -/
theorem test_clock : ({ Clock.powerOn with tickNo := 140000000012 } : Clock).tick = 2561046540 ∧ ({ Clock.powerOn with tickNo := 140000000012 } : Clock).phase = 2
    ∧ ({ Clock.powerOn with tickNo := 140000000012 } : Clock).sf = 3073 := by decide

/-- 10_leash, worked example: LEASH_IN_A opens at T+4.237 ms. LEASH_IN_B is still on (offset 8 of LEASH_STAT, as 16_recorder's REC_WIN13 shows). -/
theorem test_leashTrip :
    left (.leashInputDeenergise 5296250 0)
      (tickN { up [(F.LEASH_STAT_STATE, 2), (F.LEASH_STAT_IN_A, 1), (F.LEASH_STAT_IN_B, 1), (F.LEASH_STAT_OUT_A, 1), (F.LEASH_STAT_OUT_B, 1),
          (F.LEASH_CTL_PULSE_TOL, 0), (w R.LEASH_TRIP_ID, 0x41), (F.BRACE_STAT_ROLE, 0), (F.BRACE_STAT_GATE_OPEN, 1)] with
        leash := { LeashSt.reset with a := { at_ := 0, off := false }, b := { at_ := 0, off := false } } })
      (fun m => [m.rd R.LEASH_STAT, m.rd R.LEASH_TRIP_ID, m.rd R.LEASH_TRIP_NS, m.rd R.LEASH_TRIP_WRAP, m.rd R.LEASH_TRIP_TICK])
    = [0x00010008, 0x42, 0x2624E1C8, 0xCC95, 0x98A6780E] := by decide +kernel

/-- 03_host_rings, worked example: doorbell 0x42 from 0x3E with 64 descriptors is accepted. -/
theorem test_doorbell :
    left (.ringDoorbell 0 0 0x42) (st { up [(F.RING_STAT_STATE 0, 1), (w (R.RING_PROD 0), 0x3E), (w (R.RING_CONS 0), 0x3E)] with
        ring := { RingBlk.reset with rings := [(0, { RingSt.off with log2 := 6 })] } })
      (fun m => [m.rd (R.RING_PROD 0), m.rd (R.RING_STAT 0)]) = [0x42, 1] := by decide +kernel

/-- The same, later: doorbell 0x30 from 0x42 is refused, and RING_STAT reads READY and BAD_DB. -/
theorem test_doorbell_bad :
    left (.ringDoorbell 0 0 0x30) (st { up [(F.RING_STAT_STATE 0, 1), (w (R.RING_PROD 0), 0x42), (w (R.RING_CONS 0), 0x42)] with
        ring := { RingBlk.reset with rings := [(0, { RingSt.off with log2 := 6 })] } })
      (fun m => [m.rd (R.RING_PROD 0), m.rd (R.RING_STAT 0)]) = [0x42, 0x00010001] := by decide +kernel

/-- 06_timebase, worked example: U(0.11 s) from U0 = 3 ns reads 4 and U(7,210 s) after 2 °C reads 159 (default F0, aging and temperature terms). -/
theorem test_holdover :
    let f (n dT : Nat) := holdoverNs 3000 (Mod.reset.rd R.TIME_HO_F0 % 65536) (Mod.reset.rd R.TIME_HO_AGING % 65536) (Mod.reset.rd R.TIME_HO_TEMP % 65536) n dT
    [f (msRaw 110) 0, f (secRaw 7210) 200] = [4, 159] := by decide +kernel

/-- 09_air, worked example: airtimes on SG at 100 kb/s with 4 octets of preamble, in µs. -/
theorem test_sgAir : [40, 292, 36].map (up [(F.AIR_SG_CFG_PRE, 4)]).sgAir = [4160, 24320, 3840] := by decide +kernel

/-- 02_register_model: an armed guard with a good complement trips the Leash; a wrong one does not (R61). -/
theorem test_guard :
    left (.leashTrip 0 0xFFFFFFFE) (armed (up [(F.LEASH_STAT_STATE, 2), (F.BRACE_STAT_ROLE, 0)]) R.LEASH_TRIP 1) (fun m => [m.lstate]) = [0]
    ∧ left (.leashTrip 0 0xFFFFFFFF) (armed (up [(F.LEASH_STAT_STATE, 2), (F.BRACE_STAT_ROLE, 0)]) R.LEASH_TRIP 1) (fun m => [m.lstate, m.rd R.GLB_ERR % 1024]) = [2, 8] := by
  decide +kernel

/-- A command with no state in which it holds leaves the machine as it is, but for the clock and the outputs. -/
theorem test_noEffect : left (.gateOpen 0) (st (up [])) (fun m => [m.rd R.BRACE_STAT]) = [(up []).rd R.BRACE_STAT] := by decide +kernel

/-- A command put in front is the one a step takes (host interface). -/
theorem test_step : step { st (up []) with pending := [.rstN 0] } = exec (.rstN 0) (st (up [])) := rfl

/-! ### The hypotheses of the statements are met -/

/-- Hypotheses of StepTakesFront that are met. -/
theorem witness_StepTakesFront :
    (∃ (s : State) (c : Instr) (rest : List Instr), s.pending = c :: rest)
    ∧ (∃ (s : State), s.pending = []) :=
  ⟨⟨{ st (up []) with pending := [.rstN 0] }, .rstN 0, [], rfl⟩,
    ⟨st (up []), rfl⟩⟩

/-- Hypotheses of StepKeepsClockSound that are met. -/
theorem witness_StepKeepsClockSound :
    ∃ (s t : State), s.clk.sound ∧ step s = .next t :=
  ⟨State.reset, State.reset, ⟨by decide, by decide⟩, rfl⟩

/-- Hypotheses of GuardArmsAndExpires that are met. -/
theorem witness_GuardArmsAndExpires :
    (∃ (s : State) (dt x v : Nat), s.m.opens x = true ∧ isGuarded x = true ∧ s.m.glb.guard = none)
    ∧ (∃ (s : State) (dt x v : Nat) (g : Guard), s.m.opens x = true ∧ isGuarded x = true ∧ s.m.glb.guard = some g ∧ s.clk.raw + dt ≤ g.armedAt + msRaw 1)
    ∧ (∃ (s : State) (dt : Nat) (g : Guard), s.m.glb.guard = some g ∧ g.armedAt + msRaw 1 < s.clk.raw + dt)
    ∧ (∃ (s : State) (dt : Nat) (g : Guard), s.m.glb.guard = some g ∧ s.clk.raw + dt ≤ g.armedAt + msRaw 1) :=
  ⟨⟨st (up []), 5, R.LEASH_TRIP, 1, by decide +kernel⟩,
    ⟨armed (up []) R.LEASH_ARM 1, 1250000, R.LEASH_TRIP, 1, { off := R.LEASH_ARM, val := 1, armedAt := 0 }, by decide +kernel⟩,
    ⟨armed (up []) R.LEASH_ARM 1, 1250001, { off := R.LEASH_ARM, val := 1, armedAt := 0 }, by decide +kernel⟩,
    ⟨armed (up []) R.LEASH_ARM 1, 1250000, { off := R.LEASH_ARM, val := 1, armedAt := 0 }, by decide +kernel⟩⟩

/-- Hypotheses of GuardedCommitsTakeEffect that are met. -/
theorem witness_GuardedCommitsTakeEffect :
    (∃ (s : State) (dt x v comp : Nat) (r : RegRow),
      GuardReady s dt x v comp ∧ rowOf x = some r ∧ r.acc = .grd ∧ x ∉ [R.GLB_CFG_REF, R.GLB_SW_RESET, R.PWR_REQ, R.PWR_SOFT_RESET, R.REC_CLEAR_RING, R.REC_CLEAR_PROT, R.LEASH_TRIP, R.LEASH_ARM, R.KEN_TAMPER_CLR, R.KEN_ZEROISE, R.KEN_READMIT, R.UPD_FUSE_SVN, R.GNSS_READMIT, R.PACK_READMIT, R.MOT_READMIT, R.AIR_READMIT, R.SW_READMIT])
    ∧ (∃ (s : State) (dt v comp : Nat), GuardReady s dt R.GLB_CFG_REF v comp)
    ∧ (∃ (s : State) (dt v comp : Nat), GuardReady s dt R.GNSS_READMIT v comp)
    ∧ (∃ (s : State) (dt v comp : Nat), GuardReady s dt R.PACK_READMIT v comp)
    ∧ (∃ (s : State) (dt v comp : Nat), GuardReady s dt R.MOT_READMIT v comp)
    ∧ (∃ (s : State) (dt v comp : Nat), GuardReady s dt R.AIR_READMIT v comp)
    ∧ (∃ (s : State) (dt v comp : Nat), GuardReady s dt R.SW_READMIT v comp)
    ∧ (∃ (s : State) (dt v comp : Nat), GuardReady s dt R.KEN_READMIT v comp)
    ∧ (∃ (s : State) (dt v comp : Nat), GuardReady s dt R.REC_CLEAR_RING v comp)
    ∧ (∃ (s : State) (dt v comp : Nat), GuardReady s dt R.REC_CLEAR_PROT v comp)
    ∧ (∃ (s : State) (dt v comp : Nat), GuardReady s dt R.PWR_SOFT_RESET v comp)
    ∧ (∃ (s : State) (dt v comp : Nat), GuardReady s dt R.PWR_REQ v comp ∧ s.m.running = true)
    ∧ (∃ (s : State) (dt v comp : Nat), GuardReady s dt R.GLB_SW_RESET v comp) :=
  ⟨⟨armed (up []) R.GLB_CFG_MASK 3, 0, R.GLB_CFG_MASK, 3, 4294967292, (rowOf R.GLB_CFG_MASK).get (by decide +kernel),
      ready _ _ _ _ (by decide +kernel) (by decide) (by decide) (by decide +kernel), by decide +kernel, by decide +kernel, by decide +kernel⟩,
    ⟨armed (up []) R.GLB_CFG_REF 9, 0, 9, 4294967286, ready _ _ _ _ (by decide +kernel) (by decide) (by decide) (by decide +kernel)⟩,
    ⟨armed (up []) R.GNSS_READMIT 319, 0, 319, 4294966976, ready _ _ _ _ (by decide +kernel) (by decide) (by decide) (by decide +kernel)⟩,
    ⟨armed (up []) R.PACK_READMIT 31, 0, 31, 4294967264, ready _ _ _ _ (by decide +kernel) (by decide) (by decide) (by decide +kernel)⟩,
    ⟨armed (up []) R.MOT_READMIT 255, 0, 255, 4294967040, ready _ _ _ _ (by decide +kernel) (by decide) (by decide) (by decide +kernel)⟩,
    ⟨armed (up []) R.AIR_READMIT 99, 0, 99, 4294967196, ready _ _ _ _ (by decide +kernel) (by decide) (by decide) (by decide +kernel)⟩,
    ⟨armed (up []) R.SW_READMIT 9, 0, 9, 4294967286, ready _ _ _ _ (by decide +kernel) (by decide) (by decide) (by decide +kernel)⟩,
    ⟨armed (up []) R.KEN_READMIT 4, 0, 4, 4294967291, ready _ _ _ _ (by decide +kernel) (by decide) (by decide) (by decide +kernel)⟩,
    ⟨armed (up []) R.REC_CLEAR_RING 4294967295, 0, 4294967295, 0, ready _ _ _ _ (by decide +kernel) (by decide) (by decide) (by decide +kernel)⟩,
    ⟨armed (up []) R.REC_CLEAR_PROT 4294967295, 0, 4294967295, 0, ready _ _ _ _ (by decide +kernel) (by decide) (by decide) (by decide +kernel)⟩,
    ⟨armed (up []) R.PWR_SOFT_RESET 8, 0, 8, 4294967287, ready _ _ _ _ (by decide +kernel) (by decide) (by decide) (by decide +kernel)⟩,
    ⟨armed (up []) R.PWR_REQ 2, 0, 2, 4294967293, ready _ _ _ _ (by decide +kernel) (by decide) (by decide) (by decide +kernel), by decide +kernel⟩,
    ⟨armed (up []) R.GLB_SW_RESET 1, 0, 1, 4294967294, ready _ _ _ _ (by decide +kernel) (by decide) (by decide) (by decide +kernel)⟩⟩

/-- Hypotheses of GuardedCommitsFail that are met. -/
theorem witness_GuardedCommitsFail :
    (∃ (s : State) (dt x comp : Nat) (g : Guard),
      s.m.opens x = true ∧ isGuarded x = true ∧ s.m.glb.guard = some g ∧ g.off = x ∧ s.clk.raw + dt ≤ g.armedAt + msRaw 1 ∧ (BitVec.ofNat 32 comp ≠ ~~~g.val ∨ reservedVal s.m x g.val.toNat = true) ∧ x ≠ R.GLB_SW_RESET)
    ∧ (∃ (s : State) (dt x comp : Nat), s.m.opens x = true ∧ isGuarded x = true ∧ s.m.glb.guard = none ∧ x ≠ R.GLB_SW_RESET) :=
  ⟨⟨armed (up []) R.LEASH_TRIP 1, 1250000, R.LEASH_TRIP, 0, { off := R.LEASH_TRIP, val := 1, armedAt := 0 }, by decide +kernel⟩,
    ⟨st (up []), 0, R.LEASH_TRIP, 4294967294, by decide +kernel⟩⟩

/-- Hypotheses of LeashCommitsAcceptOne that are met. -/
theorem witness_LeashCommitsAcceptOne :
    (∃ (s : State) (dt v comp armed : Nat),
      s.m.opens R.LEASH_TRIP = true ∧ v < 4294967296 ∧ BitVec.ofNat 32 comp = ~~~BitVec.ofNat 32 v ∧ s.clk.raw + dt ≤ armed + msRaw 1 ∧ s.m.glb.guard = some { off := R.LEASH_TRIP, val := BitVec.ofNat 32 v, armedAt := armed })
    ∧ (∃ (s : State) (dt v comp armed : Nat),
      s.m.opens R.LEASH_TRIP = true ∧ v < 4294967296 ∧ BitVec.ofNat 32 comp = ~~~BitVec.ofNat 32 v ∧ s.clk.raw + dt ≤ armed + msRaw 1 ∧ s.m.glb.guard = some { off := R.LEASH_ARM, val := BitVec.ofNat 32 v, armedAt := armed }) :=
  ⟨⟨armed (up []) R.LEASH_TRIP 2, 1250000, 2, 4294967293, 0, by decide +kernel⟩,
    ⟨armed (up []) R.LEASH_ARM 1, 1250000, 1, 4294967294, 0, by decide +kernel⟩⟩

/-- Hypotheses of HostAccesses that are met. -/
theorem witness_HostAccesses :
    (∃ (s : State) (dt a v be : Nat) (r : RegRow),
      rowOf a = some r ∧ a % 4 = 0 ∧ r.acc = .rw ∧ shadowed a = true ∧ (∀ c < 320, a ≠ R.GNSS_CH_ASSIGN c) ∧ s.m.opens a = true ∧ v < 4294967296 ∧ 0 < be ∧ be < 16)
    ∧ (∃ (s : State) (dt a : Nat) (w : Bool), s.m.barUp = true ∧ a % 4 = 0 ∧ rowOf a = none)
    ∧ (∃ (s : State) (dt a b : Nat) (w : Bool), s.m.barUp = true ∧ a % 4 = 0 ∧ rowOf a ≠ none ∧ blockOf a = some b ∧ s.m.blkOn b = false) :=
  ⟨⟨st (up []), 0, R.TIME_SRC_CTL, 5, 15, (rowOf R.TIME_SRC_CTL).get (by decide +kernel), by decide +kernel⟩,
    ⟨st (up []), 0, 0xFFC, true, by decide +kernel⟩,
    ⟨st (upD 1 []), 0, 65536, 9, true, by decide +kernel⟩⟩

/-- Hypotheses of PoweredOffWriteFrame that are met. -/
theorem witness_PoweredOffWriteFrame :
    ∃ (s : State) (dt a b : Nat), s.m.barUp = true ∧ a % 4 = 0 ∧ rowOf a ≠ none ∧ blockOf a = some b ∧ s.m.blkOn b = false :=
  ⟨st (upD 1 []), 0, 65536, 9, by decide +kernel⟩

/-- Hypotheses of ApplyPending that are met. -/
theorem witness_ApplyPending :
    (∃ (s : State) (dt mask : Nat), s.m.barUp = true ∧ mask % 65536 ≠ 0 ∧ s.m.glb.apply = none ∧ s.m.on F.GLB_CFG_STAT_REFUSING = false)
    ∧ (∃ (s : State) (dt mask at_ m0 : Nat), s.m.barUp = true ∧ mask % 65536 ≠ 0 ∧ s.m.glb.apply = some (at_, m0)) :=
  ⟨⟨st (up []), 0, 1, by decide +kernel⟩,
    ⟨st { up [] with glb := { GlbSt.reset with apply := some (5, 1) } }, 0, 1, 5, 1, by decide +kernel⟩⟩

/-- Hypotheses of GlbEvents that are met. -/
theorem witness_GlbEvents :
    (∃ (s : State) (dt at_ mask : Nat), s.m.glb.apply = some (at_, mask) ∧ s.m.barUp = true ∧ at_ ≤ s.clk.raw + dt ∧ at_ < (s.now dt).nextBoundary)
    ∧ (∃ (s : State) (dt : Nat),
      (s.now dt).ended = true ∧ (s.now dt).beginTick.tickNo % 8 = 0 ∧ s.m.barUp = true ∧ s.m.glb.judgedAt ≠ some (s.now dt).beginTick.tickNo ∧ s.m.glb.walking = false)
    ∧ (∃ (s : State) (dt mask : Nat), s.m.barUp = true)
    ∧ (∃ (s : State) (dt v : Nat), s.m.barUp = true ∧ (v % 1024 &&& (1023 - s.m.rd R.GLB_ERR_IRQ_EN % 1024) &&& s.m.rd R.GLB_ERR) = 0) :=
  ⟨⟨st { up [] with glb := { GlbSt.reset with apply := some (100, 1) } }, 100, 100, 1, by decide +kernel⟩,
    ⟨stAt 7 (up []), 12500000, by decide +kernel⟩,
    ⟨st (up []), 0, 1, by decide +kernel⟩,
    ⟨st (up []), 0, 0, by decide +kernel⟩⟩

/-- Hypotheses of MailboxSequences that are met. -/
theorem witness_MailboxSequences :
    (∃ (s : State) (dt sel v : Nat), sel ∈ mbxSels ∧ s.m.opens sel = true)
    ∧ (∃ (s : State) (dt sel : Nat) (q : MbxSeq), s.m.opens sel = true ∧ AMap.find s.m.glb.mbx sel = some q ∧ q.write = false ∧ s.m.bit (sel + 4) 1 = true)
    ∧ (∃ (s : State) (dt sel : Nat) (q : MbxSeq) (w : Word) (rest : List Word),
      sel ∈ mbxSels ∧ s.m.opens sel = true ∧ s.m.opens (sel + 8) = true ∧ AMap.find s.m.glb.mbx sel = some q ∧ s.m.mbxValid sel = true ∧ q.write = false ∧ q.data = w :: rest)
    ∧ (∃ (s : State) (dt sel v : Nat) (q : MbxSeq),
      sel ∈ mbxSels ∧ s.m.opens (sel + 8) = true ∧ AMap.find s.m.glb.mbx sel = some q ∧ s.m.mbxValid sel = true ∧ q.write = true ∧ q.data.length + 1 < q.words) :=
  ⟨⟨st (up []), 0, R.GLB_MBX_SEL, 0, by decide +kernel⟩,
    
      ⟨st { up [(w (R.GLB_MBX_SEL + 4), 2)] with glb := { GlbSt.reset with mbx := [(R.GLB_MBX_SEL, { item := 1, inst := 0, write := false, words := 1, data := [5] })] } },
      0, R.GLB_MBX_SEL, { item := 1, inst := 0, write := false, words := 1, data := [5] }, by decide +kernel⟩,
    
      ⟨st { up [(w (R.GLB_MBX_SEL + 4), 1)] with glb := { GlbSt.reset with mbx := [(R.GLB_MBX_SEL, { item := 1, inst := 0, write := false, words := 1, data := [5] })] } },
      0, R.GLB_MBX_SEL, { item := 1, inst := 0, write := false, words := 1, data := [5] }, 5, [], by decide +kernel⟩,
    
      ⟨st { up [(w (R.GLB_MBX_SEL + 4), 1)] with glb := { GlbSt.reset with mbx := [(R.GLB_MBX_SEL, { item := 1, inst := 0, write := true, words := 2, data := [] })] } },
      0, R.GLB_MBX_SEL, 9, { item := 1, inst := 0, write := true, words := 2, data := [] }, by decide +kernel⟩⟩

/-- Hypotheses of DoorbellsAdvanceOrFail that are met. -/
theorem witness_DoorbellsAdvanceOrFail :
    (∃ (s : State) (dt n v : Nat), n < 10 ∧ s.m.opens (R.RING_DB n) = true ∧ (s.m.ringState n = 1 ∨ s.m.ringState n = 2) ∧ s.m.doorbellOk n v)
    ∧ (∃ (s : State) (dt n v : Nat), n < 10 ∧ s.m.opens (R.RING_DB n) = true ∧ (s.m.ringState n = 0 ∨ s.m.ringState n = 3 ∨ ¬ s.m.doorbellOk n v)) :=
  ⟨⟨st (up [(F.RING_STAT_STATE 0, 1)]), 0, 0, 0, by decide +kernel, by decide +kernel, by decide +kernel, (by unfold Mod.doorbellOk; decide +kernel)⟩,
    ⟨st (up []), 0, 0, 0, by decide +kernel, by decide +kernel, Or.inl (by decide +kernel)⟩⟩

/-- Hypotheses of RingControl that are met. -/
theorem witness_RingControl :
    (∃ (s : State) (dt n : Nat),
      n < 10 ∧ s.m.opens (R.RING_CTL n) = true ∧ s.m.on (F.RING_CTL_EN n) = false ∧ s.m.ringResetting n = false ∧ s.m.ringState n = 0 ∧ s.m.setupCode n = 0)
    ∧ (∃ (s : State) (dt n : Nat),
      n < 10 ∧ s.m.opens (R.RING_CTL n) = true ∧ s.m.on (F.RING_CTL_EN n) = false ∧ s.m.ringResetting n = false ∧ s.m.ringState n = 2)
    ∧ (∃ (s : State) (dt n : Nat), n < 10 ∧ s.m.opens (R.RING_CTL n) = true ∧ s.m.on (F.RING_CTL_EN n) = true ∧ s.m.ringState n = 1)
    ∧ (∃ (s : State) (dt n : Nat), n < 10 ∧ s.m.opens (R.RING_CTL n) = true ∧ s.m.ringState n = 1 ∧ ringIn n = true)
    ∧ (∃ (s : State) (dt n : Nat), n < 10 ∧ s.m.on (F.RING_CTL_FLUSH n) = true ∧ s.m.flushSettled n = true)
    ∧ (∃ (s : State) (dt n : Nat), n < 10 ∧ s.m.opens (R.RING_CTL n) = true)
    ∧ (∃ (s : State) (dt n : Nat), n < 10 ∧ s.m.ringResetting n = true)
    ∧ (∃ (s : State) (dt n v : Nat),
      n < 10 ∧ s.m.opens (R.RING_CONS n) = true ∧ s.m.ringState n = 2 ∧ v < (s.m.rng n).span ∧ (s.m.rd (R.RING_PROD n) + (s.m.rng n).span - v % (s.m.rng n).span) % (s.m.rng n).span ≤ 2 ^ (s.m.rng n).log2) :=
  ⟨⟨st (up [(w (R.RING_SIZE 0), 16), (w (R.RING_CFG 0), 2)]), 0, 0, by decide +kernel⟩,
    ⟨st (up [(F.RING_STAT_STATE 0, 2)]), 0, 0, by decide +kernel⟩,
    ⟨st (up [(F.RING_STAT_STATE 0, 1), (F.RING_CTL_EN 0, 1)]), 0, 0, by decide +kernel⟩,
    ⟨st (up [(F.RING_STAT_STATE 0, 1)]), 0, 0, by decide +kernel⟩,
    ⟨st (up [(F.RING_CTL_FLUSH 0, 1)]), 0, 0, by decide +kernel⟩,
    ⟨st (up []), 0, 0, by decide +kernel⟩,
    ⟨st (up [(F.RING_CTL_RESET 0, 1)]), 0, 0, by decide +kernel⟩,
    ⟨st (up [(F.RING_STAT_STATE 0, 2)]), 0, 0, 0, by decide +kernel⟩⟩

/-- Hypotheses of RingTransport that are met. -/
theorem witness_RingTransport :
    (∃ (s : State) (dt n : Nat) (b : List Byte), s.m.mayFetch n = true)
    ∧ (∃ (s : State) (dt n kind : Nat) (d : List Byte),
      ringCarries n kind = true ∧ d.length ≤ ringMax n ∧ s.m.mayItem n = true ∧ s.m.ringState n ≠ 0 ∧ (s.m.rng n).queue.length < ringDepth n)
    ∧ (∃ (s : State) (dt n : Nat), n < 10 ∧ ringIn n = false ∧ s.m.ringState n = 1 ∧ s.m.ringResetting n = false)
    ∧ (∃ (s : State) (dt n : Nat), s.m.mayComplete n = true)
    ∧ (∃ (s : State) (dt n cause addr : Nat) (w : Bool) (on : Option Nat), n < 10 ∧ s.m.ringState n = 1)
    ∧ (∃ (s : State) (dt n : Nat),
      n < 10 ∧ s.m.fld (F.RING_COAL_TIME n) ≠ 0 ∧ 0 < (s.m.rng n).uncovered ∧ (s.m.rng n).uncoveredAt + usRaw (s.m.fld (F.RING_COAL_TIME n)) ≤ s.clk.raw + dt)
    ∧ (∃ (s : State) (dt v : Nat), s.m.opens R.RING_IRQ_EN = true)
    ∧ (∃ (s : State) (dt : Nat), s.m.opens R.RING_DMA_ERR_INFO = true)
    ∧ (∃ (s : State) (dt v : Nat), v < 32 ∧ s.m.barUp = true ∧ s.m.ring.msixPend.testBit v = true) :=
  ⟨⟨st { up [(F.RING_STAT_STATE 0, 1), (w (R.RING_PROD 0), 1)] with ring := { RingBlk.reset with rings := [(0, { RingSt.off with log2 := 4 })] } }, 0, 0,
      [], by decide +kernel⟩,
    ⟨st { up [(F.RING_STAT_STATE 4, 1)] with ring := { RingBlk.reset with rings := [(4, { RingSt.off with log2 := 4 })] } }, 0, 4, 0x30, [],
      by decide +kernel⟩,
    ⟨st (up [(F.RING_STAT_STATE 1, 1)]), 0, 1, by decide +kernel⟩,
    ⟨st (up [(F.RING_STAT_STATE 1, 1)]), 0, 1, by decide +kernel⟩,
    ⟨st (up [(F.RING_STAT_STATE 0, 1)]), 0, 0, 1, 64, true, none, by decide +kernel⟩,
    
      ⟨st { up [(F.RING_STAT_STATE 1, 1), (F.RING_COAL_TIME 1, 1)] with ring := { RingBlk.reset with rings := [(1, { RingSt.off with log2 := 4, uncovered := 1 })] } },
      1250, 1, by decide +kernel⟩,
    ⟨st (up []), 0, 1, by decide +kernel⟩,
    ⟨st (up []), 0, by decide +kernel⟩,
    ⟨st { up [] with ring := { RingBlk.reset with msixPend := 1 } }, 0, 0, by decide +kernel⟩⟩

/-- Hypotheses of ResultsPosted that are met. -/
theorem witness_ResultsPosted :
    (∃ (m : Mod) (k : Clock) (block opcode code : Nat) (h : Hdr) (p : List Byte), m.takesResult = true ∧ (h.noResult = false ∨ code ≠ 0))
    ∧ (∃ (m : Mod) (k : Clock) (block opcode code : Nat) (h : Hdr) (p : List Byte), m.takesResult = true ∧ h.noResult = true ∧ code = 0)
    ∧ (∃ (m : Mod) (k : Clock) (block opcode code : Nat) (h : Hdr) (p : List Byte), m.takesResult = true) :=
  ⟨⟨up [(F.RING_STAT_STATE 1, 1)], Clock.powerOn, 11, 1, 0, hdr, [], by decide +kernel⟩,
    ⟨up [(F.RING_STAT_STATE 1, 1)], Clock.powerOn, 11, 1, 0, { hdr with noResult := true }, [], by decide +kernel⟩,
    ⟨up [(F.RING_STAT_STATE 1, 1)], Clock.powerOn, 11, 1, 0, hdr, [], by decide +kernel⟩⟩

/-- Hypotheses of FaultsRetryOrRetire that are met. -/
theorem witness_FaultsRetryOrRetire :
    (∃ (m : Mod) (k : Clock) (kind i : Nat),
      m.isRetired kind i = false ∧ k.tickNo ∉ (m.elemAt kind i).recent k.tickNo ∧ (m.elemAt kind i).retry = false ∧ (m.elemAt kind i).restored ≠ some k.tickNo ∧ ((m.elemAt kind i).recent k.tickNo).length < 2)
    ∧ (∃ (m : Mod) (k : Clock) (kind i : Nat),
      m.isRetired kind i = false ∧ k.tickNo ∉ (m.elemAt kind i).recent k.tickNo ∧ ((m.elemAt kind i).retry = true ∨ (m.elemAt kind i).restored = some k.tickNo ∨ 2 ≤ ((m.elemAt kind i).recent k.tickNo).length)) :=
  ⟨⟨up [], Clock.powerOn, 0, 3, by decide +kernel⟩,
    ⟨{ up [] with elem := [(elemKey 0 3, { Elem.good with retry := true })] }, Clock.powerOn, 0, 3, by decide +kernel⟩⟩

/-- Hypotheses of ElementsAndBackground that are met. -/
theorem witness_ElementsAndBackground :
    (∃ (s : State) (dt kind i : Nat), s.m.elemUp kind = true)
    ∧ (∃ (s : State) (dt kind i : Nat), s.m.elemUp kind = true ∧ (s.now dt).ended = true)
    ∧ (∃ (s : State) (dt : Nat),
      s.m.running = true ∧ s.m.pstate = 0 ∧ 0 < (s.clk.raw + dt - s.m.back.scrubAt) / usRaw 64 ∧ (s.clk.raw + dt - s.m.back.scrubAt) / usRaw 64 ≤ 4)
    ∧ (∃ (s : State) (dt : Nat), s.m.running = true ∧ s.m.pstate = 0 ∧ s.m.back.parityTick < s.clk.tickNo)
    ∧ (∃ (s : State) (dt : Nat), s.m.running = true ∧ s.m.pstate = 0)
    ∧ (∃ (s : State) (dt c : Nat) (bias : Int), s.m.live? 9 = true ∧ s.m.on F.GNSS_CTL_EN = true ∧ c < 320 ∧ s.m.calOpen c = true) :=
  ⟨⟨st (up []), 0, 0, 3, by decide +kernel⟩,
    ⟨st (up []), 12500000, 0, 3, by decide +kernel⟩,
    ⟨st (up []), usRaw 64, by decide +kernel⟩,
    ⟨stAt 1 (up []), 0, by decide +kernel⟩,
    ⟨st (up []), 0, by decide +kernel⟩,
    ⟨st (up [(F.GNSS_CTL_EN, 1)]), 0, 3, 0, by decide +kernel⟩⟩

/-- Hypotheses of AntennaAndJamming that are met. -/
theorem witness_AntennaAndJamming :
    (∃ (s : State) (dt band : Nat) (p : Int), s.m.blkOn 9 = true ∧ band < 3 ∧ ((s.m.rd R.GNSS_JAM_THR % 256 : Nat) : Int) < p)
    ∧ (∃ (s : State) (dt band : Nat) (p : Int), s.m.blkOn 9 = true ∧ band < 3 ∧ p < ((s.m.rd R.GNSS_JAM_THR % 256 : Nat) : Int))
    ∧ (∃ (s : State) (dt mA : Nat) (limit : Bool), s.m.domOn 4 = true ∧ s.m.gnss.biasRemoved = false)
    ∧ (∃ (s : State) (dt mA : Nat) (limit : Bool), s.m.domOn 4 = true ∧ s.m.gnss.biasRemoved = true ∧ s.m.gnss.biasAt + secRaw 10 ≤ s.clk.raw + dt) :=
  ⟨⟨st (up []), 0, 1, 300, by decide +kernel⟩,
    ⟨st (up []), 0, 1, -1, by decide +kernel⟩,
    ⟨st (up []), 0, 5, false, by decide +kernel⟩,
    ⟨st { up [] with gnss := { GnssSt.reset with biasRemoved := true } }, secRaw 10, 5, false, by decide +kernel⟩⟩

/-- Hypotheses of ChannelCommands that are met. -/
theorem witness_ChannelCommands :
    (∃ (s : State) (dt c v : Nat), c < 320 ∧ s.m.opens (R.GNSS_CH_ASSIGN c) = true ∧ s.m.hostPool c = true)
    ∧ (∃ (s : State) (dt c : Nat) (d : DumpIn), s.m.live? 9 = true ∧ c < 320 ∧ s.m.chState c = 3)
    ∧ (∃ (s : State) (dt c : Nat) (d : DumpIn), s.m.live? 9 = true ∧ c < 320 ∧ s.m.chState c = 2)
    ∧ (∃ (s : State) (dt c : Nat), s.m.live? 9 = true ∧ c < 320 ∧ s.m.chState c = 2 ∧ (s.m.gch c).since + msRaw 500 ≤ s.clk.raw + dt)
    ∧ (∃ (s : State) (dt c : Nat), s.m.live? 9 = true ∧ c < 320 ∧ s.m.chState c = 4 ∧ (s.m.gch c).since + secRaw 10 ≤ s.clk.raw + dt)
    ∧ (∃ (s : State) (dt c : Nat), s.m.live? 9 = true ∧ c < 320 ∧ (s.now dt).ended = true ∧ s.m.coastDue c = true) :=
  ⟨⟨st (up [(w R.GNSS_CH_POOL, 0)]), 0, 3, 0, by decide +kernel⟩,
    ⟨st (up [(F.GNSS_CH_STAT_STATE 3, 3)]), 0, 3,
      { pli := 0, carrLock := true, codeLock := true, bitSync := true, timeRes := true, halfRes := true, cn0 := 40, acc := [], doppler := 0, fwRate := 0, fwFreq := 0, found := true },
      by decide +kernel⟩,
    ⟨st (up [(F.GNSS_CH_STAT_STATE 3, 2)]), 0, 3,
      { pli := 0, carrLock := true, codeLock := true, bitSync := true, timeRes := true, halfRes := true, cn0 := 40, acc := [], doppler := 0, fwRate := 0, fwFreq := 0, found := true },
      by decide +kernel⟩,
    ⟨st (up [(F.GNSS_CH_STAT_STATE 3, 2)]), msRaw 500, 3, by decide +kernel⟩,
    ⟨st (up [(F.GNSS_CH_STAT_STATE 3, 4)]), secRaw 10, 3, by decide +kernel⟩,
    ⟨st { up [(w R.GNSS_CH_POOL, 0), (F.GNSS_CH_CTL_LOOP 3, 1)] with gnss := { GnssSt.reset with ch := [(3, { GnssCh.idle with noSteer := 255 })] } },
      12500000, 3, by decide +kernel⟩⟩

/-- Hypotheses of GnssRingCommands that are met. -/
theorem witness_GnssRingCommands :
    (∃ (s : State) (dt : Nat) (h : Hdr), s.m.live? 9 = true)
    ∧ (∃ (s : State) (dt reserved : Nat) (h : Handed) (j : SearchJob), s.m.searchCode j reserved = 0)
    ∧ (∃ (s : State) (dt tag : Nat) (h : Handed) (j : SearchJob) (at_ : Nat) (c : Bool),
      s.m.gnss.jobs.find? (fun j => j.host && j.tag == tag) = none ∧ s.m.gnss.running = some (j, at_, c) ∧ j.host = true ∧ j.tag = tag)
    ∧ (∃ (s : State) (dt c flags rate freq codeAdj carrAdj : Nat) (h : Handed), flags ≤ 3 ∧ s.m.hostChCode c = 0 ∧ (s.m.gch c).steer = none)
    ∧ (∃ (s : State) (dt c : Nat) (h : Handed),
      s.m.hostChCode c = 0 ∧ (s.m.gch c).stream = none ∧ (s.m.gnss.ch.filter fun p => p.2.stream.isSome).length < 16)
    ∧ (∃ (s : State) (dt : Nat) (j : SearchJob), s.m.live? 9 = true ∧ s.m.gnss.running = none ∧ nextJob s.m.gnss.jobs s.m.gnss.lastHost = some j)
    ∧ (∃ (s : State) (dt at_ : Nat) (i : SearchIn) (j : SearchJob),
      s.m.live? 9 = true ∧ s.m.gnss.running = some (j, at_, false) ∧ at_ + msRaw (j.dwell * (j.passes + (if i.strong then s.m.verifyN else 0))) ≤ s.clk.raw + dt ∧ j.host = false ∧ i.strong = false) :=
  ⟨⟨st (up []), 0, hdr, by decide +kernel⟩,
    ⟨st (up [(w R.GNSS_SIG_EN, 1)]), 0, 0, { block := 9, opcode := 1, tag := 7, noResult := false, acceptTick := 0 },
      { host := true, tag := 7, noResult := false, acceptTick := 0, sys := 0, sv := 3, sig := 0, gloK := 0, doppCtr := 0, doppHalf := 1000, coh := 1, noncoh := 1, codeStart := 0, codeCells := 1, channel := 0xFFFF },
      by decide +kernel⟩,
    
      ⟨st { up [] with gnss := { GnssSt.reset with running := some ({ host := true, tag := 7, noResult := false, acceptTick := 0, sys := 0, sv := 3, sig := 0, gloK := 0, doppCtr := 0, doppHalf := 1000, coh := 1, noncoh := 1, codeStart := 0, codeCells := 1, channel := 0xFFFF }, 0, false) } },
      0, 7, { block := 9, opcode := 1, tag := 7, noResult := false, acceptTick := 0 },
      { host := true, tag := 7, noResult := false, acceptTick := 0, sys := 0, sv := 3, sig := 0, gloK := 0, doppCtr := 0, doppHalf := 1000, coh := 1, noncoh := 1, codeStart := 0, codeCells := 1, channel := 0xFFFF },
      0, false, by decide +kernel⟩,
    ⟨st (up [(w R.GNSS_CH_POOL, 0), (F.GNSS_CH_CTL_LOOP 3, 1)]), 0, 3, 0, 0, 0, 0, 0,
      { block := 9, opcode := 1, tag := 7, noResult := false, acceptTick := 0 }, by decide +kernel⟩,
    ⟨st (up [(w R.GNSS_CH_POOL, 0), (F.GNSS_CH_CTL_LOOP 3, 1)]), 0, 3, { block := 9, opcode := 1, tag := 7, noResult := false, acceptTick := 0 },
      by decide +kernel⟩,
    
      ⟨st { up [] with gnss := { GnssSt.reset with jobs := [{ host := true, tag := 7, noResult := false, acceptTick := 0, sys := 0, sv := 3, sig := 0, gloK := 0, doppCtr := 0, doppHalf := 1000, coh := 1, noncoh := 1, codeStart := 0, codeCells := 1, channel := 0xFFFF }] } },
      0,
      { host := true, tag := 7, noResult := false, acceptTick := 0, sys := 0, sv := 3, sig := 0, gloK := 0, doppCtr := 0, doppHalf := 1000, coh := 1, noncoh := 1, codeStart := 0, codeCells := 1, channel := 0xFFFF },
      by decide +kernel⟩,
    
      ⟨st { up [] with gnss := { GnssSt.reset with running := some ({ host := false, tag := 7, noResult := false, acceptTick := 0, sys := 0, sv := 3, sig := 0, gloK := 0, doppCtr := 0, doppHalf := 1000, coh := 1, noncoh := 1, codeStart := 0, codeCells := 1, channel := 0xFFFF }, 0, false) } },
      secRaw 100, 0, { strong := false, verified := false, xcorr := false, metric := 0, codeCell := 0, doppler := 0 },
      { host := false, tag := 7, noResult := false, acceptTick := 0, sys := 0, sv := 3, sig := 0, gloK := 0, doppCtr := 0, doppHalf := 1000, coh := 1, noncoh := 1, codeStart := 0, codeCells := 1, channel := 0xFFFF },
      by decide +kernel⟩⟩

/-- Hypotheses of MeasurementsAndEphemerides that are met. -/
theorem witness_MeasurementsAndEphemerides :
    (∃ (s : State) (dt : Nat), s.m.live? 9 = true ∧ (s.now dt).lateTick = true ∧ s.m.gnss.set_.isSome = true)
    ∧ (∃ (s : State) (dt sys sv : Nat) (healthy : Bool) (isb : Option Int), s.m.live? 9 = true ∧ svOk sys sv = true) :=
  ⟨
      ⟨st { up [] with gnss := { GnssSt.reset with set_ := some { tick := 0, valid := [], track := [], sats := 0, fixValid := false, used := 0, excl := 0, rms := 0, fixErr := 0, bobsValid := false, clockStep := false } } },
      12000000, by decide +kernel⟩,
    ⟨st (up []), 0, 0, 3, true, none, by decide +kernel⟩⟩

/-- Hypotheses of BasePosition that are met. -/
theorem witness_BasePosition :
    (∃ (s : State) (dt : Nat), s.m.opens R.PACK_BASE_CMD = true ∧ s.m.fld F.PACK_BASE_CTL_SOURCE = 0)
    ∧ (∃ (s : State) (dt : Nat) (x y z : Int),
      s.m.live? 10 = true ∧ s.m.baseState = 1 ∧ s.clk.tickNo % 100 = 1 ∧ s.m.fixNow = true ∧ s.m.pack.svyTick ≠ some s.clk.tickNo)
    ∧ (∃ (s : State) (dt h v : Nat), s.m.live? 10 = true ∧ s.m.baseGood = true ∧ (s.m.moveThr < h ∨ s.m.moveThr < v))
    ∧ (∃ (s : State) (dt acc : Nat) (x y z arpH : Int), s.m.opens R.PACK_MBX_DATA = true)
    ∧ (∃ (s : State) (dt : Nat) (ws : List Word), s.m.opens R.PACK_MBX_DATA = true) :=
  ⟨⟨st (up []), 0, by decide +kernel⟩,
    
      ⟨stAt 101 { up [(F.PACK_BASE_STAT_STATE, 1)] with pack := { PackSt.reset with rtcmDone := true }, gnss := { GnssSt.reset with published := some { tick := 0, valid := [], track := [], sats := 0, fixValid := true, used := 0, excl := 0, rms := 0, fixErr := 0, bobsValid := false, clockStep := false } } },
      0, 1, 2, 3, by decide +kernel⟩,
    ⟨st (up [(F.PACK_BASE_STAT_STATE, 2)]), 0, 100000, 0, by decide +kernel⟩,
    ⟨st (up []), 0, 1, 1, 2, 3, 0, by decide +kernel⟩,
    ⟨st (up []), 0, [], by decide +kernel⟩⟩

/-- Hypotheses of Flows that are met. -/
theorem witness_Flows :
    (∃ (s : State) (dt ready : Nat) (f : Flow) (rest : List Flow), s.m.live? 10 = true ∧ s.m.pack.waiting = f :: rest ∧ s.m.mayAdmit f = true)
    ∧ (∃ (s : State) (dt r : Nat) (i : FlowIn) (f : Flow),
      s.m.live? 10 = true ∧ (s.now dt).lateTick = false ∧ s.m.pack.flows.find? (fun f => f.rover == r) = some f)
    ∧ (∃ (s : State) (dt : Nat), s.m.live? 10 = true ∧ (s.now dt).lateTick = true)
    ∧ (∃ (s : State) (dt r : Nat) (i : AsuIn) (f : Flow),
      s.m.live? 10 = true ∧ s.m.pack.flows.find? (fun f => f.rover == r) = some f ∧ i.amb ≤ 64 ∧ r < 256)
    ∧ (∃ (s : State) (dt r : Nat), r < 256 ∧ s.m.opens (R.ROVER_FILTER_CMD r) = true) :=
  ⟨⟨st { up [] with pack := { PackSt.reset with waiting := [{ rover := 3, graph := 0, scratch := 8, ready := 4 }] } }, 0, 4,
      { rover := 3, graph := 0, scratch := 8, ready := 4 }, [], by decide +kernel⟩,
    ⟨st { up [] with pack := { PackSt.reset with flows := [{ rover := 3, graph := 0, scratch := 8, ready := 4 }] } }, 0, 3, .fault,
      { rover := 3, graph := 0, scratch := 8, ready := 4 }, by decide +kernel⟩,
    ⟨st (up []), 12000000, by decide +kernel⟩,
    ⟨st { up [] with pack := { PackSt.reset with flows := [{ rover := 3, graph := 0, scratch := 8, ready := 4 }] } }, 0, 3,
      { op := 0, amb := 5, nodes := 0, ratio := 300, ints := [], sats := 5 }, { rover := 3, graph := 0, scratch := 8, ready := 4 }, by decide +kernel⟩,
    ⟨st (up []), 0, 3, by decide +kernel⟩⟩

/-- Hypotheses of Graphs that are met. -/
theorem witness_Graphs :
    (∃ (s : State) (dt : Nat) (h : Hdr), s.m.live? 10 = true)
    ∧ (∃ (s : State) (dt g : Nat) (h : Handed) (x : Graph),
      0x80 ≤ g ∧ AMap.find s.m.pack.graphs g = some x ∧ s.m.graphUsers g = 0 ∧ s.m.takesResult = true ∧ h.noResult = false) :=
  ⟨⟨st (up []), 0, hdr, by decide +kernel⟩,
    
      ⟨st { up [(F.RING_STAT_STATE 1, 1)] with pack := { PackSt.reset with graphs := [(0x80, { flags := 0, maxSig := 0, minSat := 0, scratch := 0, flopDecl := 0, nOps := 0, nBuf := 0, serial := 1, stateLen := 0, imgLen := 0, minVer := 0 })] } },
      0, 0x80, { block := 9, opcode := 1, tag := 7, noResult := false, acceptTick := 0 },
      { flags := 0, maxSig := 0, minSat := 0, scratch := 0, flopDecl := 0, nOps := 0, nBuf := 0, serial := 1, stateLen := 0, imgLen := 0, minVer := 0 },
      by decide +kernel⟩⟩

/-- Hypotheses of TimeReferences that are met. -/
theorem witness_TimeReferences :
    (∃ (s : State) (dt : Nat), s.m.live? 1 = true ∧ s.m.on F.TIME_SRC_CTL_REF_EN = true ∧ s.m.on F.TIME_STAT_REF_LOCK = false)
    ∧ (∃ (s : State) (dt : Nat), s.m.live? 1 = true ∧ s.m.on F.TIME_STAT_REF_LOCK = true)
    ∧ (∃ (s : State) (dt : Nat) (rise : Bool),
      s.m.live? 1 = true ∧ s.m.fld F.TIME_SRC_CTL_SRC = 1 ∧ rise ≠ s.m.on F.TIME_SRC_CTL_PPS_POL ∧ s.m.time.ppsAt = none) :=
  ⟨⟨st (up [(F.TIME_SRC_CTL_REF_EN, 1)]), 0, by decide +kernel⟩,
    ⟨st (up [(F.TIME_STAT_REF_LOCK, 1)]), 0, by decide +kernel⟩,
    ⟨st (up [(F.TIME_SRC_CTL_SRC, 1)]), 0, !(up [(F.TIME_SRC_CTL_SRC, 1)]).on F.TIME_SRC_CTL_PPS_POL, by decide +kernel⟩⟩

/-- Hypotheses of TimeStates that are met. -/
theorem witness_TimeStates :
    (∃ (s : State) (dt : Nat), s.m.live? 1 = true ∧ (s.now dt).atBoundary = true ∧ s.m.tstate = 0 ∧ s.m.srcLost (s.now dt) = true)
    ∧ (∃ (s : State) (dt : Nat),
      s.m.live? 1 = true ∧ (s.now dt).atBoundary = true ∧ s.m.tstate = 1 ∧ s.m.time.hoOn = true ∧ s.m.untraceNs < s.m.modelUnc (s.now dt))
    ∧ (∃ (s : State) (dt : Nat) (e : Int),
      s.m.live? 1 = true ∧ (s.now dt).atBoundary = true ∧ s.m.tstate ≠ 0 ∧ s.m.on F.TIME_STAT_RETURNING = false ∧ s.m.srcSteady (s.now dt) = true ∧ s.m.time.err = some e)
    ∧ (∃ (s : State) (dt : Nat) (st : StepPend), s.m.live? 1 = true ∧ s.m.stepDue (s.now dt) = some st)
    ∧ (∃ (s : State) (dt ns unc : Nat), s.m.opens R.TIME_MBX_DATA = true ∧ s.m.tstate = 2 ∧ ns % 1000000000 = 0)
    ∧ (∃ (s : State) (dt ns unc : Nat), s.m.opens R.TIME_MBX_DATA = true ∧ (s.m.tstate ≠ 2 ∨ ns % 1000000000 ≠ 0)) :=
  ⟨⟨st { up [(F.BRACE_STAT_ROLE, 0), (F.TIME_STAT_STATE, 0)] with time := { TimeSt.reset with missRun := 100 } }, 0, by decide +kernel⟩,
    ⟨st { up [(F.BRACE_STAT_ROLE, 0), (F.TIME_STAT_STATE, 1)] with time := { TimeSt.reset with hoOn := true, u0 := 100000000 } }, 0, by decide +kernel⟩,
    ⟨st { up [(F.BRACE_STAT_ROLE, 0), (F.TIME_STAT_STATE, 1)] with time := { TimeSt.reset with validRun := 1000, err := some 5 } }, 0, 5,
      by decide +kernel⟩,
    ⟨st { up [] with time := { TimeSt.reset with step := some { at_ := 0, delta := 5, initial := false, byHost := false, unc := 0 } } }, 12500000,
      { at_ := 0, delta := 5, initial := false, byHost := false, unc := 0 }, by decide +kernel⟩,
    ⟨st (up [(F.TIME_STAT_STATE, 2)]), 0, 3000000000, 5, by decide +kernel⟩,
    ⟨st (up [(F.TIME_STAT_STATE, 2)]), 0, 3000000001, 5, by decide +kernel⟩⟩

/-- Hypotheses of PulsesAndCaptures that are met. -/
theorem witness_PulsesAndCaptures :
    (∃ (s : State) (dt i e : Nat), s.m.live? 1 = true ∧ i < 8 ∧ (s.m.pulse i).next = some e ∧ s.m.edgeAt i e ≤ (s.now dt).now ∧ s.m.pulseOut = true)
    ∧ (∃ (s : State) (dt i e : Nat), s.m.live? 1 = true ∧ i < 8 ∧ (s.m.pulse i).activeTill = some e ∧ s.m.edgeAt i e ≤ (s.now dt).now)
    ∧ (∃ (s : State) (dt n : Nat) (rise : Bool),
      s.m.live? 1 = true ∧ n < 4 ∧ s.m.capSel n rise = true ∧ (s.m.capIn n).lastEdge = none ∧ (s.m.capIn n).fifo.length < 16)
    ∧ (∃ (s : State) (dt n : Nat) (rise : Bool),
      s.m.live? 1 = true ∧ n < 4 ∧ s.m.capSel n rise = true ∧ (s.m.capIn n).lastEdge = none ∧ 16 ≤ (s.m.capIn n).fifo.length)
    ∧ (∃ (s : State) (dt n : Nat), n < 4 ∧ s.m.opens (R.TIME_CAP_POP n) = true) :=
  ⟨
      ⟨st { up [(F.BRACE_STAT_ROLE, 0), (F.BRACE_STAT_GATE_OPEN, 1)] with time := { TimeSt.reset with pulses := [(2, { PulseSt.none with next := some 0 })] } },
      0, 2, 0, by decide +kernel⟩,
    ⟨st { up [] with time := { TimeSt.reset with pulses := [(2, { PulseSt.none with activeTill := some 0 })] } }, 0, 2, 0, by decide +kernel⟩,
    ⟨st (up [(F.TIME_CAP_CTL_EN 1, 1), (F.TIME_CAP_CTL_EDGE 1, 1)]), 0, 1, true, by decide +kernel⟩,
    
      ⟨st { up [(F.TIME_CAP_CTL_EN 1, 1), (F.TIME_CAP_CTL_EDGE 1, 1)] with time := { TimeSt.reset with caps := [(1, { CapIn.empty with fifo := List.replicate 16 { ns := 0, frac := 0, rise := true } })] } },
      0, 1, true, by decide +kernel⟩,
    ⟨st (up []), 0, 1, by decide +kernel⟩⟩

/-- Hypotheses of PtpMessages that are met. -/
theorem witness_PtpMessages :
    (∃ (s : State) (dt p : Nat) (a : AnnounceIn),
      s.m.live? 1 = true ∧ p < 9 ∧ s.m.on (F.TIME_PTPP_CTL_EN p) = true ∧ a.wellFormed = true ∧ a.domain = s.m.fld F.TIME_PTP_CTL_DOMAIN)
    ∧ (∃ (s : State) (dt p : Nat) (f : Foreign),
      s.m.live? 1 = true ∧ p < 9 ∧ AMap.find s.m.time.foreign p = some f ∧ f.lastRaw + 3 * intvRaw f.interval ≤ s.clk.raw + dt)
    ∧ (∃ (s : State) (dt p kind : Nat),
      s.m.live? 1 = true ∧ p < 9 ∧ kind < 2 ∧ s.m.gmOn p = true ∧ s.m.fld (F.TIME_PTPP_STAT_PORT p) = 6 ∧ s.m.ptpDue (s.now dt) p kind = true)
    ∧ (∃ (s : State) (dt p d : Nat),
      s.m.live? 1 = true ∧ p < 9 ∧ s.m.on (F.TIME_PTPP_CTL_EN p) = true ∧ s.m.on F.TIME_PTP_CTL_PROFILE = true ∧ s.m.ptpDue (s.now dt) p 2 = true) :=
  ⟨⟨st (up [(F.TIME_PTPP_CTL_EN 1, 1), (F.TIME_PTP_CTL_DOMAIN, 24)]), 0, 1, { wellFormed := true, domain := 24, data := [], interval := 0 },
      by decide +kernel⟩,
    ⟨st { up [] with time := { TimeSt.reset with foreign := [(1, { data := [], lastRaw := 0, interval := 0, better := true })] } }, secRaw 3, 1,
      { data := [], lastRaw := 0, interval := 0, better := true }, by decide +kernel⟩,
    ⟨st (up [(F.TIME_PTPP_CTL_EN 1, 1), (F.TIME_PTP_CTL_GM_EN, 1), (F.BRACE_STAT_ROLE, 0), (F.BRACE_STAT_GATE_OPEN, 1), (F.TIME_PTPP_STAT_PORT 1, 6)]), 0,
      1, 0, by decide +kernel⟩,
    ⟨st (up [(F.TIME_PTPP_CTL_EN 1, 1), (F.TIME_PTP_CTL_PROFILE, 1)]), 0, 1, 0, by decide +kernel⟩⟩

/-- Hypotheses of NetworkAndRoutes that are met. -/
theorem witness_NetworkAndRoutes :
    (∃ (s : State) (dt addr reserved : Nat) (h : Hdr) (img : Option (List Byte)), s.m.shepUp = true)
    ∧ (∃ (s : State) (dt : Nat) (h : Hdr) (d : List Byte) (q : RouteReq) (n : Net),
      s.m.shepUp = true ∧ parseReq d = some q ∧ s.m.shep.active = some n ∧ (s.m.srv q.rover).req = none) :=
  ⟨⟨st (up []), 0, 64, 0, hdr, none, by decide +kernel⟩,
    
      ⟨st { up [] with shep := { ShepSt.reset with active := some { serial := 1, minVer := 0, keyId := 0, base := (0, 0, 0), baseTol := 0, chains := [], nodes := [], conf := [], vtx := [], perch := [], dist := [] } } },
      0, hdr, [3, 0, 0, 0] ++ List.replicate 12 0,
      { rover := 3, prio := 0, dep := 0, depLatest := 0, vcap := 0, reqSerial := 0, chains := [], fromAir := true, tag := 0, noResult := false, acceptTick := 0, seq := 0 },
      { serial := 1, minVer := 0, keyId := 0, base := (0, 0, 0), baseTol := 0, chains := [], nodes := [], conf := [], vtx := [], perch := [], dist := [] },
      by decide +kernel⟩⟩

/-- Hypotheses of ShepherdEvents that are met. -/
theorem witness_ShepherdEvents :
    (∃ (s : State) (dt r : Nat), s.m.shepUp = true ∧ 1000000 ≤ (s.now dt).subNs (s.now dt).raw ∧ s.m.shep.partEval = some r)
    ∧ (∃ (s : State) (dt chain cell : Nat) (n : Net) (sp : Span),
      s.m.shepUp = true ∧ s.m.shepRuns = true ∧ cell < 8 ∧ s.m.shep.active = some n ∧ AMap.find s.m.shep.cells (chain * 8 + cell) = some sp ∧ sp.kind = 0 ∧ sp.opn = false ∧ 0 ≤ tickDiff (s.now dt).tick sp.fin ∧ s.m.touches sp.rover chain = true)
    ∧ (∃ (s : State) (dt task : Nat),
      s.m.shepUp = true ∧ s.m.shepRuns = true ∧ (s.m.taskAt task).status = 1 ∧ (s.m.taskAt task).deadline ≠ 0 ∧ 0 < tickDiff (s.now dt).tick (s.m.taskAt task).deadline)
    ∧ (∃ (s : State) (dt chain cell : Nat), s.m.shepUp = true ∧ chain < 16384 ∧ cell < 8)
    ∧ (∃ (s : State) (dt chain : Nat), s.m.shepUp = true ∧ chain < 16384)
    ∧ (∃ (s : State) (dt v : Nat), s.m.opens R.SHEP_TBL_SEL = true) :=
  ⟨⟨st { up [] with shep := { ShepSt.reset with partEval := some 3 } }, 1250000, 3, by decide +kernel⟩,
    
      ⟨st { up [(F.SHEP_CTL_EN, 1), (F.BRACE_STAT_ROLE, 0)] with shep := { ShepSt.reset with active := some { serial := 1, minVer := 0, keyId := 0, base := (0, 0, 0), baseTol := 0, chains := [], nodes := [], conf := [], vtx := [], perch := [], dist := [] }, cells := [(42, { rover := 3, kind := 0, opn := false, serial := 1, start := 0, lstart := 0, fin := 0 })], rover := [(3, { ShepRover.fresh with foot := [(5, 0)] })] } },
      0, 5, 2,
      { serial := 1, minVer := 0, keyId := 0, base := (0, 0, 0), baseTol := 0, chains := [], nodes := [], conf := [], vtx := [], perch := [], dist := [] },
      { rover := 3, kind := 0, opn := false, serial := 1, start := 0, lstart := 0, fin := 0 }, by decide +kernel⟩,
    
      ⟨stAt 6 { up [(F.SHEP_CTL_EN, 1), (F.BRACE_STAT_ROLE, 0)] with shep := { ShepSt.reset with tasks := [(9, { Task.free with status := 1, deadline := 5 })] } },
      0, 9, by decide +kernel⟩,
    ⟨st (up []), 0, 16383, 7, by decide +kernel⟩,
    ⟨st (up []), 0, 16383, by decide +kernel⟩,
    ⟨st (up []), 0, 0, by decide +kernel⟩⟩

/-- Hypotheses of WindowAndSteps that are met. -/
theorem witness_WindowAndSteps :
    (∃ (s : State) (dt : Nat) (i : MotIn), s.m.motPlans = true ∧ 1000000 ≤ (s.now dt).subNs (s.now dt).raw ∧ s.m.mot.winTick ≠ some s.clk.tickNo)
    ∧ (∃ (s : State) (dt : Nat), s.m.motUp = true ∧ 3000000 ≤ (s.now dt).subNs (s.now dt).raw ∧ s.m.on F.MOT_STAT_WINDOW_BUSY = true)
    ∧ (∃ (s : State) (dt ch : Nat),
      s.m.motUp = true ∧ (s.m.mch ch).kind = 2 ∧ stepTo (s.m.mch ch).step (s.m.chNow (s.now dt) ch).p ≠ (s.m.mch ch).step ∧ s.m.motOut = true ∧ s.m.on F.BRACE_STAT_GATE_OPEN = true ∧ (s.m.mch ch).edgeAt = none ∧ s.m.funcOn ch 1 = false ∧ s.m.funcOn ch 2 = false)
    ∧ (∃ (s : State) (dt ch : Nat),
      s.m.motUp = true ∧ (s.m.mch ch).kind = 2 ∧ s.m.motOut = true ∧ s.m.mst ch < 7 ∧ 3 * posU < (2 * (s.m.chNow (s.now dt) ch).p - 2 * (s.m.mch ch).step * posU).natAbs) :=
  ⟨⟨st (up [(F.MOT_CTL_EN, 1), (F.BRACE_STAT_ROLE, 0)]), 1250000, MotIn.all, by decide +kernel⟩,
    ⟨st (up [(F.MOT_STAT_WINDOW_BUSY, 1)]), 3750000, by decide +kernel⟩,
    
      ⟨st { up [(F.MOT_CTL_EN, 1), (F.BRACE_STAT_ROLE, 0), (F.BRACE_STAT_GATE_OPEN, 1)] with mot := { MotSt.reset with ch := [(2, { MotCh.fresh with kind := 2, kin := { p := posU, v := 0, a := 0 } })] } },
      0, 2, by decide +kernel⟩,
    
      ⟨st { up [(F.MOT_CTL_EN, 1), (F.BRACE_STAT_ROLE, 0)] with mot := { MotSt.reset with ch := [(2, { MotCh.fresh with kind := 2, kin := { p := 2 * posU, v := 0, a := 0 } })] } },
      0, 2, by decide +kernel⟩⟩

/-- Hypotheses of InputsAndEnds that are met. -/
theorem witness_InputsAndEnds :
    (∃ (s : State) (dt i : Nat) (level : Bool), s.m.motUp = true ∧ i < 64 ∧ (s.m.swin i).raw ≠ level ∧ s.m.fld (F.MOT_IN_CTL_FILT i) ≠ 0)
    ∧ (∃ (s : State) (dt i : Nat), s.m.motUp = true ∧ i < 64)
    ∧ (∃ (s : State) (dt i : Nat),
      s.m.motUp = true ∧ i < 64 ∧ s.m.on (F.MOT_IN_STAT_CHATTER i) = true ∧ (s.m.swin i).lastAt + msRaw (max 1 (s.m.fld (F.MOT_IN_CHAT_CHAT_STABLE i))) ≤ s.clk.raw + dt)
    ∧ (∃ (s : State) (dt ch : Nat), s.m.motUp = true ∧ ch < 256 ∧ (s.m.mch ch).idx < 256 ∧ s.m.chDone (s.now dt) ch = true ∧ s.m.mst ch = 2)
    ∧ (∃ (s : State) (dt ch : Nat),
      s.m.motUp = true ∧ ch < 256 ∧ (s.m.mch ch).idx < 256 ∧ s.m.chDone (s.now dt) ch = true ∧ (s.m.mst ch = 4 ∨ s.m.mst ch = 5)) :=
  ⟨⟨st (up [(F.MOT_IN_CTL_FILT 5, 1)]), 0, 5, true, by decide +kernel⟩,
    ⟨st (up []), 0, 63, by decide +kernel⟩,
    ⟨st (up [(F.MOT_IN_STAT_CHATTER 5, 1)]), secRaw 1000, 5, by decide +kernel⟩,
    ⟨st (up [(F.MOT_CH_STAT_STATE 2, 2)]), 0, 2, by decide +kernel⟩,
    ⟨st (up [(F.MOT_CH_STAT_STATE 2, 4)]), 0, 2, by decide +kernel⟩⟩

/-- Hypotheses of RemoteFrames that are met. -/
theorem witness_RemoteFrames :
    (∃ (s : State) (dt : Nat) (d : List Byte) (e : Nat × Nat × Int),
      44 ≤ d.length ∧ leAt d 0 1 = 1 ∧ leAt d 1 1 = 2 ∧ leAt d 2 2 ≤ 255 ∧ (s.m.mch (leAt d 2 2)).kind = 3 ∧ s.m.on (F.MOT_CH_REM_CFG_STATUS_EN (leAt d 2 2)) = true ∧ s.m.live? 12 = true ∧ s.m.on (F.MOT_CH_REM_CFG_AUTH_EN (leAt d 2 2)) = false ∧ (s.m.mch (leAt d 2 2)).sent.find? (fun e => e.1 == leAt d 4 4) = some e)
    ∧ (∃ (s : State) (dt ch : Nat),
      (s.m.mch ch).kind = 3 ∧ s.m.on (F.MOT_CH_REM_CFG_STATUS_EN ch) = true ∧ (s.m.mch ch).sent.isEmpty = false ∧ s.m.motOut = true ∧ s.m.mst ch < 7 ∧ (s.m.mch ch).statusAt + max 1 (s.m.fld (F.MOT_CH_REM_CFG_TIMEOUT ch)) * s.m.remPeriod ch < Clock.fullNs (s.now dt).now) :=
  ⟨⟨st { up [(F.MOT_CH_REM_CFG_STATUS_EN 5, 1)] with mot := { MotSt.reset with ch := [(5, { MotCh.fresh with kind := 3, sent := [(9, 0, 0)] })] } }, 0,
      [1, 2, 5, 0, 9, 0, 0, 0] ++ List.replicate 36 0, (9, 0, 0), by decide +kernel⟩,
    
      ⟨stAt 1000000 { up [(F.MOT_CTL_EN, 1), (F.BRACE_STAT_ROLE, 0), (F.MOT_CH_REM_CFG_STATUS_EN 5, 1)] with mot := { MotSt.reset with ch := [(5, { MotCh.fresh with kind := 3, sent := [(9, 0, 0)] })] } },
      0, 5, by decide +kernel⟩⟩

/-- Hypotheses of RoverLinks that are met. -/
theorem witness_RoverLinks :
    (∃ (s : State) (dt r : Nat) (a : SlotAsg),
      (s.now dt).ended = true ∧ (s.now dt).phase = 9 ∧ r < 256 ∧ (s.m.arv r).next = some a ∧ a.eff ≤ (s.now dt).sfNo + 1 ∧ s.m.on (F.ROVER_LINK_CTL_EN r) = true)
    ∧ (∃ (s : State) (dt r : Nat),
      (s.now dt).ended = true ∧ (s.now dt).phase = 9 ∧ r < 256 ∧ s.m.airListens = true ∧ s.m.air.judged ≠ some (s.now dt).sfNo ∧ s.m.on (F.ROVER_LINK_SLOT_VALID r) = true ∧ (s.m.arv r).heardSf ≠ some (s.now dt).sfNo ∧ s.m.fld (F.ROVER_LINK_STAT_SILENT r) = 2 ∧ s.m.fld (F.ROVER_LINK_STAT_LINK r) = 1)
    ∧ (∃ (s : State) (dt r : Nat) (u : UpIn),
      u.chan ≤ 1 ∧ s.m.airRx (s.now dt) u = true ∧ r < 256 ∧ s.m.on (F.ROVER_LINK_CTL_EN r) = true ∧ ((s.m.upWindows (s.now dt) u.chan).find? fun w => decide (w.begin_ ≤ u.startNs) && decide (u.startNs < w.end_) && decide (u.endNs ≤ w.end_)) = none ∧ missRover (s.m.upWindows (s.now dt) u.chan) u = some r ∧ s.m.on (F.ROVER_LINK_STAT_RESYNC r) = false ∧ s.m.on (F.ROVER_LINK_STAT_DRIFT_FAULT r) = false ∧ s.m.fld (F.ROVER_LINK_STAT_RESYNC_RUN r) < 2)
    ∧ (∃ (s : State) (dt : Nat) (u : UpIn) (w : UpWin),
      u.chan ≤ 1 ∧ s.m.airRx (s.now dt) u = true ∧ ((s.m.upWindows (s.now dt) u.chan).find? fun w => decide (w.begin_ ≤ u.startNs) && decide (u.startNs < w.end_) && decide (u.endNs ≤ w.end_)) = some w)
    ∧ (∃ (s : State) (dt r : Nat), r < 256 ∧ s.m.opens (R.ROVER_LINK_CMD r) = true)
    ∧ (∃ (s : State) (dt : Nat), (s.now dt).ended = true ∧ (s.now dt).phase = 9 ∧ s.m.air.regionPend = true)
    ∧ (∃ (s : State) (dt : Nat) (e : AirElem), e ∈ s.m.air.queue) :=
  ⟨
      ⟨stAt 9 { up [(F.ROVER_LINK_CTL_EN 3, 1)] with air := { AirSt.reset with rover := [(3, { AirRover.fresh with next := some { chan := 0, slot := some 0, conflict := false, eff := 1, w := 5 } })] } },
      12500000, 3, { chan := 0, slot := some 0, conflict := false, eff := 1, w := 5 }, by decide +kernel⟩,
    
      ⟨stAt 9 (up [(F.AIR_CTL_EN, 1), (F.AIR_CTL_WB0_EN, 1), (F.BRACE_STAT_ROLE, 0), (F.ROVER_LINK_SLOT_VALID 3, 1), (F.ROVER_LINK_STAT_SILENT 3, 2), (F.ROVER_LINK_STAT_LINK 3, 1)]),
      12500000, 3, by decide +kernel⟩,
    
      ⟨stAt 2 { up [(F.AIR_CTL_EN, 1), (F.AIR_CTL_WB0_EN, 1), (F.BRACE_STAT_ROLE, 0), (F.ROVER_LINK_CTL_EN 3, 1)] with air := { AirSt.reset with rover := [(3, { AirRover.fresh with cur := some { chan := 0, slot := some 0, conflict := false, eff := 1, w := 5 } })] } },
      0, 3, { chan := 0, startNs := 500000, endNs := 1000000, frames := [], rssi := 0, snr := 0 }, by decide +kernel⟩,
    
      ⟨stAt 2 { up [(F.AIR_CTL_EN, 1), (F.AIR_CTL_WB0_EN, 1), (F.BRACE_STAT_ROLE, 0), (F.ROVER_LINK_CTL_EN 3, 1)] with air := { AirSt.reset with rover := [(3, { AirRover.fresh with cur := some { chan := 0, slot := some 0, conflict := false, eff := 1, w := 5 } })] } },
      0, { chan := 0, startNs := 500000, endNs := 800000, frames := [], rssi := 0, snr := 0 },
      { rover := 3, first := 4, grains := 5, resync := false }, by decide +kernel⟩,
    ⟨st (up []), 0, 255, by decide +kernel⟩,
    ⟨stAt 9 { up [] with air := { AirSt.reset with regionPend := true } }, 12500000, by decide +kernel⟩,
    ⟨st { up [] with air := { AirSt.reset with queue := [{ kind := 1, rover := 3, serial := 1, body := [], inTick := 0, instant := 0, chans := [0] }] } },
      0, { kind := 1, rover := 3, serial := 1, body := [], inTick := 0, instant := 0, chans := [0] }, by decide +kernel⟩⟩

/-- Hypotheses of LeashTrips that are met. -/
theorem witness_LeashTrips :
    (∃ (s : State) (dt x : Nat), s.m.leashUp = true ∧ x < 2 ∧ s.m.on (inField x) = true ∧ s.m.inputOff = false ∧ s.m.pulseTol = 0)
    ∧ (∃ (s : State) (dt x : Nat), s.m.leashUp = true ∧ x < 2 ∧ s.m.on (inField x) = true ∧ s.m.pulseTol ≠ 0)
    ∧ (∃ (s : State) (dt x : Nat),
      s.m.leashUp = true ∧ x < 2 ∧ s.m.on (inField x) = false ∧ (s.m.inCh x).off = false ∧ (s.m.inCh x).at_ + usRaw s.m.pulseTol ≤ s.clk.raw + dt ∧ s.m.inputOff = false)
    ∧ (∃ (s : State) (dt x : Nat), s.m.leashUp = true ∧ x < 2 ∧ s.m.on (inField x) = false)
    ∧ (∃ (s : State) (dt : Nat) (h : Hdr), s.m.live? 5 = true ∧ s.m.leash.swCmd = false)
    ∧ (∃ (s : State) (dt : Nat) (h : Hdr), s.m.live? 5 = true ∧ s.m.leash.swCmd = true)
    ∧ (∃ (s : State) (dt cond : Nat), s.m.leashUp = true ∧ 1 ≤ cond ∧ cond ≤ 4 ∧ s.m.leash.mon = 0 ∧ s.m.fld F.LEASH_STAT_MON_SRC = 0)
    ∧ (∃ (s : State) (dt cond : Nat), s.m.leashUp = true ∧ 1 ≤ cond ∧ cond ≤ 4)
    ∧ (∃ (s : State) (dt : Nat) (a b : Bool),
      s.m.leashUp = true ∧ s.m.leash.mon = 0 ∧ (a ≠ (s.m.lstate == 2 && s.m.on F.BRACE_STAT_GATE_OPEN) ∨ b ≠ (s.m.lstate == 2 && s.m.on F.BRACE_STAT_GATE_OPEN)))
    ∧ (∃ (s : State) (dt from_ : Nat),
      s.m.leashUp = true ∧ s.m.leash.differ = some from_ ∧ from_ + msRaw s.m.discMs < s.clk.raw + dt ∧ s.m.on F.LEASH_STAT_DISC = false) :=
  ⟨
      ⟨st { up [(F.LEASH_STAT_IN_A, 1), (F.LEASH_CTL_PULSE_TOL, 0)] with leash := { LeashSt.reset with a := { at_ := 0, off := false }, b := { at_ := 0, off := false } } },
      0, 0, by decide +kernel⟩,
    ⟨st (up [(F.LEASH_STAT_IN_B, 1), (F.LEASH_CTL_PULSE_TOL, 100)]), 0, 1, by decide +kernel⟩,
    ⟨st { up [(F.LEASH_CTL_PULSE_TOL, 100)] with leash := { LeashSt.reset with a := { at_ := 0, off := false }, b := { at_ := 0, off := false } } },
      usRaw 100, 0, by decide +kernel⟩,
    ⟨st (up []), 0, 1, by decide +kernel⟩,
    ⟨st (up []), 0, hdr, by decide +kernel⟩,
    ⟨st { up [] with leash := { LeashSt.reset with swCmd := true } }, 0, hdr, by decide +kernel⟩,
    ⟨st (up []), 0, 4, by decide +kernel⟩,
    ⟨st (up []), 0, 1, by decide +kernel⟩,
    ⟨st (up []), 0, true, true, by decide +kernel⟩,
    ⟨st { up [] with leash := { LeashSt.reset with differ := some 0 } }, secRaw 1000, 0, by decide +kernel⟩⟩

/-- Hypotheses of LeashArmsAndTests that are met. -/
theorem witness_LeashArmsAndTests :
    (∃ (s : State) (dt us : Nat),
      s.m.leashUp = true ∧ s.m.lstate = 0 ∧ 50000 ≤ us ∧ us ≤ 3000000 ∧ s.m.fld F.LEASH_CTL_ARM_SRC ≠ 0 ∧ s.m.armCode (s.now dt) false = 0)
    ∧ (∃ (s : State) (dt us : Nat), s.m.leashUp = true ∧ s.m.lstate = 0 ∧ s.m.armCode (s.now dt) false ≠ 0)
    ∧ (∃ (s : State) (dt : Nat), s.m.leashUp = true ∧ (s.now dt).ended = true ∧ s.m.lstate = 1 ∧ s.m.leash.armAt + msRaw 1 ≤ s.clk.raw + dt)
    ∧ (∃ (s : State) (dt : Nat) (ok : Bool),
      s.m.leashUp = true ∧ (s.m.leash.testWaits = true ∨ s.m.leash.testAt + secRaw s.m.testPeriod ≤ s.clk.raw + dt) ∧ s.m.leash.test = none ∧ s.m.pstate ≠ 2)
    ∧ (∃ (s : State) (dt : Nat) (ok : Bool), s.m.opens R.LEASH_TEST_CMD = true)
    ∧ (∃ (s : State) (dt from_ : Nat), s.m.leashUp = true ∧ s.m.leash.test = some from_ ∧ from_ + usRaw s.m.testW + msRaw 10 ≤ s.clk.raw + dt)
    ∧ (∃ (s : State) (dt : Nat), s.m.leashUp = true ∧ s.m.on F.LEASH_CTL_HEEL_PIN_EN = true ∧ s.m.fld F.LEASH_STAT_HEEL_SRC = 0)
    ∧ (∃ (s : State) (dt : Nat), s.m.leashUp = true ∧ s.m.fld F.LEASH_STAT_HEEL_SRC = 1)
    ∧ (∃ (s : State) (dt : Nat) (h : Hdr), s.m.live? 5 = true)
    ∧ (∃ (s : State) (dt : Nat) (h : Hdr), s.m.live? 5 = true ∧ 2 ≤ s.m.fld F.LEASH_STAT_HEEL_SRC)
    ∧ (∃ (s : State) (dt : Nat), s.m.leashUp = true ∧ s.m.paired = true) :=
  ⟨⟨stAt 100 (up [(F.LEASH_STAT_IN_A, 1), (F.LEASH_STAT_IN_B, 1), (F.LEASH_CTL_ARM_SRC, 1), (F.BRACE_STAT_ROLE, 0)]), 0, 50000, by decide +kernel⟩,
    ⟨st (up []), 0, 50000, by decide +kernel⟩,
    ⟨st (up [(F.LEASH_STAT_STATE, 1)]), 12500000, by decide +kernel⟩,
    ⟨st { up [] with leash := { LeashSt.reset with testWaits := true } }, 0, true, by decide +kernel⟩,
    ⟨st (up []), 0, true, by decide +kernel⟩,
    ⟨st { up [] with leash := { LeashSt.reset with test := some 0 } }, msRaw 12, 0, by decide +kernel⟩,
    ⟨st (up [(F.LEASH_CTL_HEEL_PIN_EN, 1)]), 0, by decide +kernel⟩,
    ⟨st (up [(F.LEASH_STAT_HEEL_SRC, 1)]), 0, by decide +kernel⟩,
    ⟨st (up []), 0, hdr, by decide +kernel⟩,
    ⟨st (up [(F.LEASH_STAT_HEEL_SRC, 2)]), 0, hdr, by decide +kernel⟩,
    ⟨st (up [(F.BRACE_CTL_MODE, 1), (F.BRACE_STAT_HB_P1, 1)]), 0, by decide +kernel⟩⟩

/-- Hypotheses of SwitchFrames that are met. -/
theorem witness_SwitchFrames :
    (∃ (s : State) (dt port sub : Nat) (d : List Byte) (bad : Bool),
      s.m.swUp = true ∧ s.m.on F.SW_CTL_EN = true ∧ port < 10 ∧ (bad = true ∨ d.length < 60 ∨ s.m.swMtu port < d.length))
    ∧ (∃ (s : State) (dt port sub : Nat) (d : List Byte),
      s.m.swUp = true ∧ s.m.on F.SW_CTL_EN = true ∧ port < 10 ∧ 60 ≤ d.length ∧ d.length ≤ s.m.swMtu port)
    ∧ (∃ (s : State) (dt port q : Nat) (f : EgFrame) (l : List EgFrame),
      s.m.swUp = true ∧ port < 8 ∧ s.m.swPortOn port = true ∧ s.m.nextQueue port = some q ∧ s.m.egq port q = f :: l ∧ s.m.on F.TIME_PTP_CTL_TC_EN = false)
    ∧ (∃ (s : State) (dt n i c : Nat) (data : List Byte),
      s.m.barUp = true ∧ (n = 6 ∨ n = 7) ∧ firstItem (s.m.rng n).fetched = some (i, c) ∧ s.m.ringState n = 1 ∧ s.m.ringResetting n = false ∧ s.m.fenced n i (((s.m.rng n).fetched.drop i).take c) = false)
    ∧ (∃ (s : State) (dt : Nat) (f : AirFrame), s.m.swUp = true)
    ∧ (∃ (s : State) (dt port speed : Nat) (up : Bool), s.m.swUp = true ∧ port < 10 ∧ s.m.on (F.SW_P_STAT_LINK port) ≠ up)
    ∧ (∃ (s : State) (dt table index : Nat), s.m.swUp = true) :=
  ⟨⟨st (up [(F.SW_CTL_EN, 1)]), 0, 9, 0, [], true, by decide +kernel⟩,
    ⟨st (up [(F.SW_CTL_EN, 1)]), 0, 9, 0, List.replicate 60 0, by decide +kernel⟩,
    
      ⟨st { up [(F.SW_CTL_EN, 1), (F.SW_P_STAT_STATE 3, 1)] with sw := { SwSt.reset with egress := [(14, [{ data := [], inTime := none, inPort := 0 }])] } },
      0, 3, 2, { data := [], inTime := none, inPort := 0 }, [], by decide +kernel⟩,
    
      ⟨st { up [(F.RING_STAT_STATE 6, 1)] with ring := { RingBlk.reset with rings := [(6, { RingSt.off with fetched := [{ addr := 0, len := 0, tag := 0, kind := 0, flags := 0, ver := 2, status := none, xfer := 0, handed := false }] })] } },
      0, 6, 0, 1, [], by decide +kernel⟩,
    ⟨st (up []), 0, { data := [], inRaw := 0, sub := 0, chans := [0] }, by decide +kernel⟩,
    ⟨st (up []), 0, 3, 1, true, by decide +kernel⟩,
    ⟨st (up []), 0, 0, 0, by decide +kernel⟩⟩

/-- Hypotheses of MacTable that are met. -/
theorem witness_MacTable :
    (∃ (s : State) (dt : Nat) (e : SwEvent) (l : List SwEvent), s.m.swUp = true ∧ s.m.sw.events = e :: l ∧ s.m.sw.waiting = [])
    ∧ (∃ (s : State) (dt port mac vid sub i : Nat) (l : List SwEvent),
      s.m.swUp = true ∧ s.m.sw.events = .learn port mac vid sub :: l ∧ s.m.sw.waiting = [] ∧ port < 10 ∧ s.m.macFind mac vid = none ∧ s.m.freeWay (macSet mac vid) = some i ∧ ((s.m.sw.mac.filter fun e => e.2.port == port && !e.2.static_).length < s.m.learnLimit port))
    ∧ (∃ (s : State) (dt : Nat), s.m.swUp = true ∧ s.m.fld F.SW_CTL_AGE ≠ 0 ∧ s.m.sw.agedAt + secRaw (s.m.fld F.SW_CTL_AGE) ≤ s.clk.raw + dt)
    ∧ (∃ (s : State) (dt : Nat), s.m.swUp = true ∧ Clock.fullNs (s.now dt).now / 1000000000 ≠ s.m.sw.moveSec)
    ∧ (∃ (s : State) (dt i : Nat) (e : MacEnt), s.m.swUp = true ∧ AMap.find s.m.sw.mac i = some e ∧ e.pinned = true ∧ e.pinTill ≤ s.clk.raw + dt) :=
  ⟨⟨st { up [] with sw := { SwSt.reset with events := [.linkDown 3] } }, 0, .linkDown 3, [], by decide +kernel⟩,
    ⟨st { up [(F.SW_P_LEARN_LIMIT 3, 1)] with sw := { SwSt.reset with events := [.learn 3 2 1 0] } }, 0, 3, 2, 1, 0, 4 * macSet 2 1, [],
      by decide +kernel, rfl, rfl, by decide, rfl, rfl, by decide +kernel⟩,
    ⟨st (up [(F.SW_CTL_AGE, 10)]), secRaw 10, by decide +kernel⟩,
    ⟨st { up [] with sw := { SwSt.reset with moveSec := 7 } }, 0, by decide +kernel⟩,
    
      ⟨st { up [] with sw := { SwSt.reset with mac := [(8, { mac := 2, vid := 1, port := 3, sub := 0, static_ := false, hit := false, pinned := true, moves := 0, pinTill := 0 })] } },
      0, 8, { mac := 2, vid := 1, port := 3, sub := 0, static_ := false, hit := false, pinned := true, moves := 0, pinTill := 0 }, by decide +kernel⟩⟩

/-- Hypotheses of BraceLines that are met. -/
theorem witness_BraceLines :
    (∃ (s : State) (dt : Nat), s.m.domOn 2 = true ∧ s.m.on F.BRACE_STAT_HOLD_IN = false ∧ s.m.on F.BRACE_STAT_GATE_OPEN = true)
    ∧ (∃ (s : State) (dt : Nat), s.m.domOn 2 = true ∧ s.m.on F.BRACE_STAT_HOLD_IN = true ∧ s.m.on F.BRACE_STAT_HOLD_OUT = true)
    ∧ (∃ (s : State) (dt : Nat),
      s.m.running = true ∧ s.m.on F.BRACE_CTL_MODE = false ∧ s.m.role = 3 ∧ s.m.on F.BRACE_STAT_HOLD_OUT = false ∧ s.m.on F.BRACE_STAT_HOLD_IN = false ∧ s.m.brace.kaDead = false ∧ s.m.brace.retryAt = none)
    ∧ (∃ (s : State) (dt w : Nat),
      s.m.brace.windowAt = some w ∧ s.m.on F.BRACE_STAT_HOLD_OUT = true ∧ s.m.on F.BRACE_STAT_HOLD_IN = false ∧ s.m.on F.BRACE_STAT_GATE_OPEN = false ∧ s.m.brace.kaDead = false ∧ w + usRaw 100 ≤ s.clk.raw + dt)
    ∧ (∃ (s : State) (dt w : Nat),
      s.m.brace.windowAt = some w ∧ s.m.on F.BRACE_STAT_HOLD_OUT = true ∧ s.m.on F.BRACE_STAT_HOLD_IN = false ∧ s.m.on F.BRACE_STAT_GATE_OPEN = false ∧ s.m.brace.kaDead = false ∧ s.clk.raw + dt < w + usRaw 100)
    ∧ (∃ (s : State) (dt at_ : Nat), s.m.brace.retryAt = some at_ ∧ at_ ≤ s.clk.raw + dt)
    ∧ (∃ (s : State) (dt : Nat), s.m.running = true ∧ s.m.brace.kaDead = false ∧ s.m.brace.fedAt + msRaw (10 * s.m.kaTicks) ≤ s.clk.raw + dt)
    ∧ (∃ (s : State) (dt at_ : Nat),
      s.m.braceUp = true ∧ s.m.standby = true ∧ s.m.brace.joinAt = some at_ ∧ s.m.partner? = none ∧ at_ + (msRaw (100 * s.m.joinWait) + if s.m.preferred then 0 else secRaw 1) ≤ s.clk.raw + dt ∧ s.m.eligible = true ∧ s.m.on F.BRACE_STAT_HOLD_IN = false ∧ s.m.on F.BRACE_STAT_HOLD_OUT = false ∧ s.m.brace.kaDead = false ∧ s.m.brace.retryAt = none)
    ∧ (∃ (s : State) (dt : Nat), (s.now dt).atBoundary = true) :=
  ⟨⟨st (up [(F.BRACE_STAT_GATE_OPEN, 1)]), 0, by decide +kernel⟩,
    ⟨st (up [(F.BRACE_STAT_HOLD_IN, 1), (F.BRACE_STAT_HOLD_OUT, 1)]), 0, by decide +kernel⟩,
    ⟨st (up []), 0, by decide +kernel⟩,
    ⟨st { up [(F.BRACE_STAT_HOLD_OUT, 1)] with brace := { BraceSt.reset with windowAt := some 0 } }, usRaw 100, 0, by decide +kernel⟩,
    ⟨st { up [(F.BRACE_STAT_HOLD_OUT, 1)] with brace := { BraceSt.reset with windowAt := some 0 } }, 0, 0, by decide +kernel⟩,
    ⟨st { up [] with brace := { BraceSt.reset with retryAt := some 0 } }, 0, 0, by decide +kernel⟩,
    ⟨st (up []), msRaw 100, by decide +kernel⟩,
    
      ⟨st { up [(F.BRACE_CTL_MODE, 1), (F.BRACE_CTL_ELIG_EN, 1), (F.BRACE_STAT_ROLE, 2), (w R.BRACE_KEY, 9), (F.KEN_SLOT_STAT_STATE 9, 1), (F.KEN_SLOT_STAT_TYPE 9, 1), (F.KEN_SLOT_STAT_USE 9, 1), (F.KEN_SLOT_STAT_USER 9, 4)] with brace := { BraceSt.reset with joinAt := some 0 } },
      secRaw 100, 0, by decide +kernel⟩,
    ⟨st (up []), 0, by decide +kernel⟩⟩

/-- Hypotheses of BraceHeartbeats that are met. -/
theorem witness_BraceHeartbeats :
    (∃ (s : State) (dt : Nat),
      s.m.braceUp = true ∧ s.m.brace.kaDead = false ∧ s.m.brace.hbMs ≠ some (Clock.fullNs (s.now dt).now / 1000000) ∧ s.m.slotAllows (s.m.rd R.BRACE_KEY % 64) [1] 0 2 = true)
    ∧ (∃ (s : State) (dt mac : Nat) (d : List Byte), s.m.braceUp = true)
    ∧ (∃ (s : State) (dt : Nat),
      s.m.braceUp = true ∧ s.m.on F.BRACE_STAT_HB_LVDS = true ∧ s.m.brace.lvds.miss + 1 = s.m.hbMiss ∧ s.m.brace.lvds.at_ + msRaw (s.m.brace.lvds.miss + 1) < s.clk.raw + dt ∧ s.m.standby = false)
    ∧ (∃ (s : State) (dt : Nat) (d : List Byte) (p : Partner),
      s.m.braceUp = true ∧ s.m.leashUp = true ∧ s.m.standby = true ∧ s.m.brace.partner = some p ∧ p.role = 1 ∧ s.m.leash.partner = false) :=
  ⟨
      ⟨st (up [(F.BRACE_CTL_MODE, 1), (w R.BRACE_KEY, 9), (F.KEN_SLOT_STAT_STATE 9, 1), (F.KEN_SLOT_STAT_TYPE 9, 1), (F.KEN_SLOT_STAT_USE 9, 1), (F.KEN_SLOT_STAT_USER 9, 4)]),
      0, by decide +kernel⟩,
    ⟨st (up [(F.BRACE_CTL_MODE, 1)]), 0, 0, [], by decide +kernel⟩,
    
      ⟨st { up [(F.BRACE_CTL_MODE, 1), (F.BRACE_STAT_HB_LVDS, 1), (F.BRACE_TIMING_HB_MISS, 3), (F.BRACE_STAT_ROLE, 1)] with brace := { BraceSt.reset with lvds := { miss := 2, good := 0, at_ := 0 } } },
      msRaw 4, by decide +kernel⟩,
    
      ⟨st { up [(F.BRACE_CTL_MODE, 1), (F.BRACE_STAT_ROLE, 2)] with brace := { BraceSt.reset with partner := some { unit := 1, role := 1, eligible := true, synced := true, tstate := 0, armed := false, bverMin := 1, bverMax := 1, fwVer := 0, serial := [], tick := 0, mac := none, braceId := 0, unc := 0 } } },
      0, [],
      { unit := 1, role := 1, eligible := true, synced := true, tstate := 0, armed := false, bverMin := 1, bverMax := 1, fwVer := 0, serial := [], tick := 0, mac := none, braceId := 0, unc := 0 },
      by decide +kernel⟩⟩

/-- Hypotheses of BraceHandovers that are met. -/
theorem witness_BraceHandovers :
    (∃ (s : State) (dt atTick : Nat) (h : Hdr),
      s.m.live? 6 = true ∧ s.m.role = 1 ∧ s.m.partnerReady = true ∧ s.m.brace.handover = none ∧ (atTick = 0 ∨ 10 ≤ tickDiff atTick (s.now dt).tick))
    ∧ (∃ (s : State) (dt : Nat) (h : Hdr), s.m.live? 6 = true ∧ s.m.standby = true ∧ s.m.on F.BRACE_CTL_MODE = true)
    ∧ (∃ (s : State) (dt : Nat) (o : Handover),
      s.m.brace.handover = some o ∧ o.giving = true ∧ o.accepted = true ∧ o.released = false ∧ ((s.now dt).tick + 1) % 4294967296 = o.b ∧ 9000000 ≤ (s.now dt).subNs (s.now dt).raw ∧ s.m.mirrors = false)
    ∧ (∃ (s : State) (dt : Nat) (o : Handover),
      s.m.brace.handover = some o ∧ ((s.now dt).tick + 1) % 4294967296 = o.b ∧ 9500000 ≤ (s.now dt).subNs (s.now dt).raw ∧ o.giving = true ∧ o.released = false)
    ∧ (∃ (s : State) (dt since : Nat),
      s.m.brace.readySince = some since ∧ s.m.role = 1 ∧ s.m.on F.BRACE_CTL_RETURN = true ∧ s.m.preferred = false ∧ s.m.partnerReady = true ∧ s.m.brace.handover = none ∧ since + secRaw s.m.returnHold ≤ s.clk.raw + dt) :=
  ⟨
      ⟨st { up [(F.BRACE_STAT_ROLE, 1), (F.BRACE_STAT_HB_P1, 1)] with brace := { BraceSt.reset with partner := some { unit := 1, role := 2, eligible := true, synced := true, tstate := 0, armed := false, bverMin := 1, bverMax := 1, fwVer := 0, serial := [], tick := 0, mac := none, braceId := 0, unc := 0 } } },
      0, 0, hdr, by decide +kernel⟩,
    ⟨st (up [(F.BRACE_STAT_ROLE, 2), (F.BRACE_CTL_MODE, 1)]), 0, hdr, by decide +kernel⟩,
    
      ⟨st { up [(F.BRACE_STAT_ROLE, 1)] with brace := { BraceSt.reset with handover := some { b := 1, giving := true, hdr := none, cause := 3, accepted := true, released := false } } },
      11250000, { b := 1, giving := true, hdr := none, cause := 3, accepted := true, released := false }, by decide +kernel⟩,
    
      ⟨st { up [(F.BRACE_STAT_ROLE, 1)] with brace := { BraceSt.reset with handover := some { b := 1, giving := true, hdr := none, cause := 3, accepted := true, released := false } } },
      11875000, { b := 1, giving := true, hdr := none, cause := 3, accepted := true, released := false }, by decide +kernel⟩,
    
      ⟨st { up [(F.BRACE_STAT_ROLE, 1), (F.BRACE_STAT_HB_P1, 1), (F.BRACE_CTL_RETURN, 1), (F.BRACE_CTL_UNIT, 1), (F.BRACE_CTL_PREF_UNIT, 0)] with brace := { BraceSt.reset with partner := some { unit := 1, role := 2, eligible := true, synced := true, tstate := 0, armed := false, bverMin := 1, bverMax := 1, fwVer := 0, serial := [], tick := 0, mac := none, braceId := 0, unc := 0 }, readySince := some 0 } },
      secRaw 100000, 0, by decide +kernel⟩⟩

/-- Hypotheses of KeysAndBlobs that are met. -/
theorem witness_KeysAndBlobs :
    (∃ (s : State) (dt slot addr size : Nat) (h : Hdr) (b : List Byte), s.m.live? 7 = true ∧ addr % 8 = 0)
    ∧ (∃ (s : State) (dt slot : Nat) (h : Hdr), s.m.live? 7 = true ∧ 4 ≤ slot ∧ slot ≤ 63 ∧ s.m.slotState slot = 1)
    ∧ (∃ (s : State) (dt : Nat), s.m.live? 7 = true ∧ (s.now dt).ended = true)
    ∧ (∃ (s : State) (dt parent slot type labelLen use user : Nat) (h : Hdr) (label context : List Byte),
      s.m.live? 7 = true ∧ 4 ≤ slot ∧ slot ≤ 63 ∧ parent ≤ 63 ∧ 1 ≤ labelLen ∧ labelLen ≤ 16 ∧ (type = 1 ∨ type = 2) ∧ s.m.kenState ≠ 1 ∧ s.m.slotState slot = 0 ∧ s.m.slotErr parent = 0 ∧ (s.m.fld (F.KEN_SLOT_STAT_TYPE parent) = 2 ∨ s.m.fld (F.KEN_SLOT_STAT_TYPE parent) = 7) ∧ (s.m.fld (F.KEN_SLOT_STAT_USE parent)).testBit 2 = true ∧ user &&& s.m.fld (F.KEN_SLOT_STAT_USER parent) = user ∧ policyOk type use user = true)
    ∧ (∃ (s : State) (dt slot parent bind addr size serial : Nat) (h : Hdr),
      s.m.live? 7 = true ∧ 4 ≤ slot ∧ slot ≤ 63 ∧ parent ≤ 63 ∧ parent ≠ 1 ∧ parent ≠ 2 ∧ bind ≤ 2 ∧ addr % 8 = 0 ∧ s.m.slotErr slot = 0 ∧ s.m.slotErr parent = 0 ∧ (s.m.fld (F.KEN_SLOT_STAT_USE slot)).testBit 5 = true ∧ (s.m.fld (F.KEN_SLOT_STAT_USE parent)).testBit 1 = true ∧ 72 + (s.m.slotKey slot).length ≤ size)
    ∧ (∃ (s : State) (dt : Nat) (h : Hdr) (nonce : List Byte), s.m.live? 7 = true ∧ s.m.slotErr 1 = 0)
    ∧ (∃ (s : State) (dt index : Nat) (h : Hdr) (digest : List Byte), s.m.live? 7 = true ∧ 4 ≤ index ∧ index ≤ 7)
    ∧ (∃ (s : State) (dt slot : Nat) (h : Hdr) (digest : List Byte), s.m.live? 7 = true ∧ s.m.hostUse slot 0 [3, 4] 3 = 0)
    ∧ (∃ (s : State) (dt slot : Nat) (h : Hdr) (digest sig : List Byte), s.m.live? 7 = true ∧ s.m.hostUse slot 0 [5, 6] 4 = 0) :=
  ⟨⟨st (up []), 0, 9, 64, 0, hdr, [], by decide +kernel⟩,
    ⟨st (up [(F.KEN_SLOT_STAT_STATE 9, 1), (F.KEN_SLOT_STAT_TYPE 9, 0), (F.KEN_SLOT_STAT_USE 9, 0), (F.KEN_SLOT_STAT_USER 9, 0)]), 0, 9, hdr,
      by decide +kernel⟩,
    ⟨st (up []), 12500000, by decide +kernel⟩,
    ⟨st (up [(F.KEN_SLOT_STAT_STATE 10, 1), (F.KEN_SLOT_STAT_TYPE 10, 2), (F.KEN_SLOT_STAT_USE 10, 4), (F.KEN_SLOT_STAT_USER 10, 0)]), 0, 10, 9, 1, 1, 0,
      0, hdr, [], [], by decide +kernel⟩,
    
      ⟨st (up [(F.KEN_SLOT_STAT_STATE 9, 1), (F.KEN_SLOT_STAT_TYPE 9, 1), (F.KEN_SLOT_STAT_USE 9, 32), (F.KEN_SLOT_STAT_USER 9, 0), (F.KEN_SLOT_STAT_STATE 10, 1), (F.KEN_SLOT_STAT_TYPE 10, 2), (F.KEN_SLOT_STAT_USE 10, 2), (F.KEN_SLOT_STAT_USER 10, 0)]),
      0, 9, 10, 0, 64, 72, 0, hdr, by decide +kernel⟩,
    ⟨st (up [(F.KEN_SLOT_STAT_STATE 1, 1), (F.KEN_SLOT_STAT_TYPE 1, 0), (F.KEN_SLOT_STAT_USE 1, 0), (F.KEN_SLOT_STAT_USER 1, 0)]), 0, hdr, [],
      by decide +kernel⟩,
    ⟨st (up []), 0, 7, hdr, [], by decide +kernel⟩,
    ⟨st (up [(F.KEN_SLOT_STAT_STATE 9, 1), (F.KEN_SLOT_STAT_TYPE 9, 3), (F.KEN_SLOT_STAT_USE 9, 8), (F.KEN_SLOT_STAT_USER 9, 1)]), 0, 9, hdr, [],
      by decide +kernel⟩,
    ⟨st (up [(F.KEN_SLOT_STAT_STATE 9, 1), (F.KEN_SLOT_STAT_TYPE 9, 5), (F.KEN_SLOT_STAT_USE 9, 16), (F.KEN_SLOT_STAT_USER 9, 1)]), 0, 9, hdr, [], [],
      by decide +kernel⟩⟩

/-- Hypotheses of RootsAndTamper that are met. -/
theorem witness_RootsAndTamper :
    (∃ (s : State) (dt flags : Nat) (h : Hdr),
      s.m.live? 7 = true ∧ flags ≤ 1 ∧ s.m.kenState ≠ 1 ∧ (s.m.kenState = 0 → flags = 1) ∧ s.m.ken.tamperAt = none)
    ∧ (∃ (s : State) (dt : Nat) (h : Hdr) (roots : List (List Byte)), s.m.live? 7 = true ∧ s.m.ken.cfr = none)
    ∧ (∃ (s : State) (dt v comp : Nat),
      GuardReady s dt R.KEN_TAMPER_CLR v comp ∧ s.m.kenState = 1 ∧ s.m.ken.levels = 0 ∧ s.m.ken.cfr.isSome = true ∧ s.m.ken.gen < 3)
    ∧ (∃ (m : Mod) (k : Clock), m.ken.newState = some 2 ∧ m.ken.gen < 3)
    ∧ (∃ (s : State) (dt src : Nat),
      s.m.pwr.mode = 0 ∧ 6 ≤ s.m.pwr.step ∧ 1 ≤ src ∧ src ≤ 5 ∧ s.m.pwr.aonOk = true ∧ s.m.ken.levels.testBit (src - 1) = false ∧ s.m.tamperOn src = true)
    ∧ (∃ (s : State) (dt src : Nat), s.m.pwr.mode = 0 ∧ 1 ≤ src ∧ src ≤ 5 ∧ s.m.pwr.aonOk = true)
    ∧ (∃ (s : State) (dt at_ : Nat), s.m.ken.tamperAt = some at_ ∧ s.m.pwr.mode = 0 ∧ at_ + msRaw 2 ≤ s.clk.raw + dt)
    ∧ (∃ (s : State) (dt src : Nat), s.m.pwr.mode = 1 ∧ 1 ≤ src ∧ src ≤ 5 ∧ s.m.pwr.aonOk = true ∧ s.m.tamperOn src = true)
    ∧ (∃ (s : State) (dt v comp : Nat), GuardReady s dt R.KEN_ZEROISE v comp)
    ∧ (∃ (s : State) (dt : Nat), s.m.pwr.mode = 0) :=
  ⟨⟨st (up []), 0, 1, hdr, by decide +kernel⟩,
    ⟨st (up []), 0, hdr, [], by decide +kernel⟩,
    ⟨armed { up [(F.KEN_STAT_STATE, 1)] with ken := { KenSt.reset with cfr := some [] } } R.KEN_TAMPER_CLR 1, 0, 1, 4294967294,
      ready _ _ _ _ (by decide +kernel) (by decide) (by decide) (by decide +kernel), by decide +kernel⟩,
    ⟨{ up [] with ken := { KenSt.reset with newState := some 2 } }, Clock.powerOn, by decide +kernel⟩,
    ⟨st (up []), 0, 5, by decide +kernel⟩,
    ⟨st (up []), 0, 1, by decide +kernel⟩,
    ⟨st { up [] with ken := { KenSt.reset with tamperAt := some 0 } }, msRaw 2, 0, by decide +kernel⟩,
    ⟨st { up [] with pwr := { PwrSt.reset with step := 10, mode := 1 } }, 0, 5, by decide +kernel⟩,
    ⟨armed (up []) R.KEN_ZEROISE 1, 0, 1, 4294967294, ready _ _ _ _ (by decide +kernel) (by decide) (by decide) (by decide +kernel)⟩,
    ⟨st (up []), 0, by decide +kernel⟩⟩

/-- Hypotheses of PackagesAndBanks that are met. -/
theorem witness_PackagesAndBanks :
    (∃ (s : State) (dt offset size addr flags : Nat) (h : Hdr) (d : List Byte),
      s.m.live? 8 = true ∧ 1 ≤ size ∧ size ≤ 16777216 ∧ addr % 8 = 0 ∧ offset + size ≤ 536870912 ∧ flags = 1 ∧ offset = 0 ∧ s.m.updState ∈ [0, 1, 2, 4])
    ∧ (∃ (s : State) (dt offset size addr flags : Nat) (h : Hdr) (d : List Byte),
      s.m.live? 8 = true ∧ 1 ≤ size ∧ size ≤ 16777216 ∧ addr % 8 = 0 ∧ offset + size ≤ 536870912 ∧ flags = 0 ∧ offset = s.m.upd.staged.length ∧ s.m.updState = 1)
    ∧ (∃ (s : State) (dt offset size addr flags : Nat) (h : Hdr) (d : List Byte),
      s.m.live? 8 = true ∧ 1 ≤ size ∧ size ≤ 16777216 ∧ addr % 8 = 0 ∧ offset + size ≤ 536870912 ∧ flags = 1 ∧ offset = 0 ∧ s.m.updState = 6)
    ∧ (∃ (s : State) (dt : Nat) (h : Hdr), s.m.live? 8 = true ∧ s.m.updState = 1)
    ∧ (∃ (s : State) (dt : Nat) (h : Hdr), s.m.live? 8 = true ∧ s.m.updState = 2)
    ∧ (∃ (s : State) (dt atTick flags : Nat) (h : Hdr),
      s.m.live? 8 = true ∧ flags ≤ 1 ∧ s.m.updState = 4 ∧ (flags = 1 ↔ s.m.on F.BRACE_CTL_MODE = true) ∧ 100 ≤ tickDiff atTick (s.now dt).tick)
    ∧ (∃ (s : State) (dt : Nat) (h : Hdr), s.m.live? 8 = true ∧ s.m.updState = 5 ∧ s.m.upd.closed = false)
    ∧ (∃ (s : State) (dt at_ : Nat),
      s.m.live? 8 = true ∧ (s.now dt).ended = true ∧ s.m.upd.at_ = some at_ ∧ s.m.updState = 5 ∧ at_ ≤ (s.now dt).beginTick.tickNo + 10 ∧ s.m.upd.closed = false)
    ∧ (∃ (s : State) (dt since : Nat),
      s.m.live? 8 = true ∧ s.m.upd.pairAt = some since ∧ s.m.upd.pairB = none ∧ since + secRaw s.m.pairWait ≤ s.clk.raw + dt) :=
  ⟨⟨st (up []), 0, 0, 16777216, 64, 1, hdr, [], by decide +kernel⟩,
    ⟨st (up [(F.UPD_STAT_STATE, 1)]), 0, 0, 1, 64, 0, hdr, [], by decide +kernel⟩,
    ⟨st (up [(F.UPD_STAT_STATE, 6)]), 0, 0, 1, 64, 1, hdr, [], by decide +kernel⟩,
    ⟨st (up [(F.UPD_STAT_STATE, 1)]), 0, hdr, by decide +kernel⟩,
    ⟨st (up [(F.UPD_STAT_STATE, 2)]), 0, hdr, by decide +kernel⟩,
    ⟨st (up [(F.UPD_STAT_STATE, 4)]), 0, 100, 0, hdr, by decide +kernel⟩,
    ⟨st (up [(F.UPD_STAT_STATE, 5)]), 0, hdr, by decide +kernel⟩,
    ⟨st { up [(F.UPD_STAT_STATE, 5)] with upd := { UpdSt.reset with at_ := some 5 } }, 12500000, 5, by decide +kernel⟩,
    ⟨st { up [] with upd := { UpdSt.reset with pairAt := some 0 } }, secRaw 65536, 0, by decide +kernel⟩⟩

/-- Hypotheses of TrialsAndFuses that are met. -/
theorem witness_TrialsAndFuses :
    (∃ (s : State) (dt at_ : Nat),
      s.m.running = true ∧ (s.now dt).ended = true ∧ s.m.upd.at_ = some at_ ∧ s.m.updState = 5 ∧ at_ ≤ (s.now dt).beginTick.tickNo ∧ s.m.upd.pairAt = none ∧ s.m.actSkipped = false ∧ (s.m.upd.pair = false ∨ s.m.role ≠ 1))
    ∧ (∃ (s : State) (dt : Nat) (h : Hdr), s.m.live? 8 = true ∧ s.m.updState = 6 ∧ s.m.kenState ≠ 1 ∧ s.m.upd.rollNow = false ∧ s.m.upd.pair = false)
    ∧ (∃ (s : State) (dt : Nat) (h : Hdr), s.m.live? 8 = true ∧ s.m.updState = 6 ∧ s.m.upd.rollNow = false)
    ∧ (∃ (s : State) (dt atTick : Nat) (h : Hdr),
      s.m.live? 8 = true ∧ s.m.updState ∈ [0, 1, 2, 4] ∧ s.m.upd.prevValid = true ∧ 100 ≤ tickDiff atTick (s.now dt).tick ∧ (atTick = 0 → s.m.upd.confAt = none))
    ∧ (∃ (s : State) (dt since : Nat),
      s.m.running = true ∧ (s.now dt).ended = true ∧ s.m.upd.trialAt = some since ∧ s.m.updState = 6 ∧ since + secRaw s.m.trialS ≤ (s.now dt).beginTick.raw)
    ∧ (∃ (s : State) (dt v comp : Nat), GuardReady s dt R.UPD_FUSE_SVN v comp ∧ v = s.m.rd R.UPD_SVN_RUN ∧ s.m.upd.fused < v ∧ s.m.updState ≠ 6) :=
  ⟨⟨st { up [(F.UPD_STAT_STATE, 5)] with upd := { UpdSt.reset with at_ := some 0 } }, 12500000, 0, by decide +kernel⟩,
    ⟨st (up [(F.UPD_STAT_STATE, 6)]), 0, hdr, by decide +kernel⟩,
    ⟨st (up [(F.UPD_STAT_STATE, 6)]), 0, hdr, by decide +kernel⟩,
    ⟨st { up [] with upd := { UpdSt.reset with prevValid := true } }, 0, 100, hdr, by decide +kernel⟩,
    ⟨st { up [(F.UPD_STAT_STATE, 6)] with upd := { UpdSt.reset with trialAt := some 0 } }, secRaw 3600, 0, by decide +kernel⟩,
    ⟨armed (up [(w R.UPD_SVN_RUN, 3)]) R.UPD_FUSE_SVN 3, 0, 3, 4294967292, ready _ _ _ _ (by decide +kernel) (by decide) (by decide) (by decide +kernel),
      by decide +kernel⟩⟩

/-- Hypotheses of PowerStates that are met. -/
theorem witness_PowerStates :
    (∃ (s : State) (dt d at_ : Nat),
      d < 32 ∧ AMap.find s.m.pwr.settling d = some at_ ∧ (tickDom d = false ∨ ((s.now dt).ended = true ∧ at_ + msRaw 2 ≤ (s.now dt).nextBoundary)))
    ∧ (∃ (s : State) (dt tick : Nat),
      s.m.running = true ∧ (s.now dt).ended = true ∧ s.m.pstate = 1 ∧ s.m.pwr.heelTick = some tick ∧ tick ≤ (s.now dt).beginTick.tickNo ∧ s.m.allRest = true)
    ∧ (∃ (s : State) (dt : Nat),
      s.m.running = true ∧ (s.now dt).ended = true ∧ s.m.pstate = 4 ∧ (s.now dt).beginTick.phase = 0 ∧ s.m.pwr.lastToken + msRaw 30 ≤ (s.now dt).beginTick.raw ∧ s.m.fld F.PWR_STAT_TARGET ≠ 2)
    ∧ (∃ (s : State) (dt : Nat),
      s.m.running = true ∧ (s.now dt).ended = true ∧ s.m.pstate = 4 ∧ (s.now dt).beginTick.phase = 0 ∧ s.m.pwr.lastToken + msRaw 30 ≤ (s.now dt).beginTick.raw ∧ s.m.fld F.PWR_STAT_TARGET = 2)
    ∧ (∃ (s : State) (dt : Nat), s.m.running = true ∧ (s.now dt).ended = true ∧ s.m.pstate = 2 ∧ s.m.pwr.hibPending = true)
    ∧ (∃ (s : State) (dt : Nat),
      s.m.running = true ∧ (s.now dt).ended = true ∧ s.m.pstate = 3 ∧ (s.now dt).beginTick.phase = 0 ∧ s.m.pwr.wakeAt + msRaw 50 ≤ (s.now dt).beginTick.raw)
    ∧ (∃ (s : State) (dt : Nat),
      s.m.running = true ∧ (s.now dt).ended = true ∧ s.m.awake = false ∧ s.m.gnss.burst = none ∧ (s.now dt).beginTick.tickNo % 100 = 0 ∧ s.m.on F.GNSS_CTL_EN = true ∧ s.m.bit R.PWR_DOM_EN 4 = true ∧ s.m.bit R.PWR_DOM_EN 5 = true)
    ∧ (∃ (s : State) (dt b : Nat),
      s.m.running = true ∧ (s.now dt).ended = true ∧ s.m.gnss.burst = some b ∧ s.m.pstate = 2 ∧ b + s.m.burstTicks ≤ (s.now dt).beginTick.tickNo) :=
  ⟨⟨st { up [] with pwr := { PwrSt.reset with step := 10, settling := [(3, 0)] } }, 0, 3, 0, by decide +kernel⟩,
    ⟨st { up [(F.PWR_STAT_STATE, 1)] with pwr := { PwrSt.reset with step := 10, heelTick := some 0 } }, 12500000, 0, by decide +kernel⟩,
    ⟨stAt 9 (up [(F.PWR_STAT_STATE, 4)]), 12500000, by decide +kernel⟩,
    ⟨stAt 9 (up [(F.PWR_STAT_STATE, 4), (F.PWR_STAT_TARGET, 2)]), 12500000, by decide +kernel⟩,
    ⟨st { up [(F.PWR_STAT_STATE, 2)] with pwr := { PwrSt.reset with step := 10, hibPending := true } }, 12500000, by decide +kernel⟩,
    ⟨stAt 9 (up [(F.PWR_STAT_STATE, 3)]), 12500000, by decide +kernel⟩,
    ⟨stAt 99 (up [(F.PWR_STAT_STATE, 2), (F.GNSS_CTL_EN, 1), (w R.PWR_DOM_EN, 48)]), 12500000, by decide +kernel⟩,
    ⟨stAt 60 { up [(F.PWR_STAT_STATE, 2)] with gnss := { GnssSt.reset with burst := some 0 } }, 12500000, 0, by decide +kernel⟩⟩

/-- Hypotheses of ResetsKeepAndLose that are met. -/
theorem witness_ResetsKeepAndLose :
    (∃ (m : Mod) (k : Clock) (kind : Nat) (act : Bool), 1 ≤ kind ∧ kind ≤ 7)
    ∧ (∃ (m : Mod) (k : Clock) (kind : Nat) (act : Bool), 1 ≤ kind ∧ kind ≤ 7 ∧ 3 ≤ kind ∧ kind ≤ 6)
    ∧ (∃ (m : Mod) (k : Clock) (kind : Nat) (act : Bool), 1 ≤ kind ∧ kind ≤ 7 ∧ 3 ≤ kind ∧ kind ≤ 6 ∧ m.on F.TIME_STAT_RETURNING = false)
    ∧ (∃ (m : Mod) (k : Clock) (kind : Nat) (act : Bool), 1 ≤ kind ∧ kind ≤ 7 ∧ (kind < 3 ∨ 6 < kind)) :=
  ⟨⟨up [], Clock.powerOn, 1, false, by decide +kernel⟩,
    ⟨up [], Clock.powerOn, 3, false, by decide +kernel⟩,
    ⟨up [], Clock.powerOn, 6, true, by decide +kernel⟩,
    ⟨up [], Clock.powerOn, 7, false, by decide +kernel⟩⟩

/-- Hypotheses of SupplyAndWake that are met. -/
theorem witness_SupplyAndWake :
    (∃ (s : State) (dt : Nat), s.m.pwr.mode = 0)
    ∧ (∃ (s : State) (dt : Nat), s.m.running = true ∧ s.m.pwr.fedAt + msRaw s.m.wdtMs ≤ s.clk.raw + dt)
    ∧ (∃ (s : State) (dt : Nat), s.m.pwr.mode ≠ 2 ∧ s.m.pwr.vbatOk = true)
    ∧ (∃ (s : State) (dt : Nat) (nothing vbat : Bool), s.m.pwr.mode = 2)
    ∧ (∃ (s : State) (dt : Nat), s.m.pwr.mode = 2)
    ∧ (∃ (s : State) (dt : Nat), s.m.pwr.mode = 1 ∧ s.m.bit R.PWR_WAKE_CTL 0 = true)
    ∧ (∃ (s : State) (dt : Nat), s.m.pwr.mode = 1 ∧ s.m.bit R.PWR_WAKE_CTL 1 = true ∧ s.m.rd R.PWR_WAKE_SEC ≤ s.m.aonSec (s.now dt))
    ∧ (∃ (s : State) (dt : Nat), s.m.pwr.mode = 0 ∧ s.m.pwr.opAt + secRaw 1 ≤ s.clk.raw + dt)
    ∧ (∃ (s : State) (dt mV : Nat), s.m.barUp = true ∧ mV < 4500)
    ∧ (∃ (s : State) (dt : Nat) (temp : Int), s.m.barUp = true ∧ 8500 < temp ∧ temp < 32768)
    ∧ (∃ (s : State) (dt : Nat) (migOk selfOk : Bool) (u : UpdSt),
      s.m.pwr.mode = 0 ∧ s.m.pwr.step < 9 ∧ s.m.pwr.failed = false ∧ s.m.upd.bootRom = some (u, false) ∧ u.rec_.trial = false) :=
  ⟨⟨st (up []), 0, by decide +kernel⟩,
    ⟨st (up []), msRaw 10000, by decide +kernel⟩,
    ⟨st (up []), 0, by decide +kernel⟩,
    ⟨st { up [] with pwr := { PwrSt.reset with step := 10, mode := 2 } }, 0, false, true, by decide +kernel⟩,
    ⟨st { up [] with pwr := { PwrSt.reset with step := 10, mode := 2 } }, 0, by decide +kernel⟩,
    ⟨st { up [(w R.PWR_WAKE_CTL, 1)] with pwr := { PwrSt.reset with step := 10, mode := 1 } }, 0, by decide +kernel⟩,
    ⟨st { up [(w R.PWR_WAKE_CTL, 2)] with pwr := { PwrSt.reset with step := 10, mode := 1 } }, 0, by decide +kernel⟩,
    ⟨st (up []), secRaw 1, by decide +kernel⟩,
    ⟨st (up []), 0, 4000, by decide +kernel⟩,
    ⟨st (up []), 0, 9000, by decide +kernel⟩,
    ⟨State.reset, 0, true, true, UpdSt.reset, by decide, by decide, by decide, rfl, by decide⟩⟩

/-- Hypotheses of TriggersWriteRecords that are met. -/
theorem witness_TriggersWriteRecords :
    (∃ (m : Mod) (k : Clock) (trig : Nat) (p : List Byte), 4 < trig ∧ trig ≤ 15 ∧ m.on F.REC_CTL_EN = false)
    ∧ (∃ (m : Mod) (k : Clock) (trig : Nat) (p : List Byte), 4 < trig ∧ trig ≤ 15 ∧ m.on F.REC_CTL_EN = true ∧ m.on (F.REC_TRIG_CTL_EN (trig - 1)) = false)
    ∧ (∃ (m : Mod) (k : Clock) (trig : Nat) (p : List Byte),
      4 < trig ∧ trig ≤ 15 ∧ m.on F.REC_CTL_EN = true ∧ m.on (F.REC_TRIG_CTL_EN (trig - 1)) = true ∧ m.recHeld k trig = false ∧ m.rcd.queue.length < 12) :=
  ⟨⟨up [], Clock.powerOn, 5, [], by decide +kernel⟩,
    ⟨up [(F.REC_CTL_EN, 1), (F.REC_TRIG_CTL_EN 4, 0)], Clock.powerOn, 5, [], by decide +kernel⟩,
    ⟨up [(F.REC_CTL_EN, 1), (F.REC_TRIG_CTL_EN 14, 1)], Clock.powerOn, 15, [], by decide +kernel⟩⟩

/-- Hypotheses of FixedTriggersAlwaysWrite that are met. -/
theorem witness_FixedTriggersAlwaysWrite :
    ∃ (m : Mod) (k : Clock) (trig : Nat) (p : List Byte), 1 ≤ trig ∧ trig ≤ 4 ∧ m.rcd.queue.length < 16 :=
  ⟨up [], Clock.powerOn, 1, [], by decide +kernel⟩

/-- Hypotheses of RecordsAndDumps that are met. -/
theorem witness_RecordsAndDumps :
    (∃ (s : State) (dt : Nat) (q : RecQ) (rest : List RecQ),
      s.m.barUp = true ∧ s.m.rcd.queue = q :: rest ∧ s.m.rcd.backlog = [] ∧ q.prot = true ∧ rcdUsed s.m.nv.prot + 52 + 8 * (s.m.snapOffsets q).length ≤ 130048)
    ∧ (∃ (s : State) (dt sq : Nat) (r : Rcd) (prot : Bool), s.m.opens R.REC_CUR_SEL = true ∧ s.m.recBySeq (sq % 4294967296) = some (r, prot))
    ∧ (∃ (s : State) (dt : Nat), s.m.opens R.REC_CUR_CMD = true)
    ∧ (∃ (s : State) (dt list : Nat) (ws : List Nat),
      s.m.opens R.REC_MBX_DATA = true ∧ list ≤ 15 ∧ ws.length = 65 ∧ ws.headD 0 % 128 ≤ 64 ∧ ((((ws.drop 1).map fun w => w % 16777216).take (ws.headD 0 % 128)).any snapBad) = false)
    ∧ (∃ (s : State) (dt : Nat) (h : Hdr) (p : List Byte), s.m.live? 4 = true ∧ s.m.trigOn 15 = true)
    ∧ (∃ (s : State) (dt : Nat) (d : Dump) (rest : List (Dump × Bool)), s.m.perf.due = (d, true) :: rest)
    ∧ (∃ (s : State) (dt : Nat) (h : Hdr), s.m.live? 3 = true ∧ s.m.ringState 5 = 1) :=
  ⟨
      ⟨st { up [] with rcd := { RecSt.reset with queue := [{ trig := 2, seq := 0, prot := true, payload := [], opSec := 0, cycles := 0, tick := 0, time := 0, tstate := 0, coal := 0, headerOnly := true }] } },
      0,
      { trig := 2, seq := 0, prot := true, payload := [], opSec := 0, cycles := 0, tick := 0, time := 0, tstate := 0, coal := 0, headerOnly := true },
      [], by decide +kernel⟩,
    ⟨st { up [] with nv := { NvSt.asShipped with ring := [{ seq := 7, trig := 2, bytes := [] }] } }, 0, 7, { seq := 7, trig := 2, bytes := [] }, false,
      by decide +kernel⟩,
    ⟨st (up []), 0, by decide +kernel⟩,
    ⟨st (up []), 0, 15, List.replicate 65 0, by decide +kernel⟩,
    ⟨st (up [(F.REC_CTL_EN, 1), (F.REC_TRIG_CTL_EN 14, 1)]), 0, hdr, [], by decide +kernel⟩,
    ⟨st { up [] with perf := { PerfSt.reset with due := [({ reason := 1, tag := 0, noResult := false, acceptTick := 0 }, true)] } }, 0,
      { reason := 1, tag := 0, noResult := false, acceptTick := 0 }, [], by decide +kernel⟩,
    ⟨st (up [(F.RING_STAT_STATE 5, 1)]), 0, hdr, by decide +kernel⟩⟩

/-- Hypotheses of TickBoundaries that are met. -/
theorem witness_TickBoundaries :
    (∃ (s : State) (dt : Nat) (g : GnssIn) (pk : PackIn) (ti : TimeIn) (sh : ShepIn), s.m.barUp = false)
    ∧ (∃ (s : State) (dt : Nat) (g : GnssIn) (pk : PackIn) (ti : TimeIn) (sh : ShepIn),
      s.m.barUp = true ∧ s.m.running = false ∧ s.m.glb.apply = none ∧ s.m.time.step = none ∧ max (s.now dt).raw (s.now dt).nextBoundary < s.m.pwr.resetAt + msRaw 3500)
    ∧ (∃ (s : State) (dt : Nat) (g : GnssIn) (pk : PackIn) (ti : TimeIn) (sh : ShepIn), s.m.running = true) :=
  ⟨⟨State.reset, 0, GnssIn.none, PackIn.none, TimeIn.none, ShepIn.all, by decide +kernel⟩,
    ⟨st { up [] with pwr := { PwrSt.reset with step := 9 } }, 0, GnssIn.none, PackIn.none, TimeIn.none, ShepIn.all, by decide +kernel⟩,
    ⟨st (up []), 0, GnssIn.none, PackIn.none, TimeIn.none, ShepIn.all, by decide +kernel⟩⟩

/-! ### Statements whose hypotheses meet a free value -/

/-- A homing channel as far from its start as HOME_RANGE, whatever HOME_RANGE is. -/
theorem witness_InputsAndEnds_home :
    ∃ (s : State) (dt ch : Nat) (h : Homing), s.m.motUp = true ∧ (s.m.mch ch).homing = some h ∧ s.m.mst ch = 3 ∧ h.phase = 2
      ∧ (homeRange ch : Int) * posU ≤ ((s.m.chNow (s.now dt) ch).p - h.from_).natAbs := by
  let h : Homing := { pos := true, onLimit := false, speed := 1, ofs := 0, phase := 2, from_ := -((homeRange 2 : Int) * posU) }
  refine ⟨st { up [(F.MOT_CH_STAT_STATE 2, 3)] with mot := { MotSt.reset with ch := [(2, { MotCh.fresh with homing := some h })] } }, 0, 2, h,
    by decide +kernel, rfl, by decide +kernel, rfl, ?_⟩
  show (homeRange 2 : Int) * posU ≤ (((0 : Int) - -((homeRange 2 : Int) * posU)).natAbs : Int)
  rw [Int.zero_sub, Int.neg_neg]; exact Int.le_natAbs

/-- A staged package of eight empty full parts. -/
def staged : List Byte :=
  List.replicate 64 0 ++ ((upto 8).map fun i => le 1 i ++ List.replicate 15 0 ++ Config.sha384 [] ++ List.replicate 48 0).flatten

set_option maxRecDepth 4000 in
/-- Every part of it installs with its digest and length. -/
theorem witness_PackagesAndBanks_install :
    ∃ (s : State) (i : UpdHdr), s.m.live? 8 = true ∧ s.m.upd.inst = some i
      ∧ ∀ j, j < 8 → Config.sha384 (s.m.partImage s.m.upd.staged j) = (readPart s.m.upd.staged j).digest
          ∧ (s.m.partImage s.m.upd.staged j).length = (readPart s.m.upd.staged j).imgLen := by
  refine ⟨st { up [] with upd := { UpdSt.reset with staged := staged, inst := some { tag := 7, noResult := false, acceptTick := 0 } } },
    { tag := 7, noResult := false, acceptTick := 0 }, by decide +kernel, rfl, ?_⟩
  intro j hj
  match j, hj with
  | 0, _ | 1, _ | 2, _ | 3, _ | 4, _ | 5, _ | 6, _ | 7, _ => exact ⟨rfl, rfl⟩

/-- A module with the Brace enabled and its key in slot 9. -/
def brace (l : List (Fld × Nat)) : Mod :=
  up ([(F.BRACE_CTL_MODE, 1), (w R.BRACE_KEY, 9), (F.KEN_SLOT_STAT_STATE 9, 1), (F.KEN_SLOT_STAT_TYPE 9, 1), (F.KEN_SLOT_STAT_USE 9, 1),
    (F.KEN_SLOT_STAT_USER 9, 4)] ++ l)

/-- The bytes of a Brace frame of time 0 and SEQ 1 under the empty key, before its tag, and with it. -/
def plain (type tick : Nat) (body : List Byte) : List Byte :=
  le 1 1 ++ le 1 type ++ le 2 (48 + body.length) ++ le 4 0 ++ le 4 1 ++ le 8 0 ++ le 4 tick ++ le 8 0 ++ body
def msg (type tick : Nat) (body : List Byte) : List Byte := plain type tick body ++ (Config.aesCmac [] (plain type tick body)).take 16

/-- A frame that passes every check of R481 is accepted. -/
theorem braceFrame_good (m : Mod) (k : Clock) (type : Nat) (d : List Byte)
    (h1 : (!m.braceUp || decide (d.length < 48) || leAt d 1 1 != type) = false)
    (h2 : m.slotAllows (m.rd R.BRACE_KEY % 64) [1] 0 2 = true)
    (h3 : (Config.aesCmac (m.slotKey (m.rd R.BRACE_KEY % 64)) (d.take (d.length - 16))).take 16 = d.drop (d.length - 16))
    (h4 : leAt d 2 2 = d.length ∧ leAt d 4 2 = (m.inc R.KEN_OP_CNT).rd R.BRACE_ID % 65536
      ∧ ¬ ((if (m.inc R.KEN_OP_CNT).on F.BRACE_STAT_TIME_ALIGNED then 1000000 else 10000000000)
          < (Int.ofNat (leAt d 12 8) - Int.ofNat (Clock.fullNs k.now)).natAbs) ∧ m.brace.rxSeq = none) :
    m.braceFrame k type d =
      ({ ((m.inc R.KEN_OP_CNT).inc R.BRACE_RX_CNT) with
         brace := { ((m.inc R.KEN_OP_CNT).inc R.BRACE_RX_CNT).brace with rxSeq := some (leAt d 8 4) } },
       some { tick := leAt d 20 4, last := (leAt d 7 1).testBit 0, unit := leAt d 6 1 % 2, time := leAt d 12 8,
              body := (d.take (d.length - 16)).drop 32 }) := by
  obtain ⟨h4, h5, h6, h7⟩ := h4
  have h8 : (m.inc R.KEN_OP_CNT).brace.rxSeq = none := h7
  unfold Mod.braceFrame
  rw [h1]; simp only [Bool.false_eq_true, if_false, Mod.useKey, h2, if_true]
  refine (if_neg ?_).trans rfl
  rintro (h | h | h | h | h)
  · exact h h4
  · exact h h3
  · exact h h5
  · exact h6 h
  · rw [h8] at h; cases h

/-- Hypotheses of BraceMirror that are met. -/
theorem witness_BraceMirror :
    (∃ (s : State) (dt : Nat) (d : List Byte) (m : Mod) (f : BraceMsg), m.standby = true ∧ m.paired = true ∧ s.found.braceFrame (s.now dt) 0x10 d = (m, some f))
    ∧ (∃ (s : State) (dt : Nat) (d : List Byte) (m : Mod) (f : BraceMsg), m.standby = true ∧ m.paired = true ∧ s.found.braceFrame (s.now dt) 0x11 d = (m, some f))
    ∧ (∃ (s : State) (dt : Nat) (d : List Byte) (m : Mod) (f : BraceMsg), m.standby = true ∧ m.paired = true ∧ s.found.braceFrame (s.now dt) 0x13 d = (m, some f))
    ∧ (∃ (s : State) (dt : Nat) (d : List Byte) (m : Mod) (f : BraceMsg), m.standby = true ∧ m.paired = true ∧ s.found.braceFrame (s.now dt) 0x20 d = (m, some f))
    ∧ (∃ (s : State) (dt : Nat) (d : List Byte) (m : Mod) (f : BraceMsg), m.standby = true ∧ m.paired = true ∧ s.found.braceFrame (s.now dt) 0x31 d = (m, some f))
    ∧ (∃ (s : State) (dt : Nat) (d : List Byte) (m : Mod) (f : BraceMsg), m.standby = true ∧ m.paired = true ∧ s.found.braceFrame (s.now dt) 0x32 d = (m, some f) ∧ m.brace.syncing = true ∧ mirrorCrc m.brace.mirror = leAt f.body 0 4)
    ∧ (∃ (s : State) (dt : Nat) (d : List Byte) (m : Mod) (f : BraceMsg), s.found.braceFrame (s.now dt) 0x30 d = (m, some f) ∧ m.role = 1 ∧ m.paired = true)
    ∧ (∃ (s : State) (dt : Nat) (d : List Byte) (m : Mod) (f : BraceMsg), s.found.braceFrame (s.now dt) 0x12 d = (m, some f) ∧ m.role = 1 ∧ s.m.brace.ackTick = some s.clk.tickNo ∧ f.tick = (s.now dt).tick)
    ∧ (∃ (s : State) (dt : Nat), s.m.ackHeld (s.now dt) = true ∧ 3500000 ≤ (s.now dt).subNs (s.now dt).raw)
    ∧ (∃ (s : State) (dt : Nat) (d : List Byte) (m : Mod) (f : BraceMsg), s.found.braceFrame (s.now dt) 0x50 d = (m, some f) ∧ m.standby = true) :=
  ⟨⟨st (brace [(F.BRACE_STAT_ROLE, 2), (F.BRACE_STAT_HB_P1, 1)]), 0, msg 0x10 0 [], _, _, by decide +kernel, by decide +kernel, braceFrame_good _ _ _ _ (by decide +kernel) (by decide +kernel) rfl (by decide +kernel)⟩,
    ⟨st (brace [(F.BRACE_STAT_ROLE, 2), (F.BRACE_STAT_HB_P1, 1)]), 0, msg 0x11 0 [], _, _, by decide +kernel, by decide +kernel, braceFrame_good _ _ _ _ (by decide +kernel) (by decide +kernel) rfl (by decide +kernel)⟩,
    ⟨st (brace [(F.BRACE_STAT_ROLE, 2), (F.BRACE_STAT_HB_P1, 1)]), 0, msg 0x13 0 [], _, _, by decide +kernel, by decide +kernel, braceFrame_good _ _ _ _ (by decide +kernel) (by decide +kernel) rfl (by decide +kernel)⟩,
    ⟨st (brace [(F.BRACE_STAT_ROLE, 2), (F.BRACE_STAT_HB_P1, 1)]), 0, msg 0x20 0 [], _, _, by decide +kernel, by decide +kernel, braceFrame_good _ _ _ _ (by decide +kernel) (by decide +kernel) rfl (by decide +kernel)⟩,
    ⟨st (brace [(F.BRACE_STAT_ROLE, 2), (F.BRACE_STAT_HB_P1, 1)]), 0, msg 0x31 0 [], _, _, by decide +kernel, by decide +kernel, braceFrame_good _ _ _ _ (by decide +kernel) (by decide +kernel) rfl (by decide +kernel)⟩,
    ⟨st { brace [(F.BRACE_STAT_ROLE, 2), (F.BRACE_STAT_HB_P1, 1)] with brace := { BraceSt.reset with syncing := true } }, 0, msg 0x32 0 (le 4 (mirrorCrc [])), _, _, by decide +kernel, by decide +kernel, braceFrame_good _ _ _ _ (by decide +kernel) (by decide +kernel) rfl (by decide +kernel), by decide +kernel⟩,
    ⟨st (brace [(F.BRACE_STAT_ROLE, 1), (F.BRACE_STAT_HB_P1, 1)]), 0, msg 0x30 0 [], _, _, braceFrame_good _ _ _ _ (by decide +kernel) (by decide +kernel) rfl (by decide +kernel), by decide +kernel⟩,
    ⟨st { brace [(F.BRACE_STAT_ROLE, 1), (F.BRACE_STAT_HB_P1, 1)] with brace := { BraceSt.reset with ackTick := some 0 } }, 0, msg 0x12 0 [3], _, _, braceFrame_good _ _ _ _ (by decide +kernel) (by decide +kernel) rfl (by decide +kernel), by decide +kernel⟩,
    ⟨st { brace [(F.BRACE_STAT_ROLE, 1), (F.BRACE_STAT_HB_P1, 1), (F.BRACE_STAT_SYNCED, 1)] with brace := { BraceSt.reset with partner := some { unit := 1, role := 2, eligible := true, synced := true, tstate := 0, armed := false, bverMin := 1, bverMax := 1, fwVer := 0, serial := [], tick := 0, mac := none, braceId := 0, unc := 0 } } }, 4375000, by decide +kernel⟩,
    ⟨st (brace [(F.BRACE_STAT_ROLE, 2), (F.BRACE_STAT_HB_P1, 1)]), 0, msg 0x50 0 [], _, _, braceFrame_good _ _ _ _ (by decide +kernel) (by decide +kernel) rfl (by decide +kernel), by decide +kernel⟩⟩

/-- Frames that meet the hypotheses of BraceHeartbeats. -/
theorem witness_BraceHeartbeats_rx :
    (∃ (s : State) (dt : Nat) (d : List Byte) (m : Mod) (f : BraceMsg), s.m.braceUp = true ∧ s.found.braceFrame (s.now dt) 1 d = (m, some f))
    ∧ (∃ (s : State) (dt : Nat) (d : List Byte) (p : Partner) (m : Mod) (f : BraceMsg), s.found.braceFrame (s.now dt) 2 d = (m, some f) ∧ s.m.leashUp = true ∧ s.m.standby = true ∧ s.m.brace.partner = some p ∧ p.role = 1 ∧ s.m.leash.partner = false) :=
  ⟨⟨st (brace [(F.BRACE_STAT_ROLE, 2), (F.BRACE_STAT_HB_P1, 1)]), 0, msg 1 0 [], _, _, by decide +kernel, braceFrame_good _ _ _ _ (by decide +kernel) (by decide +kernel) rfl (by decide +kernel)⟩,
    ⟨st { brace [(F.BRACE_STAT_ROLE, 2), (F.BRACE_STAT_HB_P1, 1)] with brace := { BraceSt.reset with partner := some { unit := 1, role := 1, eligible := true, synced := true, tstate := 0, armed := false, bverMin := 1, bverMax := 1, fwVer := 0, serial := [], tick := 0, mac := none, braceId := 0, unc := 0 } } }, 0, msg 2 0 [], { unit := 1, role := 1, eligible := true, synced := true, tstate := 0, armed := false, bverMin := 1, bverMax := 1, fwVer := 0, serial := [], tick := 0, mac := none, braceId := 0, unc := 0 }, _, _, braceFrame_good _ _ _ _ (by decide +kernel) (by decide +kernel) rfl (by decide +kernel), by decide +kernel⟩⟩

/-- Frames that meet the hypotheses of BraceHandovers. -/
theorem witness_BraceHandovers_rx :
    (∃ (s : State) (dt : Nat) (d : List Byte) (m : Mod) (f : BraceMsg), s.found.braceFrame (s.now dt) 0x40 d = (m, some f) ∧ m.role = 2 ∧ m.eligible = true ∧ m.brace.mismatch = false)
    ∧ (∃ (s : State) (dt : Nat) (d : List Byte) (m : Mod) (f : BraceMsg) (o : Handover), s.found.braceFrame (s.now dt) 0x41 d = (m, some f) ∧ s.m.brace.handover = some o ∧ o.giving = true ∧ o.accepted = false ∧ leAt f.body 0 4 = o.b ∧ leAt f.body 4 1 = 0) :=
  ⟨⟨st (brace [(F.BRACE_STAT_ROLE, 2), (F.BRACE_STAT_HB_P1, 1), (F.BRACE_CTL_ELIG_EN, 1)]), 0, msg 0x40 0 [], _, _, braceFrame_good _ _ _ _ (by decide +kernel) (by decide +kernel) rfl (by decide +kernel), by decide +kernel⟩,
    ⟨st { brace [(F.BRACE_STAT_ROLE, 1), (F.BRACE_STAT_HB_P1, 1)] with brace := { BraceSt.reset with handover := some { b := 1, giving := true, hdr := none, cause := 3, accepted := false, released := false } } }, 0, msg 0x41 0 [1, 0, 0, 0, 0], _, _, { b := 1, giving := true, hdr := none, cause := 3, accepted := false, released := false }, braceFrame_good _ _ _ _ (by decide +kernel) (by decide +kernel) rfl (by decide +kernel), by decide +kernel⟩⟩

/-- A frame that passes the checks of R481 and one that fails them. -/
theorem witness_BraceFramesJudged :
    (∃ (m : Mod) (k : Clock) (type : Nat) (d : List Byte), m.braceUp = true ∧ 48 ≤ d.length ∧ leAt d 1 1 = type ∧ m.slotAllows (m.rd R.BRACE_KEY % 64) [1] 0 2 = true
      ∧ (Config.aesCmac (m.slotKey (m.rd R.BRACE_KEY % 64)) (d.take (d.length - 16))).take 16 = d.drop (d.length - 16)
        ∧ leAt d 2 2 = d.length ∧ leAt d 4 2 = m.rd R.BRACE_ID % 65536
        ∧ (Int.ofNat (leAt d 12 8) - Int.ofNat (Clock.fullNs k.now)).natAbs ≤ (if m.on F.BRACE_STAT_TIME_ALIGNED then 1000000 else 10000000000)
        ∧ ∀ q, m.brace.rxSeq = some q → 0 < tickDiff (leAt d 8 4) q)
    ∧ (∃ (m : Mod) (k : Clock) (type : Nat) (d : List Byte), m.braceUp = true ∧ 48 ≤ d.length ∧ leAt d 1 1 = type ∧ m.slotAllows (m.rd R.BRACE_KEY % 64) [1] 0 2 = true
      ∧ ¬ ((Config.aesCmac (m.slotKey (m.rd R.BRACE_KEY % 64)) (d.take (d.length - 16))).take 16 = d.drop (d.length - 16)
        ∧ leAt d 2 2 = d.length ∧ leAt d 4 2 = m.rd R.BRACE_ID % 65536
        ∧ (Int.ofNat (leAt d 12 8) - Int.ofNat (Clock.fullNs k.now)).natAbs ≤ (if m.on F.BRACE_STAT_TIME_ALIGNED then 1000000 else 10000000000)
        ∧ ∀ q, m.brace.rxSeq = some q → 0 < tickDiff (leAt d 8 4) q)) :=
  ⟨⟨brace [], Clock.powerOn, 1, msg 1 0 [], by decide +kernel, by decide +kernel, by decide +kernel, by decide +kernel, rfl, by decide +kernel, by decide +kernel, by decide +kernel, fun q h => by cases h⟩,
    ⟨brace [(w R.BRACE_ID, 7)], Clock.powerOn, 1, msg 1 0 [], by decide +kernel, by decide +kernel, by decide +kernel, by decide +kernel, fun h => absurd h.2.2.1 (by decide +kernel)⟩⟩


/-! ### FramesGoOut: a path the region allows, with budget left -/

/-- A module of region EU with all three paths enabled, its broadcast key in slot 9, and WB0 at the n-th listed centre. -/
def air (n : Nat) (l : List (Fld × Nat)) (x : AirSt) : Mod :=
  { up ([(F.AIR_CTL_EN, 1), (F.AIR_CTL_WB0_EN, 1), (F.AIR_CTL_SG_EN, 1), (F.BRACE_STAT_ROLE, 0), (F.BRACE_STAT_GATE_OPEN, 1), (F.AIR_KEY_CTL_BCAST, 9),
      (F.KEN_SLOT_STAT_STATE 9, 1), (F.KEN_SLOT_STAT_TYPE 9, 1), (F.KEN_SLOT_STAT_USE 9, 1), (F.KEN_SLOT_STAT_USER 9, 2),
      (w (R.AIR_BUD_LIMIT 0), 360000), (w (R.AIR_BUD_LIMIT 1), 3600000), (F.AIR_WB0_CFG_CENTRE, 5735 + 5 * n)] ++ l) with air := { x with region := 1 } }

/-- WB0 transmits at a listed centre. -/
theorem airTx_listed (m : Mod) (n : Nat) (hn : n = (Config.listedCentre 1).val) (hr : m.air.region = 1) (hc : wbCentre (m.wbCfg 0) = 5735 + 5 * n)
    (hw : wbWidth (m.wbCfg 0) = 0)
    (ho : (m.running && m.on F.BRACE_STAT_GATE_OPEN && m.on F.AIR_CTL_EN && !m.air.regionPend && !m.pwr.softBlocks.testBit 13
      && (m.domOn 10 && m.chanEn 0)) = true) : m.airTx 0 = true := by
  have hlt : n < 37 := hn ▸ (Config.listedCentre 1).isLt
  have hl : centreListed 1 (2 + n) = true := by simp [centreListed, hn]
  have hok : centreOk 1 (m.wbCfg 0) = true := by
    simp only [centreOk, hw, hc, if_true]
    have e : (5735 + 5 * n - 5725) / 5 = 2 + n := by omega
    have e2 : (5735 + 5 * n - 5725) % 5 = 0 := by omega
    rw [e, e2, hl]
    simp; omega
  simp only [Bool.and_eq_true] at ho
  obtain ⟨⟨⟨⟨⟨h1, h2⟩, h3⟩, h4⟩, h5⟩, h6⟩ := ho
  simp [Mod.airTx, Mod.pathRefused, h1, h2, h3, h4, h5, h6, hr, hok]

/-- A path whose band has 200 ms left is free. -/
theorem pathFree_left (m : Mod) (k : Clock) (path : Nat) (drop : Bool) (hk : m.slotAllows (m.fld F.AIR_KEY_CTL_BCAST) [1] 0 1 = true)
    (hr : m.air.region = 1) (hb : m.binsOf k (bandOf path) = []) (hs : m.rd (R.AIR_BUD_RES (bandOf path)) = 0)
    (hl : 200 ≤ m.budLimit (bandOf path)) : m.pathFree k path drop := by
  refine ⟨hk, fun us hu => ?_⟩
  have hd : m.dwellOk k us = true := by simp [Mod.dwellOk, dwellOf, hr]
  have h0 : (binSum ([] : AMap Nat)) = 0 := rfl
  simp only [Mod.budOk, hb, hs, hd, h0]
  simp
  constructor
  · omega
  · have : (if drop = true then 0 else (0 : Nat)) = 0 := by split <;> rfl
    omega

/-- What a module needs for WB0 to transmit, but for the region's list. -/
def wbReady (m : Mod) (k : Clock) (n : Nat) : Bool :=
  m.air.region == 1 && wbCentre (m.wbCfg 0) == 5735 + 5 * n && wbWidth (m.wbCfg 0) == 0
    && (m.running && m.on F.BRACE_STAT_GATE_OPEN && m.on F.AIR_CTL_EN && !m.air.regionPend && !m.pwr.softBlocks.testBit 13 && (m.domOn 10 && m.chanEn 0))
    && m.slotAllows (m.fld F.AIR_KEY_CTL_BCAST) [1] 0 1 && (m.binsOf k 1).isEmpty && m.rd (R.AIR_BUD_RES 1) == 0 && decide (200 ≤ m.budLimit 1)

theorem wbReady_sends (m : Mod) (k : Clock) (drop : Bool) (h : wbReady m k (Config.listedCentre 1).val = true) :
    m.airTx 0 = true ∧ m.pathFree k 0 drop := by
  simp only [wbReady, Bool.and_eq_true] at h
  obtain ⟨⟨⟨⟨⟨⟨⟨h1, h2⟩, h3⟩, h4⟩, h5⟩, h6⟩, h7⟩, h8⟩ := h
  exact ⟨airTx_listed m _ rfl (by simpa using h1) (by simpa using h2) (by simpa using h3) (by simpa [Bool.and_eq_true] using h4),
    pathFree_left m k 0 drop h5 (by simpa using h1) (List.isEmpty_iff.mp h6) (eq_of_beq h7) (of_decide_eq_true h8)⟩

/-- TOKEN may go out in a tick whose token grain it is. -/
theorem tokenSlot_of (m : Mod) (k : Clock) (ht : m.airTx 0 = true) (hd : m.air.drop = none)
    (h : (decide (k.grain = 0) && nth none m.air.tokTick 0 != some k.tickNo && !m.grainSilent 0 k.phase 0) = true) : m.tokenSlot k 0 = true := by
  simp only [Mod.tokenSlot, Mod.dropHolds, ht, hd, Bool.true_and, Bool.not_false, Bool.and_true]
  exact h

def dataFrame : AirFrame := { data := [], inRaw := 0, sub := 0, chans := [0] }
def trip : AirDrop := { tick := 0, cause := 1, id := 0, tripRaw := 0, left := [3, 3, 3], begun := [0], grain := [none, none] }

/-- Hypotheses of FramesGoOut that are met: TOKEN, BEACON, DOWN. -/
theorem witness_FramesGoOut_token :
    (∃ (s : State) (dt c : Nat), c < 2 ∧ (s.now dt).phase ≠ 0 ∧ s.m.mayToken = true ∧ s.m.tokenSlot (s.now dt) c = true ∧ s.m.pathFree (s.now dt) c false)
    ∧ (∃ (s : State) (dt c : Nat), c < 2 ∧ (s.now dt).phase = 0 ∧ s.m.mayBeacon = true ∧ s.m.tokenSlot (s.now dt) c = true ∧ s.m.pathFree (s.now dt) c false)
    ∧ (∃ (s : State) (dt c : Nat), c < 2 ∧ s.m.mayBeacon = true ∧ s.m.airTx c = true ∧ nth none s.m.air.dlTick c ≠ some s.clk.tickNo
      ∧ (downArea (wbWidth (s.m.wbCfg c)) (s.now dt).phase).1 ≤ (s.now dt).grain
      ∧ (s.now dt).grain < (downArea (wbWidth (s.m.wbCfg c)) (s.now dt).phase).1 + (downArea (wbWidth (s.m.wbCfg c)) (s.now dt).phase).2) := by
  have f : ∀ n : Fin 37, let s := stAt 1 (air n.val [(F.TIME_STAT_STATE, 0)] AirSt.reset); let k := s.now 0
      wbReady s.m k n.val = true ∧ k.phase ≠ 0 ∧ s.m.mayToken = true ∧ (decide (k.grain = 0) && nth none s.m.air.tokTick 0 != some k.tickNo
        && !s.m.grainSilent 0 k.phase 0) = true := by decide +kernel
  have g : ∀ n : Fin 37, let s := st (air n.val [] AirSt.reset); let k := s.now 0
      wbReady s.m k n.val = true ∧ k.phase = 0 ∧ s.m.mayBeacon = true ∧ (decide (k.grain = 0) && nth none s.m.air.tokTick 0 != some k.tickNo
        && !s.m.grainSilent 0 k.phase 0) = true := by decide +kernel
  have h : ∀ n : Fin 37, let s := stAt 1 (air n.val [] AirSt.reset); let k := s.now 8625000
      wbReady s.m k n.val = true ∧ s.m.mayBeacon = true ∧ nth none s.m.air.dlTick 0 ≠ some s.clk.tickNo
        ∧ (downArea (wbWidth (s.m.wbCfg 0)) k.phase).1 ≤ k.grain
        ∧ k.grain < (downArea (wbWidth (s.m.wbCfg 0)) k.phase).1 + (downArea (wbWidth (s.m.wbCfg 0)) k.phase).2 := by decide +kernel
  obtain ⟨f1, f2, f3, f4⟩ := f (Config.listedCentre 1)
  obtain ⟨g1, g2, g3, g4⟩ := g (Config.listedCentre 1)
  obtain ⟨h1, h2, h3, h4⟩ := h (Config.listedCentre 1)
  have a := wbReady_sends _ _ false f1
  have b := wbReady_sends _ _ false g1
  exact ⟨⟨_, 0, 0, by decide, f2, f3, tokenSlot_of _ _ a.1 rfl f4, a.2⟩, ⟨_, 0, 0, by decide, g2, g3, tokenSlot_of _ _ b.1 rfl g4, b.2⟩,
    ⟨_, _, 0, by decide, h2, (wbReady_sends _ _ false h1).1, h3, h4⟩⟩

/-- Hypotheses of FramesGoOut that are met: DATA and DROP on WB0. -/
theorem witness_FramesGoOut_data :
    (∃ (s : State) (dt c : Nat) (f : AirFrame) (ver : Nat), c < 2 ∧ s.m.mayBeacon = true ∧ s.m.airTx c = true ∧ s.m.air.drop = none
      ∧ nth 0 s.m.air.hostFree c ≤ s.clk.tickNo * 100 + (s.now dt).grain ∧ s.m.sw.air.find? (fun f => f.chans.contains c) = some f
      ∧ ver = (if f.sub = 0 then s.m.floorVer c else s.m.roverVer f.sub)
      ∧ (grainRange (s.now dt).grain (grainsOf (wbAir (wbWidth (s.m.wbCfg c)) (wbDl (s.m.wbCfg c)) (frameLen ver (airElement 6 f.sub f.data).length)))).all
          (s.m.hostGrain (s.now dt) c (s.m.heldGrains c (s.now dt).phase) (if (s.now dt).phase = 5 then s.m.winGrains c (s.now dt).sfNo else [])) = true
      ∧ f.data.length ≤ 1536 ∧ s.m.pathFree (s.now dt) c false)
    ∧ (∃ (s : State) (dt c : Nat) (d : AirDrop), c < 2 ∧ s.m.air.drop = some d ∧ s.m.mayBeacon = true ∧ s.m.airTx c = true ∧ nth 0 d.left c ≠ 0
      ∧ nth none d.grain c ≠ some (s.clk.tickNo * 100 + (s.now dt).grain) ∧ d.begun.contains c = true
      ∧ s.m.grainSilent c (s.now dt).phase (s.now dt).grain = false ∧ s.m.pathFree (s.now dt) c true) := by
  have f : ∀ n : Fin 37, let s := stAt 1 { air n.val [] AirSt.reset with sw := { SwSt.reset with air := [dataFrame] } }; let k := s.now 10125000
      wbReady s.m k n.val = true ∧ s.m.mayBeacon = true ∧ s.m.air.drop = none ∧ nth 0 s.m.air.hostFree 0 ≤ s.clk.tickNo * 100 + k.grain
        ∧ s.m.sw.air.find? (fun f => f.chans.contains 0) = some dataFrame ∧ 3 = (if dataFrame.sub = 0 then s.m.floorVer 0 else s.m.roverVer dataFrame.sub)
        ∧ (grainRange k.grain (grainsOf (wbAir (wbWidth (s.m.wbCfg 0)) (wbDl (s.m.wbCfg 0)) (frameLen 3 (airElement 6 dataFrame.sub dataFrame.data).length)))).all
            (s.m.hostGrain k 0 (s.m.heldGrains 0 k.phase) (if k.phase = 5 then s.m.winGrains 0 k.sfNo else [])) = true
        ∧ dataFrame.data.length ≤ 1536 := by decide +kernel
  have g : ∀ n : Fin 37, let s := st (air n.val [] { AirSt.reset with drop := some trip }); let k := s.now 0
      wbReady s.m k n.val = true ∧ s.m.air.drop = some trip ∧ s.m.mayBeacon = true ∧ nth 0 trip.left 0 ≠ 0
        ∧ nth none trip.grain 0 ≠ some (s.clk.tickNo * 100 + k.grain) ∧ trip.begun.contains 0 = true ∧ s.m.grainSilent 0 k.phase k.grain = false := by decide +kernel
  obtain ⟨f1, f2, f3, f4, f5, f6, f7, f8⟩ := f (Config.listedCentre 1)
  obtain ⟨g1, g2, g3, g4, g5, g6, g7⟩ := g (Config.listedCentre 1)
  have a := wbReady_sends _ _ false f1
  have b := wbReady_sends _ _ true g1
  exact ⟨⟨_, _, 0, dataFrame, 3, by decide, f2, a.1, f3, f4, f5, f6, f7, f8, a.2⟩, ⟨_, _, 0, trip, by decide, g2, g3, b.1, g4, g5, g6, g7, b.2⟩⟩

/-- Hypotheses of FramesGoOut that are met: the sub-GHz path. -/
theorem witness_FramesGoOut_sg :
    (∃ (s : State) (dt : Nat), (s.now dt).phase = 0 ∧ s.m.mayBeacon = true ∧ s.m.airTx 2 = true ∧ s.m.air.sgSf ≠ some (s.now dt).sfNo
      ∧ s.m.sgDropping = false ∧ s.m.pathFree (s.now dt) 2 false)
    ∧ (∃ (s : State) (dt tick : Nat) (body : List Byte), s.m.mayBeacon = true ∧ s.m.mayCorrect = true ∧ s.m.airTx 2 = true
      ∧ s.m.on F.AIR_CTL_SG_CORR = true ∧ s.m.air.sgSf = some (s.now dt).sfNo ∧ s.m.air.corrSf = none ∧ s.m.sgDropping = false
      ∧ s.m.air.rtcm = some (tick, body) ∧ body.length ≤ 1000 ∧ s.m.air.sgHeld = false ∧ s.m.pathFree (s.now dt) 2 false)
    ∧ (∃ (s : State) (dt : Nat) (d : AirDrop), s.m.air.drop = some d ∧ s.m.mayBeacon = true ∧ s.m.airTx 2 = true ∧ nth 0 d.left 2 ≠ 0
      ∧ s.m.pathFree (s.now dt) 2 true) := by
  refine ⟨⟨st (air 0 [] AirSt.reset), 0, by decide +kernel, by decide +kernel, by decide +kernel, by decide +kernel, by decide +kernel, ?_⟩,
    ⟨st (air 0 [(F.AIR_CTL_SG_CORR, 1), (F.TIME_STAT_STATE, 0)] { AirSt.reset with sgSf := some 0, rtcm := some (0, []) }), 0, 0, [], by decide +kernel, by decide +kernel, by decide +kernel,
      by decide +kernel, by decide +kernel, by decide +kernel, by decide +kernel, by decide +kernel, by decide +kernel, by decide +kernel, ?_⟩,
    ⟨st (air 0 [] { AirSt.reset with drop := some trip }), 0, trip, by decide +kernel, by decide +kernel, by decide +kernel, by decide +kernel, ?_⟩⟩
    <;> exact pathFree_left _ _ _ _ (by decide +kernel) rfl (by decide +kernel) (by decide +kernel) (by decide +kernel)

/-- The commands of SHEP that wait, at the ends of their operands' ranges. -/
theorem witness_ShepherdCommandsWait : (∃ s : State, s.m.shepUp = true) ∧ (1 : Nat) ≤ 1 ∧ (4095 : Nat) < 4096 ∧ (7 : Nat) ≤ 7 :=
  ⟨⟨st (up []), by decide +kernel⟩, by decide⟩

/-- The commands of MOT that wait, at the ends of their operands' ranges. -/
theorem witness_MotionCommandsWait :
    (∃ s : State, s.m.motUp = true) ∧ (255 : Nat) ≤ 255 ∧ ((0xFFFF : Nat) ≤ 255 ∨ (0xFFFF : Nat) = 0xFFFF)
      ∧ ∃ l : List (Nat × Nat × Nat), 2 ≤ l.length ∧ l.length ≤ 16 ∧ (∀ e ∈ l, e.1 ≤ 255 ∧ e.2.1 = 0) ∧ (l.map Prod.fst).Nodup :=
  ⟨⟨st (up []), by decide +kernel⟩, by decide, by decide, [(0, 0, 5), (255, 0, 6)], by decide⟩

/-- The commands of SW with their queues and tables open, and routes at the ends of their ranges. -/
theorem witness_SwitchCommands :
    (∃ s : State, s.m.swUp = true ∧ s.m.sw.events.length < 256 ∧ s.m.sw.waiting = [] ∧ s.m.sw.routes4.length < 4096
      ∧ routeBad 4 32 1023 0 (0xFFFFFFFF * 2 ^ 96) = false ∧ (s.m.sw.routes4.any fun q => q.bits == prefixBits false (0xFFFFFFFF * 2 ^ 96) && q.len == 32) = false
      ∧ routeBad 6 0 0 0 0 = false ∧ (s.m.sw.routes6.any fun q => q.bits == prefixBits true 0 && q.len == 0) = false)
    ∧ (∃ s : State, s.m.swUp = true ∧ routeBad 4 0 0 0 0 = false ∧ (s.m.sw.routes4.any fun q => q.bits == prefixBits false 0 && q.len == 0) = true
      ∧ routeBad 6 0 0 0 0 = false ∧ (s.m.sw.routes6.any fun q => q.bits == prefixBits true 0 && q.len == 0) = true)
    ∧ ∃ s : State, s.m.opens R.SW_TBL_SEL = true :=
  ⟨⟨st (up []), by decide +kernel⟩,
    ⟨st { up [] with sw := { SwSt.reset with routes4 := [{ bits := 0, len := 0, nh := 1 }], routes6 := [{ bits := 0, len := 0, nh := 1 }] } }, by decide +kernel⟩,
    ⟨st (up []), by decide +kernel⟩⟩

end Sys2Proof.Tests
end

section
/-! SUPPORT. The apply strobe: what a write to GLB_APPLY makes of the module (R73, R75). -/

namespace Sys2Proof.Machine

variable {m : Mod}

/-- GLB_APPLY lies in GLB, which no power domain gates, so an access to it acts as soon as BAR0 responds. -/
theorem Mod.opens_glbApply (h : m.barUp = true) : m.opens R.GLB_APPLY = true := by
  simp [Mod.opens, h, show blockOf R.GLB_APPLY = none by decide]

/-- A write to GLB_APPLY while BAR0 responds does what `Mod.applyStart` says. -/
theorem answers_glbApply {s : State} {dt mask : Nat} {P : State → Prop} (h : s.m.barUp = true)
    (hp : P (s.after dt (s.found.applyStart (s.now dt) mask))) : Answers (.glbApply dt mask) s P := by
  refine answers_of_ev (f := fun k m => m.access R.GLB_APPLY fun m => m.applyStart k mask) rfl ?_
  rwa [Mod.access_opens _ (Mod.opens_glbApply (by simpa using h))]

/-- With no apply pending and strobes not refused, a non-zero mask fixes the instant (R73). -/
theorem Mod.applyStart_idle (k : Clock) {mask : Nat} (hm : mask % 65536 ≠ 0) (ha : m.glb.apply = none)
    (hr : m.on F.GLB_CFG_STAT_REFUSING = false) :
    m.applyStart k mask =
      { (m.setB F.GLB_APPLY_STAT_PENDING true) with glb := { m.glb with apply := some (k.raw + usRaw 2, mask % 65536) } } := by
  simp [Mod.applyStart, hm, ha, hr]

/-- While an apply is pending, a non-zero mask is the error APPLY_BUSY and nothing else (R75). -/
theorem Mod.applyStart_pending (k : Clock) {mask : Nat} (hm : mask % 65536 ≠ 0) (ha : m.glb.apply.isSome = true) :
    m.applyStart k mask = m.glbErr 6 R.GLB_APPLY := by
  simp [Mod.applyStart, hm, ha]

/-- Settles O11: the strobe fixes the instant and writes PENDING, or is the error APPLY_BUSY and nothing else. -/
theorem applyPending : Obligations.ApplyPending := by
  constructor
  · intro s dt mask hbar hmask hnone hrefuse
    apply answers_glbApply hbar
    rw [Mod.applyStart_idle (m := s.found) _ hmask hnone hrefuse]
    exact ⟨rfl, Mod.on_setB s.found F.GLB_APPLY_STAT_PENDING true (by decide) (by decide),
      fun x hx => Mod.rd_setB_ne s.found F.GLB_APPLY_STAT_PENDING true hx⟩
  · intro s dt mask at_ m0 hbar hmask hsome
    apply answers_glbApply hbar
    rw [Mod.applyStart_pending (m := s.found) _ hmask (by simp [hsome])]
    exact ⟨Mod.glbErr_glb s.found 6 _, Mod.bit_glbErr s.found 6 _ (by decide),
      fun x hx hx1 hx2 => Mod.rd_glbErr_ne s.found 6 _ hx hx1 hx2⟩

end Sys2Proof.Machine
end

section
/-! SUPPORT. Guarded commits that meet their guard in time (R60, R61), and the Leash's two that accept only 1 (R430). -/

namespace Sys2Proof.Machine

variable {m : Mod} {k : Clock} {g : Guard}

/-! ## A complement that comes in time -/

/-- A guard within its 1 ms stays armed (R61). -/
theorem Mod.guardTick_inTime (hg : m.glb.guard = some g) (ht : k.raw ≤ g.armedAt + msRaw 1) : m.guardTick k = m := by
  have hlate : g.late k = false := by simpa [Guard.late] using ht
  simp [Mod.guardTick, hg, hlate]

/-- The exact complement in time takes the guard away: a reserved value is discarded, another is handed on (R60, R61). -/
theorem Mod.guardTake_exact {comp : Nat} (hg : m.glb.guard = some g) (ht : k.raw ≤ g.armedAt + msRaw 1)
    (hc : BitVec.ofNat 32 comp = ~~~g.val) :
    m.guardTake k g.off comp =
      if reservedVal m g.off g.val.toNat then (m.unguard.guardFail g.off, none) else (m.unguard, some g.val.toNat) := by
  simp only [Mod.guardTake, Mod.guardTick_inTime hg ht, hg, hc, ne_eq, not_true_eq_false, if_false, false_or]
  rfl

/-- A commit in time with the exact complement acts on the armed value unless that is reserved (R60, R61). -/
theorem Mod.commit_exact {comp : Nat} (f : Mod → Nat → Mod) (ho : m.opens g.off = true) (hg : m.glb.guard = some g)
    (ht : k.raw ≤ g.armedAt + msRaw 1) (hc : BitVec.ofNat 32 comp = ~~~g.val) :
    m.commit k g.off comp f =
      if reservedVal m g.off g.val.toNat then m.unguard.guardFail g.off else f m.unguard g.val.toNat := by
  rw [Mod.commit, Mod.access_opens _ ho, Mod.guardTake_exact hg ht hc]
  cases reservedVal m g.off g.val.toNat <;> rfl

/-- Where every value but 1 is reserved, a commit in time with the exact complement acts on 1 and discards the rest. -/
theorem does_commit_acceptsOne {c : Instr} {s : State} {dt x v comp armed : Nat} (f : Clock → Mod → Nat → Mod)
    (hexec : exec c s = .next (s.ev dt fun k m => m.commit k x comp (f k)))
    (hres : reservedVal s.found x v = (v != 1)) (ho : s.m.opens x = true) (hv : v < 4294967296)
    (hc : BitVec.ofNat 32 comp = ~~~BitVec.ofNat 32 v) (ht : s.clk.raw + dt ≤ armed + msRaw 1)
    (hg : s.m.glb.guard = some { off := x, val := BitVec.ofNat 32 v, armedAt := armed }) :
    Does c s dt (if v = 1 then f (s.now dt) s.found.unguard 1 else s.found.unguard.guardFail x) := by
  apply does_of_ev hexec
  have hval : (BitVec.ofNat 32 v).toNat = v := Nat.mod_eq_of_lt hv
  have hcommit := Mod.commit_exact (m := s.found) (k := s.now dt) (g := ⟨x, BitVec.ofNat 32 v, armed⟩) (f (s.now dt)) ho hg ht hc
  simp only [hval, hres, bne_iff_ne] at hcommit
  rw [hcommit]
  by_cases h1 : v = 1
  · rw [if_neg (not_not_intro h1), if_pos h1, h1]
  · rw [if_pos h1, if_neg h1]

/-! ## LEASH_TRIP and LEASH_ARM (R430) -/

/-- Every value of LEASH_TRIP but 1 is reserved. -/
theorem reservedVal_leashTrip (m : Mod) (v : Nat) : reservedVal m R.LEASH_TRIP v = (v != 1) := (rfl)

/-- Every value of LEASH_ARM but 1 is reserved. -/
theorem reservedVal_leashArm (m : Mod) (v : Nat) : reservedVal m R.LEASH_ARM v = (v != 1) := (rfl)

/-- LEASH_ARM lies in the block of LEASH_TRIP, so accesses to the two act alike. -/
theorem Mod.opens_leashArm (m : Mod) : m.opens R.LEASH_ARM = m.opens R.LEASH_TRIP := (rfl)

/-- A configuration register's new value leaves the Leash's own state as it was. -/
theorem Mod.cfgSet_leash (m : Mod) (a v : Nat) : (m.cfgSet a v).leash = m.leash := by
  unfold Mod.cfgSet
  dsimp only
  split
  · exact Mod.wr_leash m a v
  · exact Mod.wr_leash m a v

/-- What a committed value of LEASH_TRIP does: the register takes it and the source SW_REG is active (R411). -/
def Mod.leashTripCommit (k : Clock) (m : Mod) (v : Nat) : Mod :=
  let m := m.cfgSet R.LEASH_TRIP v
  Mod.leashSource { m with leash := { m.leash with swReg := true } } k m.leash.swReg 3

/-- Whether SW_REG was active before is read of the Leash as the commit found it. -/
theorem Mod.leashTripCommit_eq (k : Clock) (m : Mod) (v : Nat) :
    Mod.leashTripCommit k m v =
      Mod.leashSource { (m.cfgSet R.LEASH_TRIP v) with leash := { m.leash with swReg := true } } k m.leash.swReg 3 := by
  simp only [Mod.leashTripCommit, Mod.cfgSet_leash]

/-- What a committed value of LEASH_ARM does: the register takes it and a re-arm is asked for (R421). -/
def Mod.leashArmCommit (k : Clock) (m : Mod) (v : Nat) : Mod :=
  (m.cfgSet R.LEASH_ARM v).armRequest k (if m.fld F.LEASH_CTL_ARM_SRC = 1 then 8 else 0)

/-- Settles O8: both registers reserve every value but 1, so a commit acts on 1 and discards the rest (R430). -/
theorem leashCommitsAcceptOne : Obligations.LeashCommitsAcceptOne := by
  intro s dt v comp armed hopen hv hcomp htime
  constructor
  · intro hguard
    have hdoes := does_commit_acceptsOne (c := .leashTrip dt comp) Mod.leashTripCommit rfl (reservedVal_leashTrip _ v) hopen hv hcomp
      htime hguard
    rwa [Mod.leashTripCommit_eq] at hdoes
  · exact does_commit_acceptsOne Mod.leashArmCommit rfl (reservedVal_leashArm _ v) (s.m.opens_leashArm ▸ hopen) hv hcomp htime

end Sys2Proof.Machine
end

section
/-! SUPPORT. Recorder triggers: which enables a trigger obeys (R572, R573) and when it queues its record (R574, R575). -/

namespace Sys2Proof.Machine

variable {m : Mod} {k : Clock} {t : Nat}

/-! ## The enables (R572, R573) -/

/-- A trigger above 4 is not fixed, so it writes where REC_CTL.EN and its REC_TRIG_CTL.EN are both 1. -/
theorem Mod.trigOn_unfixed (m : Mod) (ht : 4 < t) : m.trigOn t = (m.on F.REC_CTL_EN && m.on (F.REC_TRIG_CTL_EN (t - 1))) := by
  have hfix : recFixed t = false := by simp [recFixed, Nat.not_le.mpr ht]
  rw [Mod.trigOn, hfix, Bool.false_or]

/-- A trigger that is not enabled does nothing. -/
theorem Mod.recTrig_off (p : List Byte) (hoff : m.trigOn t = false) : m.recTrig k t p = m := by
  simp [Mod.recTrig, hoff]

/-! ## What queueing a record does (R570, R575) -/

/-- The record goes behind those that wait. -/
theorem Mod.recPut_queue (p : List Byte) (coal : Nat) (hdr : Bool) :
    (Mod.recPut k m t p coal hdr).rcd.queue = m.rcd.queue ++ [Mod.recEntry k m t p coal hdr] := (rfl)

/-- The record takes its SEQ off the shared counter. -/
theorem Mod.recPut_seqNext (p : List Byte) (coal : Nat) (hdr : Bool) :
    (Mod.recPut k m t p coal hdr).nv.seqNext = (m.nv.seqNext + 1) % 4294967296 := (rfl)

/-- Queueing a record changes no register. -/
theorem Mod.recPut_live (p : List Byte) (coal : Nat) (hdr : Bool) : (Mod.recPut k m t p coal hdr).live = m.live := (rfl)

/-! ## When a trigger queues its record (R574, R575) -/

/-- A protected trigger is never coalesced and may take any of the 16 places. -/
theorem Mod.recTrig_protected (p : List Byte) (hon : m.trigOn t = true) (hprot : m.recProt t = true) (hroom : m.rcd.queue.length < 16) :
    m.recTrig k t p = Mod.recPut k m t p (AMap.get (fun _ => 0) m.rcd.coal t) false := by
  simp [Mod.recTrig, hon, hprot, hroom]

/-- A trigger that is not protected writes outside its holdoff, while one of its 12 places is free. -/
theorem Mod.recTrig_unprotected (p : List Byte) (hon : m.trigOn t = true) (hprot : m.recProt t = false) (hheld : m.recHeld k t = false)
    (hroom : m.rcd.queue.length < 12) : m.recTrig k t p = Mod.recPut k m t p (AMap.get (fun _ => 0) m.rcd.coal t) false := by
  simp [Mod.recTrig, hon, hprot, hheld, hroom]

/-- Room for a trigger that is not protected is room for a protected one, so outside the holdoff either queues its record. -/
theorem Mod.recTrig_unheld (p : List Byte) (hon : m.trigOn t = true) (hheld : m.recHeld k t = false) (hroom : m.rcd.queue.length < 12) :
    m.recTrig k t p = Mod.recPut k m t p (AMap.get (fun _ => 0) m.rcd.coal t) false := by
  cases hprot : m.recProt t with
  | true => exact Mod.recTrig_protected p hon hprot (by omega)
  | false => exact Mod.recTrig_unprotected p hon hprot hheld hroom

/-- Settles O57: a trigger above 4 is not fixed, so either enable at 0 stops it, and with both at 1 its record is queued. -/
theorem triggersWriteRecords : Obligations.TriggersWriteRecords := by
  intro m k trig p hfix _
  have hon := m.trigOn_unfixed hfix
  refine ⟨fun hctl => ?_, fun _ htrig => ?_, fun hctl htrig hheld hroom => ?_⟩
  · exact Mod.recTrig_off p (by rw [hon, hctl, Bool.false_and])
  · exact Mod.recTrig_off p (by rw [hon, htrig, Bool.and_false])
  · rw [Mod.recTrig_unheld p (by rw [hon, hctl, htrig, Bool.and_true]) hheld hroom]
    exact ⟨_, Mod.recPut_queue p _ _, rfl, rfl, rfl, rfl, Mod.recPut_seqNext p _ _, Mod.recPut_live p _ _⟩

end Sys2Proof.Machine
end

section
/-! SUPPORT. Steps: every command completes and leaves the queue behind it, and where the clock's soundness rests on published time. -/

namespace Sys2Proof.Machine

/-! ## Every command completes -/

/-- A command completes and leaves the queue as it was. -/
def Completes (r : Res) (s : State) : Prop := ∃ t, r = .next t ∧ t.pending = s.pending

/-- An event on the module completes. -/
theorem completes_ev (s : State) (dt : Nat) (f : Clock → Mod → Mod) : Completes (.next (s.ev dt f)) s := ⟨_, rfl, rfl⟩

/-- A choice between two meanings completes where both do. -/
theorem completes_ite {p : Prop} [Decidable p] {a b : Res} {s : State} (ha : Completes a s) (hb : Completes b s) :
    Completes (if p then a else b) s := by
  split
  · exact ha
  · exact hb

/-- A commit completes, whichever register it is for: each has a meaning that is an event. -/
theorem hostCommit_completes (dt x comp : Nat) (s : State) : Completes (hostCommit dt x comp s) s := by
  unfold hostCommit
  repeat' apply completes_ite
  all_goals exact ⟨_, rfl, rfl⟩

/-- A write to a self-clearing command completes, where the register has a behaviour of its own. -/
theorem cmdWrite_completes {dt a v : Nat} {s : State} {r : Res} (h : cmdWrite dt a v s = some r) : Completes r s := by
  unfold cmdWrite at h
  repeat' split at h
  all_goals cases h
  all_goals exact ⟨_, rfl, rfl⟩

/-- A write to a register of RING completes, where it has a behaviour of its own. -/
theorem ringWrite_completes {dt a v w : Nat} {s : State} {r : Res} (h : ringWrite dt a v w s = some r) : Completes r s := by
  unfold ringWrite at h
  repeat' split at h
  all_goals cases h
  all_goals exact ⟨_, rfl, rfl⟩

/-- A write to a register with a behaviour of its own completes. -/
theorem ownWrite_completes {dt a v w : Nat} {s : State} {r : Res} (h : ownWrite dt a v w s = some r) : Completes r s := by
  unfold ownWrite at h
  repeat' split at h
  case h_2 => exact cmdWrite_completes h
  all_goals cases h
  any_goals exact ⟨_, rfl, rfl⟩
  next hring => exact ringWrite_completes hring

/-- A write to a register completes: a guarded pair and a mailbox word as their commands, another by its own behaviour or plainly. -/
theorem regWrite_completes (dt a v be : Nat) (r : RegRow) (s : State) : Completes (regWrite dt a v be r s) s := by
  unfold regWrite
  dsimp only
  split
  · split
    · exact completes_ev ..
    · split
      · exact completes_ev ..
      · split
        · exact hostCommit_completes ..
        · exact completes_ev ..
  · split
    next hown => exact ownWrite_completes hown
    next => exact completes_ev ..

/-- A host write completes. -/
theorem execRegisterWrite_completes (dt a v be : Nat) (s : State) : Completes (execRegisterWrite dt a v be s) s := by
  unfold execRegisterWrite
  split
  · exact completes_ev ..
  · split
    · exact regWrite_completes ..
    · exact completes_ev ..

/-- Every command completes: each meaning but those of the two host writes is an event as it stands. -/
theorem exec_completes (c : Instr) (s : State) : Completes (exec c s) s := by
  cases c
  case registerWrite => exact execRegisterWrite_completes ..
  case guardCommit => exact hostCommit_completes ..
  all_goals exact ⟨_, rfl, rfl⟩

/-! ## Steps -/

theorem step_cons {s : State} {c : Instr} {rest : List Instr} (h : s.pending = c :: rest) : step s = exec c { s with pending := rest } := by
  simp only [step, h]

theorem step_nil {s : State} (h : s.pending = []) : step s = .next s := by
  simp only [step, h]

/-- Settles O1: the two cases of a step are the two forms of the queue. -/
theorem stepTakesFront : Obligations.StepTakesFront := ⟨fun _ _ _ => step_cons, fun _ => step_nil⟩

/-- Settles O4: the front command completes on the rest of the queue and leaves it. -/
theorem stepKeepsQueue : Obligations.StepKeepsQueue := by
  intro s
  cases hq : s.pending with
  | nil => exact ⟨s, step_nil hq, hq⟩
  | cons c rest =>
    obtain ⟨t, hexec, hpending⟩ := exec_completes c { s with pending := rest }
    exact ⟨t, (step_cons hq).trans hexec, hpending⟩

/-! ## The clock -/

/-- Settles O3: at reset the raw counter, the anchor count and the start of the tick are all 0. -/
theorem resetClockSound : Obligations.ResetClockSound := ⟨Nat.le_refl 0, Nat.le_refl 0⟩

/-- A clock whose published time lies a tick before the epoch, in a tick that ended there. -/
def Clock.beforeEpoch : Clock := { Clock.powerOn with ancT := -uPerTick, tickEnd := -uPerTick }

/-- What start-up makes of the timebase from the shipped bank set: it finds the tick in progress anew. -/
theorem startUp_reset_clk (k : Clock) : (Mod.reset.startUp k true true).1 = k.catchUp := (rfl)

/-- Ticks are not counted below 0, so the tick found anew is that of the epoch, which lies 12,500,000 counts ahead. -/
theorem catchUp_beforeEpoch_tickRaw : Clock.beforeEpoch.catchUp.tickRaw = 12500000 := by decide

/-- Refutes O2: where published time lies before the GPS epoch, start-up takes the epoch for the start of the tick in progress, and that
start lies ahead. -/
theorem not_stepKeepsClockSound : ¬ Obligations.StepKeepsClockSound := by
  intro h
  obtain ⟨⟨-, htick⟩, -⟩ := h { clk := Clock.beforeEpoch, m := Mod.reset, pending := [.startUp 0 true true] } _ ⟨Nat.le_refl 0, Nat.le_refl 0⟩ rfl
  have hclk : (Mod.reset.startUp Clock.beforeEpoch true true).1.tickRaw ≤ (Mod.reset.startUp Clock.beforeEpoch true true).1.raw := htick
  rw [startUp_reset_clk, catchUp_beforeEpoch_tickRaw] at hclk
  exact absurd hclk (by decide)

end Sys2Proof.Machine
end

section
/-! SUPPORT. Guards (R60, R61): arming, expiry, what a commit in time does and when it fails. -/

namespace Sys2Proof.Machine

variable {m : Mod} {k : Clock} {g : Guard}

/-! ## Arming and expiry -/

/-- With no guard armed there is none to expire. -/
theorem Mod.guardTick_none (hg : m.glb.guard = none) : m.guardTick k = m := by
  simp only [Mod.guardTick, hg]

/-- A guard past its 1 ms is discarded (R61). -/
theorem Mod.guardTick_late (hg : m.glb.guard = some g) (ht : g.armedAt + msRaw 1 < k.raw) : m.guardTick k = m.unguard.guardFail g.off := by
  have hlate : g.late k = true := by simpa [Guard.late] using ht
  simp only [Mod.guardTick, hg, hlate, if_true]
  rfl

/-- A value word arms the guard where none stands armed. -/
theorem Mod.guardArm_none (x v : Nat) (hg : m.glb.guard = none) :
    m.guardArm k x v = { m with glb := { m.glb with guard := some { off := x, val := BitVec.ofNat 32 v, armedAt := k.raw } } } := by
  simp only [Mod.guardArm, Mod.guardTick_none hg, hg]

/-- A value word discards the guard that stands armed, and counts it, before it arms its own (R60, R61). -/
theorem Mod.guardArm_inTime (x v : Nat) (hg : m.glb.guard = some g) (ht : k.raw ≤ g.armedAt + msRaw 1) :
    m.guardArm k x v =
      { (m.guardFail g.off) with
        glb := { (m.guardFail g.off).glb with guard := some { off := x, val := BitVec.ofNat 32 v, armedAt := k.raw } } } := by
  simp only [Mod.guardArm, Mod.guardTick_inTime hg ht, hg]

/-- A full-width write to the value word of a guarded register arms its guard. -/
theorem does_guardArm {s : State} {dt x v : Nat} (ho : s.m.opens x = true) (hx : isGuarded x = true) :
    Does (.guardArm dt x v) s dt (s.found.guardArm (s.now dt) x v) :=
  does_of_ev (f := fun k m => m.access x fun m => if isGuarded x then m.guardArm k x v else m) rfl
    (by rw [Mod.access_opens (m := s.found) _ ho, if_pos hx])

/-- Settles O5: the armed guard, if any, is in time or late, and a value word or the expiry acts on it accordingly. -/
theorem guardArmsAndExpires : Obligations.GuardArmsAndExpires := by
  refine ⟨fun s dt x v ho hx hg => ?_, fun s dt x v g ho hx hg ht => ?_, fun s dt g hg ht => ?_, fun s dt g hg ht => ?_⟩
  · have hdoes := does_guardArm (s := s) (dt := dt) (v := v) ho hx
    rwa [Mod.guardArm_none (m := s.found) x v hg] at hdoes
  · have hdoes := does_guardArm (s := s) (dt := dt) (v := v) ho hx
    rwa [Mod.guardArm_inTime (m := s.found) (k := s.now dt) x v hg ht] at hdoes
  · exact does_of_ev (f := fun k m => m.guardTick k) rfl (Mod.guardTick_late (m := s.found) (k := s.now dt) hg ht)
  · exact does_of_ev (f := fun k m => m.guardTick k) rfl (Mod.guardTick_inTime (m := s.found) (k := s.now dt) hg ht)

/-! ## Commits whose guard is ready -/

/-- A commit whose guard is ready acts on the armed value. -/
theorem commit_of_ready {s : State} {dt x v comp : Nat} (f : Mod → Nat → Mod) (h : GuardReady s dt x v comp) :
    s.found.commit (s.now dt) x comp f = f s.found.unguard v := by
  obtain ⟨ho, hv, hcomp, hres, armed, hg, ht⟩ := h
  have hval : (BitVec.ofNat 32 v).toNat = v := Nat.mod_eq_of_lt hv
  have hresFound : reservedVal s.found x v = false := hres
  have hcommit := Mod.commit_exact (m := s.found) (k := s.now dt) (g := ⟨x, BitVec.ofNat 32 v, armed⟩) f ho hg ht hcomp
  simpa only [hval, hresFound, Bool.false_eq_true, if_false] using hcommit

/-- A command that is the commit of a register does, when its guard is ready, what the register makes of the armed value. -/
theorem does_commit_of_ready {c : Instr} {s : State} {dt x v comp : Nat} (f : Clock → Mod → Nat → Mod)
    (hexec : exec c s = .next (s.ev dt fun k m => m.commit k x comp (f k))) (h : GuardReady s dt x v comp) :
    Does c s dt (f (s.now dt) s.found.unguard v) :=
  does_of_ev hexec (commit_of_ready (f (s.now dt)) h)

/-- The registers whose commit has a behaviour of its own. -/
def ownCommits : List Nat :=
  [R.GLB_CFG_REF, R.GLB_SW_RESET, R.PWR_REQ, R.PWR_SOFT_RESET, R.REC_CLEAR_RING, R.REC_CLEAR_PROT, R.LEASH_TRIP, R.LEASH_ARM,
    R.KEN_TAMPER_CLR, R.KEN_ZEROISE, R.KEN_READMIT, R.UPD_FUSE_SVN, R.GNSS_READMIT, R.PACK_READMIT, R.MOT_READMIT, R.AIR_READMIT,
    R.SW_READMIT]

/-- The complement word of another register commits plainly. -/
theorem hostCommit_plain {x : Nat} (dt comp : Nat) (s : State) (hx : x ∉ ownCommits) (hgrd : isGuarded x = true) :
    hostCommit dt x comp s = .next (s.ev dt fun k m => m.commit k x comp fun m v => m.commitPlain x v) := by
  simp only [ownCommits, List.mem_cons, List.not_mem_nil, or_false, not_or] at hx
  simp only [hostCommit, hx, hgrd, if_false, if_true]

/-- A command that may change the timebase leaves what it makes of the two. -/
theorem exec_of_evClk {c : Instr} {s : State} {dt : Nat} {f : Clock → Mod → Clock × Mod} {r : Clock × Mod}
    (h : exec c s = .next (s.evClk dt f)) (hr : f (s.now dt) s.found = r) : exec c s = .next (s.left r) := by
  subst hr; exact h

/-- What the complement word of GLB_SW_RESET does: once the register holds 1 a reset of kind 5 begins (R88, R555). -/
def glbSwResetCommit (comp : Nat) (k : Clock) (m : Mod) : Clock × Mod :=
  let m := m.commit k R.GLB_SW_RESET comp fun m v => m.wr R.GLB_SW_RESET v
  if m.rd R.GLB_SW_RESET = 1 then m.beginReset k 5 false else (k, m)

/-- Settles O6: a ready guard hands its value to the behaviour of its register; of GLB_SW_RESET the only value not reserved is 1. -/
theorem guardedCommitsTakeEffect : Obligations.GuardedCommitsTakeEffect := by
  refine ⟨fun s dt x v comp r h hrow hacc hx => ?_, fun s dt v comp h => ?_, fun s dt v comp => ⟨?_, ?_, ?_, ?_, ?_, ?_⟩,
    fun s dt v comp => ⟨?_, ?_, ?_, fun h hrun => ?_, fun h => ?_⟩⟩
  · exact does_commit_of_ready (c := .guardCommit dt x comp) (fun _ m v => m.commitPlain x v) (hostCommit_plain dt comp s hx (by simp [isGuarded, hrow, hacc])) h
  · exact does_commit_of_ready (fun _ => Mod.refCommit) rfl h
  · exact does_commit_of_ready (fun _ m => m.readmitCommit R.GNSS_READMIT) rfl
  · exact does_commit_of_ready (fun _ m => m.readmitCommit R.PACK_READMIT) rfl
  · exact does_commit_of_ready (fun _ m => m.readmitCommit R.MOT_READMIT) rfl
  · exact does_commit_of_ready (fun _ m => m.readmitCommit R.AIR_READMIT) rfl
  · exact does_commit_of_ready (fun _ m => m.readmitCommit R.SW_READMIT) rfl
  · exact does_commit_of_ready (fun _ m => m.readmitCommit R.KEN_READMIT) rfl
  · exact does_commit_of_ready (fun _ m v => (m.recClear false v).cfgSet R.REC_CLEAR_RING v) rfl
  · exact does_commit_of_ready (fun _ m v => (m.recClear true v).cfgSet R.REC_CLEAR_PROT v) rfl
  · exact does_commit_of_ready (fun k m v => (m.cfgSet R.PWR_SOFT_RESET v).softReset k v) rfl
  · have hdoes := does_commit_of_ready (c := .pwrReq dt comp) (fun k m v => if m.running then m.pwrReq k v else m) rfl h
    rwa [if_pos (show s.found.unguard.running = true from hrun)] at hdoes
  · have hone : v = 1 := by
      obtain ⟨-, -, -, hres, -⟩ := h
      exact bne_eq_false_iff_eq.mp (show (v != 1) = false from hres)
    refine exec_of_evClk (f := glbSwResetCommit comp) rfl ?_
    rw [glbSwResetCommit, commit_of_ready _ h, hone, if_pos (Mod.rd_wr_same _ _ _)]

/-! ## Commits that fail -/

/-- A complement in time that is not the exact one, or meets a reserved value, discards the armed guard (R61). -/
theorem Mod.guardTake_wrong {comp : Nat} (hg : m.glb.guard = some g) (ht : k.raw ≤ g.armedAt + msRaw 1)
    (hbad : BitVec.ofNat 32 comp ≠ ~~~g.val ∨ reservedVal m g.off g.val.toNat = true) :
    m.guardTake k g.off comp = (m.unguard.guardFail g.off, none) := by
  simp only [Mod.guardTake, Mod.guardTick_inTime hg ht, hg, ne_eq, not_true_eq_false, if_false]
  exact if_pos hbad

/-- A complement that meets no guard is discarded (R61). -/
theorem Mod.guardTake_none (x comp : Nat) (hg : m.glb.guard = none) : m.guardTake k x comp = (m.guardFail x, none) := by
  simp only [Mod.guardTake, Mod.guardTick_none hg, hg]

/-- A commit whose guard hands no value on does nothing more. -/
theorem Mod.commit_of_take_none {x comp : Nat} {m' : Mod} (f : Mod → Nat → Mod) (ho : m.opens x = true)
    (ht : m.guardTake k x comp = (m', none)) : m.commit k x comp f = m' := by
  rw [Mod.commit, Mod.access_opens _ ho, ht]

/-- A meaning that is the commit of the register at `x`, whatever the register makes of a value. -/
def IsCommit (dt x comp : Nat) (s : State) (r : Res) : Prop :=
  ∃ f : Clock → Mod → Nat → Mod, r = .next (s.ev dt fun k m => m.commit k x comp (f k))

theorem isCommit_ite {dt x y comp : Nat} {s : State} {a b : Res} (ha : IsCommit dt y comp s a) (hb : IsCommit dt x comp s b) :
    IsCommit dt x comp s (if x = y then a else b) := by
  by_cases h : x = y
  · subst h; rwa [if_pos rfl]
  · rwa [if_neg h]

/-- Every complement word but that of GLB_SW_RESET is a commit of its register. -/
theorem hostCommit_isCommit {x : Nat} (dt comp : Nat) (s : State) (hx : x ≠ R.GLB_SW_RESET) (hgrd : isGuarded x = true) :
    IsCommit dt x comp s (hostCommit dt x comp s) := by
  simp only [hostCommit, if_neg hx, hgrd, if_true]
  repeat' apply isCommit_ite
  all_goals exact ⟨_, rfl⟩

/-- A complement for which the guard hands no value on leaves what the guard made of the module. -/
theorem does_guardCommit_of_take_none {s : State} {dt x comp : Nat} {m' : Mod} (ho : s.m.opens x = true) (hgrd : isGuarded x = true)
    (hx : x ≠ R.GLB_SW_RESET) (ht : s.found.guardTake (s.now dt) x comp = (m', none)) : Does (.guardCommit dt x comp) s dt m' := by
  obtain ⟨f, hexec⟩ := hostCommit_isCommit dt comp s hx hgrd
  exact does_of_ev (c := .guardCommit dt x comp) hexec (Mod.commit_of_take_none (m := s.found) _ ho ht)

/-- Settles O7: in both cases the guard hands no value on. -/
theorem guardedCommitsFail : Obligations.GuardedCommitsFail := by
  constructor
  · intro s dt x comp g ho hgrd hg hoff ht hbad hx
    subst hoff
    exact does_guardCommit_of_take_none ho hgrd hx (Mod.guardTake_wrong (m := s.found) (k := s.now dt) hg ht hbad)
  · intro s dt x comp ho hgrd hg hx
    exact does_guardCommit_of_take_none ho hgrd hx (Mod.guardTake_none (m := s.found) x comp hg)

end Sys2Proof.Machine
end

section
/-! SUPPORT. Host accesses (R52 to R59): which registers only their shadow answers for, and what unmapped and powered-off accesses do. -/

namespace Sys2Proof.Machine

variable {m : Mod}

/-! ## Registers with a shadow have no behaviour of their own -/

/-- An offset that is none of a register's instances is not found among them. -/
theorem instOf_none {f : Nat → Nat} {cnt a : Nat} (h : ∀ n < cnt, a ≠ f n) : instOf f cnt a = none := by
  simpa [instOf, upto, List.find?_eq_none] using h

/-- A register with a shadow differs from every register without one. -/
theorem ne_of_shadowed {a x : Nat} (ha : shadowed a = true) (hx : shadowed x = false) : a ≠ x := by
  rintro rfl; simp [ha] at hx

/-- A register with a shadow is not one of a replicated register without one. -/
theorem instOf_none_of_shadowed {f : Nat → Nat} {cnt a : Nat} (ha : shadowed a = true) (hf : ∀ n < cnt, shadowed (f n) = false) :
    instOf f cnt a = none := instOf_none fun n hn => ne_of_shadowed ha (hf n hn)

/-- No mailbox selector has a shadow. -/
theorem mbxSels_not_shadowed : ∀ x ∈ mbxSels, shadowed x = false := by decide +kernel

theorem cmdWrite_shadowed {dt a v : Nat} {s : State} (ha : shadowed a = true) : cmdWrite dt a v s = none := by
  have hcap : instOf R.TIME_CAP_POP 4 a = none := instOf_none_of_shadowed ha (by decide +kernel)
  have hfilter : instOf R.ROVER_FILTER_CMD 256 a = none := instOf_none_of_shadowed ha (by decide +kernel)
  have hlink : instOf R.ROVER_LINK_CMD 256 a = none := instOf_none_of_shadowed ha (by decide +kernel)
  have hcur : a ≠ R.REC_CUR_CMD := ne_of_shadowed ha (by decide +kernel)
  have htest : a ≠ R.LEASH_TEST_CMD := ne_of_shadowed ha (by decide +kernel)
  have hbase : a ≠ R.PACK_BASE_CMD := ne_of_shadowed ha (by decide +kernel)
  simp [cmdWrite, hcap, hfilter, hlink, hcur, htest, hbase]

theorem ringWrite_shadowed {dt a v w : Nat} {s : State} (ha : shadowed a = true) : ringWrite dt a v w s = none := by
  have hdb : instOf R.RING_DB 10 a = none := instOf_none_of_shadowed ha (by decide +kernel)
  have hcons : instOf R.RING_CONS 10 a = none := instOf_none_of_shadowed ha (by decide +kernel)
  have hctl : instOf R.RING_CTL 10 a = none := instOf_none_of_shadowed ha (by decide +kernel)
  have hirq : a ≠ R.RING_IRQ_EN := ne_of_shadowed ha (by decide +kernel)
  have hdma : a ≠ R.RING_DMA_ERR_INFO := ne_of_shadowed ha (by decide +kernel)
  simp [ringWrite, hdb, hcons, hctl, hirq, hdma]

/-- Of the registers with a shadow only the channel assignments have a behaviour of their own. -/
theorem ownWrite_shadowed {dt a v w : Nat} {s : State} (ha : shadowed a = true) (hch : ∀ c < 320, a ≠ R.GNSS_CH_ASSIGN c) :
    ownWrite dt a v w s = none := by
  have happly : a ≠ R.GLB_APPLY := ne_of_shadowed ha (by decide +kernel)
  have herr : a ≠ R.GLB_ERR := ne_of_shadowed ha (by decide +kernel)
  have herrEn : a ≠ R.GLB_ERR_IRQ_EN := ne_of_shadowed ha (by decide +kernel)
  have hcur : a ≠ R.REC_CUR_SEL := ne_of_shadowed ha (by decide +kernel)
  have hshep : a ≠ R.SHEP_TBL_SEL := ne_of_shadowed ha (by decide +kernel)
  have hsw : a ≠ R.SW_TBL_SEL := ne_of_shadowed ha (by decide +kernel)
  have hmbx : a ∉ mbxSels := fun h => by simp [mbxSels_not_shadowed a h] at ha
  simp [ownWrite, happly, herr, herrEn, hcur, hshep, hsw, hmbx, instOf_none hch, ringWrite_shadowed ha, cmdWrite_shadowed ha]

/-! ## Writes of byte lanes (R54, R55) -/

/-- Lanes cut from the value before the merge are cut by it in any case. -/
theorem merge_and_lanes (old v lm w : Nat) : merge old (v &&& lm) (lm &&& w) = merge old v (lm &&& w) := by
  simp only [merge, ← Nat.and_assoc]
  rw [Nat.and_assoc v lm lm, Nat.and_self]

/-- A word's offset is the offset of its word. -/
theorem word_offset {a : Nat} (h : a % 4 = 0) : a / 4 * 4 = a := Nat.div_mul_cancel (Nat.dvd_of_mod_eq_zero h)

/-- A write of byte lanes to a read-write register with a shadow, but for channel assignments, is a plain write. -/
theorem execRegisterWrite_shadowed {dt a v be : Nat} {r : RegRow} {s : State} (hrow : rowOf a = some r) (ha : a % 4 = 0)
    (hacc : r.acc = .rw) (hsh : shadowed a = true) (hch : ∀ c < 320, a ≠ R.GNSS_CH_ASSIGN c) (hv : v < 4294967296) (h0 : 0 < be)
    (hbe : be < 16) :
    execRegisterWrite dt a v be s = .next (s.ev dt fun _ m => m.access a fun m => m.plainWrite r a v (laneMask be)) := by
  have hmod : be % 16 = be := Nat.mod_eq_of_lt hbe
  simp only [execRegisterWrite, hmod, word_offset ha, Nat.mod_eq_of_lt hv, hrow, if_neg h0.ne', regWrite, hacc, ownWrite_shadowed hsh hch]
  rfl

/-- A plain write to a register with a shadow changes the shadow alone (R71, R72). -/
theorem Mod.plainWrite_shadowed {a : Nat} (r : RegRow) (v lm : Nat) (hsh : shadowed a = true) :
    m.plainWrite r a v lm = m.wrSh a (merge (m.rdSh a) v (lm &&& r.rwm)) := by
  rw [Mod.plainWrite, if_pos hsh]

/-! ## Accesses that act on nothing (R52, R59) -/

/-- What an access to an unmapped offset does while BAR0 responds (R52). -/
theorem does_unmappedAccess {s : State} {dt a : Nat} (w : Bool) (hbar : s.m.barUp = true) (ha : a % 4 = 0) (hrow : rowOf a = none) :
    Does (.unmappedAccess dt a w) s dt ((s.found.glbErr 5 a).when (!w) fun m => m.emit (.readData 0)) := by
  refine does_of_ev (f := fun _ m => if !m.barUp || (rowOf (a / 4 * 4)).isSome then m
    else (m.glbErr 5 (a / 4 * 4)).when (!w) fun m => m.emit (.readData 0)) rfl ?_
  simp only [word_offset ha, hrow, State.found_barUp, hbar]
  rfl

/-- What an access to a register of a powered-off block does while BAR0 responds (R59). -/
theorem does_poweredOffAccess {s : State} {dt a b : Nat} (w : Bool) (hbar : s.m.barUp = true) (ha : a % 4 = 0) (hrow : rowOf a ≠ none)
    (hblk : blockOf a = some b) (hoff : s.m.blkOn b = false) :
    Does (.poweredOffAccess dt a w) s dt ((s.found.glbErr 2 a).when (!w) fun m => m.emit (.readData 0xFFFFFFFF)) := by
  refine does_of_ev (f := fun _ m => match blockOf a with
    | some b => if !m.barUp || m.blkOn b || (rowOf (a / 4 * 4)).isNone then m
      else (m.glbErr 2 (a / 4 * 4)).when (!w) fun m => m.emit (.readData 0xFFFFFFFF)
    | none => m) rfl ?_
  have hfound : s.found.blkOn b = false := hoff
  simp only [word_offset ha, hblk, hfound, State.found_barUp, hbar, Option.isNone_eq_false_iff.mpr (Option.ne_none_iff_isSome.mp hrow)]
  rfl

/-- Settles O9: the lanes merge into the shadow, and the two errors are those of an access that acts on nothing. -/
theorem hostAccesses : Obligations.HostAccesses := by
  refine ⟨fun s dt a v be r hrow ha hacc hsh hch ho hv h0 hbe => ?_, fun s dt a w hbar ha hrow => ?_,
    fun s dt a b w hbar ha hrow hblk hoff => ?_⟩
  · refine does_of_ev (c := .registerWrite dt a v be) (execRegisterWrite_shadowed hrow ha hacc hsh hch hv h0 hbe) ?_
    rw [Mod.access_opens (m := s.found) _ ho, Mod.plainWrite_shadowed r v _ hsh, merge_and_lanes]
    rfl
  · have hdoes := does_unmappedAccess (s := s) (dt := dt) w hbar ha hrow
    cases w <;> exact hdoes
  · have hdoes := does_poweredOffAccess (s := s) (dt := dt) w hbar ha hrow hblk hoff
    cases w <;> exact hdoes

/-- Settles O10: the write is the error PWR_OFF_ACCESS and nothing else. -/
theorem poweredOffWriteFrame : Obligations.PoweredOffWriteFrame := by
  intro s dt a b hbar ha hrow hblk hoff
  refine ⟨_, does_poweredOffAccess (s := s) (dt := dt) true hbar ha hrow hblk hoff, ?_⟩
  refine ⟨Mod.bit_glbErr s.found 2 a (by decide), fun x hx hx1 hx2 => Mod.rd_glbErr_ne s.found 2 a hx hx1 hx2, ?_⟩
  simp [Mod.when, State.found]

end Sys2Proof.Machine
end

section
/-! SUPPORT. Frames of the shared operations: what repeated updates, configuration writes and recorder triggers leave as they were. -/

namespace Sys2Proof.Machine

variable (m : Mod)

/-! ## The module as a command finds it (log entry 5) -/

section
variable (s : State)

@[simp] theorem State.found_running : s.found.running = s.m.running := (rfl)
@[simp] theorem State.found_pstate : s.found.pstate = s.m.pstate := (rfl)
@[simp] theorem State.found_tstate : s.found.tstate = s.m.tstate := (rfl)
@[simp] theorem State.found_role : s.found.role = s.m.role := (rfl)
@[simp] theorem State.found_awake : s.found.awake = s.m.awake := (rfl)
@[simp] theorem State.found_serves : s.found.serves = s.m.serves := (rfl)
@[simp] theorem State.found_domOn (n : Nat) : s.found.domOn n = s.m.domOn n := (rfl)
@[simp] theorem State.found_blkOn (n : Nat) : s.found.blkOn n = s.m.blkOn n := (rfl)
@[simp] theorem State.found_ringState (n : Nat) : s.found.ringState n = s.m.ringState n := (rfl)

end

/-- The boundary that ends the tick in progress has been reached when the command comes. -/
theorem State.boundary_reached {s : State} {dt : Nat} (h : (s.now dt).ended = true) : (s.now dt).nextBoundary ≤ s.clk.raw + dt :=
  of_decide_eq_true h

/-- A command that acts under a condition does, where it holds, what it makes of the module it finds. -/
theorem does_of_guard {c : Instr} {s : State} {dt : Nat} {p : Clock → Mod → Prop} [∀ k m, Decidable (p k m)] {f : Clock → Mod → Mod}
    {m : Mod} (h : exec c s = .next (s.ev dt fun k m => if p k m then f k m else m)) (hp : p (s.now dt) s.found)
    (hm : f (s.now dt) s.found = m) : Does c s dt m := does_of_ev h ((if_pos hp).trans hm)

/-- The same for what holds of the state in which it leaves the module. -/
theorem answers_of_guard {c : Instr} {s : State} {dt : Nat} {p : Clock → Mod → Prop} [∀ k m, Decidable (p k m)] {f : Clock → Mod → Mod}
    {P : State → Prop} (h : exec c s = .next (s.ev dt fun k m => if p k m then f k m else m)) (hp : p (s.now dt) s.found)
    (hP : P (s.after dt (f (s.now dt) s.found))) : Answers c s P := answers_of_ev h (by rwa [if_pos hp])

/-- A command that is a host access does, where the access opens, what the access makes of the module. -/
theorem does_of_access {c : Instr} {s : State} {dt a : Nat} {f : Clock → Mod → Mod} {m : Mod}
    (h : exec c s = .next (s.ev dt fun k m => m.access a (f k))) (ho : s.m.opens a = true) (hm : f (s.now dt) s.found = m) : Does c s dt m :=
  does_of_ev h ((Mod.access_opens _ ((s.found_opens a).trans ho)).trans hm)

/-- The same for what holds of the state in which it leaves the module. -/
theorem answers_of_access {c : Instr} {s : State} {dt a : Nat} {f : Clock → Mod → Mod} {P : State → Prop}
    (h : exec c s = .next (s.ev dt fun k m => m.access a (f k))) (ho : s.m.opens a = true) (hP : P (s.after dt (f (s.now dt) s.found))) :
    Answers c s P :=
  answers_of_ev h (by rwa [Mod.access_opens _ ((s.found_opens a).trans ho)])

/-! ## Repeated updates -/

/-- What holds of a module, and of every module an update of a listed entry makes of one it holds of, holds after all of them. -/
theorem Mod.each_induct {α : Type} {P : Mod → Prop} {f : Mod → α → Mod} {l : List α} (h0 : P m) (hf : ∀ m x, x ∈ l → P m → P (f m x)) :
    P (m.each l f) := by
  induction l generalizing m with
  | nil => exact h0
  | cons x t ih => exact ih (f m x) (hf m x List.mem_cons_self h0) fun m y hy => hf m y (List.mem_cons_of_mem _ hy)

/-- What no single update changes, all of them leave. -/
theorem Mod.each_keeps {α β : Type} (g : Mod → β) {f : Mod → α → Mod} (hf : ∀ m x, g (f m x) = g m) (l : List α) : g (m.each l f) = g m :=
  Mod.each_induct (P := fun m' => g m' = g m) m rfl fun m' x _ h => (hf m' x).trans h

@[simp] theorem Mod.each_nil {α : Type} (f : Mod → α → Mod) : m.each [] f = m := rfl
@[simp] theorem Mod.each_cons {α : Type} (f : Mod → α → Mod) (x : α) (t : List α) : m.each (x :: t) f = (f m x).each t f := rfl

/-! ## Configuration writes (R82) -/

/-- A configuration register's new value is a write to its live copy; of GLB only the walk in progress may be torn. -/
theorem Mod.cfgSet_eq (a v : Nat) : ∃ torn, m.cfgSet a v = { (m.wr a v) with glb := { m.glb with torn := torn } } := by
  unfold Mod.cfgSet
  dsimp only
  split
  · exact ⟨true, rfl⟩
  · exact ⟨m.glb.torn, rfl⟩

theorem Mod.cfgSet_live (a v : Nat) : (m.cfgSet a v).live = (m.wr a v).live := by
  obtain ⟨torn, h⟩ := m.cfgSet_eq a v; rw [h]

theorem Mod.rd_cfgSet (a v x : Nat) : (m.cfgSet a v).rd x = if x = a then v % 4294967296 else m.rd x := by
  rw [Mod.rd_eq (m.cfgSet_live a v), Mod.rd_wr]

/-! ## Recorder triggers (R573 to R575) -/

/-- What a trigger does to the module: nothing, a record queued, a count of its own, or a drop with its event. -/
theorem Mod.recTrig_cases {P : Mod → Prop} (k : Clock) (t : Nat) (p : List Byte) (h0 : P m)
    (hput : ∀ coal, P (Mod.recPut k m t p coal false)) (hrcd : ∀ r, P { m with rcd := r }) (hdrop : P ((m.inc R.REC_DROP_CNT).recEvt 2)) :
    P (m.recTrig k t p) := by
  unfold Mod.recTrig
  repeat' split
  · exact h0
  · exact hput _
  · exact hrcd _
  · exact hrcd _
  · exact hput _
  · exact hdrop

/-- A trigger leaves what queueing a record, the recorder's own counts and the event of a drop leave. -/
theorem Mod.recTrig_keeps {β : Type} (g : Mod → β) (k : Clock) (t : Nat) (p : List Byte) (hput : ∀ coal, g (Mod.recPut k m t p coal false) = g m)
    (hrcd : ∀ r, g { m with rcd := r } = g m) (hdrop : g ((m.inc R.REC_DROP_CNT).recEvt 2) = g m) : g (m.recTrig k t p) = g m :=
  Mod.recTrig_cases (P := fun m' => g m' = g m) m k t p rfl hput hrcd hdrop

/-- A trigger touches the drop count, the recorder's events and the interrupt status alone among the registers. -/
theorem Mod.rd_recTrig_ne (k : Clock) (t : Nat) (p : List Byte) {x : Nat} (h : x ≠ R.REC_DROP_CNT) (h1 : x ≠ R.REC_EVT)
    (h2 : x ≠ R.RING_IRQ_STAT) : (m.recTrig k t p).rd x = m.rd x :=
  Mod.recTrig_keeps m (fun m => m.rd x) k t p (fun _ => rfl) (fun _ => rfl)
    (by rw [Mod.recEvt, Mod.rd_evt_ne _ _ _ _ _ h1 h2, Mod.rd_inc, if_neg h])

/-- A trigger takes a SEQ at most of what flash and MRAM keep. -/
theorem Mod.recTrig_nv (k : Clock) (t : Nat) (p : List Byte) : ∃ n, (m.recTrig k t p).nv = { m.nv with seqNext := n } :=
  Mod.recTrig_cases (P := fun m' => ∃ n, m'.nv = { m.nv with seqNext := n }) m k t p ⟨_, rfl⟩ (fun _ => ⟨_, rfl⟩) (fun _ => ⟨_, rfl⟩)
    ⟨_, by simp [Mod.recEvt]; rfl⟩

@[simp] theorem Mod.recTrig_retired (k : Clock) (t : Nat) (p : List Byte) : (m.recTrig k t p).nv.retired = m.nv.retired := by
  obtain ⟨n, h⟩ := m.recTrig_nv k t p; rw [h]

section
variable (k : Clock) (t : Nat) (p : List Byte)

@[simp] theorem Mod.recTrig_shadow : (m.recTrig k t p).shadow = m.shadow := Mod.recTrig_keeps m Mod.shadow k t p (fun _ => rfl) (fun _ => rfl) (by simp [Mod.recEvt])
@[simp] theorem Mod.recTrig_seed : (m.recTrig k t p).seed = m.seed := Mod.recTrig_keeps m Mod.seed k t p (fun _ => rfl) (fun _ => rfl) (by simp [Mod.recEvt])
@[simp] theorem Mod.recTrig_glb : (m.recTrig k t p).glb = m.glb := Mod.recTrig_keeps m Mod.glb k t p (fun _ => rfl) (fun _ => rfl) (by simp [Mod.recEvt])
@[simp] theorem Mod.recTrig_gnss : (m.recTrig k t p).gnss = m.gnss := Mod.recTrig_keeps m Mod.gnss k t p (fun _ => rfl) (fun _ => rfl) (by simp [Mod.recEvt])
@[simp] theorem Mod.recTrig_time : (m.recTrig k t p).time = m.time := Mod.recTrig_keeps m Mod.time k t p (fun _ => rfl) (fun _ => rfl) (by simp [Mod.recEvt])
@[simp] theorem Mod.recTrig_pack : (m.recTrig k t p).pack = m.pack := Mod.recTrig_keeps m Mod.pack k t p (fun _ => rfl) (fun _ => rfl) (by simp [Mod.recEvt])
@[simp] theorem Mod.recTrig_shep : (m.recTrig k t p).shep = m.shep := Mod.recTrig_keeps m Mod.shep k t p (fun _ => rfl) (fun _ => rfl) (by simp [Mod.recEvt])
@[simp] theorem Mod.recTrig_mot : (m.recTrig k t p).mot = m.mot := Mod.recTrig_keeps m Mod.mot k t p (fun _ => rfl) (fun _ => rfl) (by simp [Mod.recEvt])
@[simp] theorem Mod.recTrig_sw : (m.recTrig k t p).sw = m.sw := Mod.recTrig_keeps m Mod.sw k t p (fun _ => rfl) (fun _ => rfl) (by simp [Mod.recEvt])
@[simp] theorem Mod.recTrig_air : (m.recTrig k t p).air = m.air := Mod.recTrig_keeps m Mod.air k t p (fun _ => rfl) (fun _ => rfl) (by simp [Mod.recEvt])
@[simp] theorem Mod.recTrig_leash : (m.recTrig k t p).leash = m.leash := Mod.recTrig_keeps m Mod.leash k t p (fun _ => rfl) (fun _ => rfl) (by simp [Mod.recEvt])
@[simp] theorem Mod.recTrig_pwr : (m.recTrig k t p).pwr = m.pwr := Mod.recTrig_keeps m Mod.pwr k t p (fun _ => rfl) (fun _ => rfl) (by simp [Mod.recEvt])
@[simp] theorem Mod.recTrig_perf : (m.recTrig k t p).perf = m.perf := Mod.recTrig_keeps m Mod.perf k t p (fun _ => rfl) (fun _ => rfl) (by simp [Mod.recEvt])
@[simp] theorem Mod.recTrig_elem : (m.recTrig k t p).elem = m.elem := Mod.recTrig_keeps m Mod.elem k t p (fun _ => rfl) (fun _ => rfl) (by simp [Mod.recEvt])
@[simp] theorem Mod.recTrig_back : (m.recTrig k t p).back = m.back := Mod.recTrig_keeps m Mod.back k t p (fun _ => rfl) (fun _ => rfl) (by simp [Mod.recEvt])
@[simp] theorem Mod.recTrig_ken : (m.recTrig k t p).ken = m.ken := Mod.recTrig_keeps m Mod.ken k t p (fun _ => rfl) (fun _ => rfl) (by simp [Mod.recEvt])
@[simp] theorem Mod.recTrig_brace : (m.recTrig k t p).brace = m.brace := Mod.recTrig_keeps m Mod.brace k t p (fun _ => rfl) (fun _ => rfl) (by simp [Mod.recEvt])
@[simp] theorem Mod.recTrig_upd : (m.recTrig k t p).upd = m.upd := Mod.recTrig_keeps m Mod.upd k t p (fun _ => rfl) (fun _ => rfl) (by simp [Mod.recEvt])

end

/-! ## Fields and bits of a register that reads the same -/

theorem Mod.fld_congr {m n : Mod} {f : Fld} (h : m.rd f.off = n.rd f.off) : m.fld f = n.fld f := by rw [Mod.fld, Mod.fld, h]
theorem Mod.on_congr {m n : Mod} {f : Fld} (h : m.rd f.off = n.rd f.off) : m.on f = n.on f := by rw [Mod.on, Mod.on, Mod.fld_congr h]
theorem Mod.bit_congr {m n : Mod} {a i : Nat} (h : m.rd a = n.rd a) : m.bit a i = n.bit a i := by rw [Mod.bit, Mod.bit, h]

/-- An event leaves the fields of other registers. -/
theorem Mod.fld_evt_ne (r e b x : Nat) {f : Fld} (h : f.off ≠ r) (h' : f.off ≠ R.RING_IRQ_STAT) : (m.evt r e b x).fld f = m.fld f :=
  Mod.fld_congr (m.rd_evt_ne r e b x h h')

/-- A field of one register that is written leaves every other field but those it overlaps; here only the registers differ. -/
theorem Mod.fld_setF_off (f : Fld) (v : Nat) {g : Fld} (h : g.off ≠ f.off) : (m.setF f v).fld g = m.fld g := Mod.fld_congr (m.rd_setF_ne f v h)

/-- A field without the bit that is set reads the same. -/
theorem Mod.fld_setBit_ne (a i : Nat) {f : Fld} (h : f.off ≠ a ∨ i < f.lo ∨ f.hi < i) : (m.setBit a i).fld f = m.fld f := by
  apply Nat.eq_of_testBit_eq
  intro j
  simp only [Mod.fld, testBit_bitsOf]
  by_cases hj : j < f.hi + 1 - f.lo
  · have hbit := Mod.bit_setBit_ne m a i (x := f.off) (j := f.lo + j) (by omega)
    rw [Mod.bit, Mod.bit] at hbit
    rw [hbit]
  · simp [hj]

/-! ## Bits cleared -/

/-- A bit taken out of a mask of all 32 reads 0. -/
theorem testBit_mask_sub (i j : Nat) (hi : i < 32) : (4294967295 - 2 ^ i).testBit j = (decide (j < 32) && decide (j ≠ i)) := by
  have hlt : 2 ^ i < 2 ^ 32 := Nat.pow_lt_pow_right (by decide) hi
  have h := Nat.testBit_two_pow_sub_succ hlt j
  rw [show 2 ^ 32 - (2 ^ i + 1) = 4294967295 - 2 ^ i by omega, Nat.testBit_two_pow] at h
  rw [h]
  by_cases hj : i = j <;> simp [hj, eq_comm]

/-- A bit masked out of a number reads 0. -/
theorem testBit_and_mask_sub (x v : Nat) (hv : v < 32) : (x &&& (4294967295 - 2 ^ v)).testBit v = false := by
  simp [Nat.testBit_and, testBit_mask_sub v v hv]

theorem Mod.bit_clrBit (a i : Nat) (h : i < 32) : (m.clrBit a i).bit a i = false := by
  rw [Mod.bit, Mod.clrBit, Mod.rd_wr_same, show 4294967296 = 2 ^ 32 from rfl, Nat.testBit_mod_two_pow]
  simp only [testBit_and_mask_sub _ i h, Bool.and_false]

end Sys2Proof.Machine
end

section
/-! SUPPORT. Mailbox sequences (R64 to R67). -/

namespace Sys2Proof.Machine

variable {m : Mod} {k : Clock} {sel : Nat} {q : MbxSeq}

/-- The snapshot of a read sequence that is awaited becomes its data (R65 step 1). -/
theorem Mod.mbxReady_read (hq : AMap.find m.glb.mbx sel = some q) (hread : q.write = false) (hbusy : m.bit (sel + 4) 1 = true) :
    m.mbxReady k sel =
      (m.setMbx sel (some { q with data := (padTo ((m.mbxItem k sel q.item q.inst).getD []) q.words).map (BitVec.ofNat 32) })).mbxStat
        sel true false false q.words := by
  simp [Mod.mbxReady, hq, hread, hbusy]

/-- A read of a valid read sequence hands out its next word; the sequence goes with its last one (R65). -/
theorem Mod.mbxRead_cons {w : Word} {rest : List Word} (hq : AMap.find m.glb.mbx sel = some q) (hvalid : m.mbxValid sel = true)
    (hread : q.write = false) (hdata : q.data = w :: rest) :
    (m.mbxRead sel).out = m.out ++ [.readData w]
      ∧ AMap.find (m.mbxRead sel).glb.mbx sel = if rest = [] then none else some { q with data := rest } := by
  cases rest with
  | nil => simp [Mod.mbxRead, hq, hvalid, hread, hdata, Mod.setMbx, Mod.mbxStat, AMap.find_del, Mod.emit]
  | cons x xs => simp [Mod.mbxRead, hq, hvalid, hread, hdata, Mod.setMbx, AMap.find_ins, Mod.emit]

/-- A word that is not the last of a valid write sequence joins its data (R66). -/
theorem Mod.mbxWrite_more (v : Nat) (hq : AMap.find m.glb.mbx sel = some q) (hvalid : m.mbxValid sel = true) (hwrite : q.write = true)
    (hmore : q.data.length + 1 < q.words) :
    m.mbxWrite k sel v = m.setMbx sel (some { q with data := q.data ++ [BitVec.ofNat 32 v] }) := by
  simp [Mod.mbxWrite, hq, hvalid, hwrite, hmore]

/-- A block whose register opens responds and is powered. -/
theorem Mod.opens_iff (a : Nat) : m.opens a = true ↔ m.barUp = true ∧ ∀ b, blockOf a = some b → m.blkOn b = true := by
  unfold Mod.opens
  cases blockOf a <;> simp

/-- Settles O13: each access opens, and is the step of its sequence. -/
theorem mailboxSequences : Obligations.MailboxSequences := by
  refine ⟨fun s dt sel v hsel ho => ?_, fun s dt sel q ho hq hread hbusy => ?_, fun s dt sel q w rest hsel ho hd hq hvalid hread hdata => ?_,
    fun s dt sel v q hsel hd hq hvalid hwrite hmore => ?_⟩
  · refine does_of_ev rfl ?_
    rw [Mod.access_opens (m := s.found) _ ho, if_pos (List.contains_iff_mem.mpr hsel)]
  · refine does_of_ev rfl ?_
    rw [← Mod.mbxReady_read (m := s.found) hq hread hbusy]
    obtain ⟨hbar, hon⟩ := (Mod.opens_iff (m := s.found) sel).mp ho
    cases hb : blockOf sel with
    | none => simp [hbar]
    | some b => simp [hbar, hon b hb]
  · refine answers_of_ev rfl ?_
    have hans := Mod.mbxRead_cons (m := s.found) hq hvalid hread hdata
    obtain ⟨-, hon⟩ := (Mod.opens_iff (m := s.found) sel).mp ho
    rw [Mod.access_opens (m := s.found) _ hd, if_pos (List.contains_iff_mem.mpr hsel)]
    cases hb : blockOf sel with
    | none => simpa using hans
    | some b => simpa [hon b hb] using hans
  · refine does_of_ev rfl ?_
    rw [Mod.access_opens (m := s.found) _ hd, if_pos (List.contains_iff_mem.mpr hsel)]
    exact Mod.mbxWrite_more (m := s.found) v hq hvalid hwrite hmore

end Sys2Proof.Machine
end

section
/-! SUPPORT. Items and results (R115, R116, R118): what a block's answer on ring 1 leaves as it was. -/

namespace Sys2Proof.Machine

variable (m : Mod)

/-! ## Items -/

@[simp] theorem Mod.rng_setRng (n : Nat) (r : RingSt) (x : Nat) : (m.setRng n r).rng x = if x = n then r else m.rng x := by
  simp [Mod.rng, Mod.setRng]

/-- A sticky bit touches its register and the interrupt status alone. -/
theorem Mod.rd_ringSticky_ne (n b : Nat) {x : Nat} (h : x ≠ R.RING_STAT n) (h' : x ≠ R.RING_IRQ_STAT) :
    (m.ringSticky n b).rd x = m.rd x := by
  unfold Mod.ringSticky
  split
  · rfl
  · rw [Mod.rd_raise_ne _ _ h', Mod.rd_setBit_ne _ _ _ h]

/-- With room in its queue a ring that is set up takes an item behind those that wait. -/
theorem Mod.enqueue_room {n : Nat} (k : Clock) (kind : Nat) (data : List Byte) (hst : m.ringState n ≠ 0)
    (hroom : (m.rng n).queue.length < ringDepth n) :
    m.enqueue k n kind data =
      m.setRng n { m.rng n with queue := (m.rng n).queue ++ [{ kind := kind, data := data, tick := k.tick }] } := by
  simp [Mod.enqueue, hst, hroom]

/-- What changes of a ring's queue and the count of a drop leave, queueing an item leaves. -/
theorem Mod.enqueue_keeps {β : Type} (g : Mod → β) (k : Clock) (n kind : Nat) (data : List Byte) (hrng : ∀ m r, g (m.setRng n r) = g m)
    (hinc : ∀ m, g (m.inc (R.RING_DROP_CNT n)) = g m) (hsticky : ∀ m, g (m.ringSticky n 17) = g m) : g (m.enqueue k n kind data) = g m := by
  have hdrop : ∀ m, g (m.ringDrop n) = g m := fun m => by rw [Mod.ringDrop, hsticky, hinc]
  unfold Mod.enqueue
  dsimp only
  split
  · exact hinc m
  split
  · exact hrng m _
  split
  · rw [hdrop, hrng]
  · exact hdrop m

/-- An item touches the drop count and the status of its ring and the interrupt status alone among the registers. -/
theorem Mod.rd_enqueue_ne (k : Clock) (n kind : Nat) (data : List Byte) {x : Nat} (h : x ≠ R.RING_DROP_CNT n) (h1 : x ≠ R.RING_STAT n)
    (h2 : x ≠ R.RING_IRQ_STAT) : (m.enqueue k n kind data).rd x = m.rd x :=
  Mod.enqueue_keeps m (fun m => m.rd x) k n kind data (fun _ _ => rfl) (fun m => by rw [Mod.rd_inc, if_neg h])
    (fun m => Mod.rd_ringSticky_ne m n 17 h1 h2)

section
variable (n b : Nat) (k : Clock) (kind : Nat) (data : List Byte)

@[simp] theorem Mod.ringSticky_shadow : (m.ringSticky n b).shadow = m.shadow := by unfold Mod.ringSticky; split <;> simp
@[simp] theorem Mod.ringSticky_seed : (m.ringSticky n b).seed = m.seed := by unfold Mod.ringSticky; split <;> simp
@[simp] theorem Mod.ringSticky_glb : (m.ringSticky n b).glb = m.glb := by unfold Mod.ringSticky; split <;> simp
@[simp] theorem Mod.ringSticky_gnss : (m.ringSticky n b).gnss = m.gnss := by unfold Mod.ringSticky; split <;> simp
@[simp] theorem Mod.ringSticky_time : (m.ringSticky n b).time = m.time := by unfold Mod.ringSticky; split <;> simp
@[simp] theorem Mod.ringSticky_pack : (m.ringSticky n b).pack = m.pack := by unfold Mod.ringSticky; split <;> simp
@[simp] theorem Mod.ringSticky_shep : (m.ringSticky n b).shep = m.shep := by unfold Mod.ringSticky; split <;> simp
@[simp] theorem Mod.ringSticky_mot : (m.ringSticky n b).mot = m.mot := by unfold Mod.ringSticky; split <;> simp
@[simp] theorem Mod.ringSticky_sw : (m.ringSticky n b).sw = m.sw := by unfold Mod.ringSticky; split <;> simp
@[simp] theorem Mod.ringSticky_air : (m.ringSticky n b).air = m.air := by unfold Mod.ringSticky; split <;> simp
@[simp] theorem Mod.ringSticky_leash : (m.ringSticky n b).leash = m.leash := by unfold Mod.ringSticky; split <;> simp
@[simp] theorem Mod.ringSticky_pwr : (m.ringSticky n b).pwr = m.pwr := by unfold Mod.ringSticky; split <;> simp
@[simp] theorem Mod.ringSticky_rcd : (m.ringSticky n b).rcd = m.rcd := by unfold Mod.ringSticky; split <;> simp
@[simp] theorem Mod.ringSticky_perf : (m.ringSticky n b).perf = m.perf := by unfold Mod.ringSticky; split <;> simp
@[simp] theorem Mod.ringSticky_elem : (m.ringSticky n b).elem = m.elem := by unfold Mod.ringSticky; split <;> simp
@[simp] theorem Mod.ringSticky_back : (m.ringSticky n b).back = m.back := by unfold Mod.ringSticky; split <;> simp
@[simp] theorem Mod.ringSticky_ken : (m.ringSticky n b).ken = m.ken := by unfold Mod.ringSticky; split <;> simp
@[simp] theorem Mod.ringSticky_brace : (m.ringSticky n b).brace = m.brace := by unfold Mod.ringSticky; split <;> simp
@[simp] theorem Mod.ringSticky_upd : (m.ringSticky n b).upd = m.upd := by unfold Mod.ringSticky; split <;> simp
@[simp] theorem Mod.ringSticky_nv : (m.ringSticky n b).nv = m.nv := by unfold Mod.ringSticky; split <;> simp

@[simp] theorem Mod.enqueue_shadow : (m.enqueue k n kind data).shadow = m.shadow := Mod.enqueue_keeps m Mod.shadow k n kind data (by simp) (by simp) (by simp)
@[simp] theorem Mod.enqueue_seed : (m.enqueue k n kind data).seed = m.seed := Mod.enqueue_keeps m Mod.seed k n kind data (by simp) (by simp) (by simp)
@[simp] theorem Mod.enqueue_glb : (m.enqueue k n kind data).glb = m.glb := Mod.enqueue_keeps m Mod.glb k n kind data (by simp) (by simp) (by simp)
@[simp] theorem Mod.enqueue_gnss : (m.enqueue k n kind data).gnss = m.gnss := Mod.enqueue_keeps m Mod.gnss k n kind data (by simp) (by simp) (by simp)
@[simp] theorem Mod.enqueue_time : (m.enqueue k n kind data).time = m.time := Mod.enqueue_keeps m Mod.time k n kind data (by simp) (by simp) (by simp)
@[simp] theorem Mod.enqueue_pack : (m.enqueue k n kind data).pack = m.pack := Mod.enqueue_keeps m Mod.pack k n kind data (by simp) (by simp) (by simp)
@[simp] theorem Mod.enqueue_shep : (m.enqueue k n kind data).shep = m.shep := Mod.enqueue_keeps m Mod.shep k n kind data (by simp) (by simp) (by simp)
@[simp] theorem Mod.enqueue_mot : (m.enqueue k n kind data).mot = m.mot := Mod.enqueue_keeps m Mod.mot k n kind data (by simp) (by simp) (by simp)
@[simp] theorem Mod.enqueue_sw : (m.enqueue k n kind data).sw = m.sw := Mod.enqueue_keeps m Mod.sw k n kind data (by simp) (by simp) (by simp)
@[simp] theorem Mod.enqueue_air : (m.enqueue k n kind data).air = m.air := Mod.enqueue_keeps m Mod.air k n kind data (by simp) (by simp) (by simp)
@[simp] theorem Mod.enqueue_leash : (m.enqueue k n kind data).leash = m.leash := Mod.enqueue_keeps m Mod.leash k n kind data (by simp) (by simp) (by simp)
@[simp] theorem Mod.enqueue_pwr : (m.enqueue k n kind data).pwr = m.pwr := Mod.enqueue_keeps m Mod.pwr k n kind data (by simp) (by simp) (by simp)
@[simp] theorem Mod.enqueue_rcd : (m.enqueue k n kind data).rcd = m.rcd := Mod.enqueue_keeps m Mod.rcd k n kind data (by simp) (by simp) (by simp)
@[simp] theorem Mod.enqueue_perf : (m.enqueue k n kind data).perf = m.perf := Mod.enqueue_keeps m Mod.perf k n kind data (by simp) (by simp) (by simp)
@[simp] theorem Mod.enqueue_elem : (m.enqueue k n kind data).elem = m.elem := Mod.enqueue_keeps m Mod.elem k n kind data (by simp) (by simp) (by simp)
@[simp] theorem Mod.enqueue_back : (m.enqueue k n kind data).back = m.back := Mod.enqueue_keeps m Mod.back k n kind data (by simp) (by simp) (by simp)
@[simp] theorem Mod.enqueue_ken : (m.enqueue k n kind data).ken = m.ken := Mod.enqueue_keeps m Mod.ken k n kind data (by simp) (by simp) (by simp)
@[simp] theorem Mod.enqueue_brace : (m.enqueue k n kind data).brace = m.brace := Mod.enqueue_keeps m Mod.brace k n kind data (by simp) (by simp) (by simp)
@[simp] theorem Mod.enqueue_upd : (m.enqueue k n kind data).upd = m.upd := Mod.enqueue_keeps m Mod.upd k n kind data (by simp) (by simp) (by simp)
@[simp] theorem Mod.enqueue_nv : (m.enqueue k n kind data).nv = m.nv := Mod.enqueue_keeps m Mod.nv k n kind data (by simp) (by simp) (by simp)

end

/-! ## Results -/

/-- A result is an item of ring 1 unless it is withheld; before it the command leaves the list of those handed on, which KEN_STAT.BUSY
shows for the Kennel. -/
theorem Mod.result_keeps {β : Type} (g : Mod → β) (k : Clock) (block opcode code tag : Nat) (nr : Bool) (accept : Nat) (p : List Byte)
    (hring : ∀ (m : Mod) r, g { m with ring := r } = g m) (hbusy : ∀ m b, g (Mod.setB m F.KEN_STAT_BUSY b) = g m)
    (henq : ∀ (m : Mod) data, g (m.enqueue k 1 2 data) = g m) : g (m.result k block opcode code tag nr accept p) = g m := by
  unfold Mod.result
  dsimp only
  split
  all_goals split
  all_goals simp only [henq, hring, Mod.kenBusy, hbusy]

/-- The Kennel's BUSY shows nothing of a ring. -/
theorem Mod.ringState_kenBusy {n : Nat} (hn : n ≤ 9) : m.kenBusy.ringState n = m.ringState n :=
  Mod.fld_congr (Mod.rd_setB_ne m F.KEN_STAT_BUSY _ (by simp only [F.RING_STAT_STATE, F.KEN_STAT_BUSY, R.RING_STAT, R.KEN_STAT]; omega))

theorem Mod.rng_kenBusy (n : Nat) : m.kenBusy.rng n = m.rng n := (rfl)

/-- So it changes nothing of what ring 1 takes. -/
theorem Mod.takesResult_kenBusy : m.kenBusy.takesResult = m.takesResult := by
  rw [Mod.takesResult, Mod.takesResult, Mod.ringState_kenBusy m (by decide), Mod.rng_kenBusy]

/-- Ring 1 takes the item of a result where it is set up and has room (R118). -/
theorem Mod.enqueue_result (k : Clock) (data : List Byte) (hroom : m.takesResult = true) :
    ((m.enqueue k 1 2 data).rng 1).queue = (m.rng 1).queue ++ [{ kind := 2, data := data, tick := k.tick }] := by
  rw [Mod.takesResult, Bool.and_eq_true, bne_iff_ne, decide_eq_true_eq] at hroom
  rw [Mod.enqueue_room m k 2 data hroom.1 hroom.2, Mod.rng_setRng, if_pos rfl]

/-- A result that is not withheld stands last in the queue of ring 1, where the ring has room (R115, R116). -/
theorem Mod.result_queue (k : Clock) {block code : Nat} (opcode tag : Nat) {nr : Bool} (accept : Nat) (p : List Byte)
    (hroom : m.takesResult = true) (hpost : nr = false ∨ code ≠ 0) :
    ((m.result k block opcode code tag nr accept p).rng 1).queue
      = (m.rng 1).queue ++ [{ kind := 2, data := resultBytes block opcode code tag accept k.tick p, tick := k.tick }] := by
  have hposts : ¬ (nr = true ∧ code = 0) := by rintro ⟨rfl, rfl⟩; simp at hpost
  simp only [Mod.result, if_neg hposts]
  split
  · exact Mod.enqueue_result _ k _ ((Mod.takesResult_kenBusy _).trans hroom)
  · exact Mod.enqueue_result _ k _ hroom

/-- A result touches the drop count and the status of ring 1, the interrupt status and KEN_STAT alone among the registers. -/
theorem Mod.rd_result_ne (k : Clock) (block opcode code tag : Nat) (nr : Bool) (accept : Nat) (p : List Byte) {x : Nat}
    (h : x ≠ R.RING_DROP_CNT 1) (h1 : x ≠ R.RING_STAT 1) (h2 : x ≠ R.RING_IRQ_STAT) (h3 : x ≠ R.KEN_STAT) :
    (m.result k block opcode code tag nr accept p).rd x = m.rd x :=
  Mod.result_keeps m (fun m => m.rd x) _ _ _ _ _ _ _ _ (fun _ _ => rfl) (fun m b => Mod.rd_setB_ne m F.KEN_STAT_BUSY b h3)
    (fun m data => Mod.rd_enqueue_ne m k 1 2 data h h1 h2)

section
variable (k : Clock) (block opcode code tag : Nat) (nr : Bool) (accept : Nat) (p : List Byte) (h : Hdr)

@[simp] theorem Mod.result_shadow : (m.result k block opcode code tag nr accept p).shadow = m.shadow :=
  Mod.result_keeps m Mod.shadow _ _ _ _ _ _ _ _ (fun _ _ => rfl) (by simp) (by simp)
@[simp] theorem Mod.result_seed : (m.result k block opcode code tag nr accept p).seed = m.seed :=
  Mod.result_keeps m Mod.seed _ _ _ _ _ _ _ _ (fun _ _ => rfl) (by simp) (by simp)
@[simp] theorem Mod.result_glb : (m.result k block opcode code tag nr accept p).glb = m.glb :=
  Mod.result_keeps m Mod.glb _ _ _ _ _ _ _ _ (fun _ _ => rfl) (by simp) (by simp)
@[simp] theorem Mod.result_gnss : (m.result k block opcode code tag nr accept p).gnss = m.gnss :=
  Mod.result_keeps m Mod.gnss _ _ _ _ _ _ _ _ (fun _ _ => rfl) (by simp) (by simp)
@[simp] theorem Mod.result_time : (m.result k block opcode code tag nr accept p).time = m.time :=
  Mod.result_keeps m Mod.time _ _ _ _ _ _ _ _ (fun _ _ => rfl) (by simp) (by simp)
@[simp] theorem Mod.result_pack : (m.result k block opcode code tag nr accept p).pack = m.pack :=
  Mod.result_keeps m Mod.pack _ _ _ _ _ _ _ _ (fun _ _ => rfl) (by simp) (by simp)
@[simp] theorem Mod.result_shep : (m.result k block opcode code tag nr accept p).shep = m.shep :=
  Mod.result_keeps m Mod.shep _ _ _ _ _ _ _ _ (fun _ _ => rfl) (by simp) (by simp)
@[simp] theorem Mod.result_mot : (m.result k block opcode code tag nr accept p).mot = m.mot :=
  Mod.result_keeps m Mod.mot _ _ _ _ _ _ _ _ (fun _ _ => rfl) (by simp) (by simp)
@[simp] theorem Mod.result_sw : (m.result k block opcode code tag nr accept p).sw = m.sw :=
  Mod.result_keeps m Mod.sw _ _ _ _ _ _ _ _ (fun _ _ => rfl) (by simp) (by simp)
@[simp] theorem Mod.result_air : (m.result k block opcode code tag nr accept p).air = m.air :=
  Mod.result_keeps m Mod.air _ _ _ _ _ _ _ _ (fun _ _ => rfl) (by simp) (by simp)
@[simp] theorem Mod.result_leash : (m.result k block opcode code tag nr accept p).leash = m.leash :=
  Mod.result_keeps m Mod.leash _ _ _ _ _ _ _ _ (fun _ _ => rfl) (by simp) (by simp)
@[simp] theorem Mod.result_pwr : (m.result k block opcode code tag nr accept p).pwr = m.pwr :=
  Mod.result_keeps m Mod.pwr _ _ _ _ _ _ _ _ (fun _ _ => rfl) (by simp) (by simp)
@[simp] theorem Mod.result_rcd : (m.result k block opcode code tag nr accept p).rcd = m.rcd :=
  Mod.result_keeps m Mod.rcd _ _ _ _ _ _ _ _ (fun _ _ => rfl) (by simp) (by simp)
@[simp] theorem Mod.result_perf : (m.result k block opcode code tag nr accept p).perf = m.perf :=
  Mod.result_keeps m Mod.perf _ _ _ _ _ _ _ _ (fun _ _ => rfl) (by simp) (by simp)
@[simp] theorem Mod.result_elem : (m.result k block opcode code tag nr accept p).elem = m.elem :=
  Mod.result_keeps m Mod.elem _ _ _ _ _ _ _ _ (fun _ _ => rfl) (by simp) (by simp)
@[simp] theorem Mod.result_back : (m.result k block opcode code tag nr accept p).back = m.back :=
  Mod.result_keeps m Mod.back _ _ _ _ _ _ _ _ (fun _ _ => rfl) (by simp) (by simp)
@[simp] theorem Mod.result_ken : (m.result k block opcode code tag nr accept p).ken = m.ken :=
  Mod.result_keeps m Mod.ken _ _ _ _ _ _ _ _ (fun _ _ => rfl) (by simp) (by simp)
@[simp] theorem Mod.result_brace : (m.result k block opcode code tag nr accept p).brace = m.brace :=
  Mod.result_keeps m Mod.brace _ _ _ _ _ _ _ _ (fun _ _ => rfl) (by simp) (by simp)
@[simp] theorem Mod.result_upd : (m.result k block opcode code tag nr accept p).upd = m.upd :=
  Mod.result_keeps m Mod.upd _ _ _ _ _ _ _ _ (fun _ _ => rfl) (by simp) (by simp)
@[simp] theorem Mod.result_nv : (m.result k block opcode code tag nr accept p).nv = m.nv :=
  Mod.result_keeps m Mod.nv _ _ _ _ _ _ _ _ (fun _ _ => rfl) (by simp) (by simp)

@[simp] theorem Mod.reply_shadow : (m.reply k block opcode code h p).shadow = m.shadow := Mod.result_shadow ..
@[simp] theorem Mod.reply_seed : (m.reply k block opcode code h p).seed = m.seed := Mod.result_seed ..
@[simp] theorem Mod.reply_glb : (m.reply k block opcode code h p).glb = m.glb := Mod.result_glb ..
@[simp] theorem Mod.reply_gnss : (m.reply k block opcode code h p).gnss = m.gnss := Mod.result_gnss ..
@[simp] theorem Mod.reply_time : (m.reply k block opcode code h p).time = m.time := Mod.result_time ..
@[simp] theorem Mod.reply_pack : (m.reply k block opcode code h p).pack = m.pack := Mod.result_pack ..
@[simp] theorem Mod.reply_shep : (m.reply k block opcode code h p).shep = m.shep := Mod.result_shep ..
@[simp] theorem Mod.reply_mot : (m.reply k block opcode code h p).mot = m.mot := Mod.result_mot ..
@[simp] theorem Mod.reply_sw : (m.reply k block opcode code h p).sw = m.sw := Mod.result_sw ..
@[simp] theorem Mod.reply_air : (m.reply k block opcode code h p).air = m.air := Mod.result_air ..
@[simp] theorem Mod.reply_leash : (m.reply k block opcode code h p).leash = m.leash := Mod.result_leash ..
@[simp] theorem Mod.reply_pwr : (m.reply k block opcode code h p).pwr = m.pwr := Mod.result_pwr ..
@[simp] theorem Mod.reply_rcd : (m.reply k block opcode code h p).rcd = m.rcd := Mod.result_rcd ..
@[simp] theorem Mod.reply_perf : (m.reply k block opcode code h p).perf = m.perf := Mod.result_perf ..
@[simp] theorem Mod.reply_elem : (m.reply k block opcode code h p).elem = m.elem := Mod.result_elem ..
@[simp] theorem Mod.reply_back : (m.reply k block opcode code h p).back = m.back := Mod.result_back ..
@[simp] theorem Mod.reply_ken : (m.reply k block opcode code h p).ken = m.ken := Mod.result_ken ..
@[simp] theorem Mod.reply_brace : (m.reply k block opcode code h p).brace = m.brace := Mod.result_brace ..
@[simp] theorem Mod.reply_upd : (m.reply k block opcode code h p).upd = m.upd := Mod.result_upd ..
@[simp] theorem Mod.reply_nv : (m.reply k block opcode code h p).nv = m.nv := Mod.result_nv ..

/-- A reply touches the registers that a result touches. -/
theorem Mod.rd_reply_ne {x : Nat} (h0 : x ≠ R.RING_DROP_CNT 1) (h1 : x ≠ R.RING_STAT 1) (h2 : x ≠ R.RING_IRQ_STAT) (h3 : x ≠ R.KEN_STAT) :
    (m.reply k block opcode code h p).rd x = m.rd x := Mod.rd_result_ne m _ _ _ _ _ _ _ _ h0 h1 h2 h3

end

end Sys2Proof.Machine
end

section
/-! SUPPORT. Rings: doorbells (R99 to R101), transport (R110 to R126), results (R115, R116). -/

namespace Sys2Proof.Machine

variable {m : Mod} {k : Clock} {n : Nat}

/-- An access to a register that opens acts on the module as the command finds it. -/
theorem State.access_opens {s : State} {a : Nat} (f : Mod → Mod) (h : s.m.opens a = true) : s.found.access a f = f s.found :=
  Mod.access_opens f ((s.found_opens a).trans h)

/-! ## Registers of rings -/

theorem ringStat_ne_irqStat (n : Nat) : R.RING_STAT n ≠ R.RING_IRQ_STAT := by unfold R.RING_STAT R.RING_IRQ_STAT; omega
theorem ringProd_ne_irqStat (n : Nat) : R.RING_PROD n ≠ R.RING_IRQ_STAT := by unfold R.RING_PROD R.RING_IRQ_STAT; omega
theorem ringProd_ne_stat (n : Nat) : R.RING_PROD n ≠ R.RING_STAT n := by unfold R.RING_PROD R.RING_STAT; omega

/-- An access to a ring's register acts once the register opens. -/
theorem Mod.ringAccess_opens {a : Nat} (f : Mod → Mod) (hn : n < 10) (ho : m.opens a = true) : m.ringAccess n a f = f m := by
  rw [Mod.ringAccess, Mod.access_opens _ ho, if_pos hn]

/-! ## Sticky bits (R123) -/

/-- A sticky bit reads 1 afterwards. -/
theorem Mod.bit_ringSticky (n b : Nat) (hb : b < 32) : (m.ringSticky n b).bit (R.RING_STAT n) b = true := by
  unfold Mod.ringSticky
  split
  · assumption
  · rw [Mod.bit, Mod.rd_raise_ne _ _ (ringStat_ne_irqStat n)]
    exact Mod.bit_setBit _ _ _ hb

/-- A sticky bit that read 0 raises the RING error source. -/
theorem Mod.ringSticky_raises (n b : Nat) (h : m.bit (R.RING_STAT n) b = false) : (m.ringSticky n b).bit R.RING_IRQ_STAT 1 = true := by
  rw [Mod.ringSticky, if_neg (by simp [h])]
  exact Mod.bit_raise _ 1 (by decide)

/-! ## Doorbells (R99 to R101, R120) -/

/-- A good doorbell on a ring that is READY or STOPPED moves PROD, unless the ring runs in OVERWRITE. -/
theorem Mod.doorbell_ok {v : Nat} (hst : m.ringState n = 1 ∨ m.ringState n = 2) (hok : m.doorbellOk n v) :
    m.doorbell n v = if m.overwrites n then m else m.wr (R.RING_PROD n) (v % 131072) := by
  have hrun : ¬ (m.ringState n = 0 ∨ m.ringState n = 3) := by omega
  rw [Mod.doorbell, if_neg hrun]
  exact if_pos hok

/-- Every other doorbell is BAD_DB. -/
theorem Mod.doorbell_bad {v : Nat} (h : m.ringState n = 0 ∨ m.ringState n = 3 ∨ ¬ m.doorbellOk n v) :
    m.doorbell n v = m.ringSticky n 16 := by
  rw [Mod.doorbell]
  split
  · rfl
  next hrun =>
    have hbad : ¬ m.doorbellOk n v := (or_assoc.mpr h).resolve_left hrun
    exact if_neg hbad

/-- Settles O14: a doorbell either moves PROD or is the sticky bit BAD_DB and nothing else. -/
theorem doorbellsAdvanceOrFail : Obligations.DoorbellsAdvanceOrFail := by
  intro s dt n v hn ho
  constructor
  · intro hst hok
    refine does_of_ev rfl ?_
    rw [Mod.ringAccess_opens (m := s.found) _ hn ho]
    exact Mod.doorbell_ok (m := s.found) hst hok
  · intro hbad
    refine answers_of_ev rfl ?_
    rw [Mod.ringAccess_opens (m := s.found) _ hn ho, Mod.doorbell_bad (m := s.found) hbad]
    exact ⟨Mod.rd_ringSticky_ne s.found n 16 (ringProd_ne_stat n) (ringProd_ne_irqStat n), Mod.bit_ringSticky n 16 (by decide),
      Mod.ringSticky_raises (m := s.found) n 16, fun x hx hx' => Mod.rd_ringSticky_ne s.found n 16 hx hx'⟩

/-! ## Interrupt enables (R125) -/

/-- Writing the enables changes no other register. -/
theorem Mod.rd_irqEnWrite (v x : Nat) : (m.irqEnWrite v).rd x = if x = R.RING_IRQ_EN then v % 134217728 else m.rd x := by
  have hsends : (m.irqEnWrite v).rd x = (m.cfgSet R.RING_IRQ_EN (v % 134217728)).rd x := by
    refine Mod.each_keeps _ (fun m => m.rd x) (fun m i => ?_) _
    split
    · exact Mod.rd_eq (Mod.sendMsg_live m i) x
    · rfl
  have hlt : v % 134217728 < 4294967296 := by omega
  rw [hsends, Mod.rd_cfgSet, Nat.mod_eq_of_lt hlt]

/-- Settles O16: each command acts where its condition holds. -/
theorem ringTransport : Obligations.RingTransport := by
  refine ⟨fun s dt n b h => ?_, fun s dt d => ?_, fun s dt n kind d hkind hlen hmay hst hroom => ?_, fun s dt n hn hin hst hres => ?_,
    fun s dt n h => ?_, fun s dt n cause addr w on hn hst => ?_, fun s dt addr w => ?_, fun s dt n hn ht hun hdue => ?_, fun s dt v ho => ?_,
    fun s dt ho => ?_, fun s dt v hv hbar hpend => ?_⟩
  · exact does_of_ev rfl (if_pos h)
  · exact does_of_ev rfl rfl
  · refine answers_of_ev rfl ?_
    rw [if_pos ⟨hkind, hlen, hmay⟩, Mod.enqueue_room s.found (s.now dt) kind d hst hroom]
    exact ⟨by simp, rfl⟩
  · exact does_of_ev rfl (if_pos ⟨hn, hin, hst, hres⟩)
  · exact does_of_ev rfl (if_pos h)
  · exact does_of_ev rfl (if_pos ⟨hn, hst⟩)
  · exact does_of_ev rfl rfl
  · refine answers_of_ev rfl ?_
    rw [if_pos ⟨hn, ht, hun, hdue⟩]
    exact ⟨by simp, Mod.bit_raise _ _ (by omega)⟩
  · refine answers_of_ev rfl ?_
    rw [State.access_opens _ ho]
    simp only [State.after_m, Mod.rd_irqEnWrite]
    exact ⟨rfl, rfl⟩
  · refine answers_of_ev rfl ?_
    rw [State.access_opens _ ho]
    simp [Mod.dmaErrClear, Mod.rd_wr, R.RING_DMA_ERR_INFO, R.RING_DMA_ERR_LO, R.RING_DMA_ERR_HI]
  · refine answers_of_ev rfl ?_
    have hrun : ¬ (32 ≤ v ∨ s.found.barUp = false) := by simp [hbar, hv]
    rw [if_neg hrun]
    have hp : s.found.ring.msixPend.testBit v = true := hpend
    simp only [hp, if_true]
    exact ⟨rfl, testBit_and_mask_sub _ v hv, testBit_and_mask_sub _ v hv⟩

/-! ## A result of the Kennel changes KEN_STAT (R116, R521) -/

/-- A module whose ring 1 is READY and whose Kennel shows BUSY for one command handed to it. -/
def kenBusyMod : Mod :=
  { (Mod.reset.setF (F.RING_STAT_STATE 1) 1).setB F.KEN_STAT_BUSY true with
    ring := { RingBlk.reset with handed := [{ block := 7, opcode := 1, tag := 0, noResult := false, acceptTick := 0 }] } }

theorem kenBusyMod_busy : kenBusyMod.on F.KEN_STAT_BUSY = true := by decide +kernel

theorem kenBusyMod_takesResult : kenBusyMod.takesResult = true := by decide +kernel

/-- Its command finishes: BUSY clears. -/
theorem kenBusyMod_reply_idle : (kenBusyMod.reply Clock.powerOn 7 1 0 ⟨0, false⟩ []).on F.KEN_STAT_BUSY = false := by decide +kernel

/-- Refutes O17: a result of the Kennel also clears KEN_STAT.BUSY when no other command of the Kennel waits, so the registers are not as
they were. -/
theorem not_resultsPosted : ¬ Obligations.ResultsPosted := by
  intro h
  obtain ⟨-, -, hlive⟩ := h kenBusyMod Clock.powerOn 7 1 0 ⟨0, false⟩ [] kenBusyMod_takesResult
  have hidle := kenBusyMod_reply_idle
  rw [Mod.on, Mod.fld_eq hlive] at hidle
  exact Bool.false_ne_true (hidle.symm.trans kenBusyMod_busy)

end Sys2Proof.Machine
end

section
/-! SUPPORT. Elements (R34 to R38) and the background activities (R40). -/

namespace Sys2Proof.Machine

variable {m : Mod} {k : Clock} {kind i : Nat}

@[simp] theorem Mod.elemAt_setElem (e : Elem) : (m.setElem kind i e).elemAt kind i = e := by
  simp [Mod.elemAt, Mod.setElem]

/-- An element in service that has not faulted in this tick begins a retry when nothing retires it (R36). -/
theorem Mod.elemJudge_retry (hret : m.isRetired kind i = false) (hnew : k.tickNo ∉ (m.elemAt kind i).recent k.tickNo)
    (hidle : (m.elemAt kind i).retry = false) (hback : (m.elemAt kind i).restored ≠ some k.tickNo)
    (hfew : ((m.elemAt kind i).recent k.tickNo).length < 2) :
    m.elemJudge k kind i =
      (m.setElem kind i { faults := (m.elemAt kind i).recent k.tickNo ++ [k.tickNo], retry := true, restored := none }, .retry) := by
  have hthree : ¬ 3 ≤ ((m.elemAt kind i).recent k.tickNo).length + 1 := by omega
  simp [Mod.elemJudge, hret, hnew, hidle, hback, hthree]

/-- A fault during a retry, in the tick of a re-admission, or the third in 1,000 ticks retires the element (R37). -/
theorem Mod.elemJudge_retire (hret : m.isRetired kind i = false) (hnew : k.tickNo ∉ (m.elemAt kind i).recent k.tickNo)
    (hend : (m.elemAt kind i).retry = true ∨ (m.elemAt kind i).restored = some k.tickNo ∨ 2 ≤ ((m.elemAt kind i).recent k.tickNo).length) :
    (m.elemJudge k kind i).2 = .retired ∧ (m.elemJudge k kind i).1.isRetired kind i = true := by
  have hthree : 3 ≤ ((m.elemAt kind i).recent k.tickNo).length + 1 ↔ 2 ≤ ((m.elemAt kind i).recent k.tickNo).length := by omega
  have hlisted : (m.elemJudge k kind i).2 = .retired ∧ (kind, i) ∈ (m.elemJudge k kind i).1.nv.retired := by
    simp [Mod.elemJudge, hret, hnew, hthree, if_pos hend]
  exact ⟨hlisted.1, List.contains_iff_mem.mpr hlisted.2⟩

/-- Settles O18: the two outcomes of a fault that is judged. -/
theorem faultsRetryOrRetire : Obligations.FaultsRetryOrRetire := by
  intro m k kind i hret hnew
  refine ⟨fun hidle hback hfew => ?_, fun hend => Mod.elemJudge_retire hret hnew hend⟩
  rw [Mod.elemJudge_retry hret hnew hidle hback hfew]
  exact ⟨rfl, by simp, rfl, rfl⟩

/-! ## Background activities -/

/-- With up to 4 bursts due, all of them are done (R40). -/
theorem Mod.scrub_due (h0 : 0 < (k.raw - m.back.scrubAt) / usRaw 64) (h4 : (k.raw - m.back.scrubAt) / usRaw 64 ≤ 4) :
    m.scrub k =
      { m with back := { m.back with
        scrubPos := (m.back.scrubPos + (k.raw - m.back.scrubAt) / usRaw 64) % scrubPass
        scrubAt := m.back.scrubAt + (k.raw - m.back.scrubAt) / usRaw 64 * usRaw 64 } } := by
  simp only [Mod.scrub, if_neg h0.ne', if_pos h4, Nat.min_eq_right h4]

/-- The ticks since the last scrub are scrubbed, at most two of them (R40). -/
theorem Mod.parityScrub_due (h : m.back.parityTick < k.tickNo) :
    m.parityScrub k =
      { m with back := { m.back with
        parityPos := (m.back.parityPos + min 2 (k.tickNo - m.back.parityTick)) % 1000, parityTick := k.tickNo } } := by
  have h0 : k.tickNo - m.back.parityTick ≠ 0 := by omega
  simp only [Mod.parityScrub, if_neg h0]

/-- The background activities run while the module runs, in RUN. -/
theorem State.found_background {s : State} (hrun : s.m.running = true) (hst : s.m.pstate = 0) :
    (s.found.running && s.found.pstate == 0) = true := by
  have hr : s.found.running = true := hrun
  have hp : s.found.pstate = 0 := hst
  rw [hr, hp]; rfl

/-- Settles O19: each activity is an event under the condition of its block. -/
theorem elementsAndBackground : Obligations.ElementsAndBackground := by
  refine ⟨fun s dt kind i hup => ?_, fun s dt kind i hup hend => ?_, fun s dt hrun hst h0 h4 => ?_, fun s dt hrun hst h => ?_,
    fun s dt hrun hst => ?_, fun s dt c bias hlive hen hc hopen => ?_⟩
  · exact does_of_ev rfl (if_pos hup)
  · exact does_of_ev rfl (if_pos (Bool.and_eq_true_iff.mpr ⟨hup, hend⟩))
  · refine does_of_ev rfl ?_
    rw [if_pos (State.found_background hrun hst)]
    exact Mod.scrub_due (m := s.found) (k := s.now dt) h0 h4
  · refine does_of_ev rfl ?_
    rw [if_pos (State.found_background hrun hst)]
    exact Mod.parityScrub_due (m := s.found) (k := s.now dt) h
  · exact does_of_ev rfl (if_pos (State.found_background hrun hst))
  · have hcond : (s.found.live? 9 && s.found.on F.GNSS_CTL_EN && decide (c < 320) && s.found.calOpen c) = true := by
      have hcal : s.found.calOpen c = true := hopen
      simp [hlive, hen, hc, hcal]
    exact does_of_ev rfl (if_pos hcond)

end Sys2Proof.Machine
end

section
/-! SUPPORT. The receiver: jamming (R136), channels and their timeouts (R141 to R152), searches and the commands of ring 0 (R149 to R155). -/

namespace Sys2Proof.Machine

variable {m : Mod} {k : Clock} {c : Nat}

/-! ## Antenna and jamming (R135, R136) -/

theorem agcReg_ne_evt {band : Nat} : agcReg band ≠ R.GNSS_EVT := by unfold agcReg R.GNSS_AGC_HI R.GNSS_EVT; omega
theorem agcReg_ne_irqStat {band : Nat} : agcReg band ≠ R.RING_IRQ_STAT := by unfold agcReg R.GNSS_AGC_HI R.RING_IRQ_STAT; omega

/-- The power of a band as its register shows it (R172). -/
def agcPower (band : Nat) : Fld := ⟨agcReg band, 15, 8⟩

/-- The power written stands when JAM sets beside it. -/
theorem Mod.fld_agcPower_jam (m : Mod) {band : Nat} (p : Int) :
    ((m.setF (agcPower band) (unsigned 8 p)).setBit (agcReg band) 31).fld (agcPower band) = unsigned 8 p := by
  have hbits : (agcPower band).off ≠ agcReg band ∨ 31 < (agcPower band).lo ∨ (agcPower band).hi < 31 := .inr (.inr (by simp [agcPower]))
  have hle : (agcPower band).lo ≤ (agcPower band).hi := by simp [agcPower]
  have h31 : (agcPower band).hi ≤ 31 := by simp [agcPower]
  have hlt : unsigned 8 p < 2 ^ 8 := by unfold unsigned; omega
  rw [Mod.fld_setBit_ne _ _ _ hbits, Mod.fld_setF _ _ _ hle h31]
  exact Nat.mod_eq_of_lt hlt

/-- Settles O20: the jamming flag and the power are fields of the band's register, and the antenna is judged where its conditions hold. -/
theorem antennaAndJamming : Obligations.AntennaAndJamming := by
  refine ⟨fun s dt band p hblk hband hthr => ?_, fun s dt band p hblk hband hthr => ?_, fun s dt mA limit hdom hbias => ?_,
    fun s dt mA limit hdom hbias hdue => ?_⟩
  · refine answers_of_ev rfl ?_
    rw [if_pos ⟨hblk, hband, hthr⟩]
    refine ⟨?_, Mod.bit_evt _ _ _ _ _ (by decide) (by decide), ?_⟩
    · exact (Mod.bit_congr (Mod.rd_evt_ne _ _ _ _ _ agcReg_ne_evt agcReg_ne_irqStat)).trans (Mod.bit_setBit _ _ _ (by decide))
    · exact (Mod.fld_evt_ne _ _ _ _ _ (f := agcPower band) agcReg_ne_evt agcReg_ne_irqStat).trans (Mod.fld_agcPower_jam s.found p)
  · refine answers_of_ev rfl ?_
    rw [if_pos ⟨hblk, hband, hthr⟩]
    refine ⟨Mod.bit_clrBit _ _ _ (by decide), ?_, by simp [State.found]⟩
    exact (Mod.rd_clrBit_ne _ _ _ agcReg_ne_evt.symm).trans (Mod.rd_wr_ne _ _ _ agcReg_ne_evt.symm)
  · exact does_of_ev rfl (if_pos (by simp [hdom, hbias]))
  · exact does_of_ev rfl (if_pos (by simp [hdom, hbias, hdue]))

end Sys2Proof.Machine
end

section
/-! SUPPORT. Channels and their timeouts (R141 to R152), searches and the commands of ring 0 (R149 to R155). -/

namespace Sys2Proof.Machine

variable {m : Mod} {k : Clock} {c : Nat}

/-! ## A channel's own state -/

@[simp] theorem Mod.gch_setGch (m : Mod) (c : Nat) (h : GnssCh) (x : Nat) : (m.setGch c h).gch x = if x = c then h else m.gch x := by
  simp [Mod.gch, Mod.setGch]

/-- The channels read the same of a module with the same receiver. -/
theorem Mod.gch_congr {m n : Mod} (h : m.gnss = n.gnss) (c : Nat) : m.gch c = n.gch c := by rw [Mod.gch, Mod.gch, h]

@[simp] theorem Mod.gch_wr (m : Mod) (a v c : Nat) : (m.wr a v).gch c = m.gch c := (rfl)
@[simp] theorem Mod.gch_setF (m : Mod) (f : Fld) (v c : Nat) : (m.setF f v).gch c = m.gch c := (rfl)
@[simp] theorem Mod.gch_evt (m : Mod) (r e b x c : Nat) : (m.evt r e b x).gch c = m.gch c := Mod.gch_congr (m.evt_gnss r e b x) c

/-- A channel state is a field of a register of its own. -/
theorem Mod.chState_setF_other (m : Mod) {c' : Nat} (h : c' ≠ c) (hi lo v : Nat) :
    (m.setF ⟨R.GNSS_CH_STAT c, hi, lo⟩ v).chState c' = m.chState c' := by
  refine Mod.fld_setF_off m _ v ?_
  simp only [F.GNSS_CH_STAT_STATE, R.GNSS_CH_STAT]
  omega

/-- The lock time of a channel shows no channel's state. -/
theorem Mod.chState_wr_locktime (m : Mod) (v c' : Nat) : (m.wr (R.GNSS_CH_LOCKTIME c) v).chState c' = m.chState c' := by
  refine Mod.fld_wr_ne m _ v ?_
  simp only [F.GNSS_CH_STAT_STATE, R.GNSS_CH_STAT, R.GNSS_CH_LOCKTIME]
  omega

/-- A channel goes back to SEARCH: its state, lock time and runs start anew, and no other channel is touched (R145). -/
theorem Mod.chEnter_search (m : Mod) (k : Clock) (c : Nat) :
    (m.chEnter k c 1).chState c = 1 ∧ (m.chEnter k c 1).rd (R.GNSS_CH_LOCKTIME c) = 0 ∧ ((m.chEnter k c 1).gch c).since = k.raw
      ∧ ∀ c', c' ≠ c → (m.chEnter k c 1).gch c' = m.gch c' ∧ (m.chEnter k c 1).chState c' = m.chState c' := by
  simp only [Mod.chEnter]
  refine ⟨?_, by simp, by simp, fun c' hc => ⟨by simp [hc], ?_⟩⟩
  · simp only [OfNat.one_ne_ofNat, if_false, or_true, true_or, if_true, Mod.chState_wr_locktime]
    have hcarr : (F.GNSS_CH_STAT_STATE c).off ≠ (F.GNSS_CH_STAT_CARR_LOCK c).off ∨ (F.GNSS_CH_STAT_CARR_LOCK c).hi < (F.GNSS_CH_STAT_STATE c).lo
        ∨ (F.GNSS_CH_STAT_STATE c).hi < (F.GNSS_CH_STAT_CARR_LOCK c).lo := by simp [F.GNSS_CH_STAT_STATE, F.GNSS_CH_STAT_CARR_LOCK]
    rw [Mod.chState, Mod.fld_setF_ne _ _ _ (by simp [F.GNSS_CH_STAT_CARR_LOCK]) (by simp [F.GNSS_CH_STAT_STATE]) hcarr,
      Mod.fld_setF _ _ _ (by simp [F.GNSS_CH_STAT_STATE]) (by simp [F.GNSS_CH_STAT_STATE])]
    rfl
  · simp only [OfNat.one_ne_ofNat, if_false, or_true, true_or, if_true, Mod.chState_wr_locktime]
    exact (Mod.chState_setF_other _ hc _ _ _).trans (Mod.chState_setF_other _ hc _ _ _)

/-- A host-pool channel's assignment is taken in its shadow. -/
theorem Mod.asgWrite_host (v : Nat) (h : m.hostPool c = true) : m.asgWrite c v = m.wrSh (R.GNSS_CH_ASSIGN c) (v &&& 0x00F1FFFF) := by
  rw [Mod.asgWrite, if_pos h]

/-- A channel in HOST mode that coasted too long returns to FW, with its event (R152). -/
theorem Mod.coastEnd_spec (m : Mod) (c : Nat) :
    (m.coastEnd c).fld (F.GNSS_CH_CTL_LOOP c) = 0 ∧ (m.coastEnd c).bit R.GNSS_EVT 4 = true ∧ ((m.coastEnd c).gch c).noSteer = 0 := by
  simp only [Mod.coastEnd, Mod.gnssEvt]
  refine ⟨?_, Mod.bit_evt _ _ _ _ _ (by decide) (by decide), by simp⟩
  rw [Mod.fld_evt_ne _ _ _ _ _ (by simp only [F.GNSS_CH_CTL_LOOP, R.GNSS_CH_CTL, R.GNSS_EVT]; omega)
    (by simp only [F.GNSS_CH_CTL_LOOP, R.GNSS_CH_CTL, R.RING_IRQ_STAT]; omega)]
  exact Mod.fld_setF m (F.GNSS_CH_CTL_LOOP c) 0 (by simp [F.GNSS_CH_CTL_LOOP]) (by simp [F.GNSS_CH_CTL_LOOP])

/-- Settles O21: each command acts on the channel it names where the channel's state asks for it. -/
theorem channelCommands : Obligations.ChannelCommands := by
  refine ⟨fun s dt c v hc ho hpool => ?_, fun s dt c d hlive hc hst => ?_, fun s dt c d hlive hc hst => ?_,
    fun s dt c hlive hc hst hdue => ?_, fun s dt c hlive hc hst hdue => ?_, fun s dt c hlive hc hend hdue => ?_⟩
  · exact does_of_access rfl ho ((if_pos hc).trans (Mod.asgWrite_host (m := s.found) v hpool))
  · have hst' : s.found.chState c = 3 := hst
    exact does_of_guard rfl (by simp [hlive, hc]) (by simp only [Mod.chDump, hst'])
  · have hst' : s.found.chState c = 2 := hst
    exact does_of_guard rfl (by simp [hlive, hc]) (by simp only [Mod.chDump, hst'])
  · refine answers_of_guard rfl (by simp [hlive, hc]) ?_
    rw [Mod.pullinTimeout, if_pos ⟨hst, hdue⟩]
    exact Mod.chEnter_search s.found (s.now dt) c
  · refine answers_of_guard rfl (by simp [hlive, hc]) ?_
    rw [Mod.lostTimeout, if_pos ⟨hst, hdue⟩]
    exact Mod.chEnter_search s.found (s.now dt) c
  · have hdue' : s.found.coastDue c = true := hdue
    exact answers_of_guard rfl (by simp [hlive, hc, State.boundary_reached hend, hdue']) (Mod.coastEnd_spec s.found c)

/-! ## Searches and streams (R149 to R155) -/

/-- The search status shows queue and running job; it changes registers alone. -/
@[simp] theorem Mod.srchStat_gnss (m : Mod) : m.srchStat.gnss = m.gnss := (rfl)

/-- It is GNSS_SRCH_STAT alone that changes. -/
theorem Mod.rd_srchStat_ne (m : Mod) {x : Nat} (h : x ≠ R.GNSS_SRCH_STAT) : m.srchStat.rd x = m.rd x := by
  simp only [Mod.srchStat]
  rw [Mod.rd_setB_ne _ _ _ h, Mod.rd_setF_ne _ _ _ h, Mod.rd_setF_ne _ _ _ h]

/-- A job of the host or of Liroron begins as soon as none runs. -/
theorem Mod.jobStart_next {j : SearchJob} (hidle : m.gnss.running = none) (hnext : nextJob m.gnss.jobs m.gnss.lastHost = some j) :
    (m.jobStart k).gnss = { m.gnss with running := some (j, k.raw, false), jobs := dropJob j m.gnss.jobs, lastHost := j.host } := by
  simp [Mod.jobStart, hidle, hnext]

/-- A job of Liroron that finds nothing ends with its count alone. -/
theorem Mod.jobEnd_weak {i : SearchIn} {j : SearchJob} {at_ : Nat} (hrun : m.gnss.running = some (j, at_, false))
    (hdue : at_ + msRaw (j.dwell * (j.passes + (if i.strong then m.verifyN else 0))) ≤ k.raw) (hhost : j.host = false) (hweak : i.strong = false) :
    m.jobEnd k i = Mod.inc (Mod.srchStat { m with gnss := { m.gnss with running := none } }) R.GNSS_SRCH_JOB_CNT := by
  simp only [hweak, Bool.false_eq_true, if_false, Nat.add_zero] at hdue
  simp [Mod.jobEnd, hrun, hweak, hhost, Nat.not_lt.mpr hdue]

/-- Settles O22: the commands wait for the latch; what the latch makes of each; a job begins and ends. -/
theorem gnssRingCommands : Obligations.GnssRingCommands := by
  refine ⟨fun s dt h hlive => ?_, fun s dt reserved h j hcode => ?_, fun s dt tag h j at_ c hnone hrun hhost htag => ?_,
    fun s dt c flags rate freq codeAdj carrAdj h hflags hcode hsteer => ?_, fun s dt c h hcode hstream hroom => ?_,
    fun s dt j hlive hidle hnext => ?_, fun s dt at_ i j hlive hrun hdue hhost hweak => ?_⟩
  · exact ⟨fun _ _ => does_of_ev rfl (if_pos hlive), fun _ => does_of_ev rfl (if_pos hlive), fun _ _ _ _ _ _ _ => does_of_ev rfl (if_pos hlive),
      fun _ _ _ => does_of_ev rfl (if_pos hlive)⟩
  · simp only [Mod.gnssDo, Mod.searchCmd, hcode]
  · simp only [Mod.gnssDo, Mod.cancelCmd, hnone, hrun, hhost, htag, beq_self_eq_true, Bool.and_self, if_true]
  · have h3 : ¬ (3 < flags ∨ (0 : Nat) ≠ 0) := by omega
    simp only [Mod.gnssDo, Mod.steerCmd, h3, if_false, hcode, hsteer]
    exact ⟨by simp, rfl⟩
  · have hfew : ¬ 16 ≤ (s.m.gnss.ch.filter fun p => p.2.stream.isSome).length := by omega
    simp [Mod.gnssDo, Mod.streamCmd, hcode, hstream, hfew]
  · refine answers_of_guard rfl (by simp [hlive]) ?_
    simp [Mod.jobStart_next (m := s.found) (k := s.now dt) hidle hnext]
  · refine answers_of_guard rfl (by simp [hlive]) ?_
    rw [Mod.jobEnd_weak (m := s.found) (k := s.now dt) hrun hdue hhost hweak]
    refine ⟨rfl, ?_⟩
    rw [State.after_m, Mod.rd_inc, if_pos rfl, Mod.rd_srchStat_ne _ (by decide)]
    rfl

end Sys2Proof.Machine
end

section
/-! SUPPORT. PACK: the base position (R174 to R178), flows (R192 to R206) and graphs (R201, R202). -/

namespace Sys2Proof.Machine

variable {m : Mod} {k : Clock}

/-! ## The base position -/

/-- A sample of a survey joins sum and count; the survey may then be done (R174). -/
theorem Mod.svySample_spec (m : Mod) (n : Nat) (x y z : Int) :
    (m.svySample n x y z).pack.svyN = m.pack.svyN + 1 ∧ (m.svySample n x y z).pack.svyTick = some n
      ∧ (m.svySample n x y z).pack.svySum = [nth 0 m.pack.svySum 0 + x, nth 0 m.pack.svySum 1 + y, nth 0 m.pack.svySum 2 + z] := by
  simp only [Mod.svySample]
  split <;> simp

/-- Settles O24: each event takes effect where its conditions hold. -/
theorem basePosition : Obligations.BasePosition := by
  refine ⟨fun s dt ho hsrc => does_of_access rfl ho (if_pos hsrc), fun s dt x y z hlive hst hsec hfix htick => ?_,
    fun s dt h v hlive hgood hmove => ?_, fun s dt acc x y z arpH ho => does_of_access rfl ho rfl, fun s dt ws ho => does_of_access rfl ho rfl⟩
  · have hst' : s.found.baseState = 1 := hst
    have hfix' : s.found.fixNow = true := hfix
    have hsec' : (s.now dt).tickNo % 100 = 1 := hsec
    exact answers_of_guard rfl (by simp [hlive, hst', hsec, hfix', htick]) (Mod.svySample_spec s.found s.clk.tickNo x y z)
  · have hgood' : s.found.baseGood = true := hgood
    have hmove' : s.found.moveThr < h ∨ s.found.moveThr < v := hmove
    exact does_of_guard rfl (by simp [hlive, hgood', hmove']) rfl

/-! ## Flows -/

@[simp] theorem Mod.rv_setRv (m : Mod) (r : Nat) (c : RoverPack) (x : Nat) : (m.setRv r c).rv x = if x = r then c else m.rv x := by
  simp [Mod.rv, Mod.setRv]

/-- A trace record changes nothing of PACK but the trace. -/
theorem Mod.trace_pack (m : Mod) (k : Clock) (event where_ flow op graph arg : Nat) :
    ∃ l, (m.trace k event where_ flow op graph arg).pack = { m.pack with trace := l } := by
  unfold Mod.trace
  split
  · exact ⟨_, rfl⟩
  · exact ⟨m.pack.trace, rfl⟩

/-- PACK's status shows the flows; of PACK it moves the peaks alone. -/
theorem Mod.packShow_pack (m : Mod) : ∃ a b, m.packShow.pack = { m.pack with rlPeak := a, scrPeak := b } := ⟨_, _, rfl⟩

/-- An overrun is a matter of registers, counters and the recorder. -/
theorem Mod.overrun_pack (m : Mod) (k : Clock) (block cnt perf n : Nat) : (m.overrun k block cnt perf n).pack = m.pack := by
  simp only [Mod.overrun]
  repeat' split
  all_goals simp

/-- The next flow that fits is admitted, with what is ready of it (R195). -/
theorem Mod.admitOne_fits {f : Flow} {rest : List Flow} (ready : Nat) (hw : m.pack.waiting = f :: rest) (hfit : m.mayAdmit f = true) :
    (m.admitOne k ready).pack.waiting = rest ∧ (m.admitOne k ready).pack.flows = m.pack.flows ++ [{ f with ready := ready }] := by
  simp only [Mod.admitOne, hw, hfit, if_true]
  obtain ⟨a, b, hshow⟩ := Mod.packShow_pack
    (Mod.trace { m with pack := { m.pack with waiting := rest, flows := m.pack.flows ++ [{ f with ready := ready }] } } k 1 0 f.rover 0xFFFF f.graph 0)
  obtain ⟨l, htrace⟩ := Mod.trace_pack { m with pack := { m.pack with waiting := rest, flows := m.pack.flows ++ [{ f with ready := ready }] } }
    k 1 0 f.rover 0xFFFF f.graph 0
  rw [hshow, htrace]
  exact ⟨rfl, rfl⟩

/-- What PACK holds of flows: those in service, those that wait, and the count of those discarded. -/
def PackSt.load (p : PackSt) : List Flow × List Flow × Nat := (p.flows, p.waiting, p.discarded)

/-- Neither a trace record nor a rover's own state is part of it. -/
theorem Mod.trace_load (m : Mod) (k : Clock) (event where_ flow op graph arg : Nat) :
    (m.trace k event where_ flow op graph arg).pack.load = m.pack.load := by
  obtain ⟨l, h⟩ := m.trace_pack k event where_ flow op graph arg
  rw [h]; rfl

/-- At the deadline every flow is discarded and counted (R206). -/
theorem Mod.packDeadline_load (m : Mod) (k : Clock) :
    (m.packDeadline k).pack.load = ([], [], m.pack.discarded + (m.pack.flows.length + m.pack.waiting.length)) := by
  have hend : ∀ (m' : Mod) (all : List Flow), (if all.isEmpty then (m'.setB F.PACK_STAT_ASU_BUSY false).packShow
      else ((m'.setB F.PACK_STAT_ASU_BUSY false).packShow.packEvt 0).overrun k 10 R.PACK_OVR_CNT (perfPack 9) all.length).pack.load
        = m'.pack.load := by
    intro m' all
    obtain ⟨a, b, hshow⟩ := Mod.packShow_pack (m'.setB F.PACK_STAT_ASU_BUSY false)
    split
    · rw [hshow]; rfl
    · rw [Mod.overrun_pack, Mod.packEvt, Mod.evt_pack, hshow]; rfl
  simp only [Mod.packDeadline]
  rw [hend]
  refine (Mod.each_keeps _ (fun m => m.pack.load) (fun m' f => ?_) _).trans (by simp [PackSt.load])
  split
  · exact (congrArg PackSt.load rfl).trans (m'.trace_load ..)
  · exact m'.trace_load ..

/-- A search that ends within its limits leaves its outcome with the rover (R200). -/
theorem Mod.asuEnd_search {r : Nat} {i : AsuIn} {f : Flow} (hf : m.pack.flows.find? (fun f => f.rover == r) = some f) (hamb : i.amb ≤ 64)
    (hr : r < 256) :
    ((m.asuEnd k r i).rv r).search
      = some { trunc := decide (m.nodeMax ≤ i.nodes), ratio := min 65535 i.ratio, ints := i.ints, sats := i.sats } := by
  simp only [Mod.asuEnd, hf, if_neg (Nat.not_lt.mpr hamb), if_pos hr, Mod.rv_setRv, if_true]

/-- Settles O25: flows are admitted, end and are discarded, a search ends and a filter is reset where the conditions hold. -/
theorem flows : Obligations.Flows := by
  refine ⟨fun s dt ready f rest hlive hw hfit => answers_of_guard rfl (by simp [hlive]) (Mod.admitOne_fits (m := s.found) ready hw hfit),
    fun s dt r i f hlive hlate hf => does_of_guard rfl (by simp [hlive, hlate]) rfl, fun s dt hlive hlate => ?_,
    fun s dt r i f hlive hf hamb hr => answers_of_guard rfl (by simp [hlive]) (Mod.asuEnd_search (m := s.found) hf hamb hr),
    fun s dt r hr ho => ?_⟩
  · refine answers_of_guard rfl (by simp [hlive, hlate]) ?_
    have hload := Mod.packDeadline_load s.found (s.now dt)
    simp only [PackSt.load, Prod.mk.injEq] at hload
    exact hload
  · refine answers_of_access rfl ho ?_
    rw [if_pos hr]
    exact ⟨(Mod.rv_setRv _ _ _ _).trans (if_pos rfl), fun r' hne => (Mod.rv_setRv _ _ _ _).trans (if_neg hne), rfl, rfl⟩

/-! ## Graphs (R201, R202) -/

/-- An entry taken away twice is taken away once. -/
theorem AMap.del_del {α : Type} (q : Nat) (l : AMap α) : AMap.del q (AMap.del q l) = AMap.del q l := by
  induction l with
  | nil => rfl
  | cons p t ih =>
    by_cases h : q = p.1
    · simp [AMap.del, h]; rw [← h]; exact ih
    · simp [AMap.del, h, ih]

/-- The load figures are registers of PACK. -/
theorem Mod.ringState_loadShow (m : Mod) {n : Nat} (hn : n ≤ 9) : m.loadShow.ringState n = m.ringState n := by
  have hload : R.RING_STAT n ≠ R.PACK_LOAD := by unfold R.RING_STAT R.PACK_LOAD; omega
  exact Mod.fld_congr ((Mod.rd_setF_ne _ F.PACK_LOAD_PHASE _ hload).trans (Mod.rd_setF_ne _ F.PACK_LOAD_MFLOP _ hload))

/-- A graph that no rover names is unloaded, with its result (R202). -/
theorem Mod.unloadGraph_unused {g : Nat} (h : Handed) {x : Graph} (hg : 0x80 ≤ g) (hx : AMap.find m.pack.graphs g = some x)
    (huse : m.graphUsers g = 0) :
    m.unloadGraph k h g 0 = (Mod.loadShow { m with pack := { m.pack with graphs := AMap.del g m.pack.graphs } }).finish k h 0 [] := by
  have hsome : ¬ ((0 : Nat) ≠ 0 ∨ g < 0x80 ∨ (AMap.find m.pack.graphs g).isNone = true) := by simp [hx]; omega
  rw [Mod.unloadGraph, if_neg hsome, if_neg (not_not_intro huse)]

/-- Settles O26: both commands wait for the latch, and a graph without users goes there. -/
theorem graphs : Obligations.Graphs := by
  refine ⟨fun s dt h hlive => ⟨fun _ _ _ => does_of_guard rfl (by simp [hlive]) rfl, fun _ _ => does_of_guard rfl (by simp [hlive]) rfl⟩,
    fun s dt g h x hg hx huse hroom hnr => ?_⟩
  simp only [Mod.packDo, Mod.unloadGraph_unused h hg hx huse]
  refine ⟨?_, ?_, ?_⟩
  · rw [Mod.finish, Mod.result_pack]
    exact (AMap.find_del g _ g).trans (if_pos rfl)
  · rw [Mod.finish, Mod.result_pack]
    exact AMap.del_del g _
  · have hroom' : (Mod.loadShow { s.m with pack := { s.m.pack with graphs := AMap.del g s.m.pack.graphs } }).takesResult = true := by
      rw [Mod.takesResult, Mod.ringState_loadShow _ (by decide)]
      exact hroom
    exact Mod.result_queue _ (s.now dt) h.opcode h.tag h.acceptTick [] hroom' (.inl hnr)

end Sys2Proof.Machine
end

section
/-! SUPPORT. TIME: references (R227, R228), the states of the timebase and its steps (R229 to R237). -/

namespace Sys2Proof.Machine

variable {m : Mod} {k : Clock}

/-! ## References -/

/-- A step moves published time by its amount (R221). -/
theorem Clock.step_now (k : Clock) (d : Int) : (k.step d).now = k.now + d := by
  simp only [Clock.now, Clock.timeAt, Clock.step]
  omega

/-- A change of reference moves published time by 1 ns at most (R227). -/
theorem refMove_now (k : Clock) (m : Mod) : ((refMove k m).now - k.now).natAbs ≤ 16777216 := by
  rw [refMove, Clock.step_now]
  unfold clampI uPerNs
  omega

/-- REF_LOCK takes its new value, and the event of it sets. -/
theorem Mod.refLock_evt (m : Mod) (b : Bool) (e : Nat) (he : e < 32) :
    (((m.took).setB F.TIME_STAT_REF_LOCK b).timeEvt e).on F.TIME_STAT_REF_LOCK = b
      ∧ (((m.took).setB F.TIME_STAT_REF_LOCK b).timeEvt e).bit R.TIME_EVT e = true := by
  refine ⟨?_, Mod.bit_evt _ _ _ _ _ he (by decide)⟩
  exact (Mod.on_congr (Mod.rd_evt_ne _ _ _ _ _ (by decide) (by decide))).trans (Mod.on_setB _ _ _ (by decide) (by decide))

/-- The first edge that marks a second is taken as it comes (R228). -/
theorem Mod.ppsEdge_first {rise : Bool} (hsrc : m.fld F.TIME_SRC_CTL_SRC = 1) (hpol : rise ≠ m.on F.TIME_SRC_CTL_PPS_POL)
    (hfirst : m.time.ppsAt = none) :
    (m.ppsEdge k rise).time.ppsAt = some k.raw ∧ (m.ppsEdge k rise).live = m.live := by
  simp [Mod.ppsEdge, hsrc, hpol, hfirst]

/-- Settles O27: a reference moves time within a nanosecond, and an edge of PPS_IN is taken. -/
theorem timeReferences : Obligations.TimeReferences := by
  refine ⟨fun s dt hlive hen hlock => ?_, fun s dt hlive hlock => ?_, fun s dt rise hlive hsrc hpol hfirst => ?_⟩
  · refine answers_of_evClk rfl ?_
    rw [if_pos (by simp [hlive, hen, hlock])]
    obtain ⟨hon, hevt⟩ := Mod.refLock_evt s.found true 6 (by decide)
    exact ⟨hon, hevt, refMove_now (s.now dt) s.found, rfl⟩
  · refine answers_of_evClk rfl ?_
    rw [if_pos (by simp [hlive, hlock])]
    obtain ⟨hon, hevt⟩ := Mod.refLock_evt s.found false 5 (by decide)
    exact ⟨hon, hevt, refMove_now (s.now dt) s.found, rfl⟩
  · exact answers_of_guard rfl (by simp [hlive]) (Mod.ppsEdge_first (m := s.found) (k := s.now dt) hsrc hpol hfirst)

/-! ## States -/

/-- The recorder's trigger for time leaves TIME's registers. -/
theorem Mod.rd_timeRec_ne (m : Mod) (k : Clock) {x : Nat} (h : x ≠ R.REC_DROP_CNT) (h1 : x ≠ R.REC_EVT) (h2 : x ≠ R.RING_IRQ_STAT) :
    (m.timeRec k).rd x = m.rd x := Mod.rd_recTrig_ne _ _ _ _ h h1 h2

@[simp] theorem Mod.timeRec_time (m : Mod) (k : Clock) : (m.timeRec k).time = m.time := Mod.recTrig_time ..

/-- Showing the announce word changes registers alone. -/
theorem Mod.annShow_time (m : Mod) : m.annShow.time = m.time := (rfl)

theorem Mod.rd_annShow_ne (m : Mod) {x : Nat} (h : x ≠ R.TIME_PTP_ANN) (h1 : x ≠ R.TIME_PTP_UTC_USE) : m.annShow.rd x = m.rd x := by
  simp only [Mod.annShow]
  rw [Mod.rd_wr_ne _ _ _ h1, Mod.rd_wr_ne _ _ _ h]

/-- The event a state of time sets when it is entered. -/
def tstateEvt (st : Nat) : Nat := match st with | 0 => 1 | 1 => 0 | _ => 2

/-- A state of time other than LOCKED that is entered shows in TIME_STAT and sets its event; of TIME itself nothing changes. -/
theorem Mod.setTState_new (m : Mod) (k : Clock) {st : Nat} (hst : st = 1 ∨ st = 2) (hnew : m.tstate ≠ st) :
    (m.setTState k st).tstate = st ∧ (m.setTState k st).bit R.TIME_EVT (tstateEvt st) = true ∧ (m.setTState k st).time = m.time := by
  have hnz : (st == 0) = false := by rcases hst with rfl | rfl <;> rfl
  have hevt : tstateEvt st < 32 := by rcases hst with rfl | rfl <;> decide
  have heq : m.setTState k st = ((m.setF F.TIME_STAT_STATE st).timeEvt (tstateEvt st)).timeRec k := by
    simp only [Mod.setTState, if_neg hnew, Mod.when, hnz, Bool.false_eq_true, if_false]
    rfl
  rw [heq]
  refine ⟨?_, ?_, by simp [Mod.timeEvt]⟩
  · have hstat : (((m.setF F.TIME_STAT_STATE st).timeEvt (tstateEvt st)).timeRec k).rd R.TIME_STAT = (m.setF F.TIME_STAT_STATE st).rd R.TIME_STAT :=
      (Mod.rd_timeRec_ne _ _ (by decide) (by decide) (by decide)).trans (Mod.rd_evt_ne _ _ _ _ _ (by decide) (by decide))
    refine (Mod.fld_congr hstat).trans ((Mod.fld_setF m F.TIME_STAT_STATE st (by decide) (by decide)).trans ?_)
    rcases hst with rfl | rfl <;> rfl
  · exact (Mod.bit_congr (Mod.rd_timeRec_ne _ _ (by decide) (by decide) (by decide))).trans (Mod.bit_evt _ _ _ _ _ hevt (by decide))

/-- A number of nanoseconds written to TIME_UNC shows nowhere else. -/
theorem Mod.rd_setUnc_ne (m : Mod) (n : Nat) {x : Nat} (h : x ≠ R.TIME_UNC) : (m.setUnc n).rd x = m.rd x := Mod.rd_wr_ne _ _ _ h

/-- A holdover is entered: its start stands in TIME, and its state shows (R229 step 2). -/
theorem Mod.enterHoldover_spec (m : Mod) (k : Clock) (hst : m.tstate = 0) :
    (m.enterHoldover k).tstate = 1 ∧ (m.enterHoldover k).bit R.TIME_EVT 0 = true ∧ (m.enterHoldover k).time.hoStart = k.raw
      ∧ (m.enterHoldover k).time.hoOn = true := by
  simp only [Mod.enterHoldover]
  generalize hm' : Mod.setB _ F.TIME_STAT_SLEWING false = m'
  have hstat : m'.tstate = m.tstate := by
    rw [← hm', Mod.tstate, Mod.fld_setB_ne _ _ _ (by decide) (by decide) (by decide)]
    refine Mod.fld_congr ((Mod.rd_setUnc_ne _ _ (by decide)).trans ((Mod.rd_wr_ne _ _ _ (by decide)).trans ?_))
    exact (Mod.rd_inc _ _ _).trans (if_neg (by decide))
  obtain ⟨hs, he, ht⟩ := m'.setTState_new k (.inl rfl) (by rw [hstat, hst]; decide)
  refine ⟨hs, he, ?_, ?_⟩
  · rw [ht, ← hm']; rfl
  · rw [ht, ← hm']; rfl

/-- Past the threshold time is UNTRACEABLE, with its event (R229 step 3). -/
theorem Mod.holdoverPast_spec (m : Mod) (k : Clock) (n : Nat) (hst : m.tstate = 1) :
    ((m.setUnc n).setTState k 2).annShow.tstate = 2 ∧ ((m.setUnc n).setTState k 2).annShow.bit R.TIME_EVT 2 = true := by
  have hnew : (m.setUnc n).tstate ≠ 2 := by
    rw [Mod.tstate, Mod.fld_congr (m.rd_setUnc_ne n (by decide)), ← Mod.tstate, hst]
    decide
  obtain ⟨hs, he, -⟩ := (m.setUnc n).setTState_new k (.inr rfl) hnew
  exact ⟨(Mod.fld_congr (Mod.rd_annShow_ne _ (by decide) (by decide))).trans hs,
    (Mod.bit_congr (Mod.rd_annShow_ne _ (by decide) (by decide))).trans he⟩

/-! ## Steps (R235, R237) -/

/-- A step taken leaves none pending, is counted, and moves published time alone. -/
theorem Mod.takeStep_spec (m : Mod) (k : Clock) (st : StepPend) :
    (m.takeStep k st).2.time.step = none ∧ (m.takeStep k st).1.now = k.now + st.delta ∧ (m.takeStep k st).1.raw = k.raw
      ∧ (m.takeStep k st).2.rd R.TIME_STEP_CNT = (m.rd R.TIME_STEP_CNT + 1) % 4294967296 := by
  refine ⟨?_, k.step_now st.delta, rfl, ?_⟩
  · simp only [Mod.takeStep, Mod.timeRec_time, Mod.srcUse, Mod.timeEvt]
    split <;> simp [Mod.setUnc]
  · simp only [Mod.takeStep]
    rw [Mod.rd_timeRec_ne _ _ (by decide) (by decide) (by decide), Mod.srcUse, Mod.rd_setF_ne _ _ _ (by decide),
      Mod.rd_setB_ne _ _ _ (by decide), Mod.timeEvt, Mod.rd_evt_ne _ _ _ _ _ (by decide) (by decide), Mod.rd_inc, if_pos rfl]
    split
    · rw [Mod.rd_setUnc_ne _ _ (by decide)]; rfl
    · rfl

/-- SET is accepted in UNTRACEABLE for a whole second (R237). -/
theorem Mod.timeSet_accepted {ns : Nat} (unc : Nat) (hst : m.tstate = 2) (hns : ns % 1000000000 = 0) :
    m.timeSet k ns unc = m.stepPlan k ((ns : Int) * uPerNs - k.stepAt) true true unc := by
  simp only [Mod.timeSet, hst, hns, ne_eq, not_true_eq_false, or_self, if_false]

/-- Any other SET is refused (R237). -/
theorem Mod.timeSet_refused {ns : Nat} (unc : Nat) (h : m.tstate ≠ 2 ∨ ns % 1000000000 ≠ 0) : m.timeSet k ns unc = m.timeEvt 8 := by
  rw [Mod.timeSet, if_pos h]

/-- Settles O28: each change of state takes place at its boundary, and SET plans a step or is refused. -/
theorem timeStates : Obligations.TimeStates := by
  refine ⟨fun s dt hlive hat hst hlost => ?_, fun s dt hlive hat hst hho hpast => ?_, fun s dt e hlive hat hst hret hsteady herr => ?_,
    fun s dt st hlive hdue => ?_, fun s dt ns unc ho hst hns => ?_, fun s dt ns unc ho hbad => ?_⟩
  · have hlost' : s.found.srcLost (s.now dt) = true := hlost
    refine answers_of_guard rfl (by simp [hlive, hat, hst, hlost']) ?_
    obtain ⟨hs, he, hstart, hon⟩ := s.found.enterHoldover_spec (s.now dt) hst
    exact ⟨(Mod.fld_congr (Mod.rd_annShow_ne _ (by decide) (by decide))).trans hs,
      (Mod.bit_congr (Mod.rd_annShow_ne _ (by decide) (by decide))).trans he, (congrArg _ (Mod.annShow_time _)).trans hstart,
      (congrArg _ (Mod.annShow_time _)).trans hon⟩
  · have hpast' : s.found.untraceNs < s.found.modelUnc (s.now dt) := hpast
    exact answers_of_guard rfl (by simp [hlive, hat, hst, hho, hpast']) (s.found.holdoverPast_spec (s.now dt) _ hst)
  · have hsteady' : s.found.srcSteady (s.now dt) = true := hsteady
    refine does_of_ev rfl ?_
    simp [herr, hlive, hat, hst, hret, hsteady']
  · have hdue' : s.found.stepDue (s.now dt) = some st := hdue
    refine answers_of_evClk rfl ?_
    simp only [hdue', State.found_live?, hlive, if_true]
    exact s.found.takeStep_spec (s.now dt) st
  · exact does_of_access rfl ho (Mod.timeSet_accepted (m := s.found) unc hst hns)
  · refine answers_of_access rfl ho ?_
    rw [Mod.timeSet_refused (m := s.found) unc hbad]
    exact ⟨Mod.bit_evt _ _ _ _ _ (by decide) (by decide), Mod.evt_time _ _ _ _ _, rfl⟩

end Sys2Proof.Machine
end

section
/-! SUPPORT. SHEP: commands that wait for the latch (R26, R278), requests (R279), and the Shepherd's events (R277, R291, R299, R305, R307). -/

namespace Sys2Proof.Machine

variable {m : Mod} {k : Clock}

/-! ## Commands -/

/-- What an accepted command leaves: the queue with the command behind it, and the next sequence number. -/
def JoinsShep (m t : Mod) (k : Clock) (h : Hdr) (c : ShepCmd) : Prop :=
  t.shep.cmds = m.shep.cmds ++ [{ cmd := c, tag := h.tag, noResult := h.noResult, acceptTick := k.tick, seq := m.shep.seq }]
    ∧ t.shep.seq = m.shep.seq + 1

/-- An accepted command joins the queue and shows in no register. -/
theorem Mod.shepAccept_joins (m : Mod) (k : Clock) (h : Hdr) (c : ShepCmd) :
    JoinsShep m (m.shepAccept k h c) k h c ∧ (m.shepAccept k h c).live = m.live := ⟨⟨rfl, rfl⟩, rfl⟩

/-- The network's flags are registers alone. -/
@[simp] theorem Mod.netShow_shep (m : Mod) : m.netShow.shep = m.shep := (rfl)

/-- Settles O31: a command whose fields are in order is accepted, and an accepted command waits. -/
theorem shepherdCommandsWait : Obligations.ShepherdCommandsWait := by
  intro s dt h hup
  have hup' : s.found.shepUp = true := hup
  refine ⟨fun atTick => ?_, fun rover flags tag hflags => ?_, fun rover chain => ?_, fun chain => ?_,
    fun task prio need from_ to_ notBefore deadline payload htask hprio => ?_, fun task htask => ?_, fun task htask => ?_⟩
  · exact answers_of_guard rfl hup' ⟨rfl, rfl⟩
  · refine answers_of_guard rfl hup' ?_
    rw [if_neg (by omega)]
    exact Mod.shepAccept_joins s.found (s.now dt) h _
  · exact answers_of_guard rfl hup' (Mod.shepAccept_joins s.found (s.now dt) h _)
  · exact answers_of_guard rfl hup' (Mod.shepAccept_joins s.found (s.now dt) h _)
  · refine answers_of_guard rfl hup' ?_
    rw [if_neg (by omega)]
    exact Mod.shepAccept_joins s.found (s.now dt) h _
  · refine answers_of_guard rfl hup' ?_
    rw [if_neg (by omega)]
    exact Mod.shepAccept_joins s.found (s.now dt) h _
  · refine answers_of_guard rfl hup' ?_
    rw [if_neg (by omega)]
    exact Mod.shepAccept_joins s.found (s.now dt) h _

/-- A request accepted for a rover without one pending is that rover's pending request (R279). -/
theorem Mod.reqAccept_none (q : RouteReq) (hreq : (m.srv q.rover).req = none) :
    ((m.reqAccept k q).srv q.rover).req = some { q with acceptTick := k.tick, seq := m.shep.seq } := by
  simp only [Mod.srv] at hreq
  simp [Mod.reqAccept, hreq, Mod.pendShow, Mod.srv, Mod.setSrv]

/-- Settles O32: an image waits for the latch, and a well-formed ROUTE pends. -/
theorem networkAndRoutes : Obligations.NetworkAndRoutes := by
  refine ⟨fun s dt addr reserved h img hup => ?_, fun s dt h d q n hup hparse hact hreq => ?_⟩
  · exact answers_of_guard rfl (show s.found.shepUp = true from hup) (Mod.shepAccept_joins s.found (s.now dt) h _)
  · refine answers_of_guard rfl (show s.found.shepUp = true from hup) ?_
    have hroute : s.found.routeCmd (s.now dt) h d
        = s.found.reqAccept (s.now dt) { q with fromAir := false, tag := h.tag, noResult := h.noResult } := by
      simp [Mod.routeCmd, hparse, hact]
    rw [hroute]
    exact Mod.reqAccept_none (m := s.found) { q with fromAir := false, tag := h.tag, noResult := h.noResult } hreq

/-! ## Events -/

@[simp] theorem Mod.overrun_shep (m : Mod) (k : Clock) (block cnt perf n : Nat) : (m.overrun k block cnt perf n).shep = m.shep := by
  simp only [Mod.overrun]
  repeat' split
  all_goals simp

@[simp] theorem Mod.shepEvt_shep (m : Mod) (b : Nat) : (m.shepEvt b).shep = m.shep := Mod.evt_shep ..

/-- At the deadline the part-evaluated request stops being evaluated, and the tick's evaluation is discarded (R277). -/
theorem Mod.shepCut_spec {r : Nat} (hpart : m.shep.partEval = some r) :
    (m.shepCut k).shep.partEval = none ∧ (m.shepCut k).shep.discarded = true := by
  simp only [Mod.shepCut, hpart, Mod.overrun_shep, Mod.shepEvt_shep]
  split <;> exact ⟨rfl, rfl⟩

/-- A notice beyond 0x8004 is a result that waits, and nothing else (R306). -/
theorem Mod.shepNotice_quiet {opcode : Nat} (hop : 0x8004 < opcode) (rover other chain task info : Nat) :
    (m.shepNotice k opcode rover other chain task info).live = m.live
      ∧ (m.shepNotice k opcode rover other chain task info).shep.tasks = m.shep.tasks := by
  simp only [Mod.shepNotice, if_neg (show ¬ opcode ≤ 0x8004 by omega), and_self]

/-- An open task past its deadline is free again, with its event; no other entry changes (R299). -/
theorem Mod.taskExpire_spec {task : Nat} (hopen : (m.taskAt task).status = 1) (hdl : (m.taskAt task).deadline ≠ 0)
    (hpast : 0 < tickDiff k.tick (m.taskAt task).deadline) :
    (m.taskExpire k task).taskAt task = Task.free ∧ (m.taskExpire k task).bit R.SHEP_EVT 10 = true
      ∧ ∀ n, n ≠ task → (m.taskExpire k task).taskAt n = m.taskAt n := by
  simp only [Mod.taskExpire, hopen, hdl, hpast, ne_eq, not_false_eq_true, and_self, if_true]
  refine ⟨by simp [Mod.taskAt, Mod.setTask], ?_, fun n hn => ?_⟩
  · exact Mod.bit_evt _ R.SHEP_EVT R.SHEP_EVT_EN 10 22 (by decide) (by decide)
  · obtain ⟨-, htasks⟩ := Mod.shepNotice_quiet (m := m) (k := k) (opcode := 0x8007) (by decide) 0xFF 0xFF 0xFFFF task (m.taskAt task).deadline
    rw [Mod.taskAt, Mod.setTask]
    simp only [AMap.get_put, if_neg hn, Mod.shepEvt_shep, htasks]
    rfl

/-- A chain that joins a list of blocked ones stands in it. -/
theorem contains_joined (l : List Nat) (c : Nat) : (if l.contains c then l else l ++ [c]).contains c = true := by
  split
  · assumption
  · simp

/-- A write to SHEP_TBL_SEL stands there, and the snapshot is registers alone (R307). -/
theorem Mod.shepSel_spec (m : Mod) (v : Nat) : (m.shepSel v).rd R.SHEP_TBL_SEL = v % 67108864 ∧ (m.shepSel v).shep = m.shep := by
  simp only [Mod.shepSel]
  constructor
  · refine (Mod.each_keeps _ (fun m => m.rd R.SHEP_TBL_SEL) (fun m i => ?_) _).trans ?_
    · exact Mod.rd_wr_ne _ _ _ (by unfold R.SHEP_TBL_SEL R.SHEP_TBL_DATA; omega)
    · rw [Mod.rd_setB_ne _ _ _ (by decide), Mod.rd_setB_ne _ _ _ (by decide), Mod.rd_setB_ne _ _ _ (by decide), Mod.rd_wr_same]
      omega
  · refine (Mod.each_keeps _ Mod.shep (fun m i => ?_) _).trans ?_ <;> simp only [Mod.wr_shep, Mod.setB_shep]

/-- What a poisoned span shows: its event and its count. -/
theorem Mod.poisoned_regs (m : Mod) (n : Nat) :
    (((m.shepEvt 9).inc R.SHEP_PARITY_CNT).wr R.SHEP_SPAN_USE n).bit R.SHEP_EVT 9 = true
      ∧ (((m.shepEvt 9).inc R.SHEP_PARITY_CNT).wr R.SHEP_SPAN_USE n).rd R.SHEP_PARITY_CNT = (m.rd R.SHEP_PARITY_CNT + 1) % 4294967296 := by
  constructor
  · refine (Mod.bit_congr (n := m.shepEvt 9) ?_).trans (Mod.bit_evt _ R.SHEP_EVT R.SHEP_EVT_EN 9 22 (by decide) (by decide))
    rw [Mod.rd_wr_ne _ _ _ (by decide), Mod.rd_inc, if_neg (by decide)]
  · rw [Mod.rd_wr_ne _ _ _ (by decide), Mod.rd_inc, if_pos rfl, Mod.shepEvt, Mod.rd_evt_ne _ _ _ _ _ (by decide) (by decide)]

/-- Settles O33: each event of the Shepherd does what its rule says. -/
theorem shepherdEvents : Obligations.ShepherdEvents := by
  refine ⟨fun s dt r hup hat hpart => ?_, fun s dt chain cell n sp hup hruns hcell hact hsp hkind hopn hfin htouch => ?_,
    fun s dt task hup hruns hopen hdl hpast => ?_, fun s dt chain cell hup hchain hcell => ?_, fun s dt chain hup hchain => ?_,
    fun s dt v ho => ?_⟩
  · have hup' : s.found.shepUp = true := hup
    exact answers_of_guard rfl (by rw [hup', decide_eq_true hat, Bool.true_and]) (Mod.shepCut_spec (m := s.found) hpart)
  · have hup' : s.found.shepUp = true := hup
    have hruns' : s.found.shepRuns = true := hruns
    have htouch' : s.found.touches sp.rover chain = true := htouch
    have hchain : (chain * 8 + cell) / 8 = chain := by omega
    refine does_of_ev rfl ?_
    simp [hact, hsp, hup', hruns', hcell, Mod.overstay, hkind, hopn, hfin, hchain, htouch']
  · have hup' : s.found.shepUp = true := hup
    have hruns' : s.found.shepRuns = true := hruns
    exact answers_of_guard rfl (by simp [hup', hruns']) (Mod.taskExpire_spec (m := s.found) hopen hdl hpast)
  · have hup' : s.found.shepUp = true := hup
    refine answers_of_guard rfl (by simp [hup', hchain, hcell]) ⟨?_, ?_, ?_, ?_⟩
    · simp [Mod.delSpan, AMap.find_del]
    · simp only [State.after_m, Mod.chainBlocked, Mod.wr_shep, Mod.inc_shep, Mod.shepEvt_shep, contains_joined, Bool.true_or]
    · exact (Mod.poisoned_regs _ _).1
    · exact (Mod.poisoned_regs _ _).2
  · have hup' : s.found.shepUp = true := hup
    refine answers_of_guard rfl (by simp [hup', hchain]) ⟨?_, rfl, (Mod.rd_inc _ _ _).trans (if_pos rfl)⟩
    simp only [State.after_m, Mod.chainBlocked, Mod.inc_shep, contains_joined, Bool.or_true]
  · exact answers_of_access rfl ho (Mod.shepSel_spec s.found v)

end Sys2Proof.Machine
end

section
/-! SUPPORT. MOT: commands that wait (R26, R351), the window and the steps (R321, R337, R339), switch inputs and ends (R338, R344). -/

namespace Sys2Proof.Machine

variable {m : Mod} {k : Clock}

/-! ## Commands -/

/-- A command whose fields are in order joins MOT's queue. -/
theorem Mod.motTake_good (hup : m.motUp = true) (h : Hdr) (opcode c : Nat) (cmd : MotCmd) :
    m.motTake k h opcode false c cmd = { m with mot := { m.mot with cmds := m.mot.cmds
      ++ [{ cmd := cmd, h := { block := 12, opcode := opcode, tag := h.tag, noResult := h.noResult, acceptTick := k.tick } }] } } := by
  simp [Mod.motTake, hup]

/-- Without duplicates there is nothing to erase. -/
theorem eraseDups_of_nodup : ∀ {l : List Nat}, l.Nodup → l.eraseDups = l
  | [], _ => rfl
  | a :: l, h => by
    obtain ⟨ha, hl⟩ := List.nodup_cons.mp h
    have hf : (l.filter fun b => !b == a) = l := List.filter_eq_self.mpr fun b hb => by
      simpa using fun hab : b = a => ha (hab ▸ hb)
    rw [List.eraseDups_cons, hf, eraseDups_of_nodup hl]

/-- What CONVOY's check refuses, these members do not show (R334). -/
theorem convoy_in_order {group : Nat} {l : List (Nat × Nat × Nat)} (hgroup : group ≤ 15) (h2 : 2 ≤ l.length) (h16 : l.length ≤ 16)
    (hmem : ∀ e ∈ l, e.1 ≤ 255 ∧ e.2.1 = 0) (hnodup : (l.map Prod.fst).Nodup) :
    (decide (15 < group) || l.length != l.length || decide (l.length < 2) || decide (16 < l.length) || 0 != 0
      || (l.any fun e => decide (255 < e.1) || e.2.1 != 0) || decide ((l.map Prod.fst).eraseDups.length < (l.map Prod.fst).length)) = false := by
  have hany : (l.any fun e => decide (255 < e.1) || e.2.1 != 0) = false := by
    rw [List.any_eq_false]
    intro e he
    obtain ⟨hch, hres⟩ := hmem e he
    simp [hres]
    omega
  rw [eraseDups_of_nodup hnodup, hany]
  simp
  omega

/-- Settles O34: a command whose fields are in order waits, and nothing else changes. -/
theorem motionCommandsWait : Obligations.MotionCommandsWait := by
  intro s dt h hup waits
  have hgood := fun op c cmd => Mod.motTake_good (k := s.now dt) (show s.found.motUp = true from hup) h op c cmd
  refine ⟨fun ch flags target vmax amax jmax start hch hflags => does_of_ev rfl (Eq.trans ?_ (hgood 1 ch _)),
    fun group start l hgroup h2 h16 hmem hnodup => does_of_ev rfl (Eq.trans ?_ (hgood 2 0xFFFF _)),
    fun ch dir mode speed ofs hch hdir hmode => does_of_ev rfl (Eq.trans ?_ (hgood 3 ch _)),
    fun ch hch => does_of_ev rfl (Eq.trans ?_ (hgood 4 ch _)), fun ch pos hch => does_of_ev rfl (Eq.trans ?_ (hgood 5 ch _)),
    fun ch hch => does_of_ev rfl (Eq.trans ?_ (hgood 6 ch _))⟩
  · rw [decide_eq_false (by omega), decide_eq_false (by omega)]; rfl
  · dsimp only
    rw [convoy_in_order hgroup h2 h16 hmem hnodup]
  · rw [decide_eq_false (by omega), decide_eq_false (by omega), decide_eq_false (by omega)]; rfl
  · have hbad : (decide (255 < ch) && ch != 0xFFFF) = false := by
      rcases hch with hch | rfl
      · rw [decide_eq_false (by omega)]; rfl
      · rfl
    rw [hbad]; rfl
  · rw [decide_eq_false (by omega)]; rfl
  · rw [decide_eq_false (by omega)]; rfl

/-! ## The window and the steps -/

@[simp] theorem Mod.overrun_mot (m : Mod) (k : Clock) (block cnt perf n : Nat) : (m.overrun k block cnt perf n).mot = m.mot := by
  simp only [Mod.overrun]
  repeat' split
  all_goals simp

/-- An overrun is told in its counter and through the recorder. -/
theorem Mod.rd_overrun_ne (m : Mod) (k : Clock) (block cnt perf n : Nat) {x : Nat} (h : x ≠ cnt) (h1 : x ≠ R.REC_DROP_CNT)
    (h2 : x ≠ R.REC_EVT) (h3 : x ≠ R.RING_IRQ_STAT) : (m.overrun k block cnt perf n).rd x = m.rd x := by
  simp only [Mod.overrun]
  split
  · rfl
  · have hcnt : ((m.incBy cnt n).perfAdd perf n).rd x = m.rd x := (Mod.rd_incBy _ _ _ _).trans (if_neg h)
    split
    · exact hcnt
    · exact (Mod.rd_recTrig_ne _ _ _ _ h1 h2 h3).trans hcnt

/-- The end of the window in MOT's registers: no longer busy, with what was discarded. -/
theorem Mod.windowRegs (m : Mod) (e n : Nat) :
    (((m.setB F.MOT_STAT_WINDOW_BUSY false).setF F.MOT_LAST_END_END e).setF F.MOT_LAST_END_DISCARDED (min 255 n)).on F.MOT_STAT_WINDOW_BUSY
        = false
      ∧ (((m.setB F.MOT_STAT_WINDOW_BUSY false).setF F.MOT_LAST_END_END e).setF F.MOT_LAST_END_DISCARDED (min 255 n)).fld
        F.MOT_LAST_END_DISCARDED = min 255 n := by
  constructor
  · rw [Mod.on_setF_ne _ _ _ (by decide) (by decide) (by decide), Mod.on_setF_ne _ _ _ (by decide) (by decide) (by decide),
      Mod.on_setB _ _ _ (by decide) (by decide)]
  · rw [Mod.fld_setF _ _ _ (by decide) (by decide), Nat.mod_eq_of_lt]
    simp only [F.MOT_LAST_END_DISCARDED]
    omega

/-- The report of what a window discarded leaves the window's own registers and MOT's state. -/
theorem Mod.windowReport (m : Mod) (k : Clock) (n : Nat) :
    ((m.motEvt 0).overrun k 12 R.MOT_OVR_CNT (perfMot 1) n).on F.MOT_STAT_WINDOW_BUSY = m.on F.MOT_STAT_WINDOW_BUSY
      ∧ ((m.motEvt 0).overrun k 12 R.MOT_OVR_CNT (perfMot 1) n).fld F.MOT_LAST_END_DISCARDED = m.fld F.MOT_LAST_END_DISCARDED
      ∧ ((m.motEvt 0).overrun k 12 R.MOT_OVR_CNT (perfMot 1) n).mot = m.mot := by
  refine ⟨Mod.on_congr ?_, Mod.fld_congr ?_, by simp [Mod.motEvt]⟩
  all_goals
    rw [Mod.rd_overrun_ne _ _ _ _ _ _ (by decide) (by decide) (by decide) (by decide), Mod.motEvt,
      Mod.rd_evt_ne _ _ _ _ _ (by decide) (by decide)]

/-- MOT's own state shows in no register. -/
theorem Mod.rd_mot (m : Mod) (x : MotSt) (a : Nat) : ({ m with mot := x } : Mod).rd a = m.rd a := (rfl)

/-- At T+3 ms the window ends, and what was cut is shown as discarded (R321). -/
theorem Mod.motWindowEnd_spec (hbusy : m.on F.MOT_STAT_WINDOW_BUSY = true) :
    (m.motWindowEnd k).on F.MOT_STAT_WINDOW_BUSY = false ∧ (m.motWindowEnd k).fld F.MOT_LAST_END_DISCARDED = min 255 m.mot.cut
      ∧ (m.motWindowEnd k).mot.cut = 0 := by
  simp only [Mod.motWindowEnd, hbusy, Bool.not_true, Bool.false_eq_true, if_false]
  generalize (if m.mot.cut = 0 then min 0xFFFFFF m.mot.endNs else 0xFFFFFF) = e
  obtain ⟨hon, hdisc⟩ := m.windowRegs e m.mot.cut
  split
  · exact ⟨(Mod.on_congr (Mod.rd_mot _ _ _)).trans hon, (Mod.fld_congr (Mod.rd_mot _ _ _)).trans hdisc, rfl⟩
  · obtain ⟨hon', hdisc', hmot⟩ := Mod.windowReport _ k m.mot.cut
    exact ⟨hon'.trans ((Mod.on_congr (Mod.rd_mot _ _ _)).trans hon), hdisc'.trans ((Mod.fld_congr (Mod.rd_mot _ _ _)).trans hdisc),
      congrArg MotSt.cut hmot⟩

/-- No limit acts on a channel whose limits are not asserted. -/
theorem Mod.limitLevel_off {c f : Nat} (h : m.funcOn c f = false) : m.limitLevel k c f = m := by
  simp [Mod.limitLevel, h]

theorem Mod.limitLevels_off {c : Nat} (h1 : m.funcOn c 1 = false) (h2 : m.funcOn c 2 = false) : m.limitLevels k c = m := by
  rw [Mod.limitLevels, Mod.limitLevel_off h1, Mod.limitLevel_off h2]

@[simp] theorem Mod.mch_setMch (m : Mod) (c : Nat) (x : MotCh) (q : Nat) : (m.setMch c x).mch q = if q = c then x else m.mch q := by
  simp [Mod.mch, Mod.setMch]

theorem State.found_mch (s : State) (c : Nat) : s.found.mch c = s.m.mch c := (rfl)

/-- A channel's place follows from its own record. -/
theorem Mod.chNow_congr {m n : Mod} {c : Nat} (h : m.mch c = n.mch c) : m.chNow k c = n.chNow k c := by
  simp only [Mod.chNow, Mod.chAt, h]

/-- The first edge of a channel follows the planned position (R337). -/
theorem Mod.stepEdge_first {c : Nat} (hkind : (m.mch c).kind = 2) (hstep : stepTo (m.mch c).step (m.chNow k c).p ≠ (m.mch c).step)
    (hout : m.motOut = true) (hgate : m.on F.BRACE_STAT_GATE_OPEN = true) (hedge : (m.mch c).edgeAt = none) (h1 : m.funcOn c 1 = false)
    (h2 : m.funcOn c 2 = false) :
    ((m.stepEdge k c).mch c).step = stepTo (m.mch c).step (m.chNow k c).p ∧ ((m.stepEdge k c).mch c).edgeAt = some k.raw
      ∧ (∃ dir, (m.stepEdge k c).out = m.out ++ [.stepEdge (m.mch c).idx dir]) ∧ ∀ q, q ≠ c → (m.stepEdge k c).mch q = m.mch q := by
  rw [Mod.stepEdge]
  simp only [Mod.limitLevels_off h1 h2, hkind, hstep, hout, hgate, hedge, ne_eq, not_true_eq_false, or_self, if_false, Bool.and_self,
    Bool.not_true, Bool.false_eq_true]
  have hmch : ∀ (n : Mod) (o : Out) (q : Nat), ((n.perfAdd (perfMot 2) 1).emit o).mch q = n.mch q := fun _ _ _ => rfl
  refine ⟨by simp [hmch], by simp [hmch], ⟨_, rfl⟩, fun q hq => by simp [hmch, hq]⟩

/-- Settles O35: the window plans and ends, steps follow the plan, and a difference beyond a step is a fault. -/
theorem windowAndSteps : Obligations.WindowAndSteps := by
  refine ⟨fun s dt i hplans hat hwin => ?_, fun s dt hup hat hbusy => ?_, fun s dt ch hup hkind hstep hout hgate hedge h1 h2 => ?_,
    fun s dt ch hup hkind hout hst hfar => ?_⟩
  · have hplans' : s.found.motPlans = true := hplans
    exact does_of_guard rfl (by rw [hplans', decide_eq_true hat]; simp [hwin]) rfl
  · have hup' : s.found.motUp = true := hup
    exact answers_of_guard rfl (by rw [hup', decide_eq_true hat]; rfl) (Mod.motWindowEnd_spec (m := s.found) (k := s.now dt) hbusy)
  · refine answers_of_guard rfl (show s.found.motUp = true from hup) ?_
    have hpos : s.found.chNow (s.now dt) ch = s.m.chNow (s.now dt) ch := Mod.chNow_congr (s.found_mch ch)
    obtain ⟨hs, he, hout', hrest⟩ := Mod.stepEdge_first (m := s.found) (k := s.now dt) (c := ch) hkind (by rw [hpos, s.found_mch]; exact hstep)
      hout hgate hedge h1 h2
    rw [hpos, s.found_mch] at hs
    rw [State.now_raw] at he
    simp only [State.after_m]
    exact ⟨hs, he, hout', hrest⟩
  · have hpos : s.found.chNow (s.now dt) ch = s.m.chNow (s.now dt) ch := Mod.chNow_congr (s.found_mch ch)
    refine does_of_guard rfl (show s.found.motUp = true from hup) ?_
    simp only [Mod.stepTrack, hpos, s.found_mch]
    exact if_pos ⟨hkind, hout, hfar, hst⟩

/-! ## Switch inputs -/

/-- The level of an input, and the instant of its last edge. -/
def Mod.swEdge (m : Mod) (i : Nat) : Bool × Nat := ((m.swin i).raw, (m.swin i).lastAt)

theorem Mod.swEdge_congr {m n : Mod} (h : m.mot.inp = n.mot.inp) (i : Nat) : m.swEdge i = n.swEdge i := by
  simp only [Mod.swEdge, Mod.swin, h]

@[simp] theorem Mod.replaceNow_inp (m : Mod) (k : Clock) (c : Nat) (l : List Seg) : (m.replaceNow k c l).mot.inp = m.mot.inp := (rfl)

@[simp] theorem Mod.limitRamp_inp (m : Mod) (k : Clock) (c st : Nat) : (m.limitRamp k c st).mot.inp = m.mot.inp := (rfl)

@[simp] theorem Mod.homeAbort_inp (m : Mod) (k : Clock) (c st : Nat) : (m.homeAbort k c st).mot.inp = m.mot.inp := (rfl)

@[simp] theorem Mod.homeEdge_inp (m : Mod) (k : Clock) (c : Nat) (h : Homing) (b : Bool) (at_ : Int) :
    (m.homeEdge k c h b at_).mot.inp = m.mot.inp := by
  simp only [Mod.homeEdge]
  split
  · rfl
  · split <;> rfl

@[simp] theorem Mod.motChEvt_mot (m : Mod) (c b : Nat) : (m.motChEvt c b).mot = m.mot := Mod.evt_mot ..

@[simp] theorem Mod.groupTurn_inp (m : Mod) (k : Clock) (g st : Nat) (b : Bool) (f : Kin → List Seg) :
    (m.groupTurn k g st b f).mot.inp = m.mot.inp := by
  simp only [Mod.groupTurn]
  split
  · rfl
  · split
    · exact Mod.each_keeps _ (fun m => m.mot.inp) (fun m e => by split <;> rfl) _
    · split
      · exact Mod.each_keeps _ (fun m => m.mot.inp) (fun _ _ => by rfl) _
      · exact Mod.each_keeps _ (fun m => m.mot.inp) (fun _ _ => by rfl) _

@[simp] theorem Mod.groupStop_inp (m : Mod) (k : Clock) (g st : Nat) (b : Bool) : (m.groupStop k g st b).mot.inp = m.mot.inp := by
  simp only [Mod.groupStop]
  split
  · rfl
  · exact (Mod.each_keeps _ (fun m => m.mot.inp) (fun _ _ => by rfl) _).trans (Mod.groupTurn_inp ..)

@[simp] theorem Mod.limitCheck_inp (m : Mod) (k : Clock) (c f : Nat) : (m.limitCheck k c f).mot.inp = m.mot.inp := by
  simp only [Mod.limitCheck]
  repeat' split
  all_goals simp

@[simp] theorem Mod.inputActs_inp (m : Mod) (k : Clock) (i : Nat) : (m.inputActs k i).mot.inp = m.mot.inp := by
  simp only [Mod.inputActs]
  split
  · exact Mod.limitCheck_inp ..
  · rfl

@[simp] theorem Mod.chatterStart_inp (m : Mod) (k : Clock) (i : Nat) : (m.chatterStart k i).mot.inp = m.mot.inp := by
  simp only [Mod.chatterStart]
  repeat' split
  all_goals simp [Mod.motEvt]

@[simp] theorem Mod.swEdge_setSwin (m : Mod) (i : Nat) (x : SwIn) : (m.setSwin i x).swEdge i = (x.raw, x.lastAt) := by
  simp [Mod.swEdge, Mod.swin, Mod.setSwin]

/-- Qualification moves the qualified level, never the level itself or the instant of its edge (R338). -/
theorem Mod.swEdge_inputQualify (m : Mod) (k : Clock) (i : Nat) : (m.inputQualify k i).swEdge i = m.swEdge i := by
  have hset : ∀ n : Mod, n.mot.inp = (m.setSwin i { m.swin i with qual := (m.swin i).raw, away := none }).mot.inp → n.swEdge i = m.swEdge i :=
    fun n hn => (Mod.swEdge_congr hn i).trans (Mod.swEdge_setSwin _ _ _)
  simp only [Mod.inputQualify]
  repeat' split
  all_goals first | rfl | refine hset _ ?_
  all_goals simp [Mod.incF, Mod.when, apply_ite Mod.mot, Mod.setMch]

/-- An edge of an input is its new level and the instant of it. -/
theorem Mod.swEdge_inputEdge {i : Nat} {level : Bool} (hraw : (m.swin i).raw ≠ level) : (m.inputEdge k i level).swEdge i = (level, k.raw) := by
  simp only [Mod.inputEdge, if_neg hraw]
  generalize (if i < 32 then R.MOT_IN_LEVEL0 else R.MOT_IN_LEVEL1) = a
  have hstart : ∀ x : SwIn, (((m.putBit a (i % 32) level).setSwin i x).chatterStart k i).swEdge i = (x.raw, x.lastAt) := fun x =>
    (Mod.swEdge_congr (Mod.chatterStart_inp _ _ _) i).trans (Mod.swEdge_setSwin _ _ _)
  generalize hx : ({ raw := level, qual := (m.swin i).qual, lastAt := k.raw, away := _, moves := _ } : SwIn) = x
  split
  · rw [Mod.swEdge_inputQualify, hstart, ← hx]
  · rw [hstart, ← hx]

/-! ## Ends of moves and stops -/

theorem Mod.mst_congr {m n : Mod} {c : Nat} (h : m.rd (R.MOT_CH_STAT c) = n.rd (R.MOT_CH_STAT c)) : m.mst c = n.mst c := Mod.fld_congr h

/-- A channel's state reads as set. -/
theorem Mod.mst_setMst (m : Mod) (c st : Nat) : (m.setMst c st).mst c = st % 16 :=
  Mod.fld_setF m (F.MOT_CH_STAT_STATE c) st (by simp [F.MOT_CH_STAT_STATE]) (by simp [F.MOT_CH_STAT_STATE])

/-- A flag of a channel's status above its state leaves the state. -/
theorem Mod.mst_setB_flag (m : Mod) (f : Fld) (b : Bool) (c : Nat) (hlo : 4 ≤ f.lo) (hhi : f.lo ≤ f.hi) : (m.setB f b).mst c = m.mst c :=
  Mod.fld_setB_ne m f b hhi (by simp [F.MOT_CH_STAT_STATE]) (.inr (.inr (by simp [F.MOT_CH_STAT_STATE]; omega)))

@[simp] theorem Mod.mst_setMch (m : Mod) (c : Nat) (x : MotCh) (q : Nat) : (m.setMch c x).mst q = m.mst q := Mod.mst_congr (Mod.rd_mot _ _ _)

@[simp] theorem Mod.mch_setB (m : Mod) (f : Fld) (b : Bool) (q : Nat) : (m.setB f b).mch q = m.mch q := (rfl)

/-- The result of a command that ended leaves the channel's state. -/
theorem Mod.mst_motEnd (m : Mod) (k : Clock) (c st : Nat) : (m.motEnd k c st).mst c = m.mst c := by
  simp only [Mod.motEnd]
  split
  · rfl
  · refine (Mod.mst_congr (Mod.rd_result_ne _ _ _ _ _ _ _ _ _ ?_ ?_ ?_ ?_)).trans (Mod.mst_setMch _ _ _ _)
    all_goals simp only [R.MOT_CH_STAT, R.RING_DROP_CNT, R.RING_STAT, R.RING_IRQ_STAT, R.KEN_STAT]; omega

/-- A rover's service record shows in no register. -/
theorem Mod.rd_setSrv (m : Mod) (r : Nat) (x : ShepRover) (a : Nat) : (m.setSrv r x).rd a = m.rd a := (rfl)

/-- At rest a channel's state stays. -/
theorem Mod.mst_restEnd (m : Mod) (c : Nat) : (m.restEnd c).mst c = m.mst c := by
  have hflags : ∀ x, (((((m.setB (F.MOT_CH_STAT_HEEL_REQ c) false).setB (F.MOT_CH_STAT_PENDING_LOWER c) false).setMch c x).setB
      (F.MOT_CH_STAT_REVERSING c) false)).mst c = m.mst c := fun x => by
    rw [Mod.mst_setB_flag _ _ _ _ (by simp [F.MOT_CH_STAT_REVERSING]) (by simp [F.MOT_CH_STAT_REVERSING])]
    rw [Mod.mst_setMch, Mod.mst_setB_flag _ _ _ _ (by simp [F.MOT_CH_STAT_PENDING_LOWER]) (by simp [F.MOT_CH_STAT_PENDING_LOWER]),
      Mod.mst_setB_flag _ _ _ _ (by simp [F.MOT_CH_STAT_HEEL_REQ]) (by simp [F.MOT_CH_STAT_HEEL_REQ])]
  simp only [Mod.restEnd]
  split
  · refine (Mod.mst_congr ((Mod.rd_setSrv _ _ _ _).trans (Mod.rd_setB_ne _ _ _ ?_))).trans (hflags _)
    simp only [R.MOT_CH_STAT, F.SHEP_RV_STAT_HEEL_REQ, R.SHEP_RV_STAT]
    omega
  · exact hflags _

/-- A channel set to rest whose command ends is at rest. -/
theorem Mod.mst_ended (m : Mod) (k : Clock) (c st : Nat) : (((m.setMst c 1).motEnd k c st).restEnd c).mst c = 1 := by
  rw [Mod.mst_restEnd, Mod.mst_motEnd, Mod.mst_setMst]

/-- A move that is done ends at rest, with its event. -/
theorem Mod.moveEnd_moving {c : Nat} (hdone : m.chDone k c = true) (hst : m.mst c = 2) :
    (m.moveEnd k c).mst c = 1 ∧ (m.moveEnd k c).bit (R.MOT_CH_EVT c) 0 = true := by
  have hirq : R.MOT_CH_EVT c ≠ R.RING_IRQ_STAT := by unfold R.MOT_CH_EVT R.RING_IRQ_STAT; omega
  simp only [Mod.moveEnd, hdone, hst, Bool.not_true, Bool.false_eq_true, if_false, OfNat.ofNat_ne_one, false_and, if_true]
  constructor
  · refine (Mod.mst_congr ?_).trans (m.mst_ended k c (m.mch c).status)
    refine (Mod.rd_mot _ _ _).trans ((Mod.rd_inc _ _ _).trans ((if_neg ?_).trans (Mod.rd_evt_ne _ _ _ _ _ ?_ ?_)))
    all_goals simp only [R.MOT_CH_STAT, R.MOT_CH_MOVE_CNT, R.MOT_CH_EVT, R.RING_IRQ_STAT]; omega
  · refine (Mod.bit_congr ?_).trans (Mod.bit_evt (((m.setMst c 1).motEnd k c (m.mch c).status).restEnd c) (R.MOT_CH_EVT c) (R.MOT_CH_EVT_EN c) 0 23
      (by decide) hirq)
    refine (Mod.rd_mot _ _ _).trans ((Mod.rd_inc _ _ _).trans (if_neg ?_))
    simp only [R.MOT_CH_MOVE_CNT, R.MOT_CH_EVT]; omega

/-- Beyond the homing range a stop is asked for and the search has failed (R344). -/
theorem Mod.homingRange_past {c : Nat} {h : Homing} (hh : (m.mch c).homing = some h) (hst : m.mst c = 3) (hph : h.phase = 2)
    (hfar : (homeRange c : Int) * posU ≤ ((m.chNow k c).p - h.from_).natAbs) :
    (m.homingRange k c).on (F.MOT_CH_STAT_HEEL_REQ c) = true ∧ ((m.homingRange k c).mch c).status = 0x000A := by
  simp only [Mod.homingRange, hh, if_pos (And.intro hst (And.intro hph hfar))]
  constructor
  · rw [Mod.on_setB_ne _ _ _ (by simp [F.MOT_CH_STAT_HOMED]) (by simp [F.MOT_CH_STAT_HEEL_REQ]) (by simp [F.MOT_CH_STAT_HOMED, F.MOT_CH_STAT_HEEL_REQ]),
      Mod.on_setB _ _ _ (by simp [F.MOT_CH_STAT_HEEL_REQ]) (by simp [F.MOT_CH_STAT_HEEL_REQ])]
  · rw [Mod.mch_setB, Mod.mch_setB, Mod.mch_setMch, if_pos rfl]

/-- Settles O36: inputs, homing and the ends of moves act where their conditions hold. -/
theorem inputsAndEnds : Obligations.InputsAndEnds := by
  refine ⟨fun s dt i level hup hi hraw hfilt => ?_, fun s dt i hup hi => ?_, fun s dt i hup hi hchat hstable => ?_,
    fun s dt ch h hup hh hst hph hfar => ?_, fun s dt ch hup hch hidx hdone hst => ?_, fun s dt ch hup hch hidx hdone hst => ?_⟩
  all_goals have hup' : s.found.motUp = true := hup
  · exact answers_of_guard rfl (by rw [hup', decide_eq_true hi]; rfl)
      (Prod.ext_iff.mp (Mod.swEdge_inputEdge (m := s.found) (k := s.now dt) hraw))
  · exact does_of_guard rfl (by rw [hup', decide_eq_true hi]; rfl) rfl
  · exact does_of_guard rfl (by rw [hup', decide_eq_true hi]; rfl) (if_pos (by simpa using ⟨hchat, hstable⟩))
  · exact answers_of_guard rfl hup' (Mod.homingRange_past (m := s.found) (k := s.now dt) hh hst hph hfar)
  · exact answers_of_guard rfl hup' (Mod.moveEnd_moving (m := s.found) (k := s.now dt) hdone hst)
  · refine answers_of_guard rfl hup' ?_
    have hst' : s.found.mst ch = 4 ∨ s.found.mst ch = 5 := hst
    have hdone' : s.found.chDone (s.now dt) ch = true := hdone
    rw [Mod.stopEnd, if_pos (by simpa [hdone'] using hst')]
    exact Mod.mst_ended s.found _ ch _

end Sys2Proof.Machine
end

section
/-! SUPPORT. AIR, sending: airtimes (R366), frames sent and counted (R369, R398), and each kind of frame (R366, R376, R379, R382, R395). -/

namespace Sys2Proof.Machine

variable {m : Mod} {k : Clock}

/-! ## Airtimes -/

@[simp] theorem le_length (n v : Nat) : (le n v).length = n := by
  induction n generalizing v with
  | zero => rfl
  | succ n ih => simp [le, ih]

theorem symBits_pos (code : Nat) : 0 < symBits code := by
  match code with
  | 0 | 1 | 2 | 3 | 4 | 5 | 6 | 7 => decide
  | n + 8 => exact (by decide : 0 < 24)

theorem tagLen_le (ver : Nat) : tagLen ver ≤ 16 := by unfold tagLen; split <;> [decide; (split <;> decide)]

theorem hdrLen_le (ver : Nat) : hdrLen ver ≤ 20 := by unfold hdrLen; split <;> decide

theorem frameLen_le (ver n : Nat) : frameLen ver n ≤ n + 36 := by
  have ht := tagLen_le ver
  have hh := hdrLen_le ver
  unfold frameLen
  omega

/-- A frame of a wideband path of up to 1600 bytes is on the air for less than 200 ms (R366). -/
theorem wbAir_le (w c : Nat) {n : Nat} (h : n ≤ 1600) : wbAir w c n ≤ 200000 := by
  have hb := symBits_pos c
  have hsym : (22 + 8 * n + symBits c - 1) / symBits c ≤ 22 + 8 * n := by
    refine Nat.div_le_of_le_mul ?_
    obtain ⟨b, hb'⟩ := Nat.exists_eq_succ_of_ne_zero (Nat.ne_of_gt hb)
    have hmul : b ≤ b * (22 + 8 * n) := Nat.le_mul_of_pos_right b (by omega)
    have hsucc : symBits c * (22 + 8 * n) = b * (22 + 8 * n) + (22 + 8 * n) := by rw [hb', Nat.succ_mul]
    omega
  simp only [wbAir]
  split <;> omega

/-- A frame of the sub-GHz path of up to 1600 bytes is on the air for less than 200 ms (R395). -/
theorem Mod.sgAir_le (m : Mod) {n : Nat} (h : n ≤ 1600) : m.sgAir n ≤ 200000 := by
  have hpre : m.fld F.AIR_SG_CFG_PRE < 16 := bitsOf_lt _ 7 4
  simp only [Mod.sgAir]
  split <;> omega

theorem airElement_length (type rover : Nat) (body : List Byte) : (airElement type rover body).length ≤ body.length + 7 := by
  simp [airElement]
  omega

@[simp] theorem Mod.authBytes_length (m : Mod) (b : Bool) : (m.authBytes b).length = 32 := by simp [Mod.authBytes, upto]

/-! ## A frame that is sent -/

/-- Showing a band's budget writes that band's own registers. -/
theorem Mod.budShow_keeps {β : Type} (g : Mod → β) (k : Clock) (b : Nat)
    (hg : ∀ m a v, a = R.AIR_BUD_USED b ∨ a = R.AIR_BUD_DROP b ∨ a = R.AIR_BUD_DWELL b → g (m.wr a v) = g m) (m : Mod) :
    g (m.budShow k b) = g m := by
  have hshow : ∀ v, g (((m.wr (R.AIR_BUD_USED b) (binSum (m.binsOf k b) / 1000 % 4194304)).wr (R.AIR_BUD_DROP b)
      (binSum ((m.wr (R.AIR_BUD_USED b) (binSum (m.binsOf k b) / 1000 % 4194304)).binsOf k (b + 3)) / 1000 % 4194304)).wr
        (R.AIR_BUD_DWELL b) v) = g m := fun v => by
    rw [hg _ _ _ (.inr (.inr rfl)), hg _ _ _ (.inr (.inl rfl)), hg _ _ _ (.inl rfl)]
  simp only [Mod.budShow]
  split
  · split
    · subst b; exact hshow _
    · exact hshow _
  · exact hshow _

/-- Airtime used is told in the bins, the sub-GHz dwell, the superframe's sum and the band's registers. -/
theorem Mod.budUse_keeps {β : Type} (g : Mod → β) (k : Clock) (b us : Nat) (drop : Bool)
    (hwr : ∀ m a v, a = R.AIR_BUD_USED b ∨ a = R.AIR_BUD_DROP b ∨ a = R.AIR_BUD_DWELL b → g (m.wr a v) = g m)
    (hbin : ∀ (m : Mod) i, g (m.binAdd k i us) = g m) (hperf : ∀ (m : Mod) i n, g (m.perfAdd i n) = g m)
    (hsf : ∀ (m : Mod) l, g { m with air := { m.air with sfUs := l } } = g m)
    (hdw : ∀ (m : Mod) l, g { m with air := { m.air with dwell := l } } = g m) (m : Mod) : g (m.budUse k b us drop) = g m := by
  simp only [Mod.budUse]
  rw [Mod.budShow_keeps g k b hwr, hperf]
  have hbins : g (if drop then (m.binAdd k b us).binAdd k (b + 3) us else m.binAdd k b us) = g m := by
    split
    · rw [hbin, hbin]
    · rw [hbin]
  generalize (if drop then (m.binAdd k b us).binAdd k (b + 3) us else m.binAdd k b us) = n at hbins ⊢
  have hsum := (hsf n (setAt n.air.sfUs b (nth 0 n.air.sfUs b + us))).trans hbins
  split
  · split
    · exact (hdw { n with air := { n.air with sfUs := setAt n.air.sfUs b (nth 0 n.air.sfUs b + us) } } _).trans hsum
    · exact hsum
  · exact hsum

/-- What the budgets' registers leave: everything outside their block. -/
theorem Mod.rd_budUse (m : Mod) (k : Clock) {b : Nat} (us : Nat) (drop : Bool) {x : Nat} (hb : b ≤ 2) (hx : x < 0x80100 ∨ 0x80160 ≤ x) :
    (m.budUse k b us drop).rd x = m.rd x := by
  refine Mod.budUse_keeps (fun m => m.rd x) k b us drop (fun m a v ha => Mod.rd_wr_ne _ _ _ ?_) (fun _ _ => rfl) (fun _ _ _ => rfl)
    (fun _ _ => rfl) (fun _ _ => rfl) m
  rcases ha with rfl | rfl | rfl <;> simp only [R.AIR_BUD_USED, R.AIR_BUD_DROP, R.AIR_BUD_DWELL] <;> omega

/-- AIR without the tallies of airtime and the sequence numbers: what sending a frame leaves. -/
def AirSt.sansTally (a : AirSt) : AirSt := { a with sfUs := [], dwell := [], seq := [] }

/-- What sending a frame leaves of the module: all but registers, outputs, performance counts and tallies. -/
structure SendLeaves (m t : Mod) : Prop where
  air : t.air.sansTally = m.air.sansTally
  shep : t.shep = m.shep
  mot : t.mot = m.mot
  pwr : t.pwr = m.pwr
  sw : t.sw = m.sw

theorem SendLeaves.of_budUse (m : Mod) (k : Clock) (b us : Nat) (drop : Bool) : SendLeaves m (m.budUse k b us drop) where
  air := Mod.budUse_keeps (fun m => m.air.sansTally) k b us drop (fun _ _ _ _ => rfl) (fun _ _ => rfl) (fun _ _ _ => rfl) (fun _ _ => rfl)
    (fun _ _ => rfl) m
  shep := Mod.budUse_keeps Mod.shep k b us drop (fun _ _ _ _ => rfl) (fun _ _ => rfl) (fun _ _ _ => rfl) (fun _ _ => rfl) (fun _ _ => rfl) m
  mot := Mod.budUse_keeps Mod.mot k b us drop (fun _ _ _ _ => rfl) (fun _ _ => rfl) (fun _ _ _ => rfl) (fun _ _ => rfl) (fun _ _ => rfl) m
  pwr := Mod.budUse_keeps Mod.pwr k b us drop (fun _ _ _ _ => rfl) (fun _ _ => rfl) (fun _ _ _ => rfl) (fun _ _ => rfl) (fun _ _ => rfl) m
  sw := Mod.budUse_keeps Mod.sw k b us drop (fun _ _ _ _ => rfl) (fun _ _ => rfl) (fun _ _ _ => rfl) (fun _ _ => rfl) (fun _ _ => rfl) m

theorem SendLeaves.trans {m n t : Mod} (h : SendLeaves m n) (h' : SendLeaves n t) : SendLeaves m t :=
  ⟨h'.air.trans h.air, h'.shep.trans h.shep, h'.mot.trans h.mot, h'.pwr.trans h.pwr, h'.sw.trans h.sw⟩

/-- A field of AIR other than the tallies stays. -/
theorem SendLeaves.field {β : Type} {m t : Mod} (h : SendLeaves m t) (g : AirSt → β) (hg : ∀ a : AirSt, g a.sansTally = g a) : g t.air = g m.air :=
  (hg t.air).symm.trans ((congrArg g h.air).trans (hg m.air))

theorem bandOf_le {path : Nat} (h : path ≤ 2) : bandOf path ≤ 2 := by
  unfold bandOf
  split <;> omega

/-- The channel and the power of a path follow from registers and the region. -/
theorem Mod.airPlace_congr {m n : Mod} (hr : m.air.region = n.air.region) (h0 : m.rd R.AIR_WB0_CFG = n.rd R.AIR_WB0_CFG)
    (h1 : m.rd R.AIR_WB1_CFG = n.rd R.AIR_WB1_CFG) (hp : ∀ x, x = R.AIR_WB0_PWR ∨ x = R.AIR_WB1_PWR ∨ x = R.AIR_SG_PWR → m.rd x = n.rd x)
    (path : Nat) : m.airChan k path = n.airChan k path ∧ m.airPower path = n.airPower path := by
  constructor
  · simp only [Mod.airChan, Mod.wbCfg, hr, h0, h1]
  · have hset : m.rd (if path = 0 then R.AIR_WB0_PWR else if path = 1 then R.AIR_WB1_PWR else R.AIR_SG_PWR)
        = n.rd (if path = 0 then R.AIR_WB0_PWR else if path = 1 then R.AIR_WB1_PWR else R.AIR_SG_PWR) := by
      refine hp _ ?_
      split
      · exact .inl rfl
      · split
        · exact .inr (.inl rfl)
        · exact .inr (.inr rfl)
    simp only [Mod.airPower, hset, hr]

/-- The module whose frame has been signed: the Kennel's operation, the path's next SEQ and the frame are counted (R369). -/
def Mod.signedFrame (m : Mod) (path : Nat) : Mod :=
  (Mod.inc { m.inc R.KEN_OP_CNT with air := { m.air with seq := setAt m.air.seq path ((nth 0 m.air.seq path + 1) % 65536) } } R.AIR_TX_CNT).perfAdd
    (perfAir 3) 1

theorem Mod.rd_signedFrame (m : Mod) (path x : Nat) :
    (m.signedFrame path).rd x = if x = R.AIR_TX_CNT then (m.rd x + 1) % 4294967296 else if x = R.KEN_OP_CNT then (m.rd x + 1) % 4294967296 else m.rd x := by
  refine (Mod.rd_inc _ _ _).trans ?_
  have hop : ∀ y, Mod.rd { m.inc R.KEN_OP_CNT with air := { m.air with seq := setAt m.air.seq path ((nth 0 m.air.seq path + 1) % 65536) } } y
      = if y = R.KEN_OP_CNT then (m.rd R.KEN_OP_CNT + 1) % 4294967296 else m.rd y := fun y => Mod.rd_inc _ _ _
  split
  · subst x
    rw [hop, if_neg (by decide)]
  · rw [hop]
    split
    · subst x; rfl
    · rfl

theorem SendLeaves.of_signedFrame (m : Mod) (path : Nat) : SendLeaves m (m.signedFrame path) := ⟨rfl, rfl, rfl, rfl, rfl⟩

/-- Under a key that can be used a frame is signed, its airtime told, and sent. -/
theorem Mod.airSend_signed (ver type path grain t us : Nat) (drop : Bool) (body : List Byte)
    (hkey : m.slotAllows (m.fld F.AIR_KEY_CTL_BCAST) [1] 0 1 = true) :
    ∃ data, m.airSend k ver type path grain t us drop body
      = ((m.signedFrame path).budUse k (bandOf path) us drop).emit (.radio path type grain
        (((m.signedFrame path).budUse k (bandOf path) us drop).airChan k path) (((m.signedFrame path).budUse k (bandOf path) us drop).airPower path)
        data) := by
  simp only [Mod.airSend, Mod.tagBy, Mod.useKey, hkey, if_true]
  exact ⟨_, rfl⟩

/-- A frame signed under a key that can be used is sent on its path and counted; nothing else shows outside the Kennel's count and the
budgets. -/
theorem Mod.airSend_spec (ver type grain t us : Nat) (drop : Bool) (body : List Byte) {path : Nat} (hpath : path ≤ 2)
    (hkey : m.slotAllows (m.fld F.AIR_KEY_CTL_BCAST) [1] 0 1 = true) :
    (∃ data, (m.airSend k ver type path grain t us drop body).out
        = m.out ++ [.radio path type grain (m.airChan k path) (m.airPower path) data])
      ∧ (m.airSend k ver type path grain t us drop body).rd R.AIR_TX_CNT = (m.rd R.AIR_TX_CNT + 1) % 4294967296
      ∧ (∀ x, x ≠ R.AIR_TX_CNT → x ≠ R.KEN_OP_CNT → x < 0x80100 ∨ 0x80160 ≤ x →
        (m.airSend k ver type path grain t us drop body).rd x = m.rd x)
      ∧ SendLeaves m (m.airSend k ver type path grain t us drop body) := by
  obtain ⟨data, heq⟩ := Mod.airSend_signed (m := m) (k := k) ver type path grain t us drop body hkey
  have hl := (SendLeaves.of_signedFrame m path).trans (.of_budUse (m.signedFrame path) k (bandOf path) us drop)
  have hrd : ∀ x, x < 0x80100 ∨ 0x80160 ≤ x → ((m.signedFrame path).budUse k (bandOf path) us drop).rd x = (m.signedFrame path).rd x :=
    fun x hx => Mod.rd_budUse _ k us drop (bandOf_le hpath) hx
  have hout : ((m.signedFrame path).budUse k (bandOf path) us drop).out = m.out :=
    Mod.budUse_keeps Mod.out k (bandOf path) us drop (fun _ _ _ _ => rfl) (fun _ _ => rfl) (fun _ _ _ => rfl) (fun _ _ => rfl) (fun _ _ => rfl) _
  generalize (m.signedFrame path).budUse k (bandOf path) us drop = n at heq hl hrd hout
  have hne : ∀ x, x ≠ R.AIR_TX_CNT → x ≠ R.KEN_OP_CNT → x < 0x80100 ∨ 0x80160 ≤ x → n.rd x = m.rd x := fun x h1 h2 hx => by
    rw [hrd x hx, Mod.rd_signedFrame, if_neg h1, if_neg h2]
  have hreg : n.air.region = m.air.region := hl.field AirSt.region fun _ => rfl
  obtain ⟨hchan, hpow⟩ := Mod.airPlace_congr (k := k) hreg (hne _ (by decide) (by decide) (by decide)) (hne _ (by decide) (by decide) (by decide))
    (fun x hx => by rcases hx with rfl | rfl | rfl <;> exact hne _ (by decide) (by decide) (by decide)) path
  rw [heq]
  refine ⟨⟨data, ?_⟩, ?_, hne, ⟨hl.air, hl.shep, hl.mot, hl.pwr, hl.sw⟩⟩
  · rw [← hchan, ← hpow, ← hout]
    rfl
  · exact (hrd R.AIR_TX_CNT (by decide)).trans ((Mod.rd_signedFrame _ _ _).trans (if_pos rfl))

/-! ## Each kind of frame -/

/-- What a frame that goes out shows: itself alone, counted. -/
def SendsOne (m t : Mod) (k : Clock) (path type grain : Nat) : Prop :=
  (∃ data, t.out = [.radio path type grain (m.airChan k path) (m.airPower path) data]) ∧ t.rd R.AIR_TX_CNT = (m.rd R.AIR_TX_CNT + 1) % 4294967296

/-- With a key that can be used a frame goes out; what it leaves is left. -/
theorem Mod.airSend_sends (ver type grain t us : Nat) (drop : Bool) (body : List Byte) {path : Nat} (hpath : path ≤ 2) (hout : m.out = [])
    (hkey : m.slotAllows (m.fld F.AIR_KEY_CTL_BCAST) [1] 0 1 = true) :
    SendsOne m (m.airSend k ver type path grain t us drop body) k path type grain
      ∧ (∀ x, x ≠ R.AIR_TX_CNT → x ≠ R.KEN_OP_CNT → x < 0x80100 ∨ 0x80160 ≤ x →
        (m.airSend k ver type path grain t us drop body).rd x = m.rd x)
      ∧ SendLeaves m (m.airSend k ver type path grain t us drop body) := by
  obtain ⟨⟨data, ho⟩, hcnt, hrd, hl⟩ := m.airSend_spec (k := k) ver type grain t us drop body hpath hkey
  rw [hout] at ho
  exact ⟨⟨⟨data, ho⟩, hcnt⟩, hrd, hl⟩

/-- A token or beacon whose airtime the budget allows goes out. -/
theorem Mod.tokenSend_sends {c type : Nat} {body : List Byte} (hc : c < 2) (hbody : body.length ≤ 1500) (hout : m.out = [])
    (hfree : m.pathFree k c false) :
    (m.tokenSend k c type body).2 = true ∧ SendsOne m (m.tokenSend k c type body).1 k c type (100 * k.phase)
      ∧ (∀ x, x ≠ R.AIR_TX_CNT → x ≠ R.KEN_OP_CNT → x < 0x80100 ∨ 0x80160 ≤ x → (m.tokenSend k c type body).1.rd x = m.rd x)
      ∧ (m.tokenSend k c type body).1.pwr = m.pwr := by
  obtain ⟨hkey, hbud⟩ := hfree
  have hlen := frameLen_le (m.floorVer c) body.length
  have hus := wbAir_le (wbWidth (m.wbCfg c)) (wbCtrl (m.wbCfg c)) (n := frameLen (m.floorVer c) body.length) (by omega)
  have hbud' : Mod.budOk { m with air := { m.air with tokTick := setAt m.air.tokTick c (some k.tickNo) } } k (bandOf c)
      (wbAir (wbWidth (m.wbCfg c)) (wbCtrl (m.wbCfg c)) (frameLen (m.floorVer c) body.length)) false = true := hbud _ hus
  simp only [Mod.tokenSend, hbud', Bool.not_true, Bool.false_eq_true, if_false]
  obtain ⟨hs, hrd, hl⟩ := Mod.airSend_sends (m := { m with air := { m.air with tokTick := setAt m.air.tokTick c (some k.tickNo) } }) (k := k)
    (m.floorVer c) type (100 * k.phase) (k.grainNs 0) (wbAir (wbWidth (m.wbCfg c)) (wbCtrl (m.wbCfg c)) (frameLen (m.floorVer c) body.length))
    false body (path := c) (by omega) hout hkey
  exact ⟨trivial, hs, hrd, hl.pwr⟩

theorem Mod.tokenTx_sends {c : Nat} (hc : c < 2) (hph : k.phase ≠ 0) (hmay : m.mayToken = true) (hslot : m.tokenSlot k c = true) (hout : m.out = [])
    (hfree : m.pathFree k c false) : SendsOne m (m.tokenTx k c) k c 2 (100 * k.phase) ∧ (m.tokenTx k c).pwr.lastToken = k.raw := by
  have hlen : (le 4 k.tick ++ le 2 k.sf ++ le 1 0 ++ le 1 (m.airFlags false) ++ m.authBytes true).length ≤ 1500 := by simp
  obtain ⟨hsent, hs, -, -⟩ := Mod.tokenSend_sends (type := 2) hc hlen hout hfree
  simp only [Mod.tokenTx, hph, hmay, hslot, Bool.not_true, Bool.false_eq_true, or_self, if_false, hsent, if_true, and_true]
  exact hs

/-- What lets a token out follows from power and these registers. -/
theorem Mod.mayToken_congr {m n : Mod} (hp : m.pwr = n.pwr)
    (hr : ∀ x, x = R.BRACE_STAT ∨ x = R.TIME_STAT ∨ x = R.KEN_STAT ∨ x = R.PWR_STAT → m.rd x = n.rd x) : m.mayToken = n.mayToken := by
  have hrole : m.role = n.role := Mod.fld_congr (hr _ (.inl rfl))
  have htime : m.tstate = n.tstate := Mod.fld_congr (hr _ (.inr (.inl rfl)))
  have hken : m.kenOk = n.kenOk := by
    simp only [Mod.kenOk, Mod.on, Mod.fld_congr (m := m) (n := n) (f := F.KEN_STAT_STATE) (hr _ (.inr (.inr (.inl rfl)))),
      Mod.fld_congr (m := m) (n := n) (f := F.KEN_STAT_VAL_READY) (hr _ (.inr (.inr (.inl rfl))))]
  have hpst : m.pstate = n.pstate := Mod.fld_congr (hr _ (.inr (.inr (.inr rfl))))
  simp only [Mod.mayToken, Mod.mayBeacon, Mod.running, Mod.serves, Mod.awake, hp, hrole, htime, hken, hpst]

theorem Mod.resyncEntries_length (m : Mod) (c : Nat) : (m.resyncEntries c).length ≤ 8 := by
  simp [Mod.resyncEntries]

@[simp] theorem Mod.tcEntry_length (m : Mod) (k : Clock) (r : Nat) : (m.tcEntry k r).length = 4 := by simp [Mod.tcEntry]

/-- What a frame's records in the module leave: outputs, the frame count and power. -/
def Mod.onAir (m : Mod) : List Out × Nat × PwrSt := (m.out, m.rd R.AIR_TX_CNT, m.pwr)

theorem Mod.onAir_setB {f : Fld} (h : R.AIR_TX_CNT ≠ f.off) (m : Mod) (b : Bool) : (m.setB f b).onAir = m.onAir := by
  simp only [Mod.onAir, Mod.rd_setB_ne m f b h, Mod.setB_out, Mod.setB_pwr]

/-- The rovers a beacon brings a TC entry. -/
def Mod.beaconTcs (m : Mod) (c : Nat) : List Nat :=
  ((m.roundRobin c (nth 255 m.air.tcPtr c)).filter fun r => m.on (F.ROVER_LINK_SLOT_VALID r) && !m.air.noTc.contains r).take 32

/-- A beacon announces a step that this path has not announced. -/
def Mod.beaconStep (m : Mod) (c : Nat) : Bool := m.on F.AIR_STAT_STEP_RESYNC && !m.air.stepDone.contains c

/-- The content of a beacon (R366). -/
def Mod.beaconBody (m : Mod) (k : Clock) (c : Nat) : List Byte :=
  le 4 k.tick ++ le 2 k.sf ++ le 2 (m.rd R.AIR_MAP_SERIAL % 65536) ++ le 2 (wbCentre (m.wbCfg c)) ++ le 1 (wbWidth (m.wbCfg c))
    ++ le 1 (m.airFlags (m.beaconStep c)) ++ m.authBytes m.mayToken ++ le 1 m.air.region ++ le 1 (m.resyncEntries c).length
    ++ le 1 (m.beaconTcs c).length ++ le 1 0 ++ ((m.resyncEntries c).flatMap fun e => le 1 e.1 ++ le 1 e.2)
    ++ ((m.beaconTcs c).flatMap fun r => m.tcEntry k r)

theorem Mod.beaconBody_length (m : Mod) (k : Clock) (c : Nat) : (m.beaconBody k c).length ≤ 1500 := by
  have hrs := m.resyncEntries_length c
  have htc : (m.beaconTcs c).length ≤ 32 := List.length_take_le _ _
  simp [Mod.beaconBody, List.length_flatMap]
  omega

/-- What a beacon marks: the windows it assigned, the rovers it brought an entry, the path that announced the step. -/
def Mod.beaconMarks (k : Clock) (c : Nat) (rs : List (Nat × Nat)) (tc : List Nat) (step : Bool) (m : Mod) : Mod :=
  let m := m.each (rs.filter fun e => e.2 != 255) fun m e =>
    let x := m.arv e.1
    m.setArv e.1 { x with wins := (x.wins.filter fun (w : Nat × Nat) => decide (k.sfNo ≤ w.1)) ++ [(k.sfNo + 1, e.2)], lastWin := e.2 }
  let m := m.each tc fun m r => m.setArv r { m.arv r with tcSf := k.sf }
  let m : Mod := match tc.getLast? with | some r => { m with air := { m.air with tcPtr := setAt m.air.tcPtr c r } } | none => m
  if !step then m
  else
    let done := c :: m.air.stepDone
    let m : Mod := { m with air := { m.air with stepDone := done } }
    if m.wbOn.all fun c => done.contains c then ({ m with air := { m.air with stepDone := [] } }).setB F.AIR_STAT_STEP_RESYNC false else m

theorem Mod.onAir_beaconMarks (k : Clock) (c : Nat) (rs : List (Nat × Nat)) (tc : List Nat) (step : Bool) (m : Mod) :
    (m.beaconMarks k c rs tc step).onAir = m.onAir := by
  have hwins := Mod.each_keeps m Mod.onAir (f := fun m e => m.setArv e.1 { m.arv e.1 with
    wins := ((m.arv e.1).wins.filter fun (w : Nat × Nat) => decide (k.sfNo ≤ w.1)) ++ [(k.sfNo + 1, e.2)], lastWin := e.2 })
    (fun _ _ => rfl) (rs.filter fun e => e.2 != 255)
  simp only [Mod.beaconMarks]
  generalize m.each (rs.filter fun e => e.2 != 255) _ = n at hwins ⊢
  have htcs := Mod.each_keeps n Mod.onAir (f := fun m r => m.setArv r { m.arv r with tcSf := k.sf }) (fun _ _ => rfl) tc
  generalize n.each tc _ = p at htcs ⊢
  have hp : p.onAir = m.onAir := htcs.trans hwins
  have hptr : ∀ a : AirSt, Mod.onAir { p with air := a } = m.onAir := fun _ => hp
  have hstep : ∀ a : AirSt, Mod.onAir (Mod.setB { p with air := a } F.AIR_STAT_STEP_RESYNC false) = m.onAir := fun a =>
    (Mod.onAir_setB (by decide) _ _).trans (hptr a)
  cases tc.getLast? <;> cases step <;> simp only [Bool.not_true, Bool.not_false, Bool.false_eq_true, if_true, if_false]
  · exact hp
  · split
    · exact hstep _
    · exact hptr _
  · exact hptr _
  · split
    · exact hstep _
    · exact hptr _

/-- A beacon is sent, and marks what it brought. -/
theorem Mod.beaconTx_eq {c : Nat} (hph : k.phase = 0) (hmay : m.mayBeacon = true) (hslot : m.tokenSlot k c = true) :
    m.beaconTx k c = if !(m.tokenSend k c 1 (m.beaconBody k c)).2 then (m.tokenSend k c 1 (m.beaconBody k c)).1
      else Mod.beaconMarks k c (m.resyncEntries c) (m.beaconTcs c) (m.beaconStep c)
        (if (m.tokenSend k c 1 (m.beaconBody k c)).1.mayToken
          then { (m.tokenSend k c 1 (m.beaconBody k c)).1 with pwr := { (m.tokenSend k c 1 (m.beaconBody k c)).1.pwr with lastToken := k.raw } }
          else (m.tokenSend k c 1 (m.beaconBody k c)).1) := by
  rw [Mod.beaconTx, if_neg (by simp [hph, hmay, hslot])]
  rfl

theorem Mod.beaconTx_sends {c : Nat} (hc : c < 2) (hph : k.phase = 0) (hmay : m.mayBeacon = true) (hslot : m.tokenSlot k c = true) (hout : m.out = [])
    (hfree : m.pathFree k c false) :
    SendsOne m (m.beaconTx k c) k c 1 0 ∧ (m.beaconTx k c).pwr.lastToken = (if m.mayToken then k.raw else m.pwr.lastToken) := by
  rw [Mod.beaconTx_eq hph hmay hslot]
  obtain ⟨hsent, hs, hrd, hpwr⟩ := Mod.tokenSend_sends (type := 1) hc (m.beaconBody_length k c) hout hfree
  generalize m.tokenSend k c 1 (m.beaconBody k c) = r at hsent hs hrd hpwr ⊢
  have hmt : r.1.mayToken = m.mayToken := Mod.mayToken_congr hpwr fun x hx => by
    rcases hx with rfl | rfl | rfl | rfl <;> exact hrd _ (by decide) (by decide) (by decide)
  obtain ⟨⟨data, hdata⟩, hcnt⟩ := hs
  rw [hph] at hdata
  simp only [hsent, Bool.not_true, Bool.false_eq_true, if_false, hmt]
  generalize hn : (if m.mayToken = true then ({ r.1 with pwr := { r.1.pwr with lastToken := k.raw } } : Mod) else r.1) = n
  have hair := n.onAir_beaconMarks k c (m.resyncEntries c) (m.beaconTcs c) (m.beaconStep c)
  generalize Mod.beaconMarks k c (m.resyncEntries c) (m.beaconTcs c) (m.beaconStep c) n = t at hair ⊢
  simp only [Mod.onAir, Prod.mk.injEq] at hair
  obtain ⟨ho, hcnt', hpwr'⟩ := hair
  have hnout : n.out = r.1.out ∧ n.rd R.AIR_TX_CNT = r.1.rd R.AIR_TX_CNT := by rw [← hn]; split <;> exact ⟨rfl, rfl⟩
  refine ⟨⟨⟨data, ho.trans (hnout.1.trans hdata)⟩, hcnt'.trans (hnout.2.trans hcnt)⟩, ?_⟩
  rw [hpwr', ← hn, ← hpwr]
  split <;> rfl

end Sys2Proof.Machine
end

section
/-! SUPPORT. AIR: the frames of the downlink, the host, the sub-GHz path and DROP (R376, R379, R382, R395). -/

namespace Sys2Proof.Machine

variable {m : Mod} {k : Clock}

/-! ## The downlink -/

/-- Of the interrupts and the frames of a channel's downlink block alone. -/
def DownOut (c : Nat) (o : Out) : Prop := (∃ v, o = .msix v) ∨ ∃ grain chan power data, o = .radio c 3 grain chan power data

/-- What the downlink has taken up and sent: the blocks' elements are taken, and only the downlink's frames went out. -/
structure OnlyDown (c : Nat) (m : Mod) : Prop where
  air : m.shep.toAir = []
  task : m.shep.toAirTask = []
  mot : m.mot.toAir = []
  out : ∀ o ∈ m.out, DownOut c o

theorem OnlyDown.congr {c : Nat} {m n : Mod} (h : OnlyDown c m) (hs : n.shep = m.shep) (hm : n.mot = m.mot) (ho : n.out = m.out) : OnlyDown c n :=
  ⟨hs ▸ h.air, hs ▸ h.task, hm ▸ h.mot, ho ▸ h.out⟩

/-- A message of an interrupt may go out with it. -/
theorem OnlyDown.append {c : Nat} {m n : Mod} (h : OnlyDown c m) (hs : n.shep = m.shep) (hm : n.mot = m.mot) {o : Out} (hd : DownOut c o)
    (ho : n.out = m.out ++ [o]) : OnlyDown c n := by
  refine ⟨hs ▸ h.air, hs ▸ h.task, hm ▸ h.mot, fun p hp => ?_⟩
  rw [ho, List.mem_append, List.mem_singleton] at hp
  rcases hp with hp | rfl
  · exact h.out p hp
  · exact hd

theorem OnlyDown.raise {c : Nat} (h : OnlyDown c m) (x : Nat) : OnlyDown c (m.raise x) := by
  simp only [Mod.raise]
  split
  · simp only [Mod.sendMsg]
    split
    · exact h.congr rfl rfl rfl
    · exact h.append rfl rfl (.inl ⟨_, rfl⟩) rfl
  · exact h.congr rfl rfl rfl

theorem OnlyDown.evt {c : Nat} (h : OnlyDown c m) (r e b x : Nat) : OnlyDown c (m.evt r e b x) := by
  simp only [Mod.evt]
  split
  · exact h
  · split
    · exact (h.congr rfl rfl rfl : OnlyDown c (m.setBit r b)).raise x
    · exact h.congr rfl rfl rfl

theorem OnlyDown.inc {c : Nat} (h : OnlyDown c m) (a : Nat) : OnlyDown c (m.inc a) := h.congr rfl rfl rfl
theorem OnlyDown.incBy {c : Nat} (h : OnlyDown c m) (a n : Nat) : OnlyDown c (m.incBy a n) := h.congr rfl rfl rfl
theorem OnlyDown.queue {c : Nat} (h : OnlyDown c m) (q : AirSt) : OnlyDown c { m with air := q } := h.congr rfl rfl rfl

theorem OnlyDown.budDeny {c : Nat} (h : OnlyDown c m) (b : Nat) (drop : Bool) : OnlyDown c (m.budDeny b drop) := by
  simp only [Mod.budDeny]
  split
  · exact (h.inc _).evt ..
  · exact (h.inc _).evt ..

theorem OnlyDown.airSend {c : Nat} (h : OnlyDown c m) (hc : c ≤ 2) (ver grain t us : Nat) (body : List Byte) :
    OnlyDown c (m.airSend k ver 3 c grain t us false body) := by
  by_cases hkey : m.slotAllows (m.fld F.AIR_KEY_CTL_BCAST) [1] 0 1 = true
  · obtain ⟨⟨data, ho⟩, -, -, hl⟩ := m.airSend_spec (k := k) ver 3 grain t us false body hc hkey
    exact h.append hl.shep hl.mot (.inr ⟨_, _, _, _, rfl⟩) ho
  · simp only [Mod.airSend, Mod.tagBy, Mod.useKey, hkey]
    exact (h.inc _).evt ..

theorem OnlyDown.airCollect {c : Nat} (hout : m.out = []) : OnlyDown c (m.airCollect k) :=
  ⟨rfl, rfl, rfl, fun o ho => absurd (show o ∈ m.out from ho) (by rw [hout]; exact List.not_mem_nil)⟩

theorem OnlyDown.rtcmExpire {c : Nat} (h : OnlyDown c m) : OnlyDown c (m.rtcmExpire k) := by
  simp only [Mod.rtcmExpire]
  split
  · exact h
  · exact (h.incBy _ _).queue _

theorem OnlyDown.grantStale {c : Nat} (h : OnlyDown c m) : OnlyDown c (m.grantStale k c) :=
  Mod.each_induct (P := OnlyDown c) _ h fun _ _ _ hm => OnlyDown.evt (OnlyDown.evt (((hm.queue _).queue _).inc _ |>.inc _) ..) ..

/-- What a downlink block sends is its own frames. -/
theorem OnlyDown.downlinkTx {c : Nat} (hc : c < 2) (hout : m.out = []) (hmay : m.mayBeacon = true) (htx : m.airTx c = true)
    (htick : nth none m.air.dlTick c ≠ some k.tickNo) (hlo : (downArea (wbWidth (m.wbCfg c)) k.phase).1 ≤ k.grain)
    (hhi : k.grain < (downArea (wbWidth (m.wbCfg c)) k.phase).1 + (downArea (wbWidth (m.wbCfg c)) k.phase).2) : OnlyDown c (m.downlinkTx k c) := by
  have h0 : OnlyDown c (((m.airCollect k).rtcmExpire k).grantStale k c) := (OnlyDown.airCollect hout).rtcmExpire.grantStale
  rw [Mod.downlinkTx, if_neg (by simp [hmay, htx, htick]; omega)]
  refine Mod.each_induct (P := OnlyDown c) _ ?_ fun n e _ hn => ?_
  · refine OnlyDown.incBy ?_ _ _
    split
    · exact (h0.queue _).queue _
    · exact h0.queue _
  · dsimp only
    split
    · exact (hn.budDeny _ _).incBy _ _
    · exact (hn.airSend (by omega) ..).queue _

/-! ## Frames of the host -/

/-- A frame of the host whose grains are free goes out on its channel, and is then done with that channel (R379). -/
theorem Mod.dataTx_sends {c ver : Nat} {f : AirFrame} (hc : c < 2) (hout : m.out = []) (hmay : m.mayBeacon = true) (htx : m.airTx c = true)
    (hdrop : m.air.drop = none) (hfree : nth 0 m.air.hostFree c ≤ k.tickNo * 100 + k.grain)
    (hf : m.sw.air.find? (fun f => f.chans.contains c) = some f) (hver : ver = (if f.sub = 0 then m.floorVer c else m.roverVer f.sub))
    (hgrains : (grainRange k.grain (grainsOf (wbAir (wbWidth (m.wbCfg c)) (wbDl (m.wbCfg c)) (frameLen ver (airElement 6 f.sub f.data).length)))).all
      (m.hostGrain k c (m.heldGrains c k.phase) (if k.phase = 5 then m.winGrains c k.sfNo else [])) = true)
    (hlen : f.data.length ≤ 1536) (hpath : m.pathFree k c false) :
    SendsOne m (m.dataTx k c) k c 7 (100 * k.phase + k.grain)
      ∧ ∀ g ∈ (m.dataTx k c).sw.air, (g ∈ m.sw.air ∧ g ≠ f) ∨ g = { f with chans := f.chans.filter (· != c) } := by
  obtain ⟨hkey, hbud⟩ := hpath
  have hel := airElement_length 6 f.sub f.data
  have hfl := frameLen_le ver (airElement 6 f.sub f.data).length
  have hus := hbud _ (wbAir_le (wbWidth (m.wbCfg c)) (wbDl (m.wbCfg c)) (n := frameLen ver (airElement 6 f.sub f.data).length) (by omega))
  have hguard : ¬ (!m.mayBeacon ∨ !m.airTx c ∨ m.dropHolds k c k.grain = true ∨ k.tickNo * 100 + k.grain < nth 0 m.air.hostFree c) := by
    simp [hmay, htx, Mod.dropHolds, hdrop]
    exact hfree
  rw [Mod.dataTx, if_neg hguard]
  simp only [hf, ← hver, hgrains, hus, Bool.not_true, Bool.false_eq_true, if_false]
  obtain ⟨hs, -, hl⟩ := m.airSend_sends (k := k) ver 7 (100 * k.phase + k.grain) (k.grainNs k.grain)
    (wbAir (wbWidth (m.wbCfg c)) (wbDl (m.wbCfg c)) (frameLen ver (airElement 6 f.sub f.data).length)) false (airElement 6 f.sub f.data)
    (path := c) (by omega) hout hkey
  refine ⟨hs, fun g hg => ?_⟩
  obtain ⟨o, ho, hog⟩ := List.mem_filterMap.mp hg
  rw [hl.sw] at ho
  by_cases hof : o = f
  · rw [if_pos hof] at hog
    split at hog
    · exact absurd hog (by simp)
    · exact .inr (Option.some.inj hog).symm
  · rw [if_neg hof] at hog
    obtain rfl := Option.some.inj hog
    exact .inl ⟨ho, hof⟩

/-! ## The sub-GHz path -/

/-- A superframe's SG_BEACON goes out once (R395). -/
theorem Mod.sgBeaconTx_sends (hout : m.out = []) (hph : k.phase = 0) (hmay : m.mayBeacon = true) (htx : m.airTx 2 = true)
    (hsf : m.air.sgSf ≠ some k.sfNo) (hdrop : m.sgDropping = false) (hpath : m.pathFree k 2 false) :
    SendsOne m (m.sgBeaconTx k) k 2 5 0 ∧ (m.sgBeaconTx k).air.sgSf = some k.sfNo := by
  obtain ⟨hkey, hbud⟩ := hpath
  let body := le 4 k.tick ++ le 2 k.sf ++ le 1 m.air.region ++ le 1 (m.airFlags (m.on F.AIR_STAT_STEP_RESYNC)) ++ le 4 0
  have hfl := frameLen_le m.sgVer body.length
  have hbody : body.length ≤ 100 := by simp [body]
  let n : Mod := { m with air := { m.air with sgSf := some k.sfNo } }
  have hus : n.budOk k 0 (m.sgAir (frameLen m.sgVer body.length)) false = true := hbud _ (m.sgAir_le (by omega))
  have heq : m.sgBeaconTx k = n.airSend k n.sgVer 5 2 0 (k.grainNs 0) (m.sgAir (frameLen m.sgVer body.length)) false body := by
    rw [Mod.sgBeaconTx, if_neg (by simp [hph, hmay, htx, hsf, hdrop])]
    exact if_neg (by rw [hus]; simp)
  obtain ⟨hs, -, hl⟩ := n.airSend_sends (k := k) n.sgVer 5 0 (k.grainNs 0) (m.sgAir (frameLen m.sgVer body.length)) false body (path := 2) (by decide)
    hout hkey
  rw [heq]
  exact ⟨hs, hl.field AirSt.sgSf fun _ => rfl⟩

/-- The newest correction goes out behind its superframe's beacon, once (R367). -/
theorem Mod.corrTx_sends {tick : Nat} {data : List Byte} (hout : m.out = []) (hmay : m.mayBeacon = true) (hcor : m.mayCorrect = true)
    (htx : m.airTx 2 = true) (hctl : m.on F.AIR_CTL_SG_CORR = true) (hsf : m.air.sgSf = some k.sfNo) (hnone : m.air.corrSf = none)
    (hdrop : m.sgDropping = false) (hrtcm : m.air.rtcm = some (tick, data)) (hlen : data.length ≤ 1000) (hheld : m.air.sgHeld = false)
    (hpath : m.pathFree k 2 false) :
    SendsOne m (m.corrTx k) k 2 6 (100 * k.phase + k.grain) ∧ (m.corrTx k).air.corrSf = some k.sfNo ∧ (m.corrTx k).air.rtcm = none := by
  obtain ⟨hkey, hbud⟩ := hpath
  let body := airElement 4 0 data
  have hel := airElement_length 4 0 data
  have hfl := frameLen_le m.sgVer body.length
  let n : Mod := { m with air := { m.air with corrSf := some k.sfNo, rtcm := none } }
  have hus : n.budOk k 0 (m.sgAir (frameLen m.sgVer body.length)) false = true := hbud _ (m.sgAir_le (by simp only [body] at hfl ⊢; omega))
  have heq : m.corrTx k
      = n.airSend k n.sgVer 6 2 (100 * k.phase + k.grain) (Clock.fullNs k.now) (m.sgAir (frameLen m.sgVer body.length)) false body := by
    rw [Mod.corrTx]
    simp only [hnone]
    rw [if_neg (by simp [hmay, hcor, htx, hctl, hsf, hdrop])]
    simp only [hrtcm]
    rw [if_neg (show ¬ m.air.sgHeld = true by simp [hheld])]
    change (if !n.budOk k 0 (m.sgAir (frameLen m.sgVer body.length)) false then _ else _) = _
    rw [hus]
    rfl
  obtain ⟨hs, -, hl⟩ := n.airSend_sends (k := k) n.sgVer 6 (100 * k.phase + k.grain) (Clock.fullNs k.now)
    (m.sgAir (frameLen m.sgVer body.length)) false body (path := 2) (by decide) hout hkey
  rw [heq]
  exact ⟨hs, hl.field AirSt.corrSf fun _ => rfl, hl.field AirSt.rtcm fun _ => rfl⟩

/-! ## DROP -/

/-- A frame of DROP that is sent is counted with the frames and among the DROPs; DROP itself goes on (R382). -/
theorem Mod.dropSent_spec {path : Nat} (d : AirDrop) (ver t us : Nat) (body : List Byte) (hpath : path ≤ 2) (hout : m.out = [])
    (hkey : m.slotAllows (m.fld F.AIR_KEY_CTL_BCAST) [1] 0 1 = true) :
    let n : Mod := { m with air := { m.air with drop := some d } }
    let t' := (n.airSend k ver 4 path (100 * k.phase + k.grain) t us true body).inc R.AIR_DROP_TX_CNT
    SendsOne m t' k path 4 (100 * k.phase + k.grain) ∧ t'.rd R.AIR_DROP_TX_CNT = (m.rd R.AIR_DROP_TX_CNT + 1) % 4294967296 ∧ t'.air.drop = some d := by
  intro n t'
  obtain ⟨⟨hs, hcnt⟩, hrd, hl⟩ := n.airSend_sends (k := k) ver 4 (100 * k.phase + k.grain) t us true body hpath hout hkey
  refine ⟨⟨hs, ((Mod.rd_inc _ _ _).trans (if_neg (by decide))).trans hcnt⟩, ?_, hl.field AirSt.drop fun _ => rfl⟩
  refine (Mod.rd_inc _ _ _).trans ((if_pos rfl).trans ?_)
  rw [hrd _ (by decide) (by decide) (by decide)]
  rfl

/-- A member of a list of numbers reads as set. -/
theorem nth_setAt_self {l : List Nat} {i v : Nat} (h : nth 0 l i ≠ 0) : nth 0 (setAt l i v) i = v := by
  have hi : i < l.length := by
    refine Nat.lt_of_not_le fun hle => h ?_
    simp [nth, List.getD_eq_getElem?_getD, hle]
  simp [nth, setAt, List.getD_eq_getElem?_getD, hi]

theorem AirDrop.spent_left {d : AirDrop} {p : Nat} (h : nth 0 d.left p ≠ 0) : nth 0 (d.spent p).left p = nth 0 d.left p - 1 := nth_setAt_self h

/-- A DROP that has begun on a channel goes out on it, once a grain. -/
theorem Mod.dropTx_sends {c : Nat} {d : AirDrop} (hc : c < 2) (hout : m.out = []) (hd : m.air.drop = some d) (hmay : m.mayBeacon = true)
    (htx : m.airTx c = true) (hleft : nth 0 d.left c ≠ 0) (hgrain : nth none d.grain c ≠ some (k.tickNo * 100 + k.grain))
    (hbegun : d.begun.contains c = true) (hsil : m.grainSilent c k.phase k.grain = false) (hpath : m.pathFree k c true) :
    SendsOne m (m.dropTx k c) k c 4 (100 * k.phase + k.grain)
      ∧ (m.dropTx k c).rd R.AIR_DROP_TX_CNT = (m.rd R.AIR_DROP_TX_CNT + 1) % 4294967296
      ∧ (m.dropTx k c).air.drop = some { d.spent c with grain := setAt d.grain c (some (k.tickNo * 100 + k.grain)) } := by
  obtain ⟨hkey, hbud⟩ := hpath
  have hfl := frameLen_le (m.floorVer c) 8
  let d' : AirDrop := { d.spent c with grain := setAt d.grain c (some (k.tickNo * 100 + k.grain)) }
  let n : Mod := { m with air := { m.air with drop := some d' } }
  have hus : n.budOk k (bandOf c) (wbAir (wbWidth (m.wbCfg c)) (wbCtrl (m.wbCfg c)) (frameLen (m.floorVer c) 8)) true = true :=
    hbud _ (wbAir_le _ _ (by omega))
  have heq : m.dropTx k c = (n.airSend k (m.floorVer c) 4 c (100 * k.phase + k.grain) (k.grainNs k.grain)
      (wbAir (wbWidth (m.wbCfg c)) (wbCtrl (m.wbCfg c)) (frameLen (m.floorVer c) 8)) true d.body).inc R.AIR_DROP_TX_CNT := by
    rw [Mod.dropTx]
    simp only [hd, hmay, htx, hleft, hgrain, hbegun, Bool.not_true, Bool.false_and, Bool.false_eq_true, or_self, if_false, if_true]
    exact (if_neg (by rw [show n.grainSilent c k.phase k.grain = false from hsil]; simp)).trans (if_neg (by rw [hus]; simp))
  rw [heq]
  exact Mod.dropSent_spec d' (m.floorVer c) (k.grainNs k.grain) _ d.body (by omega) hout hkey

/-- A DROP goes out on the sub-GHz path. -/
theorem Mod.sgDropTx_sends {d : AirDrop} (hout : m.out = []) (hd : m.air.drop = some d) (hmay : m.mayBeacon = true) (htx : m.airTx 2 = true)
    (hleft : nth 0 d.left 2 ≠ 0) (hpath : m.pathFree k 2 true) :
    SendsOne m (m.sgDropTx k) k 2 4 (100 * k.phase + k.grain)
      ∧ (m.sgDropTx k).rd R.AIR_DROP_TX_CNT = (m.rd R.AIR_DROP_TX_CNT + 1) % 4294967296 ∧ (m.sgDropTx k).air.drop = some (d.spent 2) := by
  obtain ⟨hkey, hbud⟩ := hpath
  have hfl := frameLen_le m.sgVer 8
  let n : Mod := { m with air := { m.air with drop := some (d.spent 2) } }
  have hok : m.budOk k 0 (m.sgAir (frameLen m.sgVer 8)) true = true := hbud _ (m.sgAir_le (by omega))
  have hus : n.budOk k 0 (m.sgAir (frameLen m.sgVer 8)) true = true := hok
  have hdwell : m.dwellOk k (m.sgAir (frameLen m.sgVer 8)) = true := by
    simp only [Mod.budOk, bne_self_eq_false, Bool.false_or, Bool.and_eq_true] at hok
    exact hok.2
  have heq : m.sgDropTx k = (n.airSend k n.sgVer 4 2 (100 * k.phase + k.grain) (Clock.fullNs k.now) (m.sgAir (frameLen m.sgVer 8)) true d.body).inc
      R.AIR_DROP_TX_CNT := by
    rw [Mod.sgDropTx]
    simp only [hd, hmay, htx, hleft, hdwell, Bool.not_true, Bool.false_eq_true, or_self, if_false]
    exact if_neg (by rw [hus]; simp)
  rw [heq]
  exact Mod.dropSent_spec (d.spent 2) _ (Clock.fullNs k.now) _ d.body (by decide) hout hkey

/-- Settles O38: each kind of frame goes out, alone, where its conditions hold. -/
theorem framesGoOut : Obligations.FramesGoOut := by
  refine ⟨fun s dt c hc hph hmay hslot hfree => ?_, fun s dt c hc hph hmay hslot hfree => ?_, fun s dt c hc hmay htx htick hlo hhi => ?_,
    fun s dt c f ver hc hmay htx hdrop hhost hf hver hgrains hlen hfree => ?_, fun s dt hph hmay htx hsf hdrop hfree => ?_,
    fun s dt tick body hmay hcor htx hctl hsf hnone hdrop hrtcm hlen hheld hfree => ?_,
    fun s dt c d hc hd hmay htx hleft hgrain hbegun hsil hfree => ?_, fun s dt d hd hmay htx hleft hfree => ?_⟩
  · exact answers_of_guard rfl hc (Mod.tokenTx_sends (m := s.found) (k := s.now dt) hc hph hmay hslot rfl hfree)
  · exact answers_of_guard rfl hc (Mod.beaconTx_sends (m := s.found) (k := s.now dt) hc hph hmay hslot rfl hfree)
  · refine answers_of_guard rfl hc ?_
    obtain ⟨ha, ht, hm, ho⟩ := OnlyDown.downlinkTx (m := s.found) (k := s.now dt) hc rfl hmay htx htick hlo hhi
    exact ⟨ha, ht, hm, ho⟩
  · exact answers_of_guard rfl hc
      (Mod.dataTx_sends (m := s.found) (k := s.now dt) hc rfl hmay htx hdrop hhost hf hver hgrains hlen hfree)
  · exact answers_of_ev rfl (Mod.sgBeaconTx_sends (m := s.found) (k := s.now dt) rfl hph hmay htx hsf hdrop hfree)
  · exact answers_of_ev rfl (Mod.corrTx_sends (m := s.found) (k := s.now dt) rfl hmay hcor htx hctl hsf hnone hdrop hrtcm hlen hheld hfree)
  · refine answers_of_guard rfl hc ?_
    obtain ⟨hs, hcnt, hd'⟩ := Mod.dropTx_sends (m := s.found) (k := s.now dt) hc rfl hd hmay htx hleft hgrain hbegun hsil hfree
    exact ⟨hs, hcnt, _, hd', AirDrop.spent_left hleft, rfl, rfl, rfl⟩
  · refine answers_of_ev rfl ?_
    obtain ⟨hs, hcnt, hd'⟩ := Mod.sgDropTx_sends (m := s.found) (k := s.now dt) rfl hd hmay htx hleft hfree
    exact ⟨hs, hcnt, _, hd', AirDrop.spent_left hleft⟩

end Sys2Proof.Machine
end

section
/-! SUPPORT. AIR: the rovers' links (R365, R374, R385 to R392, R398). -/

namespace Sys2Proof.Machine

variable {m : Mod} {k : Clock}

/-- What one member of a list does to what concerns it, the others leave. -/
theorem Mod.each_at {α : Type} {P Q : Mod → Prop} {f : Mod → α → Mod} {x : α} (hP : ∀ m y, y ≠ x → P m → P (f m y))
    (hx : ∀ m, P m → Q (f m x)) (hQ : ∀ m y, y ≠ x → Q m → Q (f m y)) :
    ∀ (l : List α) (m : Mod), l.Nodup → x ∈ l → P m → Q (m.each l f)
  | [], _, _, h, _ => absurd h List.not_mem_nil
  | y :: t, m, hnd, hmem, hm => by
    obtain ⟨hy, ht⟩ := List.nodup_cons.mp hnd
    by_cases hyx : y = x
    · subst hyx
      exact Mod.each_induct (P := Q) (l := t) (f m y) (hx m hm) fun n z hz hn => hQ n z (fun hzy => hy (hzy ▸ hz)) hn
    · refine Mod.each_at hP hx hQ t (f m y) ht ?_ (hP m y hyx hm)
      exact (List.mem_cons.mp hmem).resolve_left (Ne.symm hyx)

theorem upto_nodup (n : Nat) : (upto n).Nodup := List.nodup_range

theorem mem_upto {n x : Nat} : x ∈ upto n ↔ x < n := List.mem_range

/-! ## Slot assignments -/

@[simp] theorem Mod.arv_setArv (m : Mod) (r : Nat) (x : AirRover) (q : Nat) : (m.setArv r x).arv q = if q = r then x else m.arv q := by
  simp [Mod.arv, Mod.setArv]

/-- AIR's own state shows in no register. -/
theorem Mod.rd_setArv (m : Mod) (r : Nat) (x : AirRover) (a : Nat) : (m.setArv r x).rd a = m.rd a := (rfl)

/-- The map's registers that a change of it shows. -/
theorem Mod.airShow_spec (m : Mod) : m.airShow.air = m.air ∧ ∀ x, x ≠ R.AIR_STAT → x ≠ R.AIR_MAP_STAT → m.airShow.rd x = m.rd x := by
  refine ⟨by simp only [Mod.airShow, Mod.wr_air, Mod.setF_air], fun x h h' => ?_⟩
  simp only [Mod.airShow]
  rw [Mod.rd_wr_ne _ _ _ h', Mod.rd_setF_ne _ _ _ h, Mod.rd_setF_ne _ _ _ h, Mod.rd_setF_ne _ _ _ h]

/-- The map's count and event, behind the rovers' own changes. -/
theorem Mod.mapTold_spec (m : Mod) :
    ((m.inc R.AIR_MAP_SERIAL).airEvt 7).airShow.air = m.air
      ∧ ((m.inc R.AIR_MAP_SERIAL).airEvt 7).airShow.rd R.AIR_MAP_SERIAL = (m.rd R.AIR_MAP_SERIAL + 1) % 4294967296
      ∧ ∀ r, ((m.inc R.AIR_MAP_SERIAL).airEvt 7).airShow.rd (R.ROVER_LINK_SLOT r) = m.rd (R.ROVER_LINK_SLOT r) := by
  obtain ⟨hair, hrd⟩ := ((m.inc R.AIR_MAP_SERIAL).airEvt 7).airShow_spec
  refine ⟨hair.trans (Mod.evt_air ..), ?_, fun r => ?_⟩
  · rw [hrd _ (by decide) (by decide), Mod.airEvt, Mod.rd_evt_ne _ _ _ _ _ (by decide) (by decide), Mod.rd_inc, if_pos rfl]
  · have hslot : 0xA0084 ≤ R.ROVER_LINK_SLOT r := Nat.le_add_right _ _
    rw [hrd _ (by simp only [R.AIR_STAT]; omega) (by simp only [R.AIR_MAP_STAT]; omega), Mod.airEvt,
      Mod.rd_evt_ne _ _ _ _ _ (by simp only [R.AIR_EVT]; omega) (by simp only [R.RING_IRQ_STAT]; omega), Mod.rd_inc,
      if_neg (by simp only [R.AIR_MAP_SERIAL]; omega)]

/-- One rover's waiting assignment is taken: it shows in the rover's slot register and is in force while the rover is enabled. -/
def Mod.slotTake (m : Mod) (r : Nat) : Mod :=
  match (m.arv r).next with
  | none => m
  | some a =>
    (m.wr (R.ROVER_LINK_SLOT r) (if m.on (F.ROVER_LINK_CTL_EN r) || a.slot.isSome then slotReg r a (m.on (F.ROVER_LINK_CTL_EN r)) else 0)).setArv r
      { m.arv r with cur := if m.on (F.ROVER_LINK_CTL_EN r) then some a else none, next := none }

/-- The rovers whose waiting assignment is due. -/
def Mod.slotsDue (m : Mod) (sf : Nat) : List Nat :=
  (upto 256).filter fun r => match (m.arv r).next with | some a => decide (a.eff ≤ sf) | none => false

theorem Mod.mapEffective_eq (m : Mod) (sf : Nat) : m.mapEffective sf
    = if (m.slotsDue sf).isEmpty then m else (((m.each (m.slotsDue sf) Mod.slotTake).inc R.AIR_MAP_SERIAL).airEvt 7).airShow := (rfl)

/-- An assignment that is taken changes its rover's record and slot register alone. -/
theorem Mod.slotTake_other (m : Mod) (r : Nat) :
    (∀ q, q ≠ r → (m.slotTake r).arv q = m.arv q) ∧ ∀ x, x ≠ R.ROVER_LINK_SLOT r → (m.slotTake r).rd x = m.rd x := by
  unfold Mod.slotTake
  split
  · exact ⟨fun _ _ => rfl, fun _ _ => rfl⟩
  · exact ⟨fun q hq => (Mod.arv_setArv _ _ _ _).trans (if_neg hq), fun x hx => (Mod.rd_setArv _ _ _ _).trans (Mod.rd_wr_ne _ _ _ hx)⟩

theorem Mod.slotTake_self {r : Nat} {a : SlotAsg} (hnext : (m.arv r).next = some a) (hen : m.on (F.ROVER_LINK_CTL_EN r) = true) :
    ((m.slotTake r).arv r).cur = some a ∧ ((m.slotTake r).arv r).next = none
      ∧ (m.slotTake r).rd (R.ROVER_LINK_SLOT r) = slotReg r a true % 4294967296 := by
  simp only [Mod.slotTake, hnext, hen, Bool.true_or, if_true, Mod.arv_setArv, true_and]
  exact (Mod.rd_setArv _ _ _ _).trans (Mod.rd_wr_same _ _ _)

/-- An assignment whose EFFECTIVE has come is in force (R365). -/
theorem Mod.mapEffective_at {r sf : Nat} {a : SlotAsg} (hr : r < 256) (hnext : (m.arv r).next = some a) (heff : a.eff ≤ sf)
    (hen : m.on (F.ROVER_LINK_CTL_EN r) = true) :
    ((m.mapEffective sf).arv r).cur = some a ∧ ((m.mapEffective sf).arv r).next = none
      ∧ (m.mapEffective sf).rd (R.ROVER_LINK_SLOT r) = slotReg r a true % 4294967296
      ∧ (m.mapEffective sf).rd R.AIR_MAP_SERIAL = (m.rd R.AIR_MAP_SERIAL + 1) % 4294967296 := by
  have hmem : r ∈ m.slotsDue sf := List.mem_filter.mpr ⟨mem_upto.mpr hr, by simp [hnext, heff]⟩
  have hnd : (m.slotsDue sf).Nodup := (upto_nodup 256).filter _
  rw [Mod.mapEffective_eq, if_neg (by simpa using List.ne_nil_of_mem hmem)]
  have hser : (m.each (m.slotsDue sf) Mod.slotTake).rd R.AIR_MAP_SERIAL = m.rd R.AIR_MAP_SERIAL :=
    Mod.each_keeps m (fun m => m.rd R.AIR_MAP_SERIAL) (fun n y => (n.slotTake_other y).2 _ (by simp only [R.AIR_MAP_SERIAL, R.ROVER_LINK_SLOT]; omega)) _
  have hat := Mod.each_at (f := Mod.slotTake) (x := r) (P := fun n => (n.arv r).next = some a ∧ n.on (F.ROVER_LINK_CTL_EN r) = true)
    (Q := fun n => (n.arv r).cur = some a ∧ (n.arv r).next = none ∧ n.rd (R.ROVER_LINK_SLOT r) = slotReg r a true % 4294967296)
    (fun n y hy hn => by
      rw [(n.slotTake_other y).1 r (Ne.symm hy),
        Mod.on_congr ((n.slotTake_other y).2 _ (by simp only [F.ROVER_LINK_CTL_EN, R.ROVER_LINK_CTL, R.ROVER_LINK_SLOT]; omega))]
      exact hn)
    (fun n hn => Mod.slotTake_self hn.1 hn.2)
    (fun n y hy hn => by
      rw [(n.slotTake_other y).1 r (Ne.symm hy), (n.slotTake_other y).2 _ (by simp only [R.ROVER_LINK_SLOT]; omega)]
      exact hn) (m.slotsDue sf) m hnd hmem ⟨hnext, hen⟩
  generalize m.each (m.slotsDue sf) Mod.slotTake = n at hser hat ⊢
  obtain ⟨hair, hser', hslot⟩ := n.mapTold_spec
  have harv : ((n.inc R.AIR_MAP_SERIAL).airEvt 7).airShow.arv r = n.arv r := by simp only [Mod.arv, hair]
  rw [harv, hser', hslot, hser]
  obtain ⟨hcur, hnone, hreg⟩ := hat
  exact ⟨hcur, hnone, hreg, rfl⟩

/-! ## Silence and misses -/

/-- What a link's event leaves: every register but the link's events and the interrupts. -/
theorem Mod.rd_linkEvt_ne (m : Mod) (r b : Nat) {x : Nat} (h : x ≠ R.ROVER_LINK_EVT r) (h' : x ≠ R.RING_IRQ_STAT) :
    (m.linkEvt r b).rd x = m.rd x := Mod.rd_evt_ne _ _ _ _ _ h h'

theorem Mod.rd_airEvt_ne (m : Mod) (b : Nat) {x : Nat} (h : x ≠ R.AIR_EVT) (h' : x ≠ R.RING_IRQ_STAT) : (m.airEvt b).rd x = m.rd x :=
  Mod.rd_evt_ne _ _ _ _ _ h h'

/-- A bit that is set stays set when an event comes. -/
theorem Mod.bit_evt_keeps (m : Mod) (r e b x : Nat) {a i : Nat} (ha : a ≠ R.RING_IRQ_STAT) (h : m.bit a i = true) : (m.evt r e b x).bit a i = true := by
  have hset : m.bit r b = false → (m.setBit r b).bit a i = true := fun hrb => by
    rw [Mod.bit_setBit_ne]
    · exact h
    · by_contra hc
      push Not at hc
      obtain ⟨rfl, rfl⟩ := hc
      rw [h] at hrb
      exact absurd hrb (by simp)
  simp only [Mod.evt]
  split
  · exact h
  · rename_i hrb
    have hset' := hset (by simpa using hrb)
    split
    · rw [Mod.bit_congr (Mod.rd_raise_ne _ _ ha)]
      exact hset'
    · exact hset'

/-- One rover's superframe without a verified burst (R392). -/
def Mod.silentOne (sf : Nat) (m : Mod) (r : Nat) : Mod :=
  if (m.arv r).heardSf = some sf then m
  else
    let m := m.satF (F.ROVER_LINK_STAT_SILENT r)
    if m.fld (F.ROVER_LINK_STAT_SILENT r) < 3 ∨ m.fld (F.ROVER_LINK_STAT_LINK r) ≠ 1 then m
    else ((m.setF (F.ROVER_LINK_STAT_LINK r) 2).linkEvt r 0).airEvt 2

theorem Mod.airSilence_eq {sf : Nat} (hj : m.air.judged ≠ some sf) (hl : m.airListens = true) :
    m.airSilence sf = Mod.each { m with air := { m.air with judged := some sf } } ((upto 256).filter fun r => m.on (F.ROVER_LINK_SLOT_VALID r))
      (Mod.silentOne sf) := if_neg (by simp [hj, hl])

theorem Mod.rd_satF_ne (m : Mod) (f : Fld) {x : Nat} (h : x ≠ f.off) : (m.satF f).rd x = m.rd x := by
  simp only [Mod.satF]
  split
  · exact Mod.rd_setF_ne _ _ _ h
  · rfl

/-- A count that stands at its highest stays; else it is one more. -/
theorem Mod.fld_satF_le (m : Mod) (f : Fld) (h : f.lo ≤ f.hi) (h31 : f.hi ≤ 31) : (m.satF f).fld f ≤ m.fld f + 1 := by
  simp only [Mod.satF]
  split
  · rw [Mod.fld_setF _ _ _ h h31]
    exact Nat.mod_le _ _
  · exact Nat.le_succ _

/-- A silent superframe of one rover shows in its own status and events, and in AIR's event. -/
theorem Mod.silentOne_other (m : Mod) (sf r : Nat) :
    (m.silentOne sf r).air = m.air
      ∧ (∀ x, x ≠ R.ROVER_LINK_STAT r → x ≠ R.ROVER_LINK_EVT r → x ≠ R.AIR_EVT → x ≠ R.RING_IRQ_STAT → (m.silentOne sf r).rd x = m.rd x)
      ∧ (m.bit R.AIR_EVT 2 = true → (m.silentOne sf r).bit R.AIR_EVT 2 = true) := by
  have hstat : R.AIR_EVT ≠ R.ROVER_LINK_STAT r := by simp only [R.AIR_EVT, R.ROVER_LINK_STAT]; omega
  simp only [Mod.silentOne]
  split
  · exact ⟨rfl, fun _ _ _ _ _ => rfl, id⟩
  · split
    · exact ⟨Mod.satF_air _ _, fun x h _ _ _ => Mod.rd_satF_ne _ _ h, fun hb => (Mod.bit_congr (Mod.rd_satF_ne _ _ hstat)).trans hb⟩
    · refine ⟨by simp [Mod.airEvt, Mod.linkEvt], fun x h h1 h2 h3 => ?_, fun hb => ?_⟩
      · rw [Mod.rd_airEvt_ne _ _ h2 h3, Mod.rd_linkEvt_ne _ _ _ h1 h3, Mod.rd_setF_ne _ _ _ h, Mod.rd_satF_ne _ _ h]
      · refine Mod.bit_evt_keeps _ _ _ _ _ (by decide) (Mod.bit_evt_keeps _ _ _ _ _ (by decide) ?_)
        exact (Mod.bit_congr ((Mod.rd_setF_ne _ _ _ hstat).trans (Mod.rd_satF_ne _ _ hstat))).trans hb

/-- A third silent superframe lapses a verified link. -/
theorem Mod.silentOne_third {sf r : Nat} (hheard : (m.arv r).heardSf ≠ some sf) (hsil : m.fld (F.ROVER_LINK_STAT_SILENT r) = 2)
    (hlink : m.fld (F.ROVER_LINK_STAT_LINK r) = 1) :
    (m.silentOne sf r).fld (F.ROVER_LINK_STAT_SILENT r) = 3 ∧ (m.silentOne sf r).fld (F.ROVER_LINK_STAT_LINK r) = 2
      ∧ (m.silentOne sf r).bit (R.ROVER_LINK_EVT r) 0 = true ∧ (m.silentOne sf r).bit R.AIR_EVT 2 = true := by
  have hirq : R.ROVER_LINK_EVT r ≠ R.RING_IRQ_STAT := by simp only [R.ROVER_LINK_EVT, R.RING_IRQ_STAT]; omega
  have hsat : m.satF (F.ROVER_LINK_STAT_SILENT r) = m.setF (F.ROVER_LINK_STAT_SILENT r) 3 := by
    rw [Mod.satF, hsil, if_pos (by simp [F.ROVER_LINK_STAT_SILENT])]
  have hsil' : (m.setF (F.ROVER_LINK_STAT_SILENT r) 3).fld (F.ROVER_LINK_STAT_SILENT r) = 3 :=
    (Mod.fld_setF _ _ _ (by simp [F.ROVER_LINK_STAT_SILENT]) (by simp [F.ROVER_LINK_STAT_SILENT])).trans (by simp [F.ROVER_LINK_STAT_SILENT])
  have hlink' : (m.setF (F.ROVER_LINK_STAT_SILENT r) 3).fld (F.ROVER_LINK_STAT_LINK r) = 1 :=
    (Mod.fld_setF_ne _ _ _ (by simp [F.ROVER_LINK_STAT_SILENT]) (by simp [F.ROVER_LINK_STAT_LINK])
      (by simp [F.ROVER_LINK_STAT_SILENT, F.ROVER_LINK_STAT_LINK])).trans hlink
  rw [Mod.silentOne, if_neg hheard, hsat]
  simp only [hsil', hlink', Nat.lt_irrefl, ne_eq, not_true_eq_false, or_self, if_false]
  generalize m.setF (F.ROVER_LINK_STAT_SILENT r) 3 = n at hsil' hlink' ⊢
  have hrd : (((n.setF (F.ROVER_LINK_STAT_LINK r) 2).linkEvt r 0).airEvt 2).rd (R.ROVER_LINK_STAT r)
      = (n.setF (F.ROVER_LINK_STAT_LINK r) 2).rd (R.ROVER_LINK_STAT r) := by
    rw [Mod.rd_airEvt_ne, Mod.rd_linkEvt_ne]
    all_goals simp only [R.ROVER_LINK_STAT, R.ROVER_LINK_EVT, R.AIR_EVT, R.RING_IRQ_STAT]; omega
  refine ⟨(Mod.fld_congr hrd).trans ?_, (Mod.fld_congr hrd).trans ?_, ?_, Mod.bit_evt _ _ _ _ _ (by decide) (by decide)⟩
  · exact (Mod.fld_setF_ne _ _ _ (by simp [F.ROVER_LINK_STAT_LINK]) (by simp [F.ROVER_LINK_STAT_SILENT])
      (by simp [F.ROVER_LINK_STAT_SILENT, F.ROVER_LINK_STAT_LINK])).trans hsil'
  · exact (Mod.fld_setF _ _ _ (by simp [F.ROVER_LINK_STAT_LINK]) (by simp [F.ROVER_LINK_STAT_LINK])).trans (by simp [F.ROVER_LINK_STAT_LINK])
  · exact Mod.bit_evt_keeps _ _ _ _ _ hirq (Mod.bit_evt _ _ _ _ _ (by decide) hirq)

/-- Of the rovers judged at a superframe's end, one silent for the third time lapses. -/
theorem Mod.airSilence_third {sf r : Nat} (hr : r < 256) (hl : m.airListens = true) (hj : m.air.judged ≠ some sf)
    (hvalid : m.on (F.ROVER_LINK_SLOT_VALID r) = true) (hheard : (m.arv r).heardSf ≠ some sf)
    (hsil : m.fld (F.ROVER_LINK_STAT_SILENT r) = 2) (hlink : m.fld (F.ROVER_LINK_STAT_LINK r) = 1) :
    (m.airSilence sf).fld (F.ROVER_LINK_STAT_SILENT r) = 3 ∧ (m.airSilence sf).fld (F.ROVER_LINK_STAT_LINK r) = 2
      ∧ (m.airSilence sf).bit (R.ROVER_LINK_EVT r) 0 = true ∧ (m.airSilence sf).bit R.AIR_EVT 2 = true := by
  rw [Mod.airSilence_eq hj hl]
  have hother : ∀ n y x, y ≠ r → x = R.ROVER_LINK_STAT r ∨ x = R.ROVER_LINK_EVT r → (Mod.silentOne sf n y).rd x = n.rd x := fun n y x hy hx => by
    refine (n.silentOne_other sf y).2.1 x ?_ ?_ ?_ ?_
    all_goals rcases hx with rfl | rfl <;> simp only [R.ROVER_LINK_STAT, R.ROVER_LINK_EVT, R.AIR_EVT, R.RING_IRQ_STAT] <;> omega
  have hfld : ∀ n y f, y ≠ r → f.off = R.ROVER_LINK_STAT r → (Mod.silentOne sf n y).fld f = n.fld f := fun n y f hy hf =>
    Mod.fld_congr (by rw [hf]; exact hother n y _ hy (.inl rfl))
  refine Mod.each_at (f := Mod.silentOne sf) (x := r)
    (P := fun n => (n.arv r).heardSf ≠ some sf ∧ n.fld (F.ROVER_LINK_STAT_SILENT r) = 2 ∧ n.fld (F.ROVER_LINK_STAT_LINK r) = 1)
    (Q := fun n => n.fld (F.ROVER_LINK_STAT_SILENT r) = 3 ∧ n.fld (F.ROVER_LINK_STAT_LINK r) = 2 ∧ n.bit (R.ROVER_LINK_EVT r) 0 = true
      ∧ n.bit R.AIR_EVT 2 = true)
    (fun n y hy hn => ?_) (fun n hn => Mod.silentOne_third hn.1 hn.2.1 hn.2.2) (fun n y hy hn => ?_) _ _ ((upto_nodup 256).filter _)
    (List.mem_filter.mpr ⟨mem_upto.mpr hr, hvalid⟩) ⟨hheard, hsil, hlink⟩
  · have harv : (Mod.silentOne sf n y).arv r = n.arv r := by simp only [Mod.arv, (n.silentOne_other sf y).1]
    rw [harv, hfld n y _ hy rfl, hfld n y _ hy rfl]
    exact hn
  · obtain ⟨hs, hl, he, ha⟩ := hn
    rw [hfld n y _ hy rfl, hfld n y _ hy rfl, Mod.bit_congr (hother n y _ hy (.inr rfl))]
    exact ⟨hs, hl, he, (n.silentOne_other sf y).2.2 ha⟩

/-- A miss of a rover that is not resynchronising sets RESYNC and is counted (R387, R388). -/
theorem Mod.missSlot_first {r : Nat} (hres : m.on (F.ROVER_LINK_STAT_RESYNC r) = false) (hdrift : m.on (F.ROVER_LINK_STAT_DRIFT_FAULT r) = false)
    (hrun : m.fld (F.ROVER_LINK_STAT_RESYNC_RUN r) < 2) :
    (m.missSlot k r).on (F.ROVER_LINK_STAT_RESYNC r) = true
      ∧ (m.missSlot k r).rd (R.ROVER_MISSLOT_CNT r) = (m.rd (R.ROVER_MISSLOT_CNT r) + 1) % 4294967296
      ∧ (m.missSlot k r).rd (R.ROVER_UP_CNT r) = m.rd (R.ROVER_UP_CNT r) := by
  have htold : ∀ (n : Mod) (x : Nat), x ≠ R.AIR_EVT → x ≠ R.ROVER_LINK_EVT r → x ≠ R.RING_IRQ_STAT →
      ((n.airEvt 0).linkEvt r 2).rd x = n.rd x := fun n x h1 h2 h3 => by rw [Mod.rd_linkEvt_ne _ _ _ h2 h3, Mod.rd_airEvt_ne _ _ h1 h3]
  have hstat : (((m.inc (R.ROVER_MISSLOT_CNT r)).airEvt 0).linkEvt r 2).rd (R.ROVER_LINK_STAT r) = m.rd (R.ROVER_LINK_STAT r) := by
    rw [htold, Mod.rd_inc, if_neg]
    all_goals simp only [R.ROVER_LINK_STAT, R.ROVER_MISSLOT_CNT, R.ROVER_LINK_EVT, R.AIR_EVT, R.RING_IRQ_STAT]; omega
  have hmiss : (((m.inc (R.ROVER_MISSLOT_CNT r)).airEvt 0).linkEvt r 2).rd (R.ROVER_MISSLOT_CNT r) = (m.rd (R.ROVER_MISSLOT_CNT r) + 1) % 4294967296 := by
    rw [htold, Mod.rd_inc, if_pos rfl]
    all_goals simp only [R.ROVER_MISSLOT_CNT, R.ROVER_LINK_EVT, R.AIR_EVT, R.RING_IRQ_STAT]; omega
  have hup : (((m.inc (R.ROVER_MISSLOT_CNT r)).airEvt 0).linkEvt r 2).rd (R.ROVER_UP_CNT r) = m.rd (R.ROVER_UP_CNT r) := by
    rw [htold, Mod.rd_inc, if_neg]
    all_goals simp only [R.ROVER_UP_CNT, R.ROVER_MISSLOT_CNT, R.ROVER_LINK_EVT, R.AIR_EVT, R.RING_IRQ_STAT]; omega
  have hres' := (Mod.on_congr hstat : _ = m.on (F.ROVER_LINK_STAT_RESYNC r)).trans hres
  have hdrift' := (Mod.on_congr hstat : _ = m.on (F.ROVER_LINK_STAT_DRIFT_FAULT r)).trans hdrift
  have hrun' := (Mod.fld_congr hstat : _ = m.fld (F.ROVER_LINK_STAT_RESYNC_RUN r))
  simp only [Mod.missSlot]
  generalize ((m.inc (R.ROVER_MISSLOT_CNT r)).airEvt 0).linkEvt r 2 = n at hres' hdrift' hrun' hmiss hup ⊢
  have hsat : ((n.inc (R.ROVER_RESYNC_CNT r)).satF (F.ROVER_LINK_STAT_RESYNC_RUN r)).fld (F.ROVER_LINK_STAT_RESYNC_RUN r) < 3 := by
    refine Nat.lt_of_le_of_lt (Mod.fld_satF_le _ _ (by simp [F.ROVER_LINK_STAT_RESYNC_RUN]) (by simp [F.ROVER_LINK_STAT_RESYNC_RUN])) ?_
    have hinc : (n.inc (R.ROVER_RESYNC_CNT r)).fld (F.ROVER_LINK_STAT_RESYNC_RUN r) = n.fld (F.ROVER_LINK_STAT_RESYNC_RUN r) :=
      Mod.fld_congr ((Mod.rd_inc _ _ _).trans (if_neg (by simp only [F.ROVER_LINK_STAT_RESYNC_RUN, R.ROVER_LINK_STAT, R.ROVER_RESYNC_CNT]; omega)))
    omega
  simp only [hres', hdrift', Bool.or_self, Bool.false_eq_true, if_false]
  have hq : ∀ x, x ≠ R.ROVER_LINK_EVT r → x ≠ R.RING_IRQ_STAT →
      (((n.inc (R.ROVER_RESYNC_CNT r)).satF (F.ROVER_LINK_STAT_RESYNC_RUN r)).linkEvt r 3).rd x
        = ((n.inc (R.ROVER_RESYNC_CNT r)).satF (F.ROVER_LINK_STAT_RESYNC_RUN r)).rd x := fun x h h' => Mod.rd_linkEvt_ne _ _ _ h h'
  have hq' : ∀ x, x ≠ R.ROVER_LINK_EVT r → x ≠ R.RING_IRQ_STAT → x ≠ R.ROVER_LINK_STAT r → x ≠ R.ROVER_RESYNC_CNT r →
      (((n.inc (R.ROVER_RESYNC_CNT r)).satF (F.ROVER_LINK_STAT_RESYNC_RUN r)).linkEvt r 3).rd x = n.rd x := fun x h h' h1 h2 =>
    (hq x h h').trans ((Mod.rd_satF_ne _ _ h1).trans ((Mod.rd_inc _ _ _).trans (if_neg h2)))
  have hrunq := Mod.fld_congr (f := F.ROVER_LINK_STAT_RESYNC_RUN r) (hq (R.ROVER_LINK_STAT r)
    (by simp only [R.ROVER_LINK_STAT, R.ROVER_LINK_EVT]; omega) (by simp only [R.ROVER_LINK_STAT, R.RING_IRQ_STAT]; omega))
  generalize (((n.inc (R.ROVER_RESYNC_CNT r)).satF (F.ROVER_LINK_STAT_RESYNC_RUN r)).linkEvt r 3) = q at hq' hrunq ⊢
  rw [← hrunq] at hsat
  have hrunq' : ∀ a, ((q.setB (F.ROVER_LINK_STAT_RESYNC r) true).setArv r a).fld (F.ROVER_LINK_STAT_RESYNC_RUN r) < 3 := fun a => by
    rw [Mod.fld_congr (Mod.rd_setArv _ _ _ _), Mod.fld_setB_ne]
    · exact hsat
    all_goals simp [F.ROVER_LINK_STAT_RESYNC, F.ROVER_LINK_STAT_RESYNC_RUN]
  rw [if_pos (hrunq' _)]
  refine ⟨?_, ?_, ?_⟩
  · rw [Mod.on_congr (Mod.rd_setArv _ _ _ _), Mod.on_setB _ _ _ (by simp [F.ROVER_LINK_STAT_RESYNC]) (by simp [F.ROVER_LINK_STAT_RESYNC])]
  · rw [Mod.rd_setArv, Mod.rd_setB_ne, hq', hmiss]
    all_goals
      simp only [F.ROVER_LINK_STAT_RESYNC, R.ROVER_LINK_STAT, R.ROVER_LINK_EVT, R.ROVER_MISSLOT_CNT, R.ROVER_RESYNC_CNT, R.RING_IRQ_STAT]
      omega
  · rw [Mod.rd_setArv, Mod.rd_setB_ne, hq', hup]
    all_goals
      simp only [F.ROVER_LINK_STAT_RESYNC, R.ROVER_LINK_STAT, R.ROVER_LINK_EVT, R.ROVER_UP_CNT, R.ROVER_RESYNC_CNT, R.RING_IRQ_STAT]
      omega

/-! ## Expiry -/

/-- Expired elements of RTCM leave the queue, and no others (R367). -/
theorem Mod.mem_rtcmExpire (m : Mod) (k : Clock) {e : AirElem} (he : e ∈ m.air.queue) :
    e ∈ (m.rtcmExpire k).air.queue ↔ ¬ (e.kind = 4 ∧ 10 ≤ tickDiff k.tick e.instant) := by
  simp only [Mod.rtcmExpire]
  split
  · rename_i hn
    have hno := List.filter_eq_nil_iff.mp (List.length_eq_zero_iff.mp hn) e he
    simpa [he] using hno
  · simp [he, imp_iff_not_or]

/-- A region that waits is taken at the boundary (R398). -/
theorem Mod.regionTake_pending (hpend : m.air.regionPend = true) :
    (m.regionTake k).air.region = m.rd R.AIR_REGION % 256 ∧ (m.regionTake k).air.regionPend = false := by
  simp only [Mod.regionTake, hpend, Bool.not_true, Bool.false_eq_true, if_false]
  generalize hn : ({ m with air := { m.air with regionPend := false, region := m.rd R.AIR_REGION % 256 } } : Mod) = n
  have hair : (((n.budShow k 0).budShow k 1).budShow k 2).airShow.air = n.air := by
    rw [(Mod.airShow_spec _).1, Mod.budShow_keeps Mod.air k 2 fun _ _ _ _ => rfl, Mod.budShow_keeps Mod.air k 1 fun _ _ _ _ => rfl,
      Mod.budShow_keeps Mod.air k 0 fun _ _ _ _ => rfl]
  rw [hair, ← hn]
  exact ⟨rfl, rfl⟩

/-- CLEAR_DRIFT clears a rover's fault and its run, and nothing else (R388). -/
theorem Mod.driftCleared (m : Mod) (r : Nat) :
    ((m.setB (F.ROVER_LINK_STAT_DRIFT_FAULT r) false).setF (F.ROVER_LINK_STAT_RESYNC_RUN r) 0).on (F.ROVER_LINK_STAT_DRIFT_FAULT r) = false
      ∧ ((m.setB (F.ROVER_LINK_STAT_DRIFT_FAULT r) false).setF (F.ROVER_LINK_STAT_RESYNC_RUN r) 0).fld (F.ROVER_LINK_STAT_RESYNC_RUN r) = 0
      ∧ ∀ x, x ≠ R.ROVER_LINK_STAT r →
        ((m.setB (F.ROVER_LINK_STAT_DRIFT_FAULT r) false).setF (F.ROVER_LINK_STAT_RESYNC_RUN r) 0).rd x = m.rd x := by
  refine ⟨?_, ?_, fun x hx => (Mod.rd_setF_ne _ _ _ hx).trans (Mod.rd_setB_ne _ _ _ hx)⟩
  · rw [Mod.on_setF_ne _ _ _ (by simp [F.ROVER_LINK_STAT_RESYNC_RUN]) (by simp [F.ROVER_LINK_STAT_DRIFT_FAULT])
      (by simp [F.ROVER_LINK_STAT_RESYNC_RUN, F.ROVER_LINK_STAT_DRIFT_FAULT]),
      Mod.on_setB _ _ _ (by simp [F.ROVER_LINK_STAT_DRIFT_FAULT]) (by simp [F.ROVER_LINK_STAT_DRIFT_FAULT])]
  · exact (Mod.fld_setF _ _ _ (by simp [F.ROVER_LINK_STAT_RESYNC_RUN]) (by simp [F.ROVER_LINK_STAT_RESYNC_RUN])).trans (Nat.zero_mod _)

/-- A burst in no window of its channel is a miss of the rover whose place it took. -/
theorem Mod.uplinkRx_miss {u : UpIn} {r : Nat} (hch : u.chan ≤ 1) (hrx : m.airRx k u = true) (hen : m.on (F.ROVER_LINK_CTL_EN r) = true)
    (hwin : ((m.upWindows k u.chan).find? fun w => decide (w.begin_ ≤ u.startNs) && decide (u.startNs < w.end_) && decide (u.endNs ≤ w.end_)) = none)
    (hmiss : missRover (m.upWindows k u.chan) u = some r) : m.uplinkRx k u = m.missSlot k r := by
  simp only [Mod.uplinkRx, show ¬ 1 < u.chan by omega, hrx, hwin, hmiss, hen, Bool.not_true, Bool.false_eq_true, or_self, if_false, if_true]

/-- At the end of the tenth tick a superframe ends. -/
theorem State.superframeEnds {s : State} {dt : Nat} (hend : (s.now dt).ended = true) (hph : (s.now dt).phase = 9) :
    (decide ((s.now dt).nextBoundary ≤ (s.now dt).raw) && (s.now dt).phase == 9) = true :=
  Bool.and_eq_true_iff.mpr ⟨hend, by rw [hph]; rfl⟩

/-- Settles O39: each event of the links takes effect where its conditions hold. -/
theorem roverLinks : Obligations.RoverLinks := by
  refine ⟨fun s dt r a hend hph hr hnext heff hen => ?_, fun s dt r hend hph hr hl hj hvalid hheard hsil hlink => ?_,
    fun s dt r u hch hrx hr hen hwin hmiss hres hdrift hrun => ?_, fun s dt u w hch hrx hwin => does_of_ev rfl rfl, fun s dt r hr ho => ?_,
    fun s dt hend hph hpend => ?_, fun s dt e he => answers_of_ev rfl (s.found.mem_rtcmExpire (s.now dt) he)⟩
  · refine answers_of_guard rfl (State.superframeEnds hend hph) ?_
    exact Mod.mapEffective_at (m := s.found) hr hnext heff hen
  · refine answers_of_guard rfl (State.superframeEnds hend hph) ?_
    exact Mod.airSilence_third (m := s.found) hr hl hj hvalid hheard hsil hlink
  · refine answers_of_ev rfl ?_
    rw [Mod.uplinkRx_miss (m := s.found) (k := s.now dt) hch hrx hen hwin hmiss]
    exact Mod.missSlot_first (m := s.found) hres hdrift hrun
  · refine answers_of_ev rfl ?_
    rw [if_neg (by omega), Mod.access_opens _ ((s.found_opens _).trans ho)]
    exact s.found.driftCleared r
  · refine answers_of_guard rfl (State.superframeEnds hend hph) ?_
    exact Mod.regionTake_pending (m := s.found) hpend

end Sys2Proof.Machine
end

section
/-! SUPPORT. The Leash: what a trip does (R411 to R416), and what it leaves. -/

namespace Sys2Proof.Machine

variable {m : Mod} {k : Clock}

/-! ## What other blocks do leaves the Leash -/

/-- The Leash's registers and its state are as they were. -/
structure LeashLeaves (m t : Mod) : Prop where
  rd : ∀ x, 0x8000 ≤ x → x < 0x9000 → t.rd x = m.rd x
  leash : t.leash = m.leash

theorem LeashLeaves.refl (m : Mod) : LeashLeaves m m := ⟨fun _ _ _ => rfl, rfl⟩

theorem LeashLeaves.trans {m n t : Mod} (h : LeashLeaves m n) (h' : LeashLeaves n t) : LeashLeaves m t :=
  ⟨fun x h1 h2 => (h'.rd x h1 h2).trans (h.rd x h1 h2), h'.leash.trans h.leash⟩

theorem LeashLeaves.each {α : Type} {f : Mod → α → Mod} (hf : ∀ m x, LeashLeaves m (f m x)) (l : List α) (m : Mod) : LeashLeaves m (m.each l f) :=
  Mod.each_induct (P := LeashLeaves m) m (.refl m) fun n x _ h => h.trans (hf n x)

theorem LeashLeaves.ite {c : Prop} [Decidable c] {m a b : Mod} (ha : LeashLeaves m a) (hb : LeashLeaves m b) : LeashLeaves m (if c then a else b) := by
  split
  · exact ha
  · exact hb

/-- Another block's state changes. -/
theorem LeashLeaves.mot (m : Mod) (x : MotSt) : LeashLeaves m { m with mot := x } := ⟨fun _ _ _ => rfl, rfl⟩
theorem LeashLeaves.air (m : Mod) (x : AirSt) : LeashLeaves m { m with air := x } := ⟨fun _ _ _ => rfl, rfl⟩
theorem LeashLeaves.brace (m : Mod) (x : BraceSt) : LeashLeaves m { m with brace := x } := ⟨fun _ _ _ => rfl, rfl⟩

/-- A register outside the Leash's block is written. -/
theorem LeashLeaves.wr (m : Mod) {a : Nat} (v : Nat) (h : a < 0x8000 ∨ 0x9000 ≤ a) : LeashLeaves m (m.wr a v) :=
  ⟨fun _ h1 h2 => Mod.rd_wr_ne _ _ _ (by omega), rfl⟩

theorem LeashLeaves.setF (m : Mod) (f : Fld) (v : Nat) (h : f.off < 0x8000 ∨ 0x9000 ≤ f.off) : LeashLeaves m (m.setF f v) := .wr m _ h

theorem LeashLeaves.setB (m : Mod) (f : Fld) (b : Bool) (h : f.off < 0x8000 ∨ 0x9000 ≤ f.off) : LeashLeaves m (m.setB f b) := .wr m _ h

theorem LeashLeaves.inc (m : Mod) (a : Nat) (h : a < 0x8000 ∨ 0x9000 ≤ a) : LeashLeaves m (m.inc a) := .wr m _ h

theorem LeashLeaves.evt (m : Mod) (r e b x : Nat) (h : r < 0x8000 ∨ 0x9000 ≤ r) : LeashLeaves m (m.evt r e b x) :=
  ⟨fun _ h1 h2 => Mod.rd_evt_ne _ _ _ _ _ (by omega) (by unfold R.RING_IRQ_STAT; omega), Mod.evt_leash ..⟩

theorem LeashLeaves.motResult (m : Mod) (k : Clock) (h : Handed) (code st c : Nat) (pos : Int) : LeashLeaves m (m.motResult k h code st c pos) where
  rd x h1 h2 := Mod.rd_result_ne _ _ _ _ _ _ _ _ _ (by simp only [R.RING_DROP_CNT]; omega) (by simp only [R.RING_STAT]; omega)
    (by simp only [R.RING_IRQ_STAT]; omega) (by simp only [R.KEN_STAT]; omega)
  leash := Mod.result_leash ..

theorem LeashLeaves.recTrig (m : Mod) (k : Clock) (t : Nat) (p : List Byte) : LeashLeaves m (m.recTrig k t p) where
  rd x h1 h2 := Mod.rd_recTrig_ne _ _ _ _ (by simp only [R.REC_DROP_CNT]; omega) (by simp only [R.REC_EVT]; omega)
    (by simp only [R.RING_IRQ_STAT]; omega)
  leash := Mod.recTrig_leash ..

theorem LeashLeaves.groupEnd (m : Mod) (g : Nat) : LeashLeaves m (m.groupEnd g) := by
  simp only [Mod.groupEnd]
  split
  · exact .refl m
  · rename_i x _
    have heach := LeashLeaves.each (f := fun (m : Mod) (e : Nat × Int × Int) => m.setB (F.MOT_CH_STAT_IN_GROUP e.1) false)
      (fun m e => .setB m _ false (by simp only [F.MOT_CH_STAT_IN_GROUP, R.MOT_CH_STAT]; omega)) x.members m
    generalize m.each x.members _ = n at heach ⊢
    refine ((heach.trans (.mot n _)).trans (.setF _ _ _ ?_)).trans (.setF _ _ _ ?_)
    · simp only [F.MOT_GRP_STAT_STATE, R.MOT_GRP_STAT]; omega
    · simp only [F.MOT_GRP_STAT_MEMBERS, R.MOT_GRP_STAT]; omega

theorem LeashLeaves.motEnd (m : Mod) (k : Clock) (c st : Nat) : LeashLeaves m (m.motEnd k c st) := by
  simp only [Mod.motEnd]
  split
  · exact .refl m
  · exact (LeashLeaves.mot m _).trans (.motResult ..)

theorem LeashLeaves.dropMotion (m : Mod) (k : Clock) (c : Nat) : LeashLeaves m (m.dropMotion k c) := by
  simp only [Mod.dropMotion]
  split
  · exact .mot m _
  · exact ((LeashLeaves.mot m _).trans (.air _ _)).trans (.mot _ _)

theorem LeashLeaves.dropCh (m : Mod) (k : Clock) (c : Nat) : LeashLeaves m (m.dropCh k c) := by
  simp only [Mod.dropCh]
  split
  · exact .refl m
  · refine LeashLeaves.trans ?_ (.setB _ _ _ (by simp only [F.MOT_CH_STAT_REVERSING, R.MOT_CH_STAT]; omega))
    refine LeashLeaves.trans ?_ (.setF _ _ _ (by simp only [F.MOT_CH_STAT_STATE, R.MOT_CH_STAT]; omega))
    exact (LeashLeaves.motEnd m k c 4).trans (.dropMotion _ k c)

theorem LeashLeaves.dropAll (m : Mod) (k : Clock) : LeashLeaves m (m.dropAll k) := by
  simp only [Mod.dropAll]
  refine LeashLeaves.trans (LeashLeaves.each (fun n e => ?_) m.mot.groups m) (.each (fun n c => .dropCh n k c) _ _)
  exact ((LeashLeaves.each (fun n x => .motResult ..) e.2.members n).trans (.motResult ..)).trans (.groupEnd ..)

theorem LeashLeaves.emit (m : Mod) (o : Out) : LeashLeaves m (m.emit o) := ⟨fun _ _ _ => rfl, rfl⟩

theorem LeashLeaves.airTrip (m : Mod) (k : Clock) (cause id : Nat) : LeashLeaves m (m.airTrip k cause id) := by
  exact .ite ((LeashLeaves.air m _).trans (.emit ..)) (.air m _)

theorem LeashLeaves.braceSend (m : Mod) (k : Clock) (type : Nat) (body : List Byte) : LeashLeaves m (m.braceSend k type body) := by
  simp only [Mod.braceSend, Mod.braceSendAt, Mod.tagBy, Mod.useKey]
  by_cases hkey : m.slotAllows (m.rd R.BRACE_KEY % 64) [1] 0 2 = true
  · simp only [hkey, if_true]
    refine LeashLeaves.trans (.inc m R.KEN_OP_CNT (by decide)) (LeashLeaves.trans (.inc _ R.BRACE_TX_CNT (by decide)) ?_)
    exact ⟨fun _ _ _ => rfl, rfl⟩
  · simp only [hkey]
    exact LeashLeaves.trans (.inc m R.KEN_POLICY_FAIL_CNT (by decide)) (.evt _ R.KEN_EVT _ _ _ (by decide))

theorem LeashLeaves.tripSignal (m : Mod) (k : Clock) (cause : Nat) : LeashLeaves m (m.tripSignal k cause) := by
  simp only [Mod.tripSignal]
  split
  · exact .refl m
  · exact (LeashLeaves.emit ..).trans (.braceSend ..)

/-! ## A trip's own registers -/

/-- LEASH_STAT and the outputs of a trip: a re-arm under way is refused, CAUSE names the trip that ends ARMED, and the outputs de-energise. -/
def Mod.tripStat (m : Mod) (cause : Nat) : Mod :=
  let st := m.lstate
  let m := if st = 1 then (m.setF F.LEASH_STAT_ARM_REFUSE 6).leashEvt 2 else m
  let m := if st = 2 then m.setF F.LEASH_STAT_CAUSE cause else m
  let m := m.setF F.LEASH_STAT_STATE 0
  if st = 2 then ((m.setB F.LEASH_STAT_OUT_A false).setB F.LEASH_STAT_OUT_B false).emit (.leashOut false false) else m

/-- The trip numbered, counted and dated. -/
def Mod.tripTold (m : Mod) (k : Clock) : Mod :=
  let m := m.wr R.LEASH_TRIP_ID ((m.rd R.LEASH_TRIP_ID + 1) % 65536)
  let m := ((m.wr R.LEASH_TRIP_NS (Clock.word k.now)).wr R.LEASH_TRIP_WRAP (Clock.wrap k.now)).wr R.LEASH_TRIP_TICK k.tick
  (m.inc R.LEASH_TRIP_CNT).leashEvt 0

/-- What follows a trip in the other blocks: motion dropped, DROP sent, a record, the partner's signal. -/
def Mod.tripFollows (m : Mod) (k : Clock) (cause src id : Nat) : Mod :=
  let m := m.dropAll k
  let m := if m.mayBeacon then m.airTrip k cause id else m
  let m := m.recTrig k 1 (le 2 id ++ le 1 cause ++ le 1 src)
  m.tripSignal k cause

/-- A trip is its registers, its entry in the log, and what follows it. -/
theorem Mod.trip_eq (m : Mod) (k : Clock) (cause src : Nat) (h : ¬ (m.lstate = 0 ∧ m.leash.tripAt = some k.raw)) :
    ∃ e id, m.trip k cause src = Mod.tripFollows { (m.tripStat cause).tripTold k with leash := { ((m.tripStat cause).tripTold k).leash with
      tripAt := some k.raw, tripFirst := m.lstate == 2, test := none, log := (e :: ((m.tripStat cause).tripTold k).leash.log).take 4 } } k cause src id := by
  rw [Mod.trip]
  exact ⟨_, _, if_neg h⟩

theorem LeashLeaves.tripFollows (m : Mod) (k : Clock) (cause src id : Nat) : LeashLeaves m (m.tripFollows k cause src id) := by
  have hair : LeashLeaves m (if (m.dropAll k).mayBeacon then (m.dropAll k).airTrip k cause id else m.dropAll k) := by
    split
    · exact (LeashLeaves.dropAll m k).trans (.airTrip ..)
    · exact .dropAll m k
  exact (hair.trans (.recTrig ..)).trans (.tripSignal ..)

/-- A field of LEASH_STAT that no trip writes: not STATE, the outputs, CAUSE or ARM_REFUSE. -/
def TripLeaves (f : Fld) : Prop :=
  f.off = R.LEASH_STAT ∧ f.hi ≤ 31 ∧ 1 < f.lo ∧ (f.hi < 4 ∨ 5 < f.lo) ∧ (f.hi < 16 ∨ 19 < f.lo) ∧ (f.hi < 24 ∨ 27 < f.lo)

theorem Mod.rd_leashEvt_ne (m : Mod) (b : Nat) {x : Nat} (h : x ≠ R.LEASH_EVT) (h' : x ≠ R.RING_IRQ_STAT) : (m.leashEvt b).rd x = m.rd x :=
  Mod.rd_evt_ne _ _ _ _ _ h h'

theorem Mod.fld_leashEvt (m : Mod) (b : Nat) {f : Fld} (h : f.off = R.LEASH_STAT) : (m.leashEvt b).fld f = m.fld f :=
  Mod.fld_congr (Mod.rd_leashEvt_ne _ _ (by rw [h]; decide) (by rw [h]; decide))

theorem Mod.bit_leashEvt_keeps (m : Mod) (b : Nat) {i : Nat} (h : m.bit R.LEASH_EVT i = true) : (m.leashEvt b).bit R.LEASH_EVT i = true :=
  Mod.bit_evt_keeps _ _ _ _ _ (by decide) h

/-- What a trip makes of LEASH_STAT. -/
theorem Mod.tripStat_spec (m : Mod) {cause : Nat} (hc : cause < 16) :
    (m.tripStat cause).lstate = 0 ∧ (m.tripStat cause).fld F.LEASH_STAT_CAUSE = (if m.lstate = 2 then cause else m.fld F.LEASH_STAT_CAUSE)
      ∧ (∀ f, TripLeaves f → (m.tripStat cause).fld f = m.fld f)
      ∧ (∀ x, x ≠ R.LEASH_STAT → x ≠ R.LEASH_EVT → x ≠ R.RING_IRQ_STAT → (m.tripStat cause).rd x = m.rd x)
      ∧ (∀ i, m.bit R.LEASH_EVT i = true → (m.tripStat cause).bit R.LEASH_EVT i = true) ∧ (m.tripStat cause).leash = m.leash := by
  by_cases h1 : m.lstate = 1
  · have heq : m.tripStat cause = ((m.setF F.LEASH_STAT_ARM_REFUSE 6).leashEvt 2).setF F.LEASH_STAT_STATE 0 := by simp [Mod.tripStat, h1]
    rw [heq, h1]
    refine ⟨Mod.fld_setF _ _ _ (by decide) (by decide), ?_, fun f hf => ?_, fun x hx he hi => ?_, fun i hi => ?_, ?_⟩
    · rw [Mod.fld_setF_ne _ _ _ (by decide) (by decide) (by decide), Mod.fld_leashEvt _ _ rfl,
        Mod.fld_setF_ne _ _ _ (by decide) (by decide) (by decide), if_neg (by decide)]
    · obtain ⟨hoff, h31, hst, hout, hcause, href⟩ := hf
      rw [Mod.fld_setF_ne _ _ _ (by decide) h31 (by simp only [F.LEASH_STAT_STATE]; omega), Mod.fld_leashEvt _ _ hoff,
        Mod.fld_setF_ne _ _ _ (by decide) h31 (by simp only [F.LEASH_STAT_ARM_REFUSE]; omega)]
    · rw [Mod.rd_setF_ne _ _ _ hx, Mod.rd_leashEvt_ne _ _ he hi, Mod.rd_setF_ne _ _ _ hx]
    · rw [Mod.bit_congr (Mod.rd_setF_ne _ _ _ (by decide))]
      exact Mod.bit_leashEvt_keeps _ _ ((Mod.bit_congr (Mod.rd_setF_ne _ _ _ (by decide))).trans hi)
    · simp [Mod.leashEvt]
  · by_cases h2 : m.lstate = 2
    · have heq : m.tripStat cause = ((((m.setF F.LEASH_STAT_CAUSE cause).setF F.LEASH_STAT_STATE 0).setB F.LEASH_STAT_OUT_A false).setB
          F.LEASH_STAT_OUT_B false).emit (.leashOut false false) := by simp [Mod.tripStat, h2]
      have hrd : ∀ x, (m.tripStat cause).rd x = ((((m.setF F.LEASH_STAT_CAUSE cause).setF F.LEASH_STAT_STATE 0).setB F.LEASH_STAT_OUT_A false).setB
          F.LEASH_STAT_OUT_B false).rd x := fun x => by rw [heq]; rfl
      refine ⟨?_, ?_, fun f hf => ?_, fun x hx he hi => ?_, fun i hi => ?_, ?_⟩
      · rw [Mod.lstate, Mod.fld_congr (hrd _), Mod.fld_setB_ne _ _ _ (by decide) (by decide) (by decide),
          Mod.fld_setB_ne _ _ _ (by decide) (by decide) (by decide), Mod.fld_setF _ _ _ (by decide) (by decide)]
        rfl
      · rw [Mod.fld_congr (hrd _), Mod.fld_setB_ne _ _ _ (by decide) (by decide) (by decide),
          Mod.fld_setB_ne _ _ _ (by decide) (by decide) (by decide), Mod.fld_setF_ne _ _ _ (by decide) (by decide) (by decide),
          Mod.fld_setF _ _ _ (by decide) (by decide), if_pos h2]
        exact Nat.mod_eq_of_lt hc
      · obtain ⟨hoff, h31, hst, hout, hcause, href⟩ := hf
        rw [Mod.fld_congr (hrd _), Mod.fld_setB_ne _ _ _ (by decide) h31 (by simp only [F.LEASH_STAT_OUT_B]; omega),
          Mod.fld_setB_ne _ _ _ (by decide) h31 (by simp only [F.LEASH_STAT_OUT_A]; omega),
          Mod.fld_setF_ne _ _ _ (by decide) h31 (by simp only [F.LEASH_STAT_STATE]; omega),
          Mod.fld_setF_ne _ _ _ (by decide) h31 (by simp only [F.LEASH_STAT_CAUSE]; omega)]
      · rw [hrd, Mod.rd_setB_ne _ _ _ hx, Mod.rd_setB_ne _ _ _ hx, Mod.rd_setF_ne _ _ _ hx, Mod.rd_setF_ne _ _ _ hx]
      · rw [Mod.bit_congr (hrd _), Mod.bit_congr (Mod.rd_setB_ne _ _ _ (by decide)), Mod.bit_congr (Mod.rd_setB_ne _ _ _ (by decide)),
          Mod.bit_congr (Mod.rd_setF_ne _ _ _ (by decide)), Mod.bit_congr (Mod.rd_setF_ne _ _ _ (by decide))]
        exact hi
      · rw [heq]; rfl
    · have heq : m.tripStat cause = m.setF F.LEASH_STAT_STATE 0 := by simp [Mod.tripStat, h1, h2]
      rw [heq]
      refine ⟨Mod.fld_setF _ _ _ (by decide) (by decide), ?_, fun f hf => ?_, fun x hx he hi => Mod.rd_setF_ne _ _ _ hx, fun i hi => ?_, rfl⟩
      · rw [Mod.fld_setF_ne _ _ _ (by decide) (by decide) (by decide), if_neg h2]
      · obtain ⟨hoff, h31, hst, hout, hcause, href⟩ := hf
        rw [Mod.fld_setF_ne _ _ _ (by decide) h31 (by simp only [F.LEASH_STAT_STATE]; omega)]
      · exact (Mod.bit_congr (Mod.rd_setF_ne _ _ _ (by decide))).trans hi

/-- What a trip makes of its own registers. -/
theorem Mod.tripTold_spec (m : Mod) (k : Clock) :
    (m.tripTold k).rd R.LEASH_TRIP_CNT = (m.rd R.LEASH_TRIP_CNT + 1) % 4294967296
      ∧ (m.tripTold k).rd R.LEASH_TRIP_ID = (m.rd R.LEASH_TRIP_ID + 1) % 65536
      ∧ (m.tripTold k).rd R.LEASH_TRIP_TICK = k.tick ∧ (m.tripTold k).rd R.LEASH_TRIP_NS = Clock.word k.now
      ∧ (m.tripTold k).rd R.LEASH_TRIP_WRAP = Clock.wrap k.now ∧ (m.tripTold k).bit R.LEASH_EVT 0 = true
      ∧ (∀ x, x ∉ [R.LEASH_TRIP_CNT, R.LEASH_TRIP_ID, R.LEASH_TRIP_TICK, R.LEASH_TRIP_NS, R.LEASH_TRIP_WRAP, R.LEASH_EVT, R.RING_IRQ_STAT] →
        (m.tripTold k).rd x = m.rd x)
      ∧ (∀ i, m.bit R.LEASH_EVT i = true → (m.tripTold k).bit R.LEASH_EVT i = true) ∧ (m.tripTold k).leash = m.leash := by
  have hid : (m.rd R.LEASH_TRIP_ID + 1) % 65536 % 4294967296 = (m.rd R.LEASH_TRIP_ID + 1) % 65536 := by omega
  have htick : k.tick % 4294967296 = k.tick := Nat.mod_mod _ _
  have hns : Clock.word k.now % 4294967296 = Clock.word k.now := Nat.mod_mod _ _
  have hwrap : Clock.wrap k.now % 4294967296 = Clock.wrap k.now := by unfold Clock.wrap; omega
  have hkeep : ∀ i, m.bit R.LEASH_EVT i = true → (m.tripTold k).bit R.LEASH_EVT i = true := fun i hi => by
    refine Mod.bit_leashEvt_keeps _ _ ((Mod.bit_congr ?_).trans hi)
    rw [Mod.rd_inc, if_neg (by decide), Mod.rd_wr_ne _ _ _ (by decide), Mod.rd_wr_ne _ _ _ (by decide), Mod.rd_wr_ne _ _ _ (by decide),
      Mod.rd_wr_ne _ _ _ (by decide)]
  refine ⟨?_, ?_, ?_, ?_, ?_, Mod.bit_evt _ _ _ _ _ (by decide) (by decide), fun x hx => ?_, hkeep, by simp [Mod.tripTold, Mod.leashEvt]⟩
  · rw [Mod.tripTold, Mod.rd_leashEvt_ne _ _ (by decide) (by decide), Mod.rd_inc, if_pos rfl, Mod.rd_wr_ne _ _ _ (by decide),
      Mod.rd_wr_ne _ _ _ (by decide), Mod.rd_wr_ne _ _ _ (by decide), Mod.rd_wr_ne _ _ _ (by decide)]
  · rw [Mod.tripTold, Mod.rd_leashEvt_ne _ _ (by decide) (by decide), Mod.rd_inc, if_neg (by decide), Mod.rd_wr_ne _ _ _ (by decide),
      Mod.rd_wr_ne _ _ _ (by decide), Mod.rd_wr_ne _ _ _ (by decide), Mod.rd_wr_same, hid]
  · rw [Mod.tripTold, Mod.rd_leashEvt_ne _ _ (by decide) (by decide), Mod.rd_inc, if_neg (by decide), Mod.rd_wr_same, htick]
  · rw [Mod.tripTold, Mod.rd_leashEvt_ne _ _ (by decide) (by decide), Mod.rd_inc, if_neg (by decide), Mod.rd_wr_ne _ _ _ (by decide),
      Mod.rd_wr_ne _ _ _ (by decide), Mod.rd_wr_same, hns]
  · rw [Mod.tripTold, Mod.rd_leashEvt_ne _ _ (by decide) (by decide), Mod.rd_inc, if_neg (by decide), Mod.rd_wr_ne _ _ _ (by decide),
      Mod.rd_wr_same, hwrap]
  · simp only [List.mem_cons, List.not_mem_nil, or_false, not_or] at hx
    obtain ⟨hcnt, hid, htick, hns, hwrap, hevt, hirq⟩ := hx
    rw [Mod.tripTold, Mod.rd_leashEvt_ne _ _ hevt hirq, Mod.rd_inc, if_neg hcnt, Mod.rd_wr_ne _ _ _ htick, Mod.rd_wr_ne _ _ _ hwrap,
      Mod.rd_wr_ne _ _ _ hns, Mod.rd_wr_ne _ _ _ hid]

/-- The Leash's own state shows in no register. -/
theorem Mod.rd_leash (m : Mod) (x : LeashSt) (a : Nat) : ({ m with leash := x } : Mod).rd a = m.rd a := (rfl)

/-- A source's trip, as the module it finds shows it: one with a trip of the same cycle, or a trip that takes place. -/
def TripsTo (m t : Mod) (k : Clock) (cause : Nat) : Prop :=
  if m.lstate = 0 ∧ m.leash.tripAt = some k.raw then
    t.lstate = 0 ∧ t.rd R.LEASH_TRIP_CNT = m.rd R.LEASH_TRIP_CNT ∧ t.rd R.LEASH_TRIP_ID = m.rd R.LEASH_TRIP_ID ∧ t.leash.tripAt = m.leash.tripAt
  else t.lstate = 0 ∧ t.rd R.LEASH_TRIP_CNT = (m.rd R.LEASH_TRIP_CNT + 1) % 4294967296
    ∧ t.rd R.LEASH_TRIP_ID = (m.rd R.LEASH_TRIP_ID + 1) % 65536 ∧ t.rd R.LEASH_TRIP_TICK = k.tick
    ∧ t.rd R.LEASH_TRIP_NS = Clock.word k.now ∧ t.rd R.LEASH_TRIP_WRAP = Clock.wrap k.now
    ∧ t.bit R.LEASH_EVT 0 = true ∧ t.fld F.LEASH_STAT_CAUSE = if m.lstate = 2 then cause else m.fld F.LEASH_STAT_CAUSE

/-- What a trip leaves of the Leash: the other fields of LEASH_STAT, the events and tests told before, and the sources. -/
structure TripKeeps (m t : Mod) : Prop where
  fld : ∀ f, TripLeaves f → t.fld f = m.fld f
  evt : ∀ i, m.bit R.LEASH_EVT i = true → t.bit R.LEASH_EVT i = true
  fails : t.rd R.LEASH_TEST_FAIL_CNT = m.rd R.LEASH_TEST_FAIL_CNT
  mon : t.leash.mon = m.leash.mon
  swCmd : t.leash.swCmd = m.leash.swCmd

/-- A trip of the same cycle changes the log, the cause it shows and the DROP's, and nothing else. -/
theorem Mod.tripWith_spec (m : Mod) (cause src : Nat) :
    (m.tripWith cause src).lstate = m.lstate ∧ (∀ x, x ≠ R.LEASH_STAT → (m.tripWith cause src).rd x = m.rd x)
      ∧ (∀ f, TripLeaves f → (m.tripWith cause src).fld f = m.fld f) ∧ (m.tripWith cause src).leash.tripAt = m.leash.tripAt
      ∧ (m.tripWith cause src).leash.mon = m.leash.mon ∧ (m.tripWith cause src).leash.swCmd = m.leash.swCmd := by
  have hset : ∀ n : Mod, (n.setF F.LEASH_STAT_CAUSE cause).lstate = n.lstate
      ∧ (∀ x, x ≠ R.LEASH_STAT → (n.setF F.LEASH_STAT_CAUSE cause).rd x = n.rd x)
      ∧ (∀ f, TripLeaves f → (n.setF F.LEASH_STAT_CAUSE cause).fld f = n.fld f) := fun n =>
    ⟨Mod.fld_setF_ne _ _ _ (by decide) (by decide) (by decide), fun x hx => Mod.rd_setF_ne _ _ _ hx, fun f hf => by
      obtain ⟨hoff, h31, hst, hout, hcause, href⟩ := hf
      exact Mod.fld_setF_ne _ _ _ (by decide) h31 (by simp only [F.LEASH_STAT_CAUSE]; omega)⟩
  simp only [Mod.tripWith]
  split
  · split
    · exact ⟨rfl, fun _ _ => rfl, fun _ _ => rfl, rfl, rfl, rfl⟩
    · rename_i h e l _ _
      generalize hq : (if m.leash.tripFirst = true then Mod.setF _ F.LEASH_STAT_CAUSE cause else _) = q
      have hq' : q.lstate = m.lstate ∧ (∀ x, x ≠ R.LEASH_STAT → q.rd x = m.rd x) ∧ (∀ f, TripLeaves f → q.fld f = m.fld f)
          ∧ q.leash.tripAt = m.leash.tripAt ∧ q.leash.mon = m.leash.mon ∧ q.leash.swCmd = m.leash.swCmd := by
        rw [← hq]
        split
        · obtain ⟨hst, hrd, hfld⟩ := hset { m with leash := { m.leash with
            log := (BitVec.ofNat 32 (h.toNat % 65536 + cause * 65536 + src * 1048576) :: e) :: l } }
          exact ⟨hst, hrd, hfld, rfl, rfl, rfl⟩
        · exact ⟨rfl, fun _ _ => rfl, fun _ _ => rfl, rfl, rfl, rfl⟩
      obtain ⟨hst, hrd, hfld, hat, hmon, hsw⟩ := hq'
      split
      · split
        · exact ⟨hst, hrd, hfld, hat, hmon, hsw⟩
        · exact ⟨hst, hrd, hfld, hat, hmon, hsw⟩
      · exact ⟨hst, hrd, hfld, hat, hmon, hsw⟩
  · exact ⟨rfl, fun _ _ => rfl, fun _ _ => rfl, rfl, rfl, rfl⟩

/-- A trip takes place, or joins one of the same cycle; the rest of the Leash stays. -/
theorem Mod.trip_spec (m : Mod) (k : Clock) {cause : Nat} (hc : cause < 16) (src : Nat) :
    TripsTo m (m.trip k cause src) k cause ∧ TripKeeps m (m.trip k cause src) := by
  unfold TripsTo
  split
  · rename_i h
    have heq : m.trip k cause src = m.tripWith cause src := by rw [Mod.trip]; exact if_pos h
    obtain ⟨hst, hrd, hfld, hat, hmon, hsw⟩ := m.tripWith_spec cause src
    rw [heq]
    exact ⟨⟨hst.trans h.1, hrd _ (by decide), hrd _ (by decide), hat⟩,
      ⟨hfld, fun i hi => (Mod.bit_congr (hrd _ (by decide))).trans hi, hrd _ (by decide), hmon, hsw⟩⟩
  · rename_i h
    obtain ⟨e, id, heq⟩ := m.trip_eq k cause src h
    obtain ⟨hst, hcause, hfld, hrd, hevt, hleash⟩ := m.tripStat_spec hc
    obtain ⟨hcnt, hid, htick, hns, hwrap, hbit, hrd', hevt', hleash'⟩ := (m.tripStat cause).tripTold_spec k
    generalize (m.tripStat cause).tripTold k = q at heq hcnt hid htick hns hwrap hbit hrd' hevt' hleash'
    have hl := LeashLeaves.tripFollows { q with leash := { q.leash with
      tripAt := some k.raw, tripFirst := m.lstate == 2, test := none, log := (e :: q.leash.log).take 4 } } k cause src id
    rw [← heq] at hl
    have hx : ∀ x, 0x8000 ≤ x → x < 0x9000 → (m.trip k cause src).rd x = q.rd x := fun x h1 h2 => (hl.rd x h1 h2).trans (Mod.rd_leash _ _ _)
    have hstat := hx R.LEASH_STAT (by decide) (by decide)
    have hstat' := hrd' R.LEASH_STAT (by decide)
    refine ⟨⟨?_, ?_, ?_, ?_, ?_, ?_, ?_, ?_⟩, ⟨fun f hf => ?_, fun i hi => ?_, ?_, ?_, ?_⟩⟩
    · exact (Mod.fld_congr (f := F.LEASH_STAT_STATE) (hstat.trans hstat')).trans hst
    · rw [hx _ (by decide) (by decide), hcnt, hrd _ (by decide) (by decide) (by decide)]
    · rw [hx _ (by decide) (by decide), hid, hrd _ (by decide) (by decide) (by decide)]
    · rw [hx _ (by decide) (by decide), htick]
    · rw [hx _ (by decide) (by decide), hns]
    · rw [hx _ (by decide) (by decide), hwrap]
    · rw [Mod.bit_congr (hx _ (by decide) (by decide)), hbit]
    · exact (Mod.fld_congr (f := F.LEASH_STAT_CAUSE) (hstat.trans hstat')).trans hcause
    · have hoff : f.off = R.LEASH_STAT := hf.1
      exact (Mod.fld_congr (by rw [hoff]; exact hstat.trans hstat')).trans (hfld f hf)
    · rw [Mod.bit_congr (hx _ (by decide) (by decide))]
      exact hevt' i (hevt i hi)
    · rw [hx _ (by decide) (by decide), hrd' _ (by decide), hrd _ (by decide) (by decide) (by decide)]
    · rw [hl.leash, ← hleash, ← hleash']
    · rw [hl.leash, ← hleash, ← hleash']

end Sys2Proof.Machine
end

section
/-! SUPPORT. The Leash: its inputs, its monitor and its commands, and when they trip (R407 to R415, R420). -/

namespace Sys2Proof.Machine

variable {m : Mod} {k : Clock}

/-- A trip is told of the module before a source was marked where the marking leaves what a trip reads. -/
theorem TripsTo.of_marked {n t : Mod} {cause : Nat} (h : TripsTo n t k cause) (hst : n.lstate = m.lstate) (hat : n.leash.tripAt = m.leash.tripAt)
    (hcnt : n.rd R.LEASH_TRIP_CNT = m.rd R.LEASH_TRIP_CNT) (hid : n.rd R.LEASH_TRIP_ID = m.rd R.LEASH_TRIP_ID)
    (hcause : n.fld F.LEASH_STAT_CAUSE = m.fld F.LEASH_STAT_CAUSE) : TripsTo m t k cause := by
  rwa [TripsTo, hst, hat, hcnt, hid, hcause] at h

/-- What happens in other blocks after a trip leaves it. -/
theorem TripsTo.then {t t' : Mod} {cause : Nat} (h : TripsTo m t k cause) (hl : LeashLeaves t t') : TripsTo m t' k cause := by
  have hstat := hl.rd R.LEASH_STAT (by decide) (by decide)
  have hst : t'.lstate = t.lstate := Mod.fld_congr hstat
  have hcause : t'.fld F.LEASH_STAT_CAUSE = t.fld F.LEASH_STAT_CAUSE := Mod.fld_congr hstat
  rw [TripsTo, hst, hcause, hl.leash, hl.rd R.LEASH_TRIP_CNT (by decide) (by decide), hl.rd R.LEASH_TRIP_ID (by decide) (by decide),
    hl.rd R.LEASH_TRIP_TICK (by decide) (by decide), hl.rd R.LEASH_TRIP_NS (by decide) (by decide),
    hl.rd R.LEASH_TRIP_WRAP (by decide) (by decide), Mod.bit_congr (hl.rd R.LEASH_EVT (by decide) (by decide))]
  exact h

/-! ## Inputs -/

/-- The register of an input's last falling edge. -/
def edgeReg (x : Nat) : Nat := if x = 0 then R.LEASH_EDGE_A_NS else R.LEASH_EDGE_B_NS

theorem inField_spec (x : Nat) : (inField x).off = R.LEASH_STAT ∧ (inField x).lo ≤ (inField x).hi ∧ (inField x).hi ≤ 31 ∧ 2 ≤ (inField x).lo
    ∧ (inField x).hi ≤ 3 ∧ TripLeaves (inField x) := by
  unfold inField TripLeaves
  split <;> decide

theorem edgeReg_ne (x : Nat) {a : Nat} (h0 : a ≠ R.LEASH_EDGE_A_NS) (h1 : a ≠ R.LEASH_EDGE_B_NS) : a ≠ edgeReg x := by
  unfold edgeReg
  split
  · exact h0
  · exact h1

/-- An input's record is put. -/
def Mod.putIn (m : Mod) (x : Nat) (i : LeashIn) : Mod := { m with leash := if x = 0 then { m.leash with a := i } else { m.leash with b := i } }

/-- What the inputs' difference and their going off together make of the Leash's state (R420). -/
def Mod.offTogether (m : Mod) : Mod :=
  let both := !m.on F.LEASH_STAT_IN_A && !m.on F.LEASH_STAT_IN_B
  if both && m.on F.LEASH_STAT_DISC then { m with leash := { m.leash with bothOff := true } } else m

/-- The module is another one but for the Leash's inputs, which stand as put. -/
def InPut (m t : Mod) (x : Nat) (i : LeashIn) : Prop :=
  ∃ l : LeashSt, t = { m with leash := l } ∧ l.tripAt = m.leash.tripAt ∧ l.swCmd = m.leash.swCmd ∧ (if x = 0 then l.a else l.b) = i

theorem Mod.putIn_put (m : Mod) (x : Nat) (i : LeashIn) : InPut m (m.putIn x i) x i := by
  refine ⟨_, rfl, ?_, ?_, ?_⟩
  all_goals by_cases hx : x = 0 <;> simp [hx]

/-- Another field of the Leash's state may change with it. -/
theorem InPut.leash {m t : Mod} {x : Nat} {i : LeashIn} (h : InPut m t x i) (l : LeashSt) (ha : l.a = t.leash.a) (hb : l.b = t.leash.b)
    (hat : l.tripAt = t.leash.tripAt) (hsw : l.swCmd = t.leash.swCmd) : InPut m { t with leash := l } x i := by
  obtain ⟨l', rfl, hat', hsw', hin⟩ := h
  exact ⟨l, rfl, hat.trans hat', hsw.trans hsw', by rw [ha, hb]; exact hin⟩

theorem Mod.offTogether_put (m : Mod) (k : Clock) (x : Nat) (i : LeashIn) : InPut m ((m.putIn x i).differShow k).offTogether x i := by
  have hd : InPut m ((m.putIn x i).differShow k) x i := (m.putIn_put x i).leash _ rfl rfl rfl rfl
  unfold Mod.offTogether
  dsimp only
  split
  · exact hd.leash _ rfl rfl rfl rfl
  · exact hd

/-- An input that de-energises shows so at once, with the time of its edge (R408). -/
def Mod.inDown (m : Mod) (k : Clock) (x : Nat) : Mod := (m.setB (inField x) false).wr (edgeReg x) (Clock.word k.now)

theorem Mod.inOff_eq {x : Nat} (hon : m.on (inField x) = true) :
    m.inOff k x = (if (m.inDown k x).pulseTol == 0 then
        ((((m.inDown k x).putIn x { at_ := k.raw, off := (m.inDown k x).pulseTol == 0 }).differShow k).offTogether).leashSource k (m.inDown k x).inputOff (x + 1)
      else (((m.inDown k x).putIn x { at_ := k.raw, off := (m.inDown k x).pulseTol == 0 }).differShow k).offTogether) := by
  rw [Mod.inOff]
  exact if_neg (by rw [show m.on (if x = 0 then F.LEASH_STAT_IN_A else F.LEASH_STAT_IN_B) = true from hon]; decide)

/-- What the edge leaves: the Leash's other fields, its other registers and its state. -/
theorem Mod.inDown_spec (m : Mod) (k : Clock) (x : Nat) :
    (m.inDown k x).on (inField x) = false ∧ (m.inDown k x).lstate = m.lstate
      ∧ (m.inDown k x).fld F.LEASH_STAT_CAUSE = m.fld F.LEASH_STAT_CAUSE
      ∧ ∀ a, a ≠ R.LEASH_STAT → a ≠ R.LEASH_EDGE_A_NS → a ≠ R.LEASH_EDGE_B_NS → (m.inDown k x).rd a = m.rd a := by
  obtain ⟨hoff, hle, h31, hlo, hhi, -⟩ := inField_spec x
  have hstat : (m.inDown k x).rd R.LEASH_STAT = (m.setB (inField x) false).rd R.LEASH_STAT := Mod.rd_wr_ne _ _ _ (edgeReg_ne x (by decide) (by decide))
  refine ⟨(Mod.on_congr (by rw [hoff]; exact hstat)).trans (Mod.on_setB _ _ _ hle h31), ?_, ?_, fun a ha h0 h1 => ?_⟩
  · exact (Mod.fld_congr (f := F.LEASH_STAT_STATE) hstat).trans
      (Mod.fld_setB_ne _ _ _ hle (by decide) (by simp only [F.LEASH_STAT_STATE]; omega))
  · exact (Mod.fld_congr (f := F.LEASH_STAT_CAUSE) hstat).trans
      (Mod.fld_setB_ne _ _ _ hle (by decide) (by simp only [F.LEASH_STAT_CAUSE]; omega))
  · exact (Mod.rd_wr_ne _ _ _ (edgeReg_ne x h0 h1)).trans (Mod.rd_setB_ne _ _ _ (by rw [hoff]; exact ha))

theorem Mod.inDown_pulseTol (m : Mod) (k : Clock) (x : Nat) : (m.inDown k x).pulseTol = m.pulseTol :=
  congrArg (min 1000) (Mod.fld_congr ((m.inDown_spec k x).2.2.2 _ (by decide) (by decide) (by decide)))

/-- Without a tolerated pulse an input that de-energises trips (R410, R411). -/
theorem Mod.inOff_trips {x : Nat} (hx : x < 2) (hon : m.on (inField x) = true) (hoff : m.inputOff = false) (htol : m.pulseTol = 0) :
    TripsTo m (m.inOff k x) k (x + 1) ∧ (m.inOff k x).on (inField x) = false := by
  obtain ⟨hdown, hst, hcause, hrd⟩ := m.inDown_spec k x
  obtain ⟨l, hl, hat, -, -⟩ := (m.inDown k x).offTogether_put k x { at_ := k.raw, off := (m.inDown k x).pulseTol == 0 }
  have hwas : (m.inDown k x).inputOff = false := hoff
  rw [Mod.inOff_eq hon, hl, Mod.inDown_pulseTol, htol, hwas]
  simp only [beq_self_eq_true, if_true, Mod.leashSource, Bool.false_eq_true, if_false]
  obtain ⟨htrip, hkeep⟩ := Mod.trip_spec { m.inDown k x with leash := l } k (cause := x + 1) (by omega) 0
  refine ⟨htrip.of_marked ((Mod.fld_congr (Mod.rd_leash _ _ _)).trans hst) hat (hrd _ (by decide) (by decide) (by decide))
    (hrd _ (by decide) (by decide) (by decide)) ((Mod.fld_congr (Mod.rd_leash _ _ _)).trans hcause), ?_⟩
  have hf := hkeep.fld (inField x) (inField_spec x).2.2.2.2.2
  rw [Mod.on, hf, Mod.fld_congr (Mod.rd_leash _ _ _), ← Mod.on]
  exact hdown

/-- Where a pulse is tolerated, an input that de-energises is marked and nothing trips yet. -/
theorem Mod.inOff_tolerated {x : Nat} (hon : m.on (inField x) = true) (htol : m.pulseTol ≠ 0) :
    (m.inOff k x).on (inField x) = false ∧ ((m.inOff k x).inCh x).at_ = k.raw ∧ (m.inOff k x).lstate = m.lstate ∧ (m.inOff k x).out = m.out
      ∧ (m.inOff k x).rd R.LEASH_TRIP_CNT = m.rd R.LEASH_TRIP_CNT := by
  obtain ⟨hdown, hst, -, hrd⟩ := m.inDown_spec k x
  obtain ⟨l, hl, -, -, hin⟩ := (m.inDown k x).offTogether_put k x { at_ := k.raw, off := (m.inDown k x).pulseTol == 0 }
  rw [Mod.inOff_eq hon, hl, if_neg (by rw [Mod.inDown_pulseTol]; simpa using htol)]
  exact ⟨(Mod.on_congr (Mod.rd_leash _ _ _)).trans hdown, congrArg LeashIn.at_ hin, (Mod.fld_congr (Mod.rd_leash _ _ _)).trans hst, rfl,
    hrd _ (by decide) (by decide) (by decide)⟩

/-- An input that stays off beyond the tolerated pulse trips. -/
theorem Mod.inTol_trips {x : Nat} (hx : x < 2) (hon : m.on (inField x) = false) (hin : (m.inCh x).off = false)
    (hpast : (m.inCh x).at_ + usRaw m.pulseTol ≤ k.raw) (hoff : m.inputOff = false) : TripsTo m (m.inTol k x) k (x + 1) := by
  have hguard : ¬ (m.on (if x = 0 then F.LEASH_STAT_IN_A else F.LEASH_STAT_IN_B) = true ∨ (m.inCh x).off = true
      ∨ k.raw < (m.inCh x).at_ + usRaw m.pulseTol) := by
    rintro (h | h | h)
    · exact absurd (h.symm.trans hon) (by decide)
    · exact absurd (h.symm.trans hin) (by decide)
    · omega
  have heq : m.inTol k x = (m.putIn x { m.inCh x with off := true }).trip k (x + 1) := by
    rw [Mod.inTol]
    refine (if_neg hguard).trans ?_
    rw [Mod.leashSource, if_neg (by rw [hoff]; decide)]
    rfl
  rw [heq]
  have hat : (m.putIn x { m.inCh x with off := true }).leash.tripAt = m.leash.tripAt := by
    unfold Mod.putIn
    split <;> rfl
  exact (Mod.trip_spec _ k (by omega) 0).1.of_marked (Mod.fld_congr (Mod.rd_leash _ _ _)) hat (Mod.rd_leash _ _ _) (Mod.rd_leash _ _ _)
    (Mod.fld_congr (Mod.rd_leash _ _ _))

/-- When both inputs are back after having been off together the discrepancy ends (R420). -/
def Mod.onTogether (m : Mod) : Mod :=
  if m.on F.LEASH_STAT_IN_A && m.on F.LEASH_STAT_IN_B && m.leash.bothOff then
    Mod.setB { m with leash := { m.leash with bothOff := false } } F.LEASH_STAT_DISC false
  else m

theorem Mod.onTogether_spec (m : Mod) (x : Nat) :
    m.onTogether.on (inField x) = m.on (inField x) ∧ m.onTogether.inCh x = m.inCh x ∧ m.onTogether.lstate = m.lstate
      ∧ ∀ a, a ≠ R.LEASH_STAT → m.onTogether.rd a = m.rd a := by
  obtain ⟨hoff, hle, h31, hlo, hhi, -⟩ := inField_spec x
  unfold Mod.onTogether
  split
  · refine ⟨(Mod.on_setB_ne _ _ _ (by decide) h31 (by simp only [F.LEASH_STAT_DISC]; omega)).trans (Mod.on_congr (Mod.rd_leash _ _ _)), ?_,
      (Mod.fld_setB_ne _ _ _ (by decide) (by decide) (by decide)).trans (Mod.fld_congr (Mod.rd_leash _ _ _)), fun a ha =>
        (Mod.rd_setB_ne _ _ _ ha).trans (Mod.rd_leash _ _ _)⟩
    unfold Mod.inCh
    split <;> rfl
  · exact ⟨rfl, rfl, rfl, fun _ _ => rfl⟩

/-- An input that energises is marked, and nothing trips. -/
theorem Mod.inOn_spec {x : Nat} (hon : m.on (inField x) = false) :
    (m.inOn k x).on (inField x) = true ∧ ((m.inOn k x).inCh x).off = false ∧ (m.inOn k x).lstate = m.lstate
      ∧ ∀ a, a ≠ R.LEASH_STAT → (m.inOn k x).rd a = m.rd a := by
  obtain ⟨hoff, hle, h31, hlo, hhi, -⟩ := inField_spec x
  have hup : (m.setB (inField x) true).on (inField x) = true := Mod.on_setB _ _ _ hle h31
  have hst : (m.setB (inField x) true).lstate = m.lstate := Mod.fld_setB_ne _ _ _ hle (by decide) (by simp only [F.LEASH_STAT_STATE]; omega)
  have hrd : ∀ a, a ≠ R.LEASH_STAT → (m.setB (inField x) true).rd a = m.rd a := fun a ha => Mod.rd_setB_ne _ _ _ (by rw [hoff]; exact ha)
  have hnot : ¬ m.on (if x = 0 then F.LEASH_STAT_IN_A else F.LEASH_STAT_IN_B) = true := by
    rw [show m.on (if x = 0 then F.LEASH_STAT_IN_A else F.LEASH_STAT_IN_B) = false from hon]; decide
  rw [Mod.inOn, if_neg hnot]
  obtain ⟨hon', hin, hst', hrd'⟩ := (((m.setB (inField x) true).putIn x { at_ := k.raw, off := false }).differShow k).onTogether_spec x
  have hput : (((m.setB (inField x) true).putIn x { at_ := k.raw, off := false }).differShow k).inCh x = { at_ := k.raw, off := false } := by
    unfold Mod.inCh Mod.differShow Mod.putIn
    split <;> rfl
  refine ⟨hon'.trans ((Mod.on_congr (Mod.rd_leash _ _ _)).trans ((Mod.on_congr (Mod.rd_leash _ _ _)).trans hup)), ?_,
    hst'.trans ((Mod.fld_congr (Mod.rd_leash _ _ _)).trans ((Mod.fld_congr (Mod.rd_leash _ _ _)).trans hst)), fun a ha =>
      (hrd' a ha).trans ((Mod.rd_leash _ _ _).trans ((Mod.rd_leash _ _ _).trans (hrd a ha)))⟩
  exact congrArg LeashIn.off (hin.trans hput)

/-! ## TRIP, the monitor and the discrepancy -/

theorem LeashLeaves.reply (m : Mod) (k : Clock) (block opcode code : Nat) (h : Hdr) (p : List Byte) : LeashLeaves m (m.reply k block opcode code h p) where
  rd x h1 h2 := Mod.rd_reply_ne _ _ _ _ _ _ _ (by simp only [R.RING_DROP_CNT]; omega) (by simp only [R.RING_STAT]; omega)
    (by simp only [R.RING_IRQ_STAT]; omega) (by simp only [R.KEN_STAT]; omega)
  leash := Mod.reply_leash ..

/-- A TRIP command whose source is not active trips, and makes it active (R413). -/
theorem Mod.tripCmd_spec (m : Mod) (k : Clock) (t : Mod)
    (ht : LeashLeaves (Mod.trip { m with leash := { m.leash with swCmd := true } } k 4) t) : TripsTo m t k 4 ∧ t.leash.swCmd = true := by
  obtain ⟨htrip, hkeep⟩ := Mod.trip_spec { m with leash := { m.leash with swCmd := true } } k (cause := 4) (by decide) 0
  refine ⟨(htrip.of_marked (Mod.fld_congr (Mod.rd_leash _ _ _)) rfl (Mod.rd_leash _ _ _) (Mod.rd_leash _ _ _)
    (Mod.fld_congr (Mod.rd_leash _ _ _))).then ht, ?_⟩
  rw [ht.leash, hkeep.swCmd]

/-- Taking a bit away from a number that has it clears it. -/
theorem testBit_sub_self {n i : Nat} (h : n.testBit i = true) : (n - 2 ^ i).testBit i = false := by
  obtain ⟨q, hq⟩ : ∃ q, n / 2 ^ i = 2 * q + 1 := by
    rw [Nat.testBit_eq_decide_div_mod_eq, decide_eq_true_eq] at h
    exact ⟨n / 2 ^ i / 2, by omega⟩
  rw [Nat.testBit_eq_decide_div_mod_eq, decide_eq_false_iff_not, show n - 2 ^ i = n - 2 ^ i * 1 by rw [Nat.mul_one], Nat.sub_mul_div, hq]
  omega

/-- A monitor condition that goes false is forgotten (R412). -/
theorem Mod.monitor_off (m : Mod) (k : Clock) (cond : Nat) :
    (m.monitor k cond false).leash.mon.testBit cond = false ∧ (m.monitor k cond false).live = m.live := by
  refine ⟨?_, rfl⟩
  change (if m.leash.mon.testBit cond then m.leash.mon - 2 ^ cond else m.leash.mon).testBit cond = false
  split
  · rename_i h
    exact testBit_sub_self h
  · rename_i h
    simpa using h

/-- The first monitor condition that holds: it is the source where none shows, with its events (R412, R415). -/
def Mod.monMarked (m : Mod) (cond : Nat) : Mod :=
  let m : Mod := { m with leash := { m.leash with mon := 2 ^ cond } }
  let m := if m.fld F.LEASH_STAT_MON_SRC = 0 then m.setF F.LEASH_STAT_MON_SRC cond else m
  let m := m.leashEvt 5
  if cond = 5 then m.leashEvt 9 else m

theorem Mod.monitor_first (cond : Nat) (hmon : m.leash.mon = 0) : m.monitor k cond true = (m.monMarked cond).trip k 5 cond := by
  simp only [Mod.monitor, Mod.monMarked, hmon, Nat.zero_or, Bool.not_true, Bool.false_eq_true, if_false, ne_eq, not_true_eq_false]

theorem Mod.monMarked_spec (m : Mod) {cond : Nat} (hc : cond < 16) :
    (m.monMarked cond).lstate = m.lstate ∧ (m.monMarked cond).fld F.LEASH_STAT_CAUSE = m.fld F.LEASH_STAT_CAUSE
      ∧ (m.fld F.LEASH_STAT_MON_SRC = 0 → (m.monMarked cond).fld F.LEASH_STAT_MON_SRC = cond)
      ∧ (∀ x, x ≠ R.LEASH_STAT → x ≠ R.LEASH_EVT → x ≠ R.RING_IRQ_STAT → (m.monMarked cond).rd x = m.rd x)
      ∧ (m.monMarked cond).bit R.LEASH_EVT 5 = true ∧ (cond = 5 → (m.monMarked cond).bit R.LEASH_EVT 9 = true)
      ∧ (m.monMarked cond).leash.tripAt = m.leash.tripAt ∧ (m.monMarked cond).leash.mon = 2 ^ cond := by
  unfold Mod.monMarked
  dsimp only
  generalize hn : ({ m with leash := { m.leash with mon := 2 ^ cond } } : Mod) = n
  have hfld : ∀ f, n.fld f = m.fld f := fun f => by rw [← hn]; rfl
  have hrd : ∀ x, n.rd x = m.rd x := fun x => by rw [← hn]; rfl
  have hleash : n.leash.tripAt = m.leash.tripAt ∧ n.leash.mon = 2 ^ cond := by rw [← hn]; exact ⟨rfl, rfl⟩
  generalize hq : (if n.fld F.LEASH_STAT_MON_SRC = 0 then n.setF F.LEASH_STAT_MON_SRC cond else n) = q
  have hq' : q.lstate = n.lstate ∧ q.fld F.LEASH_STAT_CAUSE = n.fld F.LEASH_STAT_CAUSE
      ∧ (n.fld F.LEASH_STAT_MON_SRC = 0 → q.fld F.LEASH_STAT_MON_SRC = cond) ∧ (∀ x, x ≠ R.LEASH_STAT → q.rd x = n.rd x) ∧ q.leash = n.leash := by
    rw [← hq]
    split
    · refine ⟨Mod.fld_setF_ne _ _ _ (by decide) (by decide) (by decide), Mod.fld_setF_ne _ _ _ (by decide) (by decide) (by decide), fun _ => ?_,
        fun x hx => Mod.rd_setF_ne _ _ _ hx, rfl⟩
      exact (Mod.fld_setF _ _ _ (by decide) (by decide)).trans (Nat.mod_eq_of_lt hc)
    · rename_i h
      exact ⟨rfl, rfl, fun h0 => absurd h0 h, fun _ _ => rfl, rfl⟩
  obtain ⟨hst, hcause, hsrc, hne, hlq⟩ := hq'
  generalize ht : (if cond = 5 then (q.leashEvt 5).leashEvt 9 else q.leashEvt 5) = t
  have ht' : (∀ f, f.off = R.LEASH_STAT → t.fld f = q.fld f) ∧ (∀ x, x ≠ R.LEASH_EVT → x ≠ R.RING_IRQ_STAT → t.rd x = q.rd x)
      ∧ t.bit R.LEASH_EVT 5 = true ∧ (cond = 5 → t.bit R.LEASH_EVT 9 = true) ∧ t.leash = q.leash := by
    have h5 : (q.leashEvt 5).bit R.LEASH_EVT 5 = true := Mod.bit_evt _ _ _ _ _ (by decide) (by decide)
    rw [← ht]
    split
    · exact ⟨fun f hf => (Mod.fld_leashEvt _ _ hf).trans (Mod.fld_leashEvt _ _ hf),
        fun x h h' => (Mod.rd_leashEvt_ne _ _ h h').trans (Mod.rd_leashEvt_ne _ _ h h'), Mod.bit_leashEvt_keeps _ _ h5,
        fun _ => Mod.bit_evt _ _ _ _ _ (by decide) (by decide), by simp [Mod.leashEvt]⟩
    · rename_i hne5
      exact ⟨fun f hf => Mod.fld_leashEvt _ _ hf, fun x h h' => Mod.rd_leashEvt_ne _ _ h h', h5, fun h => absurd h hne5, by simp [Mod.leashEvt]⟩
  obtain ⟨htf, htr, ht5, ht9, htl⟩ := ht'
  refine ⟨((htf F.LEASH_STAT_STATE rfl).trans hst).trans (hfld _), ((htf _ rfl).trans hcause).trans (hfld _), fun h0 => ?_, fun x h h1 h2 => ?_, ht5, ht9, ?_, ?_⟩
  · exact (htf _ rfl).trans (hsrc ((hfld _).trans h0))
  · exact (htr x h1 h2).trans ((hne x h).trans (hrd x))
  · rw [htl, hlq, hleash.1]
  · rw [htl, hlq, hleash.2]

/-- The first monitor condition trips (R411, R412). -/
theorem Mod.monitor_trips {cond : Nat} (hc : cond < 16) (hmon : m.leash.mon = 0) :
    TripsTo m (m.monitor k cond true) k 5 ∧ (m.fld F.LEASH_STAT_MON_SRC = 0 → (m.monitor k cond true).fld F.LEASH_STAT_MON_SRC = cond)
      ∧ (m.monitor k cond true).leash.mon = 2 ^ cond ∧ (m.monitor k cond true).bit R.LEASH_EVT 5 = true
      ∧ (cond = 5 → (m.monitor k cond true).bit R.LEASH_EVT 9 = true) := by
  rw [Mod.monitor_first cond hmon]
  obtain ⟨hst, hcause, hsrc, hrd, h5, h9, hat, hmon'⟩ := m.monMarked_spec hc
  obtain ⟨htrip, hkeep⟩ := (m.monMarked cond).trip_spec k (cause := 5) (by decide) cond
  refine ⟨htrip.of_marked hst hat (hrd _ (by decide) (by decide) (by decide)) (hrd _ (by decide) (by decide) (by decide)) hcause, fun h0 => ?_, ?_, ?_,
    fun h => hkeep.evt 9 (h9 h)⟩
  · exact (hkeep.fld F.LEASH_STAT_MON_SRC (by unfold TripLeaves; decide)).trans (hsrc h0)
  · rw [hkeep.mon, hmon']
  · exact hkeep.evt 5 h5

/-- A readback that differs from the outputs' level is the fifth condition (R412). -/
theorem Mod.readback_trips (m : Mod) (k : Clock) (a b : Bool) (hmon : m.leash.mon = 0) :
    TripsTo m (((m.setB F.LEASH_STAT_OUT_A a).setB F.LEASH_STAT_OUT_B b).monitor k 5 true) k 5
      ∧ (((m.setB F.LEASH_STAT_OUT_A a).setB F.LEASH_STAT_OUT_B b).monitor k 5 true).bit R.LEASH_EVT 9 = true := by
  obtain ⟨htrip, -, -, -, h9⟩ := Mod.monitor_trips (m := (m.setB F.LEASH_STAT_OUT_A a).setB F.LEASH_STAT_OUT_B b) (k := k) (cond := 5) (by decide) hmon
  have hrd : ∀ x, x ≠ R.LEASH_STAT → ((m.setB F.LEASH_STAT_OUT_A a).setB F.LEASH_STAT_OUT_B b).rd x = m.rd x := fun x hx =>
    (Mod.rd_setB_ne _ _ _ hx).trans (Mod.rd_setB_ne _ _ _ hx)
  refine ⟨htrip.of_marked ?_ rfl (hrd _ (by decide)) (hrd _ (by decide)) ?_, h9 rfl⟩
  · exact (Mod.fld_setB_ne _ _ _ (by decide) (by decide) (by decide)).trans (Mod.fld_setB_ne _ _ _ (by decide) (by decide) (by decide))
  · exact (Mod.fld_setB_ne _ _ _ (by decide) (by decide) (by decide)).trans (Mod.fld_setB_ne _ _ _ (by decide) (by decide) (by decide))

/-- A message of an interrupt is all an event sends. -/
theorem Mod.evt_out (m : Mod) (r e b x : Nat) : (m.evt r e b x).out = m.out ∨ ∃ v, (m.evt r e b x).out = m.out ++ [.msix v] := by
  simp only [Mod.evt, Mod.raise, Mod.sendMsg]
  split
  · exact .inl rfl
  · split
    · split
      · split
        · exact .inl rfl
        · exact .inr ⟨_, rfl⟩
      · exact .inl rfl
    · exact .inl rfl

/-- Inputs that have differed too long set DISC, and nothing trips (R420). -/
theorem Mod.discrepancy_spec {from_ : Nat} (hd : m.leash.differ = some from_) (hpast : from_ + msRaw m.discMs < k.raw)
    (hdisc : m.on F.LEASH_STAT_DISC = false) (hout : m.out = []) :
    (m.discrepancy k).on F.LEASH_STAT_DISC = true ∧ (m.discrepancy k).bit R.LEASH_EVT 3 = true ∧ (m.discrepancy k).lstate = m.lstate
      ∧ (m.discrepancy k).out.all (· != .leashOut false false) = true := by
  have heq : m.discrepancy k = (Mod.setB { m with leash := { m.leash with bothOff := false } } F.LEASH_STAT_DISC true).leashEvt 3 := by
    have hdisc' : ¬ Mod.on { m with leash := { m.leash with bothOff := false } } F.LEASH_STAT_DISC = true := by
      rw [Mod.on_congr (Mod.rd_leash _ _ _), hdisc]; decide
    unfold Mod.discrepancy
    split
    · rename_i h
      rw [hd] at h
      exact absurd h (by simp)
    · rename_i t h
      obtain rfl := Option.some.inj (h.symm.trans hd)
      exact (if_neg (by omega)).trans (if_neg hdisc')
  rw [heq]
  refine ⟨?_, Mod.bit_evt _ _ _ _ _ (by decide) (by decide), ?_, ?_⟩
  · rw [Mod.on, Mod.fld_leashEvt _ _ rfl, ← Mod.on, Mod.on_setB _ _ _ (by decide) (by decide)]
  · rw [Mod.lstate, Mod.fld_leashEvt _ _ rfl, Mod.fld_setB_ne _ _ _ (by decide) (by decide) (by decide)]
    exact Mod.fld_congr (Mod.rd_leash _ _ _)
  · rcases Mod.evt_out (Mod.setB { m with leash := { m.leash with bothOff := false } } F.LEASH_STAT_DISC true) R.LEASH_EVT R.LEASH_EVT_EN 3 16 with h | ⟨v, h⟩
    all_goals
      rw [Mod.leashEvt, h, Mod.setB_out, hout]
      simp

/-- Settles O40: what trips the Leash, and what does not. -/
theorem leashTrips : Obligations.LeashTrips := by
  refine ⟨fun s dt x hup hx hon hoff htol => ?_, fun s dt x hup hx hon htol => ?_, fun s dt x hup hx hon hin hpast hoff => ?_,
    fun s dt x hup hx hon => ?_, fun s dt h hlive => ⟨fun hsw => ?_, fun hsw => ?_⟩, fun s dt cond hup h1 h4 hmon hsrc => ?_,
    fun s dt cond hup h1 h4 => ?_, fun s dt a b hup hmon hdiff => ?_, fun s dt from_ hup hd hpast hdisc => ?_⟩
  · exact answers_of_guard rfl (by rw [show s.found.leashUp = true from hup, decide_eq_true hx]; rfl)
      (Mod.inOff_trips (m := s.found) (k := s.now dt) hx hon hoff htol)
  · exact answers_of_guard rfl (by rw [show s.found.leashUp = true from hup, decide_eq_true hx]; rfl)
      (Mod.inOff_tolerated (m := s.found) (k := s.now dt) hon htol)
  · exact answers_of_guard rfl (by rw [show s.found.leashUp = true from hup, decide_eq_true hx]; rfl)
      (Mod.inTol_trips (m := s.found) (k := s.now dt) hx hon hin hpast hoff)
  · exact answers_of_guard rfl (by rw [show s.found.leashUp = true from hup, decide_eq_true hx]; rfl)
      (Mod.inOn_spec (m := s.found) (k := s.now dt) hon)
  · refine answers_of_ev rfl ?_
    rw [show s.found.live? 5 = true from hlive]
    simp only [Bool.not_true, Bool.false_eq_true, if_false, ne_eq, not_true_eq_false]
    refine Mod.tripCmd_spec s.found (s.now dt) _ ?_
    rw [show s.found.leash.swCmd = false from hsw]
    exact .reply ..
  · refine does_of_ev rfl ?_
    have hsame : ({ s.found with leash := { s.found.leash with swCmd := true } } : Mod) = s.found := by
      rw [← show s.found.leash.swCmd = true from hsw]
    rw [show s.found.live? 5 = true from hlive]
    simp only [Bool.not_true, Bool.false_eq_true, if_false, ne_eq, not_true_eq_false, hsame, Mod.leashSource]
    rw [show s.found.leash.swCmd = true from hsw]
    rfl
  · refine answers_of_guard rfl (by rw [show s.found.leashUp = true from hup, decide_eq_true h1, decide_eq_true h4]; rfl) ?_
    obtain ⟨htrip, hmsrc, hmon', h5, -⟩ := Mod.monitor_trips (m := s.found) (k := s.now dt) (cond := cond) (by omega) hmon
    exact ⟨htrip, hmsrc hsrc, hmon', h5⟩
  · exact answers_of_guard rfl (by rw [show s.found.leashUp = true from hup, decide_eq_true h1, decide_eq_true h4]; rfl)
      (Mod.monitor_off s.found (s.now dt) cond)
  · refine answers_of_ev rfl ?_
    have hbad : (a != (s.found.lstate == 2 && s.found.on F.BRACE_STAT_GATE_OPEN) || b != (s.found.lstate == 2 && s.found.on F.BRACE_STAT_GATE_OPEN)) = true := by
      rw [Bool.or_eq_true, bne_iff_ne, bne_iff_ne]
      exact hdiff
    rw [show s.found.leashUp = true from hup]
    simp only [Bool.not_true, Bool.false_eq_true, if_false, hbad]
    exact Mod.readback_trips s.found (s.now dt) a b hmon
  · exact answers_of_guard rfl (show s.found.leashUp = true from hup) (Mod.discrepancy_spec (m := s.found) (k := s.now dt) hd hpast hdisc rfl)

end Sys2Proof.Machine
end

section
/-! SUPPORT. The Leash: arming (R421 to R423), self-tests (R424, R425) and the fleet Heel (R417, R418). -/

namespace Sys2Proof.Machine

variable {m : Mod} {k : Clock}

/-! ## Arming -/

/-- An accepted request makes ARMING, and clears the sources that software and the partner set (R422). -/
theorem Mod.armRequest_accepted (hst : m.lstate = 0) (hcode : m.armCode k false = 0) :
    (m.armRequest k 0).lstate = 1 ∧ (m.armRequest k 0).leash.armAt = k.raw ∧ (m.armRequest k 0).leash.swReg = false
      ∧ (m.armRequest k 0).leash.swCmd = false ∧ (m.armRequest k 0).leash.partner = false
      ∧ ∀ a, a ≠ R.LEASH_STAT → (m.armRequest k 0).rd a = m.rd a := by
  have heq : m.armRequest k 0 = m.arming k := by simp [Mod.armRequest, hst, hcode]
  rw [heq]
  exact ⟨Mod.fld_setF _ _ _ (by decide) (by decide), rfl, rfl, rfl, rfl, fun a ha => (Mod.rd_setF_ne _ _ _ ha).trans (Mod.rd_leash _ _ _)⟩

theorem Mod.armCode_lt (m : Mod) (k : Clock) (b : Bool) : m.armCode k b < 16 := by
  simp only [Mod.armCode]
  repeat' split
  all_goals decide

/-- A refused request shows why, with its event, and nothing of the Leash changes (R422). -/
theorem Mod.armRequest_refused (hst : m.lstate = 0) (extra : Nat) (hcode : m.armCode k false ≠ 0) :
    (m.armRequest k extra).lstate = 0 ∧ (m.armRequest k extra).fld F.LEASH_STAT_ARM_REFUSE = m.armCode k false
      ∧ (m.armRequest k extra).bit R.LEASH_EVT 2 = true ∧ (m.armRequest k extra).leash = m.leash := by
  have heq : m.armRequest k extra = (m.setF F.LEASH_STAT_ARM_REFUSE (m.armCode k false)).leashEvt 2 := by simp [Mod.armRequest, hst, hcode]
  rw [heq]
  refine ⟨?_, ?_, Mod.bit_evt _ _ _ _ _ (by decide) (by decide), by simp [Mod.leashEvt]⟩
  · rw [Mod.lstate, Mod.fld_leashEvt _ _ rfl, Mod.fld_setF_ne _ _ _ (by decide) (by decide) (by decide)]
    exact hst
  · rw [Mod.fld_leashEvt _ _ rfl, Mod.fld_setF _ _ _ (by decide) (by decide)]
    exact Nat.mod_eq_of_lt (m.armCode_lt k false)

/-- The outputs show ARMED through the open gate, and showing them changes the outputs' levels alone (R407). -/
theorem Mod.leashShow_spec (m : Mod) :
    (m.leashShow.on F.LEASH_STAT_OUT_A = (m.leashUp && m.lstate == 2 && m.on F.BRACE_STAT_GATE_OPEN))
      ∧ (m.leashShow.on F.LEASH_STAT_OUT_B = (m.leashUp && m.lstate == 2 && m.on F.BRACE_STAT_GATE_OPEN))
      ∧ m.leashShow.lstate = m.lstate ∧ ∀ x, x ≠ R.LEASH_STAT → m.leashShow.rd x = m.rd x := by
  simp only [Mod.leashShow]
  generalize (m.leashUp && m.lstate == 2 && m.on F.BRACE_STAT_GATE_OPEN) = v
  split
  · rename_i h
    exact ⟨h.1, h.2, rfl, fun _ _ => rfl⟩
  · have hrd : ∀ x, (((m.setB F.LEASH_STAT_OUT_A v).setB F.LEASH_STAT_OUT_B v).emit (.leashOut v v)).rd x
        = ((m.setB F.LEASH_STAT_OUT_A v).setB F.LEASH_STAT_OUT_B v).rd x := fun _ => rfl
    refine ⟨?_, ?_, ?_, fun x hx => ?_⟩
    · rw [Mod.on_congr (hrd _), Mod.on_setB_ne _ _ _ (by decide) (by decide) (by decide), Mod.on_setB _ _ _ (by decide) (by decide)]
    · rw [Mod.on_congr (hrd _), Mod.on_setB _ _ _ (by decide) (by decide)]
    · rw [Mod.lstate, Mod.fld_congr (hrd _), Mod.fld_setB_ne _ _ _ (by decide) (by decide) (by decide),
        Mod.fld_setB_ne _ _ _ (by decide) (by decide) (by decide)]
      rfl
    · rw [hrd, Mod.rd_setB_ne _ _ _ hx, Mod.rd_setB_ne _ _ _ hx]

/-- ARMED comes with the outputs through the open gate, counted and with its event (R421, R423). -/
theorem Mod.armed_spec (hup : m.leashUp = true) :
    (m.armed k).lstate = 2 ∧ (m.armed k).on F.LEASH_STAT_OUT_A = m.on F.BRACE_STAT_GATE_OPEN
      ∧ (m.armed k).on F.LEASH_STAT_OUT_B = m.on F.BRACE_STAT_GATE_OPEN
      ∧ (m.armed k).rd R.LEASH_ARM_CNT = (m.rd R.LEASH_ARM_CNT + 1) % 4294967296 ∧ (m.armed k).bit R.LEASH_EVT 1 = true := by
  have hst : ((m.setF F.LEASH_STAT_STATE 2).setF F.LEASH_STAT_MON_SRC 0).lstate = 2 :=
    (Mod.fld_setF_ne _ _ _ (by decide) (by decide) (by decide)).trans (Mod.fld_setF _ _ _ (by decide) (by decide))
  have hrd : ∀ x, x ≠ R.LEASH_STAT → ((m.setF F.LEASH_STAT_STATE 2).setF F.LEASH_STAT_MON_SRC 0).rd x = m.rd x := fun x hx =>
    (Mod.rd_setF_ne _ _ _ hx).trans (Mod.rd_setF_ne _ _ _ hx)
  have hup' : ((m.setF F.LEASH_STAT_STATE 2).setF F.LEASH_STAT_MON_SRC 0).leashUp = true := (Mod.bit_congr (hrd _ (by decide))).trans hup
  simp only [Mod.armed]
  generalize (m.setF F.LEASH_STAT_STATE 2).setF F.LEASH_STAT_MON_SRC 0 = n at hst hrd hup' ⊢
  obtain ⟨ha, hb, hst', hrd'⟩ := n.leashShow_spec
  rw [hup', hst, Mod.on_congr (hrd _ (by decide))] at ha hb
  have hl := LeashLeaves.recTrig ((n.leashShow.inc R.LEASH_ARM_CNT).leashEvt 1) k 14
    (le 2 (((n.leashShow.inc R.LEASH_ARM_CNT).leashEvt 1).rd R.LEASH_TRIP_ID) ++ le 2 0
      ++ le 4 (((n.leashShow.inc R.LEASH_ARM_CNT).leashEvt 1).rd R.LEASH_ARM_CNT))
  generalize Mod.recTrig _ k 14 _ = t at hl ⊢
  have hstat : t.rd R.LEASH_STAT = n.leashShow.rd R.LEASH_STAT := by
    rw [hl.rd _ (by decide) (by decide), Mod.rd_leashEvt_ne _ _ (by decide) (by decide), Mod.rd_inc, if_neg (by decide)]
  refine ⟨(Mod.fld_congr (f := F.LEASH_STAT_STATE) hstat).trans (hst'.trans hst), (Mod.on_congr hstat).trans ha, (Mod.on_congr hstat).trans hb, ?_, ?_⟩
  · rw [hl.rd _ (by decide) (by decide), Mod.rd_leashEvt_ne _ _ (by decide) (by decide), Mod.rd_inc, if_pos rfl, hrd' _ (by decide), hrd _ (by decide)]
  · exact (Mod.bit_congr (hl.rd _ (by decide) (by decide))).trans (Mod.bit_evt _ _ _ _ _ (by decide) (by decide))

/-! ## Self-tests -/

/-- A self-test that passes is counted and dated, and clears a failure (R424). -/
theorem Mod.testPass_spec (m : Mod) (k : Clock) :
    (m.testPass k).rd R.LEASH_TEST_CNT = (m.rd R.LEASH_TEST_CNT + 1) % 4294967296 ∧ (m.testPass k).on F.LEASH_STAT_TEST_FAIL = false
      ∧ (m.testPass k).rd R.LEASH_TEST_LAST = k.tick ∧ (m.testPass k).leash.test = none ∧ (m.testPass k).out = m.out := by
  have htick : k.tick % 4294967296 = k.tick := Nat.mod_mod _ _
  have hrd : ∀ x, (m.testPass k).rd x = (((m.setB F.LEASH_STAT_TEST_FAIL false).inc R.LEASH_TEST_CNT).wr R.LEASH_TEST_LAST k.tick).rd x :=
    fun x => Mod.rd_leash _ _ _
  refine ⟨?_, ?_, ?_, rfl, rfl⟩
  · rw [hrd, Mod.rd_wr_ne _ _ _ (by decide), Mod.rd_inc, if_pos rfl, Mod.rd_setB_ne _ _ _ (by decide)]
  · rw [Mod.on_congr (hrd _), Mod.on_congr (Mod.rd_wr_ne _ _ _ (by decide)), Mod.on_congr ((Mod.rd_inc _ _ _).trans (if_neg (by decide))),
      Mod.on_setB _ _ _ (by decide) (by decide)]
  · rw [hrd, Mod.rd_wr_same, htick]

/-- The first self-test that fails trips (R411, R424). -/
theorem Mod.testFail_first (hok : m.on F.LEASH_STAT_TEST_FAIL = false) :
    TripsTo m (m.testFail k) k 6 ∧ (m.testFail k).on F.LEASH_STAT_TEST_FAIL = true
      ∧ (m.testFail k).rd R.LEASH_TEST_FAIL_CNT = (m.rd R.LEASH_TEST_FAIL_CNT + 1) % 4294967296 := by
  have heq : m.testFail k = Mod.trip { (((m.setB F.LEASH_STAT_TEST_FAIL true).inc R.LEASH_TEST_FAIL_CNT).leashEvt 4) with
      leash := { (((m.setB F.LEASH_STAT_TEST_FAIL true).inc R.LEASH_TEST_FAIL_CNT).leashEvt 4).leash with test := none } } k 6 := by
    simp only [Mod.testFail, hok, Mod.leashSource, Bool.false_eq_true, if_false]
  have hat : (((m.setB F.LEASH_STAT_TEST_FAIL true).inc R.LEASH_TEST_FAIL_CNT).leashEvt 4).leash = m.leash := by simp [Mod.leashEvt]
  have hstat : (((m.setB F.LEASH_STAT_TEST_FAIL true).inc R.LEASH_TEST_FAIL_CNT).leashEvt 4).rd R.LEASH_STAT = (m.setB F.LEASH_STAT_TEST_FAIL true).rd R.LEASH_STAT := by
    rw [Mod.rd_leashEvt_ne _ _ (by decide) (by decide), Mod.rd_inc, if_neg (by decide)]
  have hrd : ∀ x, x ≠ R.LEASH_STAT → x ≠ R.LEASH_EVT → x ≠ R.RING_IRQ_STAT → x ≠ R.LEASH_TEST_FAIL_CNT →
      (((m.setB F.LEASH_STAT_TEST_FAIL true).inc R.LEASH_TEST_FAIL_CNT).leashEvt 4).rd x = m.rd x := fun x h h1 h2 h3 => by
    rw [Mod.rd_leashEvt_ne _ _ h1 h2, Mod.rd_inc, if_neg h3, Mod.rd_setB_ne _ _ _ h]
  have hcnt : (((m.setB F.LEASH_STAT_TEST_FAIL true).inc R.LEASH_TEST_FAIL_CNT).leashEvt 4).rd R.LEASH_TEST_FAIL_CNT
      = (m.rd R.LEASH_TEST_FAIL_CNT + 1) % 4294967296 := by
    rw [Mod.rd_leashEvt_ne _ _ (by decide) (by decide), Mod.rd_inc, if_pos rfl, Mod.rd_setB_ne _ _ _ (by decide)]
  rw [heq]
  generalize ((m.setB F.LEASH_STAT_TEST_FAIL true).inc R.LEASH_TEST_FAIL_CNT).leashEvt 4 = n at hat hstat hrd hcnt ⊢
  obtain ⟨htrip, hkeep⟩ := Mod.trip_spec { n with leash := { n.leash with test := none } } k (cause := 6) (by decide) 0
  refine ⟨htrip.of_marked ?_ (show n.leash.tripAt = m.leash.tripAt by rw [hat]) (hrd _ (by decide) (by decide) (by decide) (by decide))
    (hrd _ (by decide) (by decide) (by decide) (by decide)) ?_, ?_, ?_⟩
  · exact (Mod.fld_congr (f := F.LEASH_STAT_STATE) ((Mod.rd_leash _ _ _).trans hstat)).trans (Mod.fld_setB_ne _ _ _ (by decide) (by decide) (by decide))
  · exact (Mod.fld_congr (f := F.LEASH_STAT_CAUSE) ((Mod.rd_leash _ _ _).trans hstat)).trans (Mod.fld_setB_ne _ _ _ (by decide) (by decide) (by decide))
  · rw [Mod.on, hkeep.fld _ (by unfold TripLeaves; decide), ← Mod.on, Mod.on_congr ((Mod.rd_leash _ _ _).trans hstat),
      Mod.on_setB _ _ _ (by decide) (by decide)]
  · exact hkeep.fails.trans hcnt

/-- A self-test of armed outputs pulses the first one, and runs (R424). -/
theorem Mod.testStart_armed (hst : m.lstate = 2) (hserves : m.serves = true) :
    (m.testStart k true).out = m.out ++ [.leashPulse 0 m.testW] ∧ (m.testStart k true).leash.test = some k.raw ∧ (m.testStart k true).live = m.live := by
  have heq : m.testStart k true = Mod.emit { m with leash := { m.leash with testAt := k.raw, testWaits := false, test := some k.raw } }
      (.leashPulse 0 m.testW) := by
    rw [Mod.testStart, if_neg (by decide)]
    exact if_pos ⟨hst, hserves⟩
  rw [heq]
  exact ⟨rfl, rfl, rfl⟩

/-- A self-test that passes with the outputs de-energised has passed at once. -/
theorem Mod.testStart_idle (hst : m.lstate ≠ 2) :
    (m.testStart k true).rd R.LEASH_TEST_CNT = (m.rd R.LEASH_TEST_CNT + 1) % 4294967296 ∧ (m.testStart k true).on F.LEASH_STAT_TEST_FAIL = false
      ∧ (m.testStart k true).rd R.LEASH_TEST_LAST = k.tick ∧ (m.testStart k true).leash.test = none ∧ (m.testStart k true).out = m.out := by
  have heq : m.testStart k true = Mod.testPass { m with leash := { m.leash with testAt := k.raw, testWaits := false } } k := by
    rw [Mod.testStart, if_neg (by decide)]
    exact if_neg fun h => hst h.1
  rw [heq]
  exact Mod.testPass_spec _ k

/-- A first self-test that fails trips. -/
theorem Mod.testStart_fails (hok : m.on F.LEASH_STAT_TEST_FAIL = false) :
    TripsTo m (m.testStart k false) k 6 ∧ (m.testStart k false).on F.LEASH_STAT_TEST_FAIL = true
      ∧ (m.testStart k false).rd R.LEASH_TEST_FAIL_CNT = (m.rd R.LEASH_TEST_FAIL_CNT + 1) % 4294967296 := by
  have heq : m.testStart k false = Mod.testFail { m with leash := { m.leash with testAt := k.raw, testWaits := false } } k := by
    rw [Mod.testStart]
    exact if_pos (by decide)
  rw [heq]
  obtain ⟨htrip, hfail, hcnt⟩ := Mod.testFail_first (m := { m with leash := { m.leash with testAt := k.raw, testWaits := false } }) (k := k)
    ((Mod.on_congr (Mod.rd_leash _ _ _)).trans hok)
  exact ⟨htrip.of_marked (Mod.fld_congr (Mod.rd_leash _ _ _)) rfl (Mod.rd_leash _ _ _) (Mod.rd_leash _ _ _) (Mod.fld_congr (Mod.rd_leash _ _ _)), hfail, hcnt⟩

/-- A running self-test ends with the second output's pulse, and has passed. -/
theorem Mod.testEnd_passes {from_ : Nat} (htest : m.leash.test = some from_) (hpast : from_ + usRaw m.testW + msRaw 10 ≤ k.raw) (hout : m.out = []) :
    (m.testEnd k true).leash.test = none ∧ (m.testEnd k true).rd R.LEASH_TEST_CNT = (m.rd R.LEASH_TEST_CNT + 1) % 4294967296
      ∧ (m.testEnd k true).out = [.leashPulse 1 m.testW] := by
  have heq : m.testEnd k true = (m.emit (.leashPulse 1 m.testW)).testPass k := by
    unfold Mod.testEnd
    split
    · rename_i h
      rw [htest] at h
      exact absurd h (by simp)
    · rename_i t h
      obtain rfl := Option.some.inj (h.symm.trans htest)
      exact (if_neg (by omega)).trans (if_pos rfl)
  rw [heq]
  obtain ⟨hcnt, -, -, htest', hout'⟩ := (m.emit (.leashPulse 1 m.testW)).testPass_spec k
  refine ⟨htest', hcnt, hout'.trans ?_⟩
  rw [Mod.emit, hout]
  rfl

/-! ## The fleet Heel -/

/-- The fleet Heel's first source begins it, with its event (R417). -/
theorem Mod.heelSet_first {src : Nat} (hsrc : src < 3) (hnone : m.fld F.LEASH_STAT_HEEL_SRC = 0) :
    (m.heelSet src).fld F.LEASH_STAT_HEEL_SRC = 2 ^ src ∧ (m.heelSet src).bit R.LEASH_EVT 6 = true ∧ (m.heelSet src).leash = m.leash
      ∧ (m.heelSet src).lstate = m.lstate := by
  have heq : m.heelSet src = (m.setF F.LEASH_STAT_HEEL_SRC (2 ^ src)).leashEvt 6 := by simp [Mod.heelSet, hnone]
  rw [heq]
  refine ⟨?_, Mod.bit_evt _ _ _ _ _ (by decide) (by decide), by simp [Mod.leashEvt], ?_⟩
  · rw [Mod.fld_leashEvt _ _ rfl, Mod.fld_setF _ _ _ (by decide) (by decide)]
    exact Nat.mod_eq_of_lt (Nat.pow_lt_pow_right (by decide) hsrc)
  · rw [Mod.lstate, Mod.fld_leashEvt _ _ rfl, Mod.fld_setF_ne _ _ _ (by decide) (by decide) (by decide)]
    rfl

/-- The fleet Heel's last source ends it, with its event (R418). -/
theorem Mod.heelClr_last (hone : m.fld F.LEASH_STAT_HEEL_SRC = 1) :
    (m.heelClr 1).fld F.LEASH_STAT_HEEL_SRC = 0 ∧ (m.heelClr 1).bit R.LEASH_EVT 7 = true ∧ (m.heelClr 1).leash = m.leash := by
  have heq : m.heelClr 1 = (m.setF F.LEASH_STAT_HEEL_SRC 0).leashEvt 7 := by simp [Mod.heelClr, hone]
  rw [heq]
  refine ⟨?_, Mod.bit_evt _ _ _ _ _ (by decide) (by decide), by simp [Mod.leashEvt]⟩
  rw [Mod.fld_leashEvt _ _ rfl, Mod.fld_setF _ _ _ (by decide) (by decide)]
  rfl

/-- Settles O41: arming, self-tests and the fleet Heel act where their conditions hold. -/
theorem leashArmsAndTests : Obligations.LeashArmsAndTests := by
  refine ⟨fun s dt us hup hst h50 h3000 hsrc hcode => ?_, fun s dt us hup hst hcode => ?_, fun s dt hup hend hst hat => ?_,
    fun s dt ok hup hdue hnone hpst => ?_, fun s dt ok ho => does_of_access rfl ho rfl, fun s dt from_ hup htest hpast => ?_,
    fun s dt hup hpin hnone => ?_, fun s dt hup hone => ?_, fun s dt h hlive => ?_, fun s dt h hlive hsrc => ?_, fun s dt hup hpair => ?_⟩
  · refine answers_of_ev rfl ?_
    rw [show s.found.leashUp = true from hup, if_neg (by simp), if_neg (by omega),
      if_neg (show ¬ s.found.fld F.LEASH_CTL_ARM_SRC = 0 from hsrc)]
    exact Mod.armRequest_accepted (m := s.found) (k := s.now dt) hst hcode
  · refine answers_of_ev rfl ?_
    rw [show s.found.leashUp = true from hup, if_neg (by simp)]
    exact Mod.armRequest_refused (m := s.found) (k := s.now dt) hst _ hcode
  · refine answers_of_guard rfl (Bool.and_eq_true_iff.mpr ⟨hup, hend⟩) ?_
    have heq : s.found.armBoundary (s.now dt) = s.found.armed (s.now dt) := by
      rw [Mod.armBoundary, if_pos (show s.found.lstate = 1 from hst)]
      exact if_pos hat
    rw [heq]
    exact Mod.armed_spec (m := s.found) hup
  · have hguard : (s.found.leashUp && (s.found.leash.testWaits || decide (s.found.leash.testAt + secRaw s.found.testPeriod ≤ (s.now dt).raw))) = true := by
      rw [show s.found.leashUp = true from hup, Bool.true_and, Bool.or_eq_true, decide_eq_true_eq]
      exact hdue
    refine answers_of_guard rfl hguard ?_
    have heq : s.found.testDue (s.now dt) ok = s.found.testStart (s.now dt) ok := by
      rw [Mod.testDue, if_neg]
      rintro (h | h)
      · rw [show s.found.leash.test = none from hnone] at h
        exact absurd h (by decide)
      · exact hpst h
    rw [heq]
    refine ⟨?_, ?_, ?_⟩
    · rintro rfl hst hserves
      exact Mod.testStart_armed (m := s.found) (k := s.now dt) hst hserves
    · rintro rfl hst
      obtain ⟨hcnt, hok, hlast, -, -⟩ := Mod.testStart_idle (m := s.found) (k := s.now dt) hst
      exact ⟨hcnt, hok, hlast⟩
    · rintro rfl hfail
      exact Mod.testStart_fails (m := s.found) (k := s.now dt) hfail
  · exact answers_of_guard rfl (show s.found.leashUp = true from hup) (Mod.testEnd_passes (m := s.found) (k := s.now dt) htest hpast rfl)
  · refine answers_of_ev rfl ?_
    rw [show s.found.leashUp = true from hup]
    simp only [Bool.not_true, Bool.false_eq_true, if_false]
    rw [if_pos (show Mod.on { s.found with leash := { s.found.leash with heelPin := true } } F.LEASH_CTL_HEEL_PIN_EN = true from hpin)]
    obtain ⟨hsrc, hevt, hleash, hst⟩ := Mod.heelSet_first (m := { s.found with leash := { s.found.leash with heelPin := true } }) (src := 0) (by decide) hnone
    exact ⟨hsrc, hevt, congrArg LeashSt.heelPin hleash, hst⟩
  · refine answers_of_ev rfl ?_
    rw [show s.found.leashUp = true from hup, if_neg (by simp)]
    obtain ⟨hsrc, hevt, hleash⟩ := Mod.heelClr_last (m := { s.found with leash := { s.found.leash with heelPin := false } }) hone
    exact ⟨hsrc, hevt, congrArg LeashSt.heelPin hleash⟩
  · refine does_of_ev rfl ?_
    rw [show s.found.live? 5 = true from hlive, if_neg (by simp), if_neg (by simp)]
  · refine does_of_ev rfl ?_
    rw [show s.found.live? 5 = true from hlive, if_neg (by simp), if_neg (by simp), if_neg]
    have hsrc' : 2 ≤ s.found.fld F.LEASH_STAT_HEEL_SRC := hsrc
    omega
  · refine answers_of_guard rfl (Bool.and_eq_true_iff.mpr ⟨hup, hpair⟩) ⟨Mod.bit_evt _ _ _ _ _ (by decide) (by decide), ?_, ?_⟩
    · exact Mod.evt_leash ..
    · exact Mod.fld_leashEvt _ _ rfl

end Sys2Proof.Machine
end

section
/-! SUPPORT. The switch: frames, links and parity (R436 to R448), the MAC table (R437, R440 to R443), and its commands (R446, R449). -/

namespace Sys2Proof.Machine

variable {m : Mod} {k : Clock}

/-! ## Frames -/

/-- A frame in error is dropped (R436). -/
theorem Mod.swReceive_bad {port sub : Nat} {d : List Byte} {bad : Bool} (hup : m.blkOn 14 = true) (hen : m.on F.SW_CTL_EN = true)
    (hbad : bad = true ∨ d.length < 60 ∨ m.swMtu port < d.length) : m.swReceive k port sub d bad = m.inc (R.SW_P_DROP_CNT port) := by
  rw [Mod.swReceive, if_neg (by simp [hup, hen])]
  exact if_pos (by simpa [or_assoc] using hbad)

/-- A frame without error is counted and classified on a FORWARDING port (R436). -/
theorem Mod.swReceive_good {port sub : Nat} {d : List Byte} (hup : m.blkOn 14 = true) (hen : m.on F.SW_CTL_EN = true)
    (h60 : 60 ≤ d.length) (hmtu : d.length ≤ m.swMtu port) (hon : ((m.inc (R.SW_P_RX_CNT port)).swBytes port 0 d.length).swPortOn port = m.swPortOn port) :
    m.swReceive k port sub d false
      = if m.swPortOn port then ((m.inc (R.SW_P_RX_CNT port)).swBytes port 0 d.length).classify k port sub d
        else ((m.inc (R.SW_P_RX_CNT port)).swBytes port 0 d.length).swDrop port := by
  rw [Mod.swReceive, if_neg (by simp [hup, hen]), if_neg (by simp; omega)]
  simp only [hon]

/-- Counting a frame leaves its port as it is. -/
theorem Mod.swPortOn_counted {port : Nat} (hp : port < 10) (n : Nat) :
    ((m.inc (R.SW_P_RX_CNT port)).swBytes port 0 n).swPortOn port = m.swPortOn port := by
  have hrd : ∀ x, x ≠ R.SW_P_RX_CNT port → ((m.inc (R.SW_P_RX_CNT port)).swBytes port 0 n).rd x = m.rd x := fun x hx =>
    (Mod.rd_inc _ _ _).trans (if_neg hx)
  have hblk : ((m.inc (R.SW_P_RX_CNT port)).swBytes port 0 n).blkOn 14 = m.blkOn 14 :=
    Mod.bit_congr (hrd _ (by simp only [R.PWR_DOM_STAT, R.SW_P_RX_CNT]; omega))
  have hen : ((m.inc (R.SW_P_RX_CNT port)).swBytes port 0 n).on F.SW_CTL_EN = m.on F.SW_CTL_EN :=
    Mod.on_congr (hrd _ (by simp only [F.SW_CTL_EN, R.SW_CTL, R.SW_P_RX_CNT]; omega))
  have hst : ((m.inc (R.SW_P_RX_CNT port)).swBytes port 0 n).fld (F.SW_P_STAT_STATE port) = m.fld (F.SW_P_STAT_STATE port) :=
    Mod.fld_congr (hrd _ (by simp only [F.SW_P_STAT_STATE, R.SW_P_STAT, R.SW_P_RX_CNT]; omega))
  rw [Mod.swPortOn, Mod.swPortOn, hblk, hen, hst]

/-- Without a transparent clock a frame leaves as it came (R247). -/
theorem Mod.tcFix_off {p : Nat} {f : EgFrame} (htc : m.on F.TIME_PTP_CTL_TC_EN = false) : m.tcFix k p f = (m, f.data) := by
  unfold Mod.tcFix
  split
  · exact if_pos (by simp [htc])
  · rfl

@[simp] theorem Mod.egq_setEgq (m : Mod) (p q : Nat) (l : List EgFrame) (p' q' : Nat) :
    (m.setEgq p q l).egq p' q' = if 4 * p' + q' = 4 * p + q then l else m.egq p' q' := by
  simp [Mod.egq, Mod.setEgq]

/-- The frame at the head of the queue that is served leaves, counted (R439). -/
theorem Mod.egressTx_head {p q : Nat} {f : EgFrame} {l : List EgFrame} (hq : m.nextQueue p = some q) (hf : m.egq p q = f :: l)
    (htc : m.on F.TIME_PTP_CTL_TC_EN = false) :
    (m.egressTx k p).out = m.out ++ [.frame p f.data] ∧ (m.egressTx k p).egq p q = l
      ∧ (m.egressTx k p).rd (R.SW_P_TX_CNT p) = (m.rd (R.SW_P_TX_CNT p) + 1) % 4294967296
      ∧ ∀ q', q' ≠ q → (m.egressTx k p).egq p q' = m.egq p q' := by
  have heq : ∃ s, m.egressTx k p = (((Mod.inc { m.setEgq p q l with sw := { (m.setEgq p q l).sw with served := s } } (R.SW_P_TX_CNT p)).swBytes p 1
      f.data.length).emit (.frame p f.data)) := by
    unfold Mod.egressTx
    simp only [hq, hf, Mod.tcFix_off (m := m.setEgq p q l) (k := k) (p := p) (f := f) htc]
    exact ⟨_, rfl⟩
  obtain ⟨s, heq⟩ := heq
  have hegq : ∀ q', (m.egressTx k p).egq p q' = (m.setEgq p q l).egq p q' := fun q' => by rw [heq]; rfl
  refine ⟨by rw [heq]; rfl, ?_, ?_, fun q' hq' => ?_⟩
  · rw [hegq, Mod.egq_setEgq, if_pos rfl]
  · rw [heq]
    exact (Mod.rd_inc _ _ _).trans (if_pos rfl)
  · rw [hegq, Mod.egq_setEgq, if_neg (by omega)]

/-- Frames of 500 ms leave P9's queue, and no others (R438). -/
theorem Mod.mem_p9Expire (m : Mod) (k : Clock) (f : AirFrame) : f ∈ (m.p9Expire k).sw.air ↔ f ∈ m.sw.air ∧ k.raw < f.inRaw + msRaw 500 := by
  simp only [Mod.p9Expire]
  split
  · rename_i h
    have hno := List.filter_eq_nil_iff.mp (List.isEmpty_iff.mp h)
    refine ⟨fun hf => ⟨hf, ?_⟩, fun hf => hf.1⟩
    simpa using hno f hf
  · simp [Mod.swEvt]

/-! ## The learn queue, links and parity -/

/-- An event joins the learn queue while it has room (R440). -/
theorem Mod.swQueue_room (e : SwEvent) (hlen : m.sw.events.length < 256) (hwait : m.sw.waiting = []) :
    m.swQueue e = Mod.lqShow { m with sw := { m.sw with events := m.sw.events ++ [e] } } := by
  rw [Mod.swQueue, if_neg (by simp [hwait]; omega)]

/-- The learn queue's level is one register. -/
theorem Mod.rd_swQueue_ne (m : Mod) (e : SwEvent) {x : Nat} (h : x ≠ R.SW_STAT) : (m.swQueue e).rd x = m.rd x := by
  simp only [Mod.swQueue]
  split
  · rfl
  · exact Mod.rd_setF_ne _ _ _ h

@[simp] theorem Mod.swEvt_sw (m : Mod) (b : Nat) : (m.swEvt b).sw = m.sw := Mod.evt_sw ..

theorem Mod.swQueue_mac (m : Mod) (e : SwEvent) : (m.swQueue e).sw.mac = m.sw.mac := by
  simp only [Mod.swQueue]
  split <;> rfl

/-- What a link's change shows: its level, its speed and the event (R436). -/
theorem Mod.linkTold_spec (m : Mod) {p : Nat} (hp : p < 10) (up : Bool) (speed : Nat) :
    (((m.setB (F.SW_P_STAT_LINK p) up).setF (F.SW_P_STAT_SPEED p) speed).swEvt 0).on (F.SW_P_STAT_LINK p) = up
      ∧ (((m.setB (F.SW_P_STAT_LINK p) up).setF (F.SW_P_STAT_SPEED p) speed).swEvt 0).bit R.SW_EVT 0 = true
      ∧ (((m.setB (F.SW_P_STAT_LINK p) up).setF (F.SW_P_STAT_SPEED p) speed).swEvt 0).fld (F.SW_P_STAT_SPEED p) = speed % 4
      ∧ (((m.setB (F.SW_P_STAT_LINK p) up).setF (F.SW_P_STAT_SPEED p) speed).swEvt 0).on (F.SW_P_CTL_FLUSH_ON_DOWN p)
        = m.on (F.SW_P_CTL_FLUSH_ON_DOWN p) := by
  have hrd : ∀ x, x = R.SW_P_STAT p ∨ x = R.SW_P_CTL p → (((m.setB (F.SW_P_STAT_LINK p) up).setF (F.SW_P_STAT_SPEED p) speed).swEvt 0).rd x
      = ((m.setB (F.SW_P_STAT_LINK p) up).setF (F.SW_P_STAT_SPEED p) speed).rd x := fun x hx => by
    refine Mod.rd_evt_ne _ _ _ _ _ ?_ ?_
    all_goals rcases hx with rfl | rfl <;> simp only [R.SW_P_STAT, R.SW_P_CTL, R.SW_EVT, R.RING_IRQ_STAT] <;> omega
  refine ⟨?_, Mod.bit_evt _ _ _ _ _ (by decide) (by decide), ?_, ?_⟩
  · rw [Mod.on_congr (hrd _ (.inl rfl)), Mod.on_setF_ne _ _ _ (by simp [F.SW_P_STAT_SPEED]) (by simp [F.SW_P_STAT_LINK])
      (by simp [F.SW_P_STAT_SPEED, F.SW_P_STAT_LINK]), Mod.on_setB _ _ _ (by simp [F.SW_P_STAT_LINK]) (by simp [F.SW_P_STAT_LINK])]
  · rw [Mod.fld_congr (hrd _ (.inl rfl)), Mod.fld_setF _ _ _ (by simp [F.SW_P_STAT_SPEED]) (by simp [F.SW_P_STAT_SPEED])]
    rfl
  · rw [Mod.on_congr (hrd _ (.inr rfl))]
    refine Mod.on_congr ((Mod.rd_setF_ne _ _ _ ?_).trans (Mod.rd_setB_ne _ _ _ ?_))
    all_goals
      simp only [F.SW_P_STAT_SPEED, F.SW_P_STAT_LINK, F.SW_P_CTL_FLUSH_ON_DOWN, R.SW_P_STAT, R.SW_P_CTL]
      omega

/-- A link changes: its level and speed show, with the event, and a port that flushes has its entries removed in turn. -/
theorem Mod.linkChange_spec {p speed : Nat} {up : Bool} (hp : p < 10) (hlink : m.on (F.SW_P_STAT_LINK p) ≠ up) :
    (m.linkChange p up speed).on (F.SW_P_STAT_LINK p) = up ∧ (m.linkChange p up speed).bit R.SW_EVT 0 = true
      ∧ (up = false → (m.linkChange p up speed).fld (F.SW_P_STAT_SPEED p) = 0)
      ∧ (up = false → m.on (F.SW_P_CTL_FLUSH_ON_DOWN p) = true → m.sw.events.length < 256 → m.sw.waiting = [] →
        (m.linkChange p up speed).sw.events = m.sw.events ++ [.linkDown p])
      ∧ (up = true → (m.linkChange p up speed).sw = m.sw) := by
  obtain ⟨hon, hevt, hspeed, hflush⟩ := m.linkTold_spec hp up (if up then speed else 0)
  have hsw : (((m.setB (F.SW_P_STAT_LINK p) up).setF (F.SW_P_STAT_SPEED p) (if up then speed else 0)).swEvt 0).sw = m.sw := by simp
  rw [Mod.linkChange, if_neg hlink]
  simp only [hflush]
  generalize ((m.setB (F.SW_P_STAT_LINK p) up).setF (F.SW_P_STAT_SPEED p) (if up then speed else 0)).swEvt 0 = n at hon hevt hspeed hsw ⊢
  have hstat : R.SW_P_STAT p ≠ R.SW_STAT := by simp only [R.SW_P_STAT, R.SW_STAT]; omega
  split
  · rename_i h
    obtain ⟨hdown, hfl⟩ := Bool.and_eq_true_iff.mp h
    obtain rfl : up = false := by simpa using hdown
    refine ⟨(Mod.on_congr (Mod.rd_swQueue_ne _ _ hstat)).trans hon, (Mod.bit_congr (Mod.rd_swQueue_ne _ _ (by decide))).trans hevt,
      fun _ => (Mod.fld_congr (Mod.rd_swQueue_ne _ _ hstat)).trans hspeed, fun _ _ hlen hwait => ?_, fun h => absurd h (by decide)⟩
    rw [Mod.swQueue_room _ (by rw [hsw]; exact hlen) (by rw [hsw]; exact hwait), ← hsw]
    rfl
  · rename_i h
    refine ⟨hon, hevt, fun hu => ?_, fun hu hfl => absurd (by simp [hu, hfl]) h, fun _ => hsw⟩
    rw [hspeed, hu]
    rfl

/-- A parity failure is counted and logged (R447); of the MAC table an entry that fails waits to be removed. -/
theorem Mod.swParity_spec (m : Mod) (table index : Nat) :
    (m.swParity table index).rd R.SW_PARITY_CNT = (m.rd R.SW_PARITY_CNT + 1) % 4294967296 ∧ (m.swParity table index).bit R.SW_EVT 4 = true
      ∧ (m.swParity table index).rd R.SW_PARITY_LOG = 2147483648 + table % 16 + index % 2097152 * 16
      ∧ (table ≠ 0 → (m.swParity table index).sw = m.sw) ∧ (m.swParity table index).sw.mac = m.sw.mac := by
  have hlog : (2147483648 + table % 16 + index % 2097152 * 16) % 4294967296 = 2147483648 + table % 16 + index % 2097152 * 16 := by omega
  simp only [Mod.swParity]
  generalize hw : 2147483648 + table % 16 + index % 2097152 * 16 = w at hlog ⊢
  have hcnt : (((m.inc R.SW_PARITY_CNT).wr R.SW_PARITY_LOG w).swEvt 4).rd R.SW_PARITY_CNT = (m.rd R.SW_PARITY_CNT + 1) % 4294967296 := by
    rw [Mod.swEvt, Mod.rd_evt_ne _ _ _ _ _ (by decide) (by decide), Mod.rd_wr_ne _ _ _ (by decide), Mod.rd_inc, if_pos rfl]
  have hreg : (((m.inc R.SW_PARITY_CNT).wr R.SW_PARITY_LOG w).swEvt 4).rd R.SW_PARITY_LOG = w := by
    rw [Mod.swEvt, Mod.rd_evt_ne _ _ _ _ _ (by decide) (by decide), Mod.rd_wr_same, hlog]
  have hevt : (((m.inc R.SW_PARITY_CNT).wr R.SW_PARITY_LOG w).swEvt 4).bit R.SW_EVT 4 = true := Mod.bit_evt _ _ _ _ _ (by decide) (by decide)
  have hsw : (((m.inc R.SW_PARITY_CNT).wr R.SW_PARITY_LOG w).swEvt 4).sw = m.sw := by simp
  generalize ((m.inc R.SW_PARITY_CNT).wr R.SW_PARITY_LOG w).swEvt 4 = n at hcnt hreg hevt hsw ⊢
  split
  · rename_i h
    exact ⟨(Mod.rd_swQueue_ne _ _ (by decide)).trans hcnt, (Mod.bit_congr (Mod.rd_swQueue_ne _ _ (by decide))).trans hevt,
      (Mod.rd_swQueue_ne _ _ (by decide)).trans hreg, fun h0 => absurd h.1 h0, (Mod.swQueue_mac _ _).trans (show n.sw.mac = m.sw.mac by rw [hsw])⟩
  · exact ⟨hcnt, hevt, hreg, fun _ => hsw, congrArg SwSt.mac hsw⟩

/-- Settles O42: frames received, sent and expired; links and parity. -/
theorem switchFrames : Obligations.SwitchFrames := by
  refine ⟨fun s dt port sub d bad hup hen hp hbad => ?_, fun s dt port sub d hup hen hp h60 hmtu => ?_,
    fun s dt port q f l hup hp hon hq hf htc => ?_, fun s dt n i c data hup hn hfirst hst hres hfence => ?_, fun s dt f hup => ?_,
    fun s dt port speed up hup hp hlink => ?_, fun s dt table index hup => ?_⟩
  · obtain ⟨-, hblk⟩ := Bool.and_eq_true_iff.mp hup
    refine answers_of_guard rfl (Bool.and_eq_true_iff.mpr ⟨hup, decide_eq_true hp⟩) ?_
    rw [Mod.swReceive_bad (m := s.found) hblk hen hbad]
    exact ⟨(Mod.rd_inc _ _ _).trans (if_pos rfl), fun x hx => (Mod.rd_inc _ _ _).trans (if_neg hx), rfl, rfl⟩
  · obtain ⟨-, hblk⟩ := Bool.and_eq_true_iff.mp hup
    exact does_of_guard rfl (Bool.and_eq_true_iff.mpr ⟨hup, decide_eq_true hp⟩)
      (Mod.swReceive_good (m := s.found) hblk hen h60 hmtu (Mod.swPortOn_counted (m := s.found) hp _))
  · refine answers_of_guard rfl (Bool.and_eq_true_iff.mpr ⟨Bool.and_eq_true_iff.mpr ⟨hup, decide_eq_true hp⟩, hon⟩) ?_
    obtain ⟨hout, hq', hcnt, hrest⟩ := Mod.egressTx_head (m := s.found) (k := s.now dt) hq hf htc
    exact ⟨hout, hq', hcnt, fun q' _ hne => hrest q' hne⟩
  · refine does_of_guard rfl (Bool.and_eq_true_iff.mpr ⟨hup, ?_⟩) rfl
    rcases hn with rfl | rfl <;> rfl
  · exact answers_of_guard rfl (show s.found.swUp = true from hup) (Mod.mem_p9Expire s.found (s.now dt) f)
  · exact answers_of_guard rfl (Bool.and_eq_true_iff.mpr ⟨hup, decide_eq_true hp⟩) (Mod.linkChange_spec (m := s.found) hp hlink)
  · exact answers_of_guard rfl (show s.found.swUp = true from hup) (s.found.swParity_spec table index)

/-! ## The MAC table -/

/-- What the MAC table's use shows is registers alone. -/
@[simp] theorem Mod.macShow_sw (m : Mod) : m.macShow.sw = m.sw :=
  (Mod.each_keeps _ Mod.sw (fun _ _ => by rfl) _).trans rfl

/-- A free way of a set is in that set, and free. -/
theorem Mod.freeWay_spec {s i : Nat} (h : m.freeWay s = some i) : i / 4 = s ∧ AMap.find m.sw.mac i = none := by
  unfold Mod.freeWay at h
  have hnone := List.find?_some h
  obtain ⟨w, hw, rfl⟩ := List.mem_map.mp (List.mem_of_find?_eq_some h)
  have hw' : w < 4 := List.mem_range.mp hw
  exact ⟨by omega, Option.isNone_iff_eq_none.mp hnone⟩

/-- An unknown source takes a free way of its set (R440). -/
theorem Mod.learnDo_free {port mac vid sub i : Nat} (hfind : m.macFind mac vid = none) (hfree : m.freeWay (macSet mac vid) = some i)
    (hheld : (m.sw.mac.filter fun e => e.2.port == port && !e.2.static_).length < m.learnLimit port) :
    AMap.find (m.learnDo k port mac vid sub).sw.mac i
        = some { mac := mac, vid := vid, port := port, sub := sub, static_ := false, hit := true, pinned := false, moves := 0, pinTill := 0 }
      ∧ (∀ j, j ≠ i → AMap.find (m.learnDo k port mac vid sub).sw.mac j = AMap.find m.sw.mac j)
      ∧ (m.learnDo k port mac vid sub).sw.events = m.sw.events := by
  simp only [Mod.learnDo, hfind, if_neg (Nat.not_le.mpr hheld), Mod.macInstall, hfree]
  refine ⟨?_, fun j hj => ?_, ?_⟩
  · simp [Mod.macPut, AMap.find_ins]
  · simp [Mod.macPut, AMap.find_ins, hj]
  · simp [Mod.macPut]

/-- The head of the learn queue is handled on the rest of it. -/
theorem Mod.learnStep_head {e : SwEvent} {l : List SwEvent} (hev : m.sw.events = e :: l) (hwait : m.sw.waiting = []) :
    m.learnStep k = Mod.lqShow (Mod.eventDo { m with sw := { m.sw with events := l ++ [], waiting := [] } } k e) := by
  simp only [Mod.learnStep, hev, hwait]

theorem AMap.mem_del {α : Type} {q : Nat} {l : AMap α} {x : Nat × α} (h : x ∈ AMap.del q l) : x ∈ l ∧ x.1 ≠ q := by
  induction l with
  | nil => exact absurd h List.not_mem_nil
  | cons p t ih =>
    by_cases hq : q = p.1
    · simp only [AMap.del, hq, if_true] at h
      obtain ⟨ht, hne⟩ := ih (hq ▸ h)
      exact ⟨List.mem_cons_of_mem _ ht, hne⟩
    · simp only [AMap.del, hq, if_false, List.mem_cons] at h
      rcases h with rfl | h
      · exact ⟨List.mem_cons_self, Ne.symm hq⟩
      · obtain ⟨ht, hne⟩ := ih h
        exact ⟨List.mem_cons_of_mem _ ht, hne⟩

/-- Of a removal only entries remain that stood there and whose key was not removed. -/
theorem Mod.mem_each_macDel : ∀ (l : List Nat) (m : Mod) {x : Nat × MacEnt}, x ∈ (m.each l fun m i => m.macDel i).sw.mac → x ∈ m.sw.mac ∧ x.1 ∉ l
  | [], _, _, h => ⟨h, List.not_mem_nil⟩
  | i :: t, m, x, h => by
    obtain ⟨hmem, ht⟩ := Mod.mem_each_macDel t (m.macDel i) h
    obtain ⟨hm, hi⟩ := AMap.mem_del hmem
    exact ⟨hm, by simp [hi, ht]⟩

theorem Mod.mem_macRemove {f : Nat → MacEnt → Bool} {x : Nat × MacEnt} (h : x ∈ (m.macRemove f).sw.mac) : x ∈ m.sw.mac ∧ f x.1 x.2 = false := by
  rw [Mod.macRemove, Mod.macShow_sw] at h
  obtain ⟨hm, hgone⟩ := Mod.mem_each_macDel _ m h
  refine ⟨hm, ?_⟩
  by_contra hf
  exact hgone (List.mem_map.mpr ⟨x, List.mem_filter.mpr ⟨hm, by simpa using hf⟩, rfl⟩)

theorem Mod.macRemove_agedAt (m : Mod) (f : Nat → MacEnt → Bool) : (m.macRemove f).sw.agedAt = m.sw.agedAt := by
  rw [Mod.macRemove, Mod.macShow_sw]
  exact Mod.each_keeps m (fun m => m.sw.agedAt) (fun _ _ => by rfl) _

/-- Aging removes what was not hit and clears HIT of the rest (R443). -/
theorem Mod.macAge_spec (hage : m.fld F.SW_CTL_AGE ≠ 0) (hdue : m.sw.agedAt + secRaw (m.fld F.SW_CTL_AGE) ≤ k.raw) :
    (∀ x ∈ (m.macAge k).sw.mac, x.2.static_ = true ∨ (x.2.hit = false ∧ ∃ y ∈ m.sw.mac, y.1 = x.1 ∧ y.2.hit = true))
      ∧ (m.macAge k).sw.agedAt = k.raw := by
  have hr := Mod.macRemove_agedAt { m with sw := { m.sw with agedAt := k.raw } } (fun _ e => !e.static_ && !e.hit)
  rw [Mod.macAge, if_neg (by simp [hage]; exact hdue)]
  refine ⟨fun x hx => ?_, hr⟩
  obtain ⟨y, hy, rfl⟩ := List.mem_map.mp hx
  obtain ⟨hmem, hkept⟩ := Mod.mem_macRemove hy
  by_cases hs : y.2.static_ = true
  · exact .inl (by rw [if_pos hs]; exact hs)
  · rw [if_neg hs]
    exact .inr ⟨rfl, y, hmem, rfl, by simpa [hs] using hkept⟩

/-- Settles O43: learning, aging, move counts and pinned entries. -/
theorem macTable : Obligations.MacTable := by
  refine ⟨fun s dt e l hup hev hwait => ?_, fun s dt port mac vid sub i l hup hev hwait hp hfind hfree hheld => ?_,
    fun s dt hup hage hdue => ?_, fun s dt hup hsec => ?_, fun s dt i e hup hfind hpin htill => ?_⟩
  all_goals have hup' : s.found.swUp = true := hup
  · exact does_of_guard rfl hup' (Mod.learnStep_head (m := s.found) hev hwait)
  · refine answers_of_guard rfl hup' ?_
    rw [Mod.learnStep_head (m := s.found) hev hwait]
    obtain ⟨hnew, hrest, hevents⟩ := Mod.learnDo_free (m := { s.found with sw := { s.found.sw with events := l ++ [], waiting := [] } })
      (k := s.now dt) (sub := sub) hfind hfree hheld
    exact ⟨hnew, (Mod.freeWay_spec hfree).1, hrest, hevents.trans (List.append_nil l)⟩
  · exact answers_of_guard rfl hup' (Mod.macAge_spec (m := s.found) (k := s.now dt) hage hdue)
  · refine answers_of_guard rfl hup' ?_
    rw [show s.found.movesReset (s.now dt) = _ from if_neg hsec]
    refine ⟨fun x hx => ?_, rfl, by simp [Function.comp_def], rfl⟩
    obtain ⟨y, -, rfl⟩ := List.mem_map.mp hx
    rfl
  · refine answers_of_guard rfl hup' ?_
    have heq : s.found.pinExpire (s.now dt) i = s.found.macPut i { e with pinned := false } := by
      have hfind' : AMap.find s.found.sw.mac i = some e := hfind
      simp only [Mod.pinExpire, hfind']
      exact if_pos (by rw [hpin, Bool.true_and, decide_eq_true_eq]; exact htill)
    rw [heq]
    exact ⟨by simp [Mod.macPut, AMap.find_ins], fun j hj => by simp [Mod.macPut, AMap.find_ins, hj], rfl⟩

end Sys2Proof.Machine
end

section
/-! SUPPORT. The switch's commands: the MAC table's, and those that write a table at once (R435, R440, R444 to R446, R453). -/

namespace Sys2Proof.Machine

variable {m : Mod} {k : Clock}

/-- A VID in range is not refused. -/
theorem vidBad_of_range {vid : Nat} (h1 : 1 ≤ vid) (h : vid ≤ 4094) : vidBad vid = false := by
  simp only [vidBad, Bool.or_eq_false_iff, beq_eq_false_iff_ne, decide_eq_false_iff_not]
  omega

@[simp] theorem Mod.swResult_sw (m : Mod) (k : Clock) (h : Handed) (code : Nat) : (m.swResult k h code).sw = m.sw := Mod.result_sw ..

@[simp] theorem Mod.routeShow_sw (m : Mod) : m.routeShow.sw = m.sw := (rfl)

@[simp] theorem Mod.lqShow_sw (m : Mod) : m.lqShow.sw = m.sw := (rfl)

/-- A command in order takes effect at once, and its result changes nothing of the switch (R449). -/
theorem Mod.swNow_good {h : Hdr} {op : Nat} {bad : Bool} {f : Mod → Mod × Nat} (hup : m.swUp = true) (hbad : bad = false) :
    (m.swNow k h op bad f).sw = (f m).1.sw := by
  rw [Mod.swNow, hup, hbad]
  exact Mod.swResult_sw ..

/-- A route range that is not there is added while there is room (R446). -/
theorem Mod.routeAdd_new {v6 : Bool} {p : Prefix} (hnew : ((if v6 then m.sw.routes6 else m.sw.routes4).any fun q => q.bits == p.bits && q.len == p.len) = false)
    (hroom : (if v6 then m.sw.routes6 else m.sw.routes4).length < (if v6 then 1024 else 4096)) :
    (m.routeAdd v6 p).1.sw = if v6 then { m.sw with routes6 := m.sw.routes6 ++ [p] } else { m.sw with routes4 := m.sw.routes4 ++ [p] } := by
  simp only [Mod.routeAdd, hnew, Bool.false_eq_true, if_false, if_neg (Nat.not_le.mpr hroom)]
  cases v6 <;> rfl

/-- A route range that is there is removed (R446). -/
theorem Mod.routeDel_there {v6 : Bool} {bits len : Nat}
    (hthere : ((if v6 then m.sw.routes6 else m.sw.routes4).any fun q => q.bits == bits && q.len == len) = true) :
    (m.routeDel v6 bits len).1.sw = if v6 then { m.sw with routes6 := m.sw.routes6.filter fun q => !(q.bits == bits && q.len == len) }
      else { m.sw with routes4 := m.sw.routes4.filter fun q => !(q.bits == bits && q.len == len) } := by
  simp only [Mod.routeDel, hthere, if_true]
  cases v6 <;> rfl

/-- A write to SW_TBL_SEL stands there; the snapshot is registers, valid or in error (R453). -/
theorem Mod.swSel_spec (m : Mod) (k : Clock) (v : Nat) :
    (m.swSel k v).rd R.SW_TBL_SEL = v % 67108864 ∧ (m.swSel k v).sw = m.sw
      ∧ ((m.swSel k v).on F.SW_TBL_STAT_VALID = !(m.swSel k v).on F.SW_TBL_STAT_ERR) := by
  simp only [Mod.swSel]
  generalize (m.wr R.SW_TBL_SEL (v % 67108864)).swTblWords k _ _ = w
  generalize hb : ((_ : Nat) == 0 && _ : Bool) = b
  let n := (((m.wr R.SW_TBL_SEL (v % 67108864)).setB F.SW_TBL_STAT_VALID w.isSome).setB F.SW_TBL_STAT_ERR w.isNone).setB F.SW_TBL_STAT_PARITY b
  have hdata : ∀ x, x = R.SW_TBL_SEL ∨ x = R.SW_TBL_STAT → (n.each (upto 4) fun m j => m.wr (R.SW_TBL_DATA j) (nth 0 (w.getD []) j)).rd x = n.rd x :=
    fun x hx => Mod.each_keeps n (fun m => m.rd x) (fun _ j => Mod.rd_wr_ne _ _ _ (by
      rcases hx with rfl | rfl <;> simp only [R.SW_TBL_SEL, R.SW_TBL_STAT, R.SW_TBL_DATA] <;> omega)) _
  refine ⟨(hdata _ (.inl rfl)).trans ?_, (Mod.each_keeps n Mod.sw (fun _ _ => by rfl) _).trans rfl, ?_⟩
  · rw [Mod.rd_setB_ne _ _ _ (by decide), Mod.rd_setB_ne _ _ _ (by decide), Mod.rd_setB_ne _ _ _ (by decide), Mod.rd_wr_same]
    omega
  · have hvalid : n.on F.SW_TBL_STAT_VALID = w.isSome := by
      rw [Mod.on_setB_ne _ _ _ (by decide) (by decide) (by decide), Mod.on_setB_ne _ _ _ (by decide) (by decide) (by decide),
        Mod.on_setB _ _ _ (by decide) (by decide)]
    have herr : n.on F.SW_TBL_STAT_ERR = w.isNone := by
      rw [Mod.on_setB_ne _ _ _ (by decide) (by decide) (by decide), Mod.on_setB _ _ _ (by decide) (by decide)]
    refine (Mod.on_congr (hdata _ (.inr rfl))).trans (hvalid.trans ?_)
    rw [Mod.on_congr (m := n.each _ _) (hdata _ (.inr rfl)), herr]
    cases w <;> rfl

/-- Settles O44: the switch's commands enter the learn queue or write their table at once. -/
theorem switchCommands : Obligations.SwitchCommands := by
  refine ⟨fun s dt h hup hlen hwait => ?_, fun s dt h hup => ?_, fun s dt v ho => answers_of_access rfl ho (s.found.swSel_spec (s.now dt) v)⟩
  · have hup' : (!s.found.swUp) = false := by rw [show s.found.swUp = true from hup]; rfl
    have hq : ∀ e, (s.found.swQueue e).sw = { s.m.sw with events := s.m.sw.events ++ [e] } := fun e =>
      congrArg Mod.sw (Mod.swQueue_room (m := s.found) e hlen hwait)
    refine ⟨fun mac vid port sub h1 hvid hport => ?_, fun mac vid h1 hvid => ?_, fun port flags vid hport hflags hvid => ?_⟩
    · refine answers_of_ev rfl ?_
      rw [hup', vidBad_of_range h1 hvid, decide_eq_false (by omega)]
      exact hq _
    · refine answers_of_ev rfl ?_
      rw [hup', vidBad_of_range h1 hvid]
      exact hq _
    · refine answers_of_ev rfl ?_
      have hp : (decide (9 < port) && port != 0xFF) = false := by
        rcases hport with hport | rfl
        · rw [decide_eq_false (by omega)]; rfl
        · rfl
      have hv : (vidBad vid && vid != 0xFFFF) = false := by
        rcases hvid with ⟨h1, hvid⟩ | rfl
        · rw [vidBad_of_range h1 hvid]; rfl
        · rfl
      rw [hup', hp, hv, decide_eq_false (by omega)]
      exact hq _
  · have hup' : s.found.swUp = true := hup
    refine ⟨fun vid member untag flags h1 hvid hmem huntag hflags => ?_, fun rif flags vid ip4 len4 ip6 hrif hflags hvid hlen => ?_,
      fun nh flags mac vid hnh hflags hvid => ?_, fun plen nh pfx hbad hroom hnew => ?_, fun plen nh pfx hbad hroom hnew => ?_,
      fun plen pfx hbad hthere => ?_, fun plen pfx hbad hthere => ?_⟩
    · refine answers_of_ev rfl ?_
      have hbad : (vidBad vid || decide (1023 < member) || decide (1023 < untag) || decide (1 < flags)) = false := by
        rw [vidBad_of_range h1 hvid, decide_eq_false (by omega), decide_eq_false (by omega), decide_eq_false (by omega)]; rfl
      rw [State.after_m]
      dsimp only
      rw [Mod.swNow_good hup' hbad]
      exact ⟨by simp, fun v hv => by simp [hv]⟩
    · refine answers_of_ev rfl ?_
      have hv : (flags != 0 && vidBad vid) = false := by
        rcases hvid with rfl | ⟨h1, hvid⟩
        · rfl
        · rw [vidBad_of_range h1 hvid, Bool.and_false]
      have hbad : (decide (15 < rif) || decide (3 < flags) || flags != 0 && vidBad vid || decide (32 < len4) || 0 != 0) = false := by
        rw [hv, decide_eq_false (by omega), decide_eq_false (by omega), decide_eq_false (by omega)]; rfl
      rw [State.after_m]
      dsimp only
      rw [Mod.swNow_good hup' hbad]
      exact ⟨by simp, fun v hv => by simp [hv]⟩
    · refine answers_of_ev rfl ?_
      have hv : (flags == 1 && vidBad vid) = false := by
        rcases hvid with rfl | ⟨h1, hvid⟩
        · rfl
        · rw [vidBad_of_range h1 hvid, Bool.and_false]
      have hbad : (decide (1023 < nh) || decide (1 < flags) || flags == 1 && vidBad vid) = false := by
        rw [hv, decide_eq_false (by omega), decide_eq_false (by omega)]; rfl
      rw [State.after_m]
      dsimp only
      rw [Mod.swNow_good hup' hbad]
      exact ⟨by simp, fun v hv => by simp [hv]⟩
    · refine answers_of_ev rfl ((Mod.swNow_good hup' hbad).trans ?_)
      exact Mod.routeAdd_new (m := s.found) (v6 := false) hnew hroom
    · refine answers_of_ev rfl ((Mod.swNow_good hup' hbad).trans ?_)
      exact Mod.routeAdd_new (m := s.found) (v6 := true) hnew hroom
    · refine answers_of_ev rfl ((Mod.swNow_good hup' (by rw [hbad]; rfl)).trans ?_)
      exact Mod.routeDel_there (m := s.found) (v6 := false) hthere
    · refine answers_of_ev rfl ((Mod.swNow_good hup' (by rw [hbad]; rfl)).trans ?_)
      exact Mod.routeDel_there (m := s.found) (v6 := true) hthere

end Sys2Proof.Machine
end

section
/-! SUPPORT. The Brace's own operations: its frames (R481), what it shows of itself (R486), its gate and its line (R459 to R461). -/

namespace Sys2Proof.Machine

variable {m : Mod} {k : Clock}

theorem Mod.rd_brace (m : Mod) (x : BraceSt) (a : Nat) : ({ m with brace := x } : Mod).rd a = m.rd a := (rfl)

/-- What a command makes of the module it finds, brought to another form, answers for it. -/
theorem answers_of_eq {c : Instr} {s : State} {dt : Nat} {f : Clock → Mod → Mod} {m : Mod} {P : State → Prop}
    (h : exec c s = .next (s.ev dt f)) (hm : f (s.now dt) s.found = m) (hP : P (s.after dt m)) : Answers c s P :=
  answers_of_ev h (by rwa [hm])

/-! ## Frames judged -/

/-- The checks of R481 of a frame of the type asked for, with the key usable. -/
def Mod.goodFrame (m : Mod) (k : Clock) (d : List Byte) : Prop :=
  (Config.aesCmac (m.slotKey (m.rd R.BRACE_KEY % 64)) (d.take (d.length - 16))).take 16 = d.drop (d.length - 16)
    ∧ leAt d 2 2 = d.length ∧ leAt d 4 2 = m.rd R.BRACE_ID % 65536
    ∧ (Int.ofNat (leAt d 12 8) - Int.ofNat (Clock.fullNs k.now)).natAbs ≤ (if m.on F.BRACE_STAT_TIME_ALIGNED then 1000000 else 10000000000)
    ∧ ∀ q, m.brace.rxSeq = some q → 0 < tickDiff (leAt d 8 4) q

/-- A SEQ that is not newer is old. -/
theorem oldSeq_iff (seq : Nat) (r : Option Nat) :
    (match r with | some q => decide (tickDiff seq q ≤ 0) | none => false) = true ↔ ¬ ∀ q, r = some q → 0 < tickDiff seq q := by
  cases r with
  | none => simp
  | some q => simp

/-- A frame is refused exactly where one of its checks fails. -/
theorem Mod.braceFrame_eq {type : Nat} {d : List Byte} (hup : m.braceUp = true) (hlen : 48 ≤ d.length) (htype : leAt d 1 1 = type)
    (hkey : m.slotAllows (m.rd R.BRACE_KEY % 64) [1] 0 2 = true) [Decidable (m.goodFrame k d)] :
    m.braceFrame k type d = if m.goodFrame k d then
      ({ ((m.inc R.KEN_OP_CNT).inc R.BRACE_RX_CNT) with brace := { m.brace with rxSeq := some (leAt d 8 4) } },
        some { tick := leAt d 20 4, last := (leAt d 7 1).testBit 0, unit := leAt d 6 1 % 2, time := leAt d 12 8,
               body := (d.take (d.length - 16)).drop 32 })
    else ((m.inc R.KEN_OP_CNT).frameRefuse, none) := by
  have hin : (!m.braceUp || decide (d.length < 48) || leAt d 1 1 != type) = false := by
    rw [hup, decide_eq_false (by omega), htype]; simp
  have hid : (m.inc R.KEN_OP_CNT).rd R.BRACE_ID = m.rd R.BRACE_ID := Mod.rd_wr_ne _ _ _ (by decide)
  have hal : (m.inc R.KEN_OP_CNT).on F.BRACE_STAT_TIME_ALIGNED = m.on F.BRACE_STAT_TIME_ALIGNED := Mod.on_congr (Mod.rd_wr_ne _ _ _ (by decide))
  unfold Mod.braceFrame
  rw [if_neg (by rw [hin]; decide)]
  simp only [Mod.useKey, hkey, if_true]
  by_cases hgood : m.goodFrame k d
  · rw [if_pos hgood, if_neg]
    · rfl
    · obtain ⟨htag, hl, hbid, hfar, hseq⟩ := hgood
      rw [hid, hal]
      rintro (h | h | h | h | h)
      · exact h hl
      · exact h htag
      · exact h hbid
      · exact absurd hfar (Nat.not_le.mpr h)
      · exact (oldSeq_iff _ _).mp h hseq
  · rw [if_neg hgood, if_pos]
    rw [hid, hal]
    by_contra hnone
    push Not at hnone
    obtain ⟨hl, htag, hbid, hfar, hseq⟩ := hnone
    exact hgood ⟨htag, hl, hbid, hfar, not_not.mp fun h => hseq ((oldSeq_iff _ _).mpr h)⟩

/-- A refused frame is counted and its event set; the Brace's state stays. -/
theorem Mod.frameRefuse_spec (m : Mod) :
    m.frameRefuse.brace = m.brace ∧ m.frameRefuse.rd R.BRACE_AUTH_FAIL_CNT = (m.rd R.BRACE_AUTH_FAIL_CNT + 1) % 4294967296
      ∧ m.frameRefuse.rd R.BRACE_RX_CNT = m.rd R.BRACE_RX_CNT := by
  refine ⟨by simp [Mod.frameRefuse, Mod.braceEvt], ?_, ?_⟩
  · rw [Mod.frameRefuse, Mod.braceEvt, Mod.rd_evt_ne _ _ _ _ _ (by decide) (by decide), Mod.rd_inc, if_pos rfl]
  · rw [Mod.frameRefuse, Mod.braceEvt, Mod.rd_evt_ne _ _ _ _ _ (by decide) (by decide), Mod.rd_inc, if_neg (by decide)]

/-- Settles O45: exactly the frames that pass every check are accepted. -/
theorem braceFramesJudged : Obligations.BraceFramesJudged := by
  classical
  intro m k type d hup hlen htype hkey
  have heq := Mod.braceFrame_eq (m := m) (k := k) hup hlen htype hkey
  refine ⟨fun hgood => ?_, fun hbad => ?_⟩
  · rw [heq, if_pos (show m.goodFrame k d from hgood)]
    refine ⟨_, rfl, rfl, rfl, rfl, ?_, ?_⟩
    · rw [Mod.rd_brace, Mod.rd_inc, if_pos rfl, Mod.rd_inc, if_neg (by decide)]
    · rw [Mod.rd_brace, Mod.rd_inc, if_neg (by decide), Mod.rd_inc, if_neg (by decide)]
  · rw [heq, if_neg (show ¬ m.goodFrame k d from hbad)]
    obtain ⟨hb, hfail, hrx⟩ := (m.inc R.KEN_OP_CNT).frameRefuse_spec
    refine ⟨rfl, hb, hfail.trans ?_, hrx.trans ?_⟩
    · rw [Mod.rd_inc, if_neg (by decide)]
    · rw [Mod.rd_inc, if_neg (by decide)]

/-! ## What the unit shows of itself -/

/-- A field of BRACE_STAT that showing the unit's state leaves: not its and its partner's eligibility, the version or the partner's role. -/
def ShowLeaves (f : Fld) : Prop := f.off = R.BRACE_STAT ∧ f.hi ≤ 31 ∧ (f.hi < 8 ∨ 9 < f.lo) ∧ (f.hi < 12 ∨ 19 < f.lo)

/-- A field of LEASH_STAT other than HELD. -/
def HeldLeaves (f : Fld) : Prop := f.off = R.LEASH_STAT ∧ f.hi ≤ 31 ∧ (f.hi < F.LEASH_STAT_HELD.lo ∨ F.LEASH_STAT_HELD.hi < f.lo)

/-- What of the Brace `t` has as `m`: all but what is shown of eligibility, version, partner and HELD. -/
structure Shows (m t : Mod) : Prop where
  fld : ∀ f, ShowLeaves f → t.fld f = m.fld f
  leash : ∀ f, HeldLeaves f → t.fld f = m.fld f
  rd : ∀ x, x ≠ R.BRACE_STAT → x ≠ R.LEASH_STAT → t.rd x = m.rd x
  brace : t.brace = { m.brace with ver := t.brace.ver }

theorem Shows.on {m t : Mod} (h : Shows m t) {f : Fld} (hf : ShowLeaves f) : t.on f = m.on f := by rw [Mod.on, Mod.on, h.fld f hf]

theorem Mod.braceShow_spec (m : Mod) : Shows m m.braceShow := by
  simp only [Mod.braceShow]
  generalize (if m.heard then m.brace.partner else none) = p
  refine ⟨fun f hf => ?_, fun f hf => ?_, fun x hb hl => ?_, by simp only [Mod.setB_brace, Mod.setF_brace]⟩
  · obtain ⟨hoff, h31, h89, hrest⟩ := hf
    rw [Mod.fld_congr (Mod.rd_setB_ne _ _ _ (by rw [hoff]; decide)), Mod.fld_congr (Mod.rd_brace _ _ _),
      Mod.fld_setF_ne _ _ _ (by decide) h31 (by simp only [F.BRACE_STAT_BVER]; omega),
      Mod.fld_setF_ne _ _ _ (by decide) h31 (by simp only [F.BRACE_STAT_PARTNER_ROLE]; omega),
      Mod.fld_setB_ne _ _ _ (by decide) h31 (by simp only [F.BRACE_STAT_PARTNER_ELIGIBLE]; omega),
      Mod.fld_setB_ne _ _ _ (by decide) h31 (by simp only [F.BRACE_STAT_PREFERRED]; omega),
      Mod.fld_setB_ne _ _ _ (by decide) h31 (by simp only [F.BRACE_STAT_ELIGIBLE]; omega)]
  · obtain ⟨hoff, h31, hheld⟩ := hf
    rw [Mod.fld_setB_ne _ _ _ (by decide) h31 (by simp only [F.LEASH_STAT_HELD] at hheld ⊢; omega)]
    refine Mod.fld_congr ?_
    rw [hoff, Mod.rd_brace, Mod.rd_setF_ne _ _ _ (by decide), Mod.rd_setF_ne _ _ _ (by decide), Mod.rd_setB_ne _ _ _ (by decide),
      Mod.rd_setB_ne _ _ _ (by decide), Mod.rd_setB_ne _ _ _ (by decide)]
  · rw [Mod.rd_setB_ne _ _ _ hl, Mod.rd_brace, Mod.rd_setF_ne _ _ _ hb, Mod.rd_setF_ne _ _ _ hb, Mod.rd_setB_ne _ _ _ hb,
      Mod.rd_setB_ne _ _ _ hb, Mod.rd_setB_ne _ _ _ hb]

@[simp] theorem Mod.braceShow_out (m : Mod) : m.braceShow.out = m.out := by simp [Mod.braceShow]

/-- The pulse outputs end; no register and nothing of the Brace changes. -/
theorem Mod.pulsesOff_keeps (m : Mod) : m.pulsesOff.live = m.live ∧ m.pulsesOff.brace = m.brace := by
  refine Mod.each_induct (P := fun t => t.live = m.live ∧ t.brace = m.brace) m ⟨rfl, rfl⟩ fun t i _ ⟨hl, hb⟩ => ?_
  dsimp only
  split
  · exact ⟨hl, hb⟩
  · exact ⟨hl, hb⟩

@[simp] theorem Mod.leashShow_brace (m : Mod) : m.leashShow.brace = m.brace := by
  simp only [Mod.leashShow]
  split <;> simp

/-- The gate's state, the outputs through it, and what changing it leaves (R407, R459). -/
structure Gates (m t : Mod) (on : Bool) : Prop where
  gate : t.on F.BRACE_STAT_GATE_OPEN = on
  outA : t.on F.LEASH_STAT_OUT_A = (m.leashUp && m.lstate == 2 && on)
  outB : t.on F.LEASH_STAT_OUT_B = (m.leashUp && m.lstate == 2 && on)
  lstate : t.lstate = m.lstate
  fld : ∀ f, ShowLeaves f → (f.hi < 2 ∨ 2 < f.lo) → t.fld f = m.fld f
  rd : ∀ x, x ≠ R.BRACE_STAT → x ≠ R.LEASH_STAT → t.rd x = m.rd x
  brace : t.brace = { m.brace with ver := t.brace.ver }

theorem Gates.on {m t : Mod} {b : Bool} (h : Gates m t b) {f : Fld} (hf : ShowLeaves f) (hne : f.hi < 2 ∨ 2 < f.lo) : t.on f = m.on f := by
  rw [Mod.on, Mod.on, h.fld f hf hne]

theorem Mod.gate_spec (m : Mod) (on : Bool) : Gates m (m.gate on) on := by
  simp only [Mod.gate]
  obtain ⟨ha, hb, hst, hrd⟩ := (m.setB F.BRACE_STAT_GATE_OPEN on).leashShow_spec
  have hbr := Mod.leashShow_brace (m.setB F.BRACE_STAT_GATE_OPEN on)
  have hup : (m.setB F.BRACE_STAT_GATE_OPEN on).leashUp = m.leashUp := Mod.bit_congr (Mod.rd_setB_ne _ _ _ (by decide))
  have hst' : (m.setB F.BRACE_STAT_GATE_OPEN on).lstate = m.lstate := Mod.fld_congr (Mod.rd_setB_ne _ _ _ (by decide))
  rw [hup, hst', Mod.on_setB _ _ _ (by decide) (by decide)] at ha hb
  rw [hst'] at hst
  generalize Mod.leashShow _ = n at ha hb hst hrd hbr ⊢
  have hoff : (if (m.on F.BRACE_STAT_GATE_OPEN && !on) = true then n.pulsesOff else n).live = n.live
      ∧ (if (m.on F.BRACE_STAT_GATE_OPEN && !on) = true then n.pulsesOff else n).brace = n.brace := by
    split
    · exact n.pulsesOff_keeps
    · exact ⟨rfl, rfl⟩
  generalize (if (m.on F.BRACE_STAT_GATE_OPEN && !on) = true then n.pulsesOff else n) = o at hoff ⊢
  obtain ⟨hlive, hob⟩ := hoff
  have ho := Mod.rd_eq hlive
  have hshow := o.braceShow_spec
  refine ⟨?_, ?_, ?_, ?_, fun f hf hne => ?_, fun x h1 h2 => ?_, ?_⟩
  · rw [hshow.on (by unfold ShowLeaves; decide), Mod.on_congr (ho _), Mod.on_congr (hrd _ (by decide)), Mod.on_setB _ _ _ (by decide) (by decide)]
  · rw [Mod.on, hshow.leash _ (by unfold HeldLeaves; decide), ← Mod.on, Mod.on_congr (ho _), ha]
  · rw [Mod.on, hshow.leash _ (by unfold HeldLeaves; decide), ← Mod.on, Mod.on_congr (ho _), hb]
  · rw [Mod.lstate, hshow.leash _ (by unfold HeldLeaves; decide), Mod.fld_congr (ho _)]
    exact hst
  · rw [hshow.fld f hf, Mod.fld_congr (ho _), Mod.fld_congr (hrd _ (by rw [hf.1]; decide)),
      Mod.fld_setB_ne _ _ _ (by decide) hf.2.1 (by simp only [F.BRACE_STAT_GATE_OPEN]; omega)]
  · rw [hshow.rd x h1 h2, ho, hrd x h2, Mod.rd_setB_ne _ _ _ h1]
  · rw [hshow.brace, hob, hbr, Mod.setB_brace]

/-- The role and the cause it is entered with are shown, and the Leash's outputs (R469, R486, R487). -/
structure Roles (m t : Mod) (role : Nat) : Prop where
  role : t.role = role
  outA : t.on F.LEASH_STAT_OUT_A = m.on F.LEASH_STAT_OUT_A ∨ t.on F.LEASH_STAT_OUT_A = (m.leashUp && m.lstate == 2 && m.on F.BRACE_STAT_GATE_OPEN)
  fld : ∀ f, ShowLeaves f → (f.hi < 20 ∨ 23 < f.lo) → 1 < f.lo → t.fld f = m.fld f
  brace : t.brace = { m.brace with ver := t.brace.ver, roleLog := t.brace.roleLog }
  lstate : t.lstate = m.lstate
  evt : ∀ i, m.bit R.BRACE_EVT i = true → t.bit R.BRACE_EVT i = true

/-- A change of role is told and recorded before the unit shows it. -/
theorem Mod.setRole_changes {role cause : Nat} (hold : m.role ≠ role) :
    ∃ o : Mod, (∀ x, x ≠ R.BRACE_EVT → x ≠ R.RING_IRQ_STAT → x ≠ R.REC_DROP_CNT → x ≠ R.REC_EVT →
        o.rd x = ((m.setF F.BRACE_STAT_ROLE role).setF F.BRACE_STAT_LAST_CAUSE cause).rd x)
      ∧ o.brace = { m.brace with roleLog := o.brace.roleLog } ∧ (∀ i, m.bit R.BRACE_EVT i = true → o.bit R.BRACE_EVT i = true)
      ∧ m.setRole k role cause = o.braceShow.leashShow := by
  simp only [Mod.setRole, if_neg hold]
  have hn : ((m.setF F.BRACE_STAT_ROLE role).setF F.BRACE_STAT_LAST_CAUSE cause).brace = m.brace := by simp
  have hne : ∀ i, ((m.setF F.BRACE_STAT_ROLE role).setF F.BRACE_STAT_LAST_CAUSE cause).bit R.BRACE_EVT i = m.bit R.BRACE_EVT i := fun i =>
    Mod.bit_congr ((Mod.rd_setF_ne _ _ _ (by decide)).trans (Mod.rd_setF_ne _ _ _ (by decide)))
  generalize (m.setF F.BRACE_STAT_ROLE role).setF F.BRACE_STAT_LAST_CAUSE cause = n at hn hne ⊢
  generalize ((_ :: n.brace.roleLog : List (List Word)).take 4) = log
  refine ⟨_, fun x hevt hirq hdrop hrec => ?_, ?_, fun i hi => ?_, rfl⟩
  · rw [Mod.rd_recTrig_ne _ _ _ _ hdrop hrec hirq]
    have hevt' : ∀ c : Prop, ∀ [Decidable c] (a : Mod), (if c then a.braceEvt 1 else a).rd x = a.rd x := fun c _ a => by
      split
      · exact Mod.rd_evt_ne _ _ _ _ _ hevt hirq
      · rfl
    have hoff : ∀ c : Prop, ∀ [Decidable c] (a : Mod), (if c then a else a.pulsesOff).rd x = a.rd x := fun c _ a => by
      split
      · rfl
      · exact Mod.rd_eq a.pulsesOff_keeps.1 x
    rw [hoff, hevt', Mod.rd_brace]
  · have hevt' : ∀ c : Prop, ∀ [Decidable c] (a : Mod), (if c then a.braceEvt 1 else a).brace = a.brace := fun c _ a => by
      split
      · simp [Mod.braceEvt]
      · rfl
    have hoff : ∀ c : Prop, ∀ [Decidable c] (a : Mod), (if c then a else a.pulsesOff).brace = a.brace := fun c _ a => by
      split
      · rfl
      · exact a.pulsesOff_keeps.2
    rw [Mod.recTrig_brace, hoff, hevt', ← hn]
  · rw [Mod.bit_congr (Mod.rd_recTrig_ne _ _ _ _ (by decide) (by decide) (by decide))]
    have hevt' : ∀ c : Prop, ∀ [Decidable c] (a : Mod), a.bit R.BRACE_EVT i = true → (if c then a.braceEvt 1 else a).bit R.BRACE_EVT i = true :=
      fun c _ a h => by
        split
        · exact Mod.bit_evt_keeps _ _ _ _ _ (by decide) h
        · exact h
    have hoff : ∀ c : Prop, ∀ [Decidable c] (a : Mod), (if c then a else a.pulsesOff).bit R.BRACE_EVT i = a.bit R.BRACE_EVT i := fun c _ a => by
      split
      · rfl
      · exact Mod.bit_congr (Mod.rd_eq a.pulsesOff_keeps.1 _)
    rw [hoff]
    exact hevt' _ _ ((Mod.bit_congr (Mod.rd_brace _ _ _)).trans ((hne i).trans hi))

theorem Mod.setRole_spec (m : Mod) (k : Clock) {role : Nat} (hrole : role < 4) (cause : Nat) : Roles m (m.setRole k role cause) role := by
  let n := (m.setF F.BRACE_STAT_ROLE role).setF F.BRACE_STAT_LAST_CAUSE cause
  have hnrole : n.role = role := by
    refine (Mod.fld_setF_ne _ _ _ (by decide) (by decide) (by decide)).trans ((Mod.fld_setF _ _ _ (by decide) (by decide)).trans ?_)
    exact Nat.mod_eq_of_lt hrole
  have hnfld : ∀ f, ShowLeaves f → (f.hi < 20 ∨ 23 < f.lo) → 1 < f.lo → n.fld f = m.fld f := fun f ⟨_, h31, _⟩ hcause hlo =>
    (Mod.fld_setF_ne _ _ _ (by decide) h31 (by simp only [F.BRACE_STAT_LAST_CAUSE]; omega)).trans
      (Mod.fld_setF_ne _ _ _ (by decide) h31 (by simp only [F.BRACE_STAT_ROLE]; omega))
  have hnrd : ∀ x, x ≠ R.BRACE_STAT → n.rd x = m.rd x := fun x hx => (Mod.rd_setF_ne _ _ _ hx).trans (Mod.rd_setF_ne _ _ _ hx)
  have hnb : n.brace = m.brace := by simp [n]
  by_cases hold : m.role = role
  · have heq : m.setRole k role cause = n.braceShow := by
      simp only [Mod.setRole, if_pos hold]; rfl
    have hshow := n.braceShow_spec
    rw [heq]
    refine ⟨(hshow.fld _ (by unfold ShowLeaves; decide)).trans hnrole, .inl ?_, fun f hf hc hlo => (hshow.fld f hf).trans (hnfld f hf hc hlo), ?_, ?_,
      fun i hi => (Mod.bit_congr ((hshow.rd _ (by decide) (by decide)).trans (hnrd _ (by decide)))).trans hi⟩
    · rw [Mod.on, hshow.leash _ (by unfold HeldLeaves; decide), ← Mod.on, Mod.on_congr (hnrd _ (by decide))]
    · rw [hshow.brace, hnb]
    · rw [Mod.lstate, hshow.leash _ (by unfold HeldLeaves; decide), Mod.fld_congr (hnrd _ (by decide))]; rfl
  · obtain ⟨o, ho, hob, hevt, heq⟩ := Mod.setRole_changes (k := k) (cause := cause) hold
    have hshow := o.braceShow_spec
    obtain ⟨hla, -, hlst, hlrd⟩ := o.braceShow.leashShow_spec
    have hbrd : ∀ f, ShowLeaves f → o.braceShow.leashShow.fld f = n.fld f := fun f hf =>
      (Mod.fld_congr (hlrd _ (by rw [hf.1]; decide))).trans ((hshow.fld f hf).trans (Mod.fld_congr (ho _ (by rw [hf.1]; decide) (by rw [hf.1]; decide)
        (by rw [hf.1]; decide) (by rw [hf.1]; decide))))
    have hst : o.braceShow.lstate = m.lstate :=
      (hshow.leash _ (by unfold HeldLeaves; decide)).trans ((Mod.fld_congr (ho _ (by decide) (by decide) (by decide) (by decide))).trans
        (Mod.fld_congr (hnrd _ (by decide))))
    have hup : o.braceShow.leashUp = m.leashUp := Mod.bit_congr ((hshow.rd _ (by decide) (by decide)).trans
      ((ho _ (by decide) (by decide) (by decide) (by decide)).trans (hnrd _ (by decide))))
    rw [heq]
    refine ⟨(hbrd _ (by unfold ShowLeaves; decide)).trans hnrole, .inr ?_, fun f hf hc hlo => (hbrd f hf).trans (hnfld f hf hc hlo), ?_, hlst.trans hst,
      fun i hi => (Mod.bit_congr ((hlrd _ (by decide)).trans (hshow.rd _ (by decide) (by decide)))).trans (hevt i hi)⟩
    · rw [hla, hup, hst, Mod.on, ← Mod.fld_congr (hlrd _ (by decide)), hbrd _ (by unfold ShowLeaves; decide),
        hnfld _ (by unfold ShowLeaves; decide) (by decide) (by decide)]
      rfl
    · rw [Mod.leashShow_brace, hshow.brace, hob]

/-! ## The line -/

/-- Letting the line go closes the gate and de-energises the outputs (R459, R461). -/
theorem Mod.holdOff_spec (m : Mod) :
    m.holdOff.on F.BRACE_STAT_HOLD_OUT = false ∧ m.holdOff.on F.BRACE_STAT_GATE_OPEN = false ∧ m.holdOff.on F.LEASH_STAT_OUT_A = false
      ∧ m.holdOff.on F.LEASH_STAT_OUT_B = false ∧ m.holdOff.role = m.role ∧ m.holdOff.lstate = m.lstate
      ∧ m.holdOff.brace = { m.brace with windowAt := none, ver := m.holdOff.brace.ver } := by
  let n := if m.on F.BRACE_STAT_HOLD_OUT then (m.setB F.BRACE_STAT_HOLD_OUT false).emit (.holdOut false) else m
  have hn : n.on F.BRACE_STAT_HOLD_OUT = false ∧ n.role = m.role ∧ n.lstate = m.lstate ∧ n.brace = m.brace := by
    by_cases h : m.on F.BRACE_STAT_HOLD_OUT = true
    · have heq : n = (m.setB F.BRACE_STAT_HOLD_OUT false).emit (.holdOut false) := if_pos h
      have hrd : ∀ x, n.rd x = (m.setB F.BRACE_STAT_HOLD_OUT false).rd x := fun x => by rw [heq]; rfl
      refine ⟨(Mod.on_congr (hrd _)).trans (Mod.on_setB _ _ _ (by decide) (by decide)), ?_, ?_, by rw [heq]; simp⟩
      · exact (Mod.fld_congr (hrd _)).trans (Mod.fld_setB_ne _ _ _ (by decide) (by decide) (by decide))
      · exact (Mod.fld_congr (hrd _)).trans (Mod.fld_congr (Mod.rd_setB_ne _ _ _ (by decide)))
    · have heq : n = m := if_neg h
      rw [heq]
      exact ⟨Bool.eq_false_iff.mpr h, rfl, rfl, rfl⟩
  obtain ⟨hout, hrole, hst, hb⟩ := hn
  have hg := Mod.gate_spec { n with brace := { n.brace with windowAt := none } } false
  have heq : m.holdOff = Mod.gate { n with brace := { n.brace with windowAt := none } } false := rfl
  rw [heq]
  refine ⟨(hg.on (by unfold ShowLeaves; decide) (by decide)).trans hout, hg.gate, hg.outA.trans (Bool.and_false _), hg.outB.trans (Bool.and_false _),
    (hg.fld _ (by unfold ShowLeaves; decide) (by decide)).trans hrole, hg.lstate.trans hst, ?_⟩
  rw [hg.brace]
  simp only [hb]

/-- Asserting a line that nothing holds begins its window (R459). -/
theorem Mod.holdOn_eq (hin : m.on F.BRACE_STAT_HOLD_IN = false) (hout : m.on F.BRACE_STAT_HOLD_OUT = false) :
    m.holdOn k = { (m.setB F.BRACE_STAT_HOLD_OUT true).emit (.holdOut true) with brace := { m.brace with windowAt := some k.raw } } := by
  have hin' : ((m.setB F.BRACE_STAT_HOLD_OUT true).emit (.holdOut true)).on F.BRACE_STAT_HOLD_IN = false :=
    (Mod.on_congr (n := m.setB F.BRACE_STAT_HOLD_OUT true) rfl).trans ((Mod.on_setB_ne _ _ _ (by decide) (by decide) (by decide)).trans hin)
  simp only [Mod.holdOn, hout, hin', Bool.false_eq_true, if_false]
  rfl

/-- A claim that nothing stands against asserts the line and begins its window (R459, R460). -/
theorem Mod.claim_spec {cause : Nat} (hin : m.on F.BRACE_STAT_HOLD_IN = false) (hout : m.on F.BRACE_STAT_HOLD_OUT = false)
    (hka : m.brace.kaDead = false) (hretry : m.brace.retryAt = none) :
    (m.claim k cause).on F.BRACE_STAT_HOLD_OUT = true
      ∧ (m.claim k cause).brace = { m.brace with cause := cause, retryAt := none, windowAt := some k.raw }
      ∧ (m.claim k cause).out = m.out ++ [.holdOut true]
      ∧ ∀ f : Fld, f.hi ≤ 31 → (f.hi < 3 ∨ 3 < f.lo) → (m.claim k cause).fld f = m.fld f := by
  have heq : m.claim k cause = { (m.setB F.BRACE_STAT_HOLD_OUT true).emit (.holdOut true) with
      brace := { m.brace with cause := cause, retryAt := none, windowAt := some k.raw } } :=
    (if_neg (by rw [hin, hout, hka, hretry]; decide)).trans
      (Mod.holdOn_eq (m := { m with brace := { m.brace with cause := cause, retryAt := none } }) hin hout)
  have hrd : ∀ x, (m.claim k cause).rd x = (m.setB F.BRACE_STAT_HOLD_OUT true).rd x := fun x => by rw [heq]; rfl
  refine ⟨(Mod.on_congr (hrd _)).trans (Mod.on_setB _ _ _ (by decide) (by decide)), ?_, ?_, fun f h31 hne => ?_⟩
  · rw [heq]
  · rw [heq]; simp [Mod.emit]
  · rw [Mod.fld_congr (hrd _), Mod.fld_setB_ne _ _ _ (by decide) h31 (by simp only [F.BRACE_STAT_HOLD_OUT]; omega)]

/-- The line's level as the unit finds it changed (R459). -/
def Mod.lineIn (m : Mod) (k : Clock) (level : Bool) : Mod :=
  { (m.setB F.BRACE_STAT_HOLD_IN level) with brace := { m.brace with holdInAt := k.raw } }

theorem Mod.lineIn_spec (m : Mod) (k : Clock) (level : Bool) :
    (m.lineIn k level).on F.BRACE_STAT_HOLD_IN = level ∧ (∀ f : Fld, f.hi ≤ 31 → (f.hi < 4 ∨ 4 < f.lo) → (m.lineIn k level).fld f = m.fld f)
      ∧ ∀ x, x ≠ R.BRACE_STAT → (m.lineIn k level).rd x = m.rd x :=
  ⟨(Mod.on_congr (Mod.rd_brace _ _ _)).trans (Mod.on_setB _ _ _ (by decide) (by decide)),
    fun f h31 hne => (Mod.fld_congr (Mod.rd_brace _ _ _)).trans (Mod.fld_setB_ne _ _ _ (by decide) h31 (by simp only [F.BRACE_STAT_HOLD_IN]; omega)),
    fun x hx => (Mod.rd_brace _ _ _).trans (Mod.rd_setB_ne _ _ _ hx)⟩

/-- Where nothing but the partner's event follows, the events leave the lines, the role and the Leash's state. -/
theorem Mod.rd_braceEvt_ne (m : Mod) (b : Nat) {x : Nat} (h : x ≠ R.BRACE_EVT) (h' : x ≠ R.RING_IRQ_STAT) : (m.braceEvt b).rd x = m.rd x :=
  Mod.rd_evt_ne _ _ _ _ _ h h'

@[simp] theorem Mod.braceEvt_brace (m : Mod) (b : Nat) : (m.braceEvt b).brace = m.brace := Mod.evt_brace ..

/-- The gate that closes with the line's assertion. -/
theorem Mod.gateShut_spec {n : Mod} (hrd : ∀ x, x ≠ R.BRACE_EVT → x ≠ R.RING_IRQ_STAT → n.rd x = (m.lineIn k true).rd x) (x : BraceSt)
    (hx : x.windowAt = none) :
    let t := Mod.gate { n with brace := x } false
    t.on F.BRACE_STAT_HOLD_IN = true ∧ t.on F.BRACE_STAT_GATE_OPEN = false ∧ t.on F.LEASH_STAT_OUT_A = false ∧ t.on F.LEASH_STAT_OUT_B = false
      ∧ t.brace.windowAt = none ∧ t.role = m.role ∧ t.lstate = m.lstate := by
  have hg := Mod.gate_spec { n with brace := x } false
  obtain ⟨hin, hfld, hrdin⟩ := m.lineIn_spec k true
  have hrd' : ∀ f : Fld, f.off ≠ R.BRACE_EVT → f.off ≠ R.RING_IRQ_STAT → Mod.fld { n with brace := x } f = (m.lineIn k true).fld f := fun f h h' =>
    (Mod.fld_congr (Mod.rd_brace _ _ _)).trans (Mod.fld_congr (hrd _ h h'))
  refine ⟨?_, hg.gate, hg.outA.trans (Bool.and_false _), hg.outB.trans (Bool.and_false _), ?_, ?_, ?_⟩
  · rw [hg.on (by unfold ShowLeaves; decide) (by decide), Mod.on, hrd' _ (by decide) (by decide)]
    exact hin
  · rw [hg.brace]; exact hx
  · rw [Mod.role, hg.fld _ (by unfold ShowLeaves; decide) (by decide), hrd' _ (by decide) (by decide), hfld _ (by decide) (by decide)]
    rfl
  · rw [hg.lstate, Mod.lstate, hrd' _ (by decide) (by decide), Mod.fld_congr (hrdin _ (by decide))]
    rfl

/-- A unit without Brace claims its line alone (R460). -/
theorem Mod.braceJudge_single {hb : Bool} (hup : m.braceUp = false) : m.braceJudge k hb = m.claimSingle k := by
  rw [Mod.braceJudge]
  exact if_pos (by rw [hup]; rfl)

theorem Mod.claimSingle_eq (hrun : m.running = true) (hmode : m.on F.BRACE_CTL_MODE = false) (hrole : m.role = 3)
    (hout : m.on F.BRACE_STAT_HOLD_OUT = false) (hin : m.on F.BRACE_STAT_HOLD_IN = false) : m.claimSingle k = m.claim k 1 :=
  (if_pos (by rw [hrun, hmode, hrole, hout]; rfl)).trans (if_neg (by rw [hin]; decide))

/-- A join without a partner claims when its wait is over (R467). -/
theorem Mod.joinJudge_due {hb : Bool} {at_ : Nat} (hjoin : m.brace.joinAt = some at_) (hpart : m.partner? = none)
    (hdue : at_ + (msRaw (100 * m.joinWait) + if m.preferred then 0 else secRaw 1) ≤ k.raw) (helig : m.eligible = true) :
    m.joinJudge k hb = m.claim k 1 := by
  simp only [Mod.joinJudge, hjoin, hpart]
  exact if_pos ⟨hdue, helig⟩

/-- A single unit that stood by serves once its gate is open (R459, R469). -/
def Mod.gateServes (m : Mod) (k : Clock) : Mod :=
  if m.on F.BRACE_CTL_MODE || !m.standby then m else Mod.setRole { m with brace := { m.brace with joinAt := none } } k 0 m.brace.cause

/-- The gate opened: the outputs follow the Leash, and a single unit that stood by serves. -/
theorem Gates.serves {m t : Mod} (hg : Gates m t true) :
    (t.gateServes k).on F.BRACE_STAT_GATE_OPEN = true ∧ (m.on F.BRACE_CTL_MODE = false → m.standby = true → (t.gateServes k).role = 0)
      ∧ (m.on F.BRACE_CTL_MODE = true → (t.gateServes k).role = m.role)
      ∧ (t.gateServes k).on F.LEASH_STAT_OUT_A = (m.leashUp && m.lstate == 2) := by
  have hmode : t.on F.BRACE_CTL_MODE = m.on F.BRACE_CTL_MODE := Mod.on_congr (hg.rd _ (by decide) (by decide))
  have hrole : t.role = m.role := hg.fld _ (by unfold ShowLeaves; decide) (by decide)
  have hst : t.standby = m.standby := by rw [Mod.standby, Mod.standby, hrole]
  have hup : t.leashUp = m.leashUp := Mod.bit_congr (hg.rd _ (by decide) (by decide))
  have hout := hg.outA.trans (Bool.and_true _)
  by_cases hc : (m.on F.BRACE_CTL_MODE || !m.standby) = true
  · have heq : t.gateServes k = t := if_pos (by rw [hmode, hst]; exact hc)
    rw [heq]
    refine ⟨hg.gate, fun h1 h2 => ?_, fun _ => hrole, hout⟩
    rw [h1, h2] at hc
    exact absurd hc (by decide)
  · have heq : t.gateServes k = Mod.setRole { t with brace := { t.brace with joinAt := none } } k 0 t.brace.cause :=
      if_neg (by rw [hmode, hst]; exact hc)
    have hr := Mod.setRole_spec { t with brace := { t.brace with joinAt := none } } k (role := 0) (by decide) t.brace.cause
    have hrd := Mod.rd_brace t { t.brace with joinAt := none }
    rw [heq]
    refine ⟨?_, fun _ _ => hr.role, fun h => ?_, ?_⟩
    · rw [Mod.on, hr.fld _ (by unfold ShowLeaves; decide) (by decide) (by decide), Mod.fld_congr (hrd _)]
      exact hg.gate
    · rw [h] at hc
      exact absurd rfl hc
    · rcases hr.outA with h | h
      · rw [h, Mod.on_congr (hrd _), hout]
      · have hup' : Mod.leashUp { t with brace := { t.brace with joinAt := none } } = m.leashUp := (Mod.bit_congr (hrd _)).trans hup
        have hst' : Mod.lstate { t with brace := { t.brace with joinAt := none } } = m.lstate := (Mod.fld_congr (hrd _)).trans hg.lstate
        rw [h, hup', hst', Mod.on_congr (hrd _), hg.gate, Bool.and_true]

/-- Settles O46: the gate, the hold lines, claims, the keep-alive and takeover act where their conditions hold. -/
theorem braceLines : Obligations.BraceLines := by
  refine ⟨fun s dt hdom hin hgate => ?_, fun s dt hdom hin hout => ?_, fun s dt hrun hmode hrole hout hin hka hretry => ?_,
    fun s dt w hw hout hin hgate hka => ⟨fun hdue => ?_, fun hearly => ?_⟩, fun s dt at_ hat hdue => ?_, fun s dt hrun hka hdue => ?_,
    fun s dt at_ hup hst hjoin hpart hdue helig hin hout hka hretry => ?_, fun s dt hat => does_of_guard rfl hat rfl⟩
  · have hgo : ¬ (!s.found.domOn 2 || s.found.on F.BRACE_STAT_HOLD_IN == true) = true := by
      rw [s.found_domOn, hdom, show s.found.on F.BRACE_STAT_HOLD_IN = false from hin]; decide
    let n : Mod := if (s.found.lineIn (s.now dt) true).on F.BRACE_CTL_MODE || !(s.found.lineIn (s.now dt) true).running then s.found.lineIn (s.now dt) true
      else (s.found.lineIn (s.now dt) true).braceEvt 9
    have hn : ∀ x, x ≠ R.BRACE_EVT → x ≠ R.RING_IRQ_STAT → n.rd x = (s.found.lineIn (s.now dt) true).rd x := fun x h h' => by
      simp only [n]
      split
      · rfl
      · exact Mod.rd_braceEvt_ne _ _ h h'
    have hgate' : n.on F.BRACE_STAT_GATE_OPEN = true := by
      rw [Mod.on, Mod.fld_congr (hn _ (by decide) (by decide)), (s.found.lineIn_spec (s.now dt) true).2.1 _ (by decide) (by decide)]
      exact hgate
    exact answers_of_eq rfl ((if_neg hgo).trans ((if_pos rfl).trans (if_pos hgate'))) (Mod.gateShut_spec (m := s.found) (k := s.now dt) hn _ rfl)
  · have hgo : ¬ (!s.found.domOn 2 || s.found.on F.BRACE_STAT_HOLD_IN == false) = true := by
      rw [s.found_domOn, hdom, show s.found.on F.BRACE_STAT_HOLD_IN = true from hin]; decide
    obtain ⟨hin', hfld, -⟩ := s.found.lineIn_spec (s.now dt) false
    have hout' : (s.found.lineIn (s.now dt) false).on F.BRACE_STAT_HOLD_OUT = true := by
      rw [Mod.on, hfld _ (by decide) (by decide)]; exact hout
    refine answers_of_eq rfl ((if_neg hgo).trans ((if_neg (by decide)).trans (if_pos hout'))) ?_
    have hshow := Mod.braceShow_spec { (s.found.lineIn (s.now dt) false) with
      brace := { (s.found.lineIn (s.now dt) false).brace with windowAt := some (s.now dt).raw } }
    refine ⟨(hshow.on (by unfold ShowLeaves; decide)).trans hin', ?_, ?_⟩
    · exact (congrArg BraceSt.windowAt hshow.brace).trans (congrArg some (s.now_raw dt))
    · refine (hshow.on (by unfold ShowLeaves; decide)).trans ?_
      rw [Mod.on, Mod.fld_congr (Mod.rd_brace _ _ _), hfld _ (by decide) (by decide)]
      rfl
  · have hup : s.found.braceUp = false := by
      rw [Mod.braceUp, show s.found.on F.BRACE_CTL_MODE = false from hmode, Bool.and_false]
    have heq := (Mod.braceJudge_single (k := s.now dt) (hb := false) hup).trans (Mod.claimSingle_eq (m := s.found) hrun hmode hrole hout hin)
    obtain ⟨hout', hb, ho, hfld⟩ := Mod.claim_spec (m := s.found) (k := s.now dt) (cause := 1) hin hout hka hretry
    refine answers_of_eq rfl ((if_pos hrun).trans heq) ⟨hout', ?_, ho, ?_⟩
    · rw [State.after_m, hb]
      exact congrArg some (s.now_raw dt)
    · rw [State.after_m, Mod.on, hfld _ (by decide) (by decide)]
      rfl
  · have hgo : ¬ (!s.found.on F.BRACE_STAT_HOLD_OUT || s.found.on F.BRACE_STAT_HOLD_IN || s.found.on F.BRACE_STAT_GATE_OPEN || s.found.brace.kaDead
        || decide ((s.now dt).raw < w + usRaw 100)) = true := by
      rw [show s.found.on F.BRACE_STAT_HOLD_OUT = true from hout, show s.found.on F.BRACE_STAT_HOLD_IN = false from hin,
        show s.found.on F.BRACE_STAT_GATE_OPEN = false from hgate, show s.found.brace.kaDead = false from hka, s.now_raw,
        decide_eq_false (Nat.not_lt.mpr hdue)]
      decide
    refine answers_of_eq (m := (s.found.gate true).gateServes (s.now dt)) rfl ?_ (s.found.gate_spec true).serves
    dsimp only
    rw [show s.found.brace.windowAt = some w from hw]
    exact if_neg hgo
  · refine does_of_ev rfl ?_
    dsimp only
    rw [show s.found.brace.windowAt = some w from hw]
    refine if_pos ?_
    rw [s.now_raw, decide_eq_true hearly, Bool.or_true]
  · refine does_of_ev rfl ?_
    dsimp only
    rw [show s.found.brace.retryAt = some at_ from hat]
    exact if_neg (by rw [s.now_raw]; omega)
  · have hpast : ¬ (s.now dt).raw < s.found.brace.fedAt + msRaw (10 * s.found.kaTicks) := by
      rw [s.now_raw]; exact Nat.not_lt.mpr hdue
    have hgo : ¬ (!s.found.running || s.found.brace.kaDead || decide ((s.now dt).raw < s.found.brace.fedAt + msRaw (10 * s.found.kaTicks))) = true := by
      rw [s.found_running, hrun, show s.found.brace.kaDead = false from hka, decide_eq_false hpast]
      decide
    obtain ⟨hout, hgate, ha, hb, -, -, hbr⟩ := Mod.holdOff_spec { s.found with brace := { s.found.brace with kaDead := true } }
    exact answers_of_eq rfl (if_neg hgo) ⟨by rw [State.after_m, hbr], hout, hgate, ha, hb⟩
  · have heq := Mod.joinJudge_due (m := s.found) (k := s.now dt) (hb := false) hjoin hpart (by rw [s.now_raw]; exact hdue) helig
    obtain ⟨hout', hb, -, hfld⟩ := Mod.claim_spec (m := s.found) (k := s.now dt) (cause := 1) hin hout hka hretry
    refine answers_of_eq rfl ((if_pos (Bool.and_eq_true_iff.mpr ⟨hup, hst⟩)).trans heq) ⟨hout', ?_, ?_, hfld _ (by decide) (by decide)⟩
    · rw [State.after_m, hb]
      exact congrArg some (s.now_raw dt)
    · rw [State.after_m, hb]

end Sys2Proof.Machine
end

section
/-! SUPPORT. The Brace's heartbeats, handovers and mirror (R463 to R485). -/

namespace Sys2Proof.Machine

variable {m : Mod} {k : Clock}

/-! ## Frames sent and accepted -/

/-- An accepted frame's effect: the key's use, the count and the last SEQ, which leave every register but two counts. -/
theorem Mod.braceFrame_accepts {type : Nat} {d : List Byte} {n : Mod} {f : BraceMsg} (h : m.braceFrame k type d = (n, some f)) :
    n = { ((m.inc R.KEN_OP_CNT).inc R.BRACE_RX_CNT) with brace := { m.brace with rxSeq := some (leAt d 8 4) } } := by
  classical
  have hin : (!m.braceUp || decide (d.length < 48) || leAt d 1 1 != type) = false := by
    by_contra hbad
    rw [Mod.braceFrame, if_pos (Bool.not_eq_false _ ▸ hbad)] at h
    cases h
  simp only [Bool.or_eq_false_iff, Bool.not_eq_false', decide_eq_false_iff_not, Nat.not_lt, bne_eq_false_iff_eq] at hin
  obtain ⟨⟨hup, hlen⟩, htype⟩ := hin
  have hkey : m.slotAllows (m.rd R.BRACE_KEY % 64) [1] 0 2 = true := by
    by_contra hno
    rw [Mod.braceFrame, if_neg (by rw [hup, decide_eq_false (Nat.not_lt.mpr hlen), htype]; simp)] at h
    simp only [Mod.useKey, hno] at h
    cases h
  rw [Mod.braceFrame_eq hup hlen htype hkey] at h
  split at h
  · exact (congrArg Prod.fst h).symm
  · exact absurd (congrArg Prod.snd h) (by simp)

/-- What an accepted frame leaves: every register but the two counts, and of the Brace all but the last SEQ. -/
structure Accepts (m n : Mod) : Prop where
  rd : ∀ x, x ≠ R.KEN_OP_CNT → x ≠ R.BRACE_RX_CNT → n.rd x = m.rd x
  brace : n.brace = { m.brace with rxSeq := n.brace.rxSeq }
  leash : n.leash = m.leash
  shep : n.shep = m.shep
  mot : n.mot = m.mot

theorem Mod.braceFrame_keeps {type : Nat} {d : List Byte} {n : Mod} {f : BraceMsg} (h : m.braceFrame k type d = (n, some f)) : Accepts m n := by
  rw [Mod.braceFrame_accepts h]
  exact ⟨fun x h1 h2 => by rw [Mod.rd_brace, Mod.rd_inc, if_neg h2, Mod.rd_inc, if_neg h1], rfl, by simp, by simp, by simp⟩

/-- What sending a frame leaves (R481): every register but its counts and the Kennel's event of a refused key, and of the Brace all but the last SEQ sent. -/
structure Sends (m t : Mod) : Prop where
  rd : ∀ x, x ≠ R.KEN_OP_CNT → x ≠ R.BRACE_TX_CNT → x ≠ R.KEN_POLICY_FAIL_CNT → x ≠ R.KEN_EVT → x ≠ R.RING_IRQ_STAT → t.rd x = m.rd x
  brace : t.brace = { m.brace with txSeq := t.brace.txSeq }
  rings : t.ring.rings = m.ring.rings
  shep : t.shep = m.shep
  mot : t.mot = m.mot

/-- A frame sent with the key usable: counted, and on its way. -/
theorem Mod.braceSendAt_sends {tick type last : Nat} {body : List Byte} (hkey : m.slotAllows (m.rd R.BRACE_KEY % 64) [1] 0 2 = true) :
    ∃ d, m.braceSendAt k tick type last body = Mod.emit { ((m.inc R.KEN_OP_CNT).inc R.BRACE_TX_CNT) with
      brace := { m.brace with txSeq := (m.brace.txSeq + 1) % 4294967296 } } (.brace false type d) := by
  simp only [Mod.braceSendAt, Mod.tagBy, Mod.useKey, hkey, if_true]
  exact ⟨_, rfl⟩

theorem Mod.braceSendAt_keeps (m : Mod) (k : Clock) (tick type last : Nat) (body : List Byte) : Sends m (m.braceSendAt k tick type last body) := by
  by_cases hkey : m.slotAllows (m.rd R.BRACE_KEY % 64) [1] 0 2 = true
  · obtain ⟨d, h⟩ := Mod.braceSendAt_sends (k := k) (tick := tick) (type := type) (last := last) (body := body) hkey
    have hrd : ∀ x, (m.braceSendAt k tick type last body).rd x = ((m.inc R.KEN_OP_CNT).inc R.BRACE_TX_CNT).rd x := fun x => by rw [h]; rfl
    refine ⟨fun x h1 h2 _ _ _ => ?_, ?_, ?_, ?_, ?_⟩
    · rw [hrd, Mod.rd_inc, if_neg h2, Mod.rd_inc, if_neg h1]
    all_goals rw [h]; simp
  · have h : m.braceSendAt k tick type last body = m.policyFail := by
      simp only [Mod.braceSendAt, Mod.tagBy, Mod.useKey, hkey]
      rfl
    rw [h]
    refine ⟨fun x _ _ h1 h2 h3 => ?_, ?_, ?_, ?_, ?_⟩
    · rw [Mod.policyFail, Mod.kenEvt, Mod.rd_evt_ne _ _ _ _ _ h2 h3, Mod.rd_inc, if_neg h1]
    all_goals simp [Mod.policyFail, Mod.kenEvt]

theorem Mod.braceSend_keeps (m : Mod) (k : Clock) (type : Nat) (body : List Byte) : Sends m (m.braceSend k type body) := m.braceSendAt_keeps k _ _ _ _

/-- A trip leaves what the partner's signal said. -/
theorem Mod.tripWith_partner (m : Mod) (cause src : Nat) : (m.tripWith cause src).leash.partner = m.leash.partner := by
  simp only [Mod.tripWith]
  repeat' split
  all_goals simp

theorem Mod.trip_partner (m : Mod) (k : Clock) {cause : Nat} (hc : cause < 16) (src : Nat) : (m.trip k cause src).leash.partner = m.leash.partner := by
  by_cases h : m.lstate = 0 ∧ m.leash.tripAt = some k.raw
  · have heq : m.trip k cause src = m.tripWith cause src := by rw [Mod.trip]; exact if_pos h
    rw [heq, m.tripWith_partner]
  · obtain ⟨e, id, heq⟩ := m.trip_eq k cause src h
    obtain ⟨-, -, -, -, -, hleash⟩ := m.tripStat_spec hc
    obtain ⟨-, -, -, -, -, -, -, -, hleash'⟩ := (m.tripStat cause).tripTold_spec k
    generalize (m.tripStat cause).tripTold k = q at heq hleash'
    rw [heq, (LeashLeaves.tripFollows _ k cause src id).leash, ← hleash, ← hleash']

/-! ## Heartbeats -/

/-- What a key slot allows is in its status. -/
theorem Mod.slotAllows_congr {m n : Mod} {s : Nat} (h : n.rd (R.KEN_SLOT_STAT s) = m.rd (R.KEN_SLOT_STAT s)) (types : List Nat) (use user : Nat) :
    n.slotAllows s types use user = m.slotAllows s types use user := by
  have hfld : ∀ f : Fld, f.off = R.KEN_SLOT_STAT s → n.fld f = m.fld f := fun f hf => Mod.fld_congr (by rw [hf, h])
  simp only [Mod.slotAllows, Mod.slotState, Mod.on, hfld (F.KEN_SLOT_STAT_STATE s) rfl, hfld (F.KEN_SLOT_STAT_RETRY s) rfl,
    hfld (F.KEN_SLOT_STAT_TYPE s) rfl, hfld (F.KEN_SLOT_STAT_USE s) rfl, hfld (F.KEN_SLOT_STAT_USER s) rfl]

theorem aesCmac_length (key d : List Byte) : (Config.aesCmac key d).length = 16 := by
  simp [Config.aesCmac, Config.bytes]

/-- The unit's state of a heartbeat: the whole ms it is sent in, and its number (R463). -/
def Mod.beat (m : Mod) (ms : Nat) : Mod := { m with brace := { m.brace with hbMs := some ms, hbSeq := (m.brace.hbSeq + 1) % 256 } }

/-- What goes out over LVDS. -/
def Mod.beatLvds (m : Mod) : Mod :=
  let body := le 1 m.bverMax ++ le 1 m.hbState ++ le 1 m.brace.hbSeq ++ le 8 m.brace.stamp
  match m.tagBy (m.rd R.BRACE_KEY % 64) 2 4 body with
  | (m, none) => m
  | (m, some tag) => m.emit (.brace true 1 ([0xBC] ++ body ++ tag))

theorem Mod.heartbeatTx_eq (hup : m.braceUp = true) (hka : m.brace.kaDead = false) (hms : m.brace.hbMs ≠ some (Clock.fullNs k.now / 1000000)) :
    ∃ body, m.heartbeatTx k = (m.braceShow.beat (Clock.fullNs k.now / 1000000)).beatLvds.braceSend k 1 body := by
  rw [Mod.heartbeatTx, if_neg (by rw [hup, hka, beq_eq_false_iff_ne.mpr hms]; decide)]
  generalize m.braceShow = n
  revert n
  -- `id` keeps the generalised goal for the kernel, which would else evaluate what the unit shows
  refine id ?_
  intro n
  exact ⟨_, rfl⟩

theorem Mod.beatLvds_spec (hkey : m.slotAllows (m.rd R.BRACE_KEY % 64) [1] 0 2 = true) :
    ∃ a, a.length = 16 ∧ m.beatLvds = (m.inc R.KEN_OP_CNT).emit (.brace true 1 a) := by
  simp only [Mod.beatLvds, Mod.tagBy, Mod.useKey, hkey, if_true]
  exact ⟨_, by simp [aesCmac_length], rfl⟩

/-- The two heartbeats of a unit that shows its state: 16 bytes over LVDS, a frame over P1 (R463). -/
theorem Shows.beats {b : Mod} {ms : Nat} {body : List Byte} (hshow : Shows m b) (hno : b.out = [])
    (hkey : m.slotAllows (m.rd R.BRACE_KEY % 64) [1] 0 2 = true) :
    (∃ d e, ((b.beat ms).beatLvds.braceSend k 1 body).out = [.brace true 1 d, .brace false 1 e] ∧ d.length = 16)
      ∧ ((b.beat ms).beatLvds.braceSend k 1 body).brace.hbMs = some ms
      ∧ ((b.beat ms).beatLvds.braceSend k 1 body).brace.hbSeq = (m.brace.hbSeq + 1) % 256
      ∧ ((b.beat ms).beatLvds.braceSend k 1 body).rd R.BRACE_TX_CNT = (m.rd R.BRACE_TX_CNT + 1) % 4294967296 := by
  have hslot : ∀ x : Mod, (∀ a, a ≠ R.KEN_OP_CNT → x.rd a = b.rd a) → x.slotAllows (x.rd R.BRACE_KEY % 64) [1] 0 2 = true := fun x hx => by
    rw [hx R.BRACE_KEY (by decide), hshow.rd _ (by decide) (by decide), Mod.slotAllows_congr (m := m)]
    · exact hkey
    · rw [hx _ (by simp only [R.KEN_SLOT_STAT, R.KEN_OP_CNT]; omega),
        hshow.rd _ (by simp only [R.KEN_SLOT_STAT, R.BRACE_STAT]; omega) (by simp only [R.KEN_SLOT_STAT, R.LEASH_STAT]; omega)]
  have hnrd : ∀ x, (b.beat ms).rd x = b.rd x := fun _ => Mod.rd_brace _ _ _
  have hnb : (b.beat ms).brace.hbMs = some (ms)
      ∧ (b.beat ms).brace.hbSeq = (m.brace.hbSeq + 1) % 256 := ⟨rfl, by rw [Mod.beat, hshow.brace]⟩
  have hnout : (b.beat ms).out = [] := hno
  generalize b.beat ms = n at hnrd hnb hnout ⊢
  obtain ⟨d, hd, hlvds⟩ := Mod.beatLvds_spec (hslot n fun x _ => hnrd x)
  have hlrd : ∀ x, n.beatLvds.rd x = (n.inc R.KEN_OP_CNT).rd x := fun x => by rw [hlvds]; rfl
  have hlb : n.beatLvds.brace = n.brace := by rw [hlvds]; simp
  have hlo : n.beatLvds.out = [.brace true 1 d] := by rw [hlvds, Mod.emit, Mod.inc_out, hnout]; rfl
  generalize n.beatLvds = l at hlrd hlb hlo ⊢
  obtain ⟨e, hsent⟩ := Mod.braceSendAt_sends (m := l) (k := k) (tick := k.tick) (type := 1) (last := 1) (body := body)
    (hslot l fun x hx => by rw [hlrd, Mod.rd_inc, if_neg hx, hnrd])
  rw [Mod.braceSend, hsent]
  refine ⟨⟨d, e, ?_, hd⟩, ?_, ?_, ?_⟩
  · simp [Mod.emit, hlo]
  · exact (congrArg BraceSt.hbMs hlb).trans hnb.1
  · exact (congrArg BraceSt.hbSeq hlb).trans hnb.2
  · rw [show ∀ (q : Mod) (o : Out) a, (q.emit o).rd a = q.rd a from fun _ _ _ => rfl, Mod.rd_brace, Mod.rd_inc, if_pos rfl, Mod.rd_inc,
      if_neg (by decide), hlrd, Mod.rd_inc, if_neg (by decide), hnrd, hshow.rd _ (by decide) (by decide)]

/-- A heartbeat leaves on both paths, with the key usable (R463). -/
theorem Mod.heartbeatTx_spec (hup : m.braceUp = true) (hka : m.brace.kaDead = false) (hms : m.brace.hbMs ≠ some (Clock.fullNs k.now / 1000000))
    (hkey : m.slotAllows (m.rd R.BRACE_KEY % 64) [1] 0 2 = true) (hout : m.out = []) :
    (∃ a b, (m.heartbeatTx k).out = [.brace true 1 a, .brace false 1 b] ∧ a.length = 16)
      ∧ (m.heartbeatTx k).brace.hbMs = some (Clock.fullNs k.now / 1000000) ∧ (m.heartbeatTx k).brace.hbSeq = (m.brace.hbSeq + 1) % 256
      ∧ (m.heartbeatTx k).rd R.BRACE_TX_CNT = (m.rd R.BRACE_TX_CNT + 1) % 4294967296 := by
  obtain ⟨body, heq⟩ := Mod.heartbeatTx_eq (k := k) hup hka hms
  rw [heq]
  exact m.braceShow_spec.beats (m.braceShow_out.trans hout) hkey

/-- What judging the paths of a serving unit leaves: all of BRACE_STAT but SYNCED, COLD and what it shows, the events told, and the paths. -/
structure PathLeaves (m t : Mod) : Prop where
  fld : ∀ f, ShowLeaves f → (f.hi < 7 ∨ 7 < f.lo) → (f.hi < 11 ∨ 11 < f.lo) → t.fld f = m.fld f
  evt : ∀ i, m.bit R.BRACE_EVT i = true → t.bit R.BRACE_EVT i = true
  rd : ∀ x, x ≠ R.BRACE_STAT → x ≠ R.LEASH_STAT → x ≠ R.BRACE_EVT → x ≠ R.RING_IRQ_STAT → t.rd x = m.rd x
  lvds : t.brace.lvds = m.brace.lvds
  pwr : t.pwr = m.pwr

theorem PathLeaves.refl (m : Mod) : PathLeaves m m := ⟨fun _ _ _ _ => rfl, fun _ h => h, fun _ _ _ _ _ => rfl, rfl, rfl⟩

theorem PathLeaves.trans {m n t : Mod} (h : PathLeaves m n) (h' : PathLeaves n t) : PathLeaves m t :=
  ⟨fun f hf h1 h2 => (h'.fld f hf h1 h2).trans (h.fld f hf h1 h2), fun i hi => h'.evt i (h.evt i hi),
    fun x h1 h2 h3 h4 => (h'.rd x h1 h2 h3 h4).trans (h.rd x h1 h2 h3 h4), h'.lvds.trans h.lvds, h'.pwr.trans h.pwr⟩

theorem PathLeaves.ite {c : Prop} [Decidable c] {m a b : Mod} (ha : PathLeaves m a) (hb : PathLeaves m b) : PathLeaves m (if c then a else b) := by
  split
  · exact ha
  · exact hb

theorem PathLeaves.synced (m : Mod) (b : Bool) : PathLeaves m (m.setB F.BRACE_STAT_SYNCED b) :=
  ⟨fun _ hf h _ => Mod.fld_setB_ne _ _ _ (by decide) hf.2.1 (by simp only [F.BRACE_STAT_SYNCED]; omega),
    fun _ h => (Mod.bit_congr (Mod.rd_setB_ne _ _ _ (by decide))).trans h, fun _ h _ _ _ => Mod.rd_setB_ne _ _ _ h, by simp, by simp⟩

theorem PathLeaves.cold (m : Mod) (b : Bool) : PathLeaves m (m.setB F.BRACE_STAT_COLD b) :=
  ⟨fun _ hf _ h => Mod.fld_setB_ne _ _ _ (by decide) hf.2.1 (by simp only [F.BRACE_STAT_COLD]; omega),
    fun _ h => (Mod.bit_congr (Mod.rd_setB_ne _ _ _ (by decide))).trans h, fun _ h _ _ _ => Mod.rd_setB_ne _ _ _ h, by simp, by simp⟩

theorem PathLeaves.braceEvt (m : Mod) (b : Nat) : PathLeaves m (m.braceEvt b) :=
  ⟨fun _ hf _ _ => Mod.fld_congr (Mod.rd_braceEvt_ne _ _ (by rw [hf.1]; decide) (by rw [hf.1]; decide)),
    fun _ h => Mod.bit_evt_keeps _ _ _ _ _ (by decide) h, fun _ _ _ h h' => Mod.rd_braceEvt_ne _ _ h h', by rw [Mod.braceEvt_brace], Mod.evt_pwr ..⟩

theorem PathLeaves.braceShow (m : Mod) : PathLeaves m m.braceShow :=
  ⟨fun f hf _ _ => m.braceShow_spec.fld f hf, fun _ h => (Mod.bit_congr (m.braceShow_spec.rd _ (by decide) (by decide))).trans h,
    fun x h1 h2 _ _ => m.braceShow_spec.rd x h1 h2, by rw [m.braceShow_spec.brace], by simp [Mod.braceShow]⟩

theorem PathLeaves.syncLost {m : Mod} (h : m.role ≠ 2) : PathLeaves m (m.syncLost k) := by
  let n := if m.on F.BRACE_STAT_SYNCED || m.role == 2 then (m.setB F.BRACE_STAT_SYNCED false).braceEvt 6 else m
  have hn : PathLeaves m n := .ite ((PathLeaves.synced m false).trans (.braceEvt _ 6)) (.refl m)
  have hrole : n.role = m.role := hn.fld _ (by unfold ShowLeaves; decide) (by decide) (by decide)
  have heq : m.syncLost k = n := if_neg (by rw [hrole]; exact h)
  rw [heq]
  exact hn

theorem PathLeaves.coldShow {m : Mod} (h : m.role ≠ 2) : PathLeaves m (m.coldShow k) := by
  have hlost : PathLeaves m (if m.role = 1 then m else m.syncLost k) := .ite (.refl m) (.syncLost h)
  exact ((PathLeaves.ite (hlost.trans (.braceEvt _ 13)) (.refl m)).trans (.cold _ _)).trans (.braceShow _)

/-- A unit that does not stand by only shows what its paths have become. -/
theorem PathLeaves.pathsJudged {m : Mod} (hup : m.braceUp = true) (hst : m.standby = false) : PathLeaves m (m.pathsJudged k) := by
  have hrole : m.role ≠ 2 := fun h => by rw [Mod.standby, h] at hst; cases hst
  let n := if m.on F.BRACE_STAT_HB_P1 then m else if m.role = 1 then m.setB F.BRACE_STAT_SYNCED false
    else if m.heard && m.standby then m.syncLost k else m
  have hn : PathLeaves m n := .ite (.refl m) (.ite (.synced m false) (.ite (.syncLost hrole) (.refl m)))
  have hn2 : n.role ≠ 2 := fun h => hrole ((hn.fld F.BRACE_STAT_ROLE (by unfold ShowLeaves; decide) (by decide) (by decide)).symm.trans h)
  have ht := hn.trans (PathLeaves.coldShow (k := k) hn2)
  have hidle : (n.coldShow k).braceJudge k false = n.coldShow k := by
    have hrole' : (n.coldShow k).role = m.role := ht.fld _ (by unfold ShowLeaves; decide) (by decide) (by decide)
    have hup' : (n.coldShow k).braceUp = true := by
      rw [← hup, Mod.braceUp, Mod.braceUp, Mod.running, Mod.running, ht.pwr, Mod.on_congr (ht.rd _ (by decide) (by decide) (by decide) (by decide))]
    have hst' : (n.coldShow k).standby = false := by rw [Mod.standby, hrole']; exact hst
    rw [Mod.braceJudge, if_neg (by rw [hup']; decide), if_pos (by rw [hst']; rfl)]
  exact (show m.pathsJudged k = n.coldShow k from hidle) ▸ ht

/-- The LVDS path's last allowed miss: the path is lost, with its count and its event, and time is no longer aligned (R464, R465). -/
theorem Mod.pathMiss_lost (hon : m.on F.BRACE_STAT_HB_LVDS = true) (hmiss : m.brace.lvds.miss + 1 = m.hbMiss)
    (hlate : m.brace.lvds.at_ + msRaw (m.brace.lvds.miss + 1) < k.raw) :
    (m.pathMiss k true).on F.BRACE_STAT_HB_LVDS = false ∧ (m.pathMiss k true).bit R.BRACE_EVT 4 = true
      ∧ (m.pathMiss k true).on F.BRACE_STAT_TIME_ALIGNED = false
      ∧ (m.pathMiss k true).rd R.BRACE_HB_LOSS_LVDS_CNT = (m.rd R.BRACE_HB_LOSS_LVDS_CNT + 1) % 4294967296
      ∧ (m.pathMiss k true).brace.lvds.miss = m.hbMiss ∧ (m.pathMiss k true).role = m.role
      ∧ (m.pathMiss k true).braceUp = m.braceUp := by
  let n : Mod := { m with brace := { m.brace with lvds := { m.brace.lvds with miss := m.brace.lvds.miss + 1, good := 0 } } }
  have hgo : ¬ (!n.on F.BRACE_STAT_HB_LVDS || decide (m.brace.lvds.miss + 1 < n.hbMiss)) = true := by
    rw [show n.on F.BRACE_STAT_HB_LVDS = true from hon, decide_eq_false (show ¬ m.brace.lvds.miss + 1 < n.hbMiss from by
      rw [hmiss]; exact Nat.lt_irrefl _)]
    decide
  let o := (((n.setB F.BRACE_STAT_HB_LVDS false).inc R.BRACE_HB_LOSS_LVDS_CNT).braceEvt 4).setB F.BRACE_STAT_TIME_ALIGNED false
  have heq : ∃ t, m.pathMiss k true = { o with brace := { o.brace with alignedAt := none, ofs := [], dly := [] }, time := t } :=
    ⟨_, (if_neg (Nat.not_le.mpr hlate)).trans (if_neg hgo)⟩
  obtain ⟨t, heq⟩ := heq
  have hrd : ∀ x, (m.pathMiss k true).rd x = o.rd x := fun x => by rw [heq]; rfl
  have hfld : ∀ f : Fld, f.off = R.BRACE_STAT → f.hi ≤ 31 → (f.hi < 10 ∨ 10 < f.lo) →
      (m.pathMiss k true).fld f = (m.setB F.BRACE_STAT_HB_LVDS false).fld f := fun f hoff h31 hne => by
    rw [Mod.fld_congr (hrd _), Mod.fld_setB_ne _ _ _ (by decide) h31 (by simp only [F.BRACE_STAT_TIME_ALIGNED]; omega),
      Mod.fld_congr (Mod.rd_braceEvt_ne _ _ (by rw [hoff]; decide) (by rw [hoff]; decide)),
      Mod.fld_congr (n := n.setB F.BRACE_STAT_HB_LVDS false) (by rw [Mod.rd_inc, if_neg (by rw [hoff]; decide)])]
    rfl
  have hkeep : ∀ x, x ≠ R.BRACE_STAT → x ≠ R.BRACE_EVT → x ≠ R.RING_IRQ_STAT → x ≠ R.BRACE_HB_LOSS_LVDS_CNT → (m.pathMiss k true).rd x = m.rd x :=
    fun x h1 h2 h3 h4 => by
      rw [hrd, Mod.rd_setB_ne _ _ _ h1, Mod.rd_braceEvt_ne _ _ h2 h3, Mod.rd_inc, if_neg h4, Mod.rd_setB_ne _ _ _ h1, Mod.rd_brace]
  refine ⟨?_, ?_, ?_, ?_, ?_, ?_, ?_⟩
  · rw [Mod.on, hfld _ rfl (by decide) (by decide), ← Mod.on, Mod.on_setB _ _ _ (by decide) (by decide)]
  · rw [Mod.bit_congr (hrd _), Mod.bit_congr (Mod.rd_setB_ne _ _ _ (by decide))]
    exact Mod.bit_evt _ _ _ _ _ (by decide) (by decide)
  · rw [Mod.on_congr (hrd _), Mod.on_setB _ _ _ (by decide) (by decide)]
  · rw [hrd, Mod.rd_setB_ne _ _ _ (by decide), Mod.rd_braceEvt_ne _ _ (by decide) (by decide), Mod.rd_inc, if_pos rfl,
      Mod.rd_setB_ne _ _ _ (by decide), Mod.rd_brace]
  · have hb : o.brace = n.brace := by simp [o]
    rw [heq]
    exact (congrArg (fun b : BraceSt => b.lvds.miss) hb).trans hmiss
  · rw [Mod.role, hfld _ rfl (by decide) (by decide), Mod.fld_setB_ne _ _ _ (by decide) (by decide) (by decide)]
    rfl
  · have hp : (m.pathMiss k true).pwr = m.pwr := by rw [heq]; simp [o, n, Mod.braceEvt]
    rw [Mod.braceUp, Mod.braceUp, Mod.running, Mod.running, hp, Mod.on_congr (hkeep _ (by decide) (by decide) (by decide) (by decide))]

theorem Accepts.refl (m : Mod) : Accepts m m := ⟨fun _ _ _ => rfl, rfl, rfl, rfl, rfl⟩

/-- The partner's signal, for the first time, trips a unit that stands by (R426). -/
theorem Accepts.partnerTrips {n : Mod} (h : Accepts m n) (hfirst : m.leash.partner = false) :
    TripsTo m (Mod.leashSource { n with leash := { n.leash with partner := true } } k n.leash.partner 7) k 7
      ∧ (Mod.leashSource { n with leash := { n.leash with partner := true } } k n.leash.partner 7).leash.partner = true := by
  have heq : Mod.leashSource { n with leash := { n.leash with partner := true } } k n.leash.partner 7
      = Mod.trip { n with leash := { n.leash with partner := true } } k 7 := if_neg (by rw [h.leash, hfirst]; decide)
  have hrd : ∀ x, x ≠ R.KEN_OP_CNT → x ≠ R.BRACE_RX_CNT → Mod.rd { n with leash := { n.leash with partner := true } } x = m.rd x := h.rd
  rw [heq]
  refine ⟨(Mod.trip_spec { n with leash := { n.leash with partner := true } } k (by decide) _).1.of_marked ?_ ?_ ?_ ?_ ?_,
    Mod.trip_partner _ _ (by decide) _⟩
  · exact Mod.fld_congr (hrd _ (by decide) (by decide))
  · show n.leash.tripAt = _
    rw [h.leash]
  · exact hrd _ (by decide) (by decide)
  · exact hrd _ (by decide) (by decide)
  · exact Mod.fld_congr (hrd _ (by decide) (by decide))

/-- A standby whose partner is active heeds its signal. -/
theorem Accepts.heeds {n : Mod} {p : Partner} (h : Accepts m n) (hleash : m.leashUp = true) (hst : m.standby = true) (hpart : m.brace.partner = some p) :
    n.leashUp = true ∧ n.standby = true ∧ n.brace.partner = some p := by
  have hr : n.role = m.role := Mod.fld_congr (h.rd _ (by decide) (by decide))
  refine ⟨(Mod.bit_congr (h.rd _ (by decide) (by decide))).trans hleash, by rw [Mod.standby, hr]; exact hst, ?_⟩
  rw [h.brace]; exact hpart

/-- Settles O47: heartbeats leave, are taken up and are missed, and the partner's signal trips a standby. -/
theorem braceHeartbeats : Obligations.BraceHeartbeats := by
  refine ⟨fun s dt hup hka hms hkey => answers_of_ev rfl (Mod.heartbeatTx_spec (m := s.found) hup hka hms hkey rfl),
    fun s dt mac d m f hup hf => ?_, fun s dt mac d hup => ?_, fun s dt hup hon hmiss hlate hst => ?_, fun s dt d p hup hleash hst hpart hrole hfirst => ?_,
    fun s dt d p m f hf hleash hst hpart hrole hfirst => ?_⟩
  · refine does_of_ev rfl ((if_neg (by rw [show s.found.braceUp = true from hup]; decide)).trans ((if_neg (by decide)).trans ?_))
    simp only [Mod.hbP1, hf]
  · exact does_of_ev rfl ((if_neg (by rw [show s.found.braceUp = true from hup]; decide)).trans (if_pos rfl))
  · obtain ⟨hoff, hevt, htime, hcnt, hm, hrole, hup'⟩ := Mod.pathMiss_lost (m := s.found) (k := s.now dt) hon hmiss (by rw [s.now_raw]; exact hlate)
    have hst' : (s.found.pathMiss (s.now dt) true).standby = false := by rw [Mod.standby, hrole]; exact hst
    have hl := PathLeaves.pathsJudged (k := s.now dt) (hup'.trans hup) hst'
    refine answers_of_eq rfl (if_neg (by rw [show s.found.braceUp = true from hup]; decide)) ⟨?_, ?_, ?_, ?_, ?_⟩
    · exact (congrArg (· != 0) (hl.fld _ (by unfold ShowLeaves; decide) (by decide) (by decide))).trans hoff
    · exact hl.evt _ hevt
    · exact (congrArg (· != 0) (hl.fld _ (by unfold ShowLeaves; decide) (by decide) (by decide))).trans htime
    · exact (hl.rd _ (by decide) (by decide) (by decide) (by decide)).trans hcnt
    · exact (congrArg HbPath.miss hl.lvds).trans hm
  · obtain ⟨-, hst', hpart'⟩ := (Accepts.refl s.found).heeds hleash hst hpart
    refine answers_of_eq rfl ?_ ((Accepts.refl s.found).partnerTrips (k := s.now dt) hfirst)
    simp only [if_true, hpart', hrole, hst', show s.found.braceUp = true from hup, show s.found.leashUp = true from hleash]
    rfl
  · have hacc := Mod.braceFrame_keeps hf
    obtain ⟨hl', hst', hpart'⟩ := hacc.heeds hleash hst hpart
    refine answers_of_eq rfl ?_ (hacc.partnerTrips (k := s.now dt) hfirst)
    simp only [hf, Bool.false_eq_true, if_false, hpart', hrole, hst', hl', Option.isSome_some]
    rfl

end Sys2Proof.Machine
end

section
/-! SUPPORT. The Brace's handovers and its mirror (R471 to R485). -/

namespace Sys2Proof.Machine

variable {m : Mod} {k : Clock}

/-! ## Handovers -/

/-- A handover begun is named to the partner; the role stays and no result is due yet (R471). -/
theorem Mod.handoverStart_spec (m : Mod) (k : Clock) (b : Nat) (hdr : Option (Nat × Bool × Nat)) (cause : Nat) :
    (m.handoverStart k b hdr cause).brace.handover = some { b := b, giving := true, hdr := hdr, cause := cause, accepted := false, released := false }
      ∧ (m.handoverStart k b hdr cause).role = m.role ∧ ((m.handoverStart k b hdr cause).rng 1).queue = (m.rng 1).queue := by
  simp only [Mod.handoverStart]
  have hs := fun n => Mod.braceSend_keeps n k 0x40 (le 4 b)
  refine ⟨?_, ?_, ?_⟩
  · rw [(hs _).brace]
  · exact Mod.fld_congr ((hs _).rd _ (by decide) (by decide) (by decide) (by decide) (by decide))
  · rw [Mod.rng, (hs _).rings]
    rfl

/-- The line let go for a handover (R472). -/
def Mod.released (m : Mod) (o : Handover) : Mod := { m.holdOff with brace := { m.holdOff.brace with handover := some { o with released := true } } }

theorem Mod.released_spec (m : Mod) (o : Handover) :
    (m.released o).brace.handover = some { o with released := true } ∧ (m.released o).on F.BRACE_STAT_HOLD_OUT = false
      ∧ (m.released o).on F.BRACE_STAT_GATE_OPEN = false ∧ (m.released o).role = m.role := by
  obtain ⟨hout, hgate, -, -, hrole, -, -⟩ := m.holdOff_spec
  have hrd : ∀ x, (m.released o).rd x = m.holdOff.rd x := fun _ => Mod.rd_brace _ _ _
  exact ⟨by rw [Mod.released], (Mod.on_congr (hrd _)).trans hout, (Mod.on_congr (hrd _)).trans hgate, (Mod.fld_congr (hrd _)).trans hrole⟩

/-- A standby's acceptance of the boundary the partner names (R472). -/
theorem Sends.handover {m n : Mod} (h : Sends m n) : n.brace.handover = m.brace.handover := by rw [h.brace]

/-- Settles O48: handovers are named, released, dropped, accepted and returned where their conditions hold. -/
theorem braceHandovers : Obligations.BraceHandovers := by
  refine ⟨fun s dt atTick h hlive hrole hready hnone hat => ?_, fun s dt h hlive hst hmode => ?_, fun s dt o ho hgiv hacc hrel hb hsub hmir => ?_,
    fun s dt o ho hb hsub hgiv hrel => ?_, fun s dt since hsince hrole hret hpref hready hnone hdue => ?_, fun s dt d m f hf hrole helig hmis => ?_,
    fun s dt d m f o hf ho hgiv hacc hb hok => ?_⟩
  · have hready' : ¬ (!s.found.partnerReady || s.found.brace.handover.isSome) = true := by
      rw [show s.found.partnerReady = true from hready, show s.found.brace.handover = none from hnone]; decide
    have hsoon : ¬ (atTick ≠ 0 ∧ tickDiff atTick (s.now dt).tick < 10) := fun ⟨h0, h10⟩ => hat.elim h0 fun h => absurd h (by omega)
    obtain ⟨hh, hr, hq⟩ := s.found.handoverStart_spec (s.now dt) (if atTick = 0 then (s.now dt).sfAhead else atTick)
      (some (h.tag, h.noResult, (s.now dt).tick)) 3
    exact answers_of_eq rfl ((if_neg (by rw [show s.found.live? 6 = true from hlive]; decide)).trans ((if_neg (by decide)).trans
      ((if_neg (by rw [show s.found.role = 1 from hrole]; decide)).trans ((if_neg hready').trans (if_neg hsoon))))) ⟨hh, hr.trans hrole, hq⟩
  · refine does_of_ev rfl ((if_neg (by rw [show s.found.live? 6 = true from hlive]; decide)).trans ((if_neg (by decide)).trans (if_neg ?_)))
    rw [show s.found.standby = true from hst, show s.found.on F.BRACE_CTL_MODE = true from hmode]
    decide
  · have hlate : ¬ (s.now dt).subNs (s.now dt).raw < 9000000 := Nat.not_lt.mpr hsub
    have hgo : ¬ (!o.giving || !o.accepted || o.released || ((s.now dt).tick + 1) % 4294967296 != o.b
        || decide ((s.now dt).subNs (s.now dt).raw < 9000000)) = true := by
      rw [hgiv, hacc, hrel, hb, bne_self_eq_false, decide_eq_false hlate]; decide
    have hend : s.found.sendTickEnd (s.now dt) (s.now dt).tick = s.found :=
      if_pos (by rw [show s.found.mirrors = false from hmir]; rfl)
    refine answers_of_eq (m := s.found.released o) rfl ?_ (s.found.released_spec o)
    dsimp only
    rw [show s.found.brace.handover = some o from ho]
    refine (if_neg hgo).trans ?_
    rw [hend, Mod.released]
  · have hgo : ¬ (((s.now dt).tick + 1) % 4294967296 != o.b || decide ((s.now dt).subNs (s.now dt).raw < 9500000)) = true := by
      rw [hb, bne_self_eq_false, decide_eq_false (Nat.not_lt.mpr hsub)]; decide
    refine does_of_ev rfl ?_
    dsimp only
    rw [show s.found.brace.handover = some o from ho]
    refine (if_neg hgo).trans ((if_pos hgiv).trans ((if_neg (by rw [hrel]; decide)).trans ?_))
    rw [Mod.handoverDrop, show s.found.brace.handover = some o from ho]
    rfl
  · have hgo : (s.found.role == 1 && s.found.on F.BRACE_CTL_RETURN && !s.found.preferred && s.found.partnerReady && s.found.brace.handover.isNone
        && decide (since + secRaw s.found.returnHold ≤ (s.now dt).raw)) = true := by
      rw [show s.found.role = 1 from hrole, show s.found.on F.BRACE_CTL_RETURN = true from hret, show s.found.preferred = false from hpref,
        show s.found.partnerReady = true from hready, show s.found.brace.handover = none from hnone,
        decide_eq_true (show since + secRaw s.found.returnHold ≤ (s.now dt).raw from hdue)]
      decide
    obtain ⟨hh, hr, -⟩ := s.found.handoverStart_spec (s.now dt) (s.now dt).sfAhead none 4
    refine answers_of_eq (m := s.found.handoverStart (s.now dt) (s.now dt).sfAhead none 4) rfl ?_ ⟨hh, hr.trans hrole⟩
    rw [show s.found.brace.readySince = some since from hsince]
    exact if_pos hgo
  · have hok : (m.role == 2 && m.eligible && !m.brace.mismatch) = true := by rw [hrole, helig, hmis]; rfl
    refine answers_of_ev rfl ?_
    simp only [hf, hok, if_true]
    exact ⟨_, (Mod.braceSend_keeps _ _ _ _).handover.trans rfl, rfl, rfl, rfl⟩
  · have hacc' := Mod.braceFrame_keeps hf
    have hh : m.brace.handover = some o := by rw [hacc'.brace]; exact ho
    have hgo : ¬ (!o.giving || o.accepted || leAt f.body 0 4 != o.b) = true := by rw [hgiv, hacc, hb, bne_self_eq_false]; decide
    refine answers_of_eq (m := { m with brace := { m.brace with handover := some { o with accepted := true } } }) rfl ?_
      ⟨rfl, Mod.fld_congr (hacc'.rd _ (by decide) (by decide))⟩
    simp only [hf, hh]
    exact (if_neg hgo).trans (if_pos hok)

/-! ## The mirror -/

theorem Accepts.mirror {n : Mod} (h : Accepts m n) : n.brace.mirror = m.brace.mirror := by rw [h.brace]

/-- A delta's records are committed; what they mirror is not yet in force (R474, R475). -/
theorem Mod.deltaRx_spec {type part : Nat} {d : List Byte} {n : Mod} {f : BraceMsg} (hf : m.braceFrame k type d = (n, some f))
    (hst : n.standby = true) (hpair : n.paired = true) :
    (m.deltaRx k type part d).brace.mirror = (parseRecs (f.body.length / 8) f.body).foldl mirrorPut m.brace.mirror
      ∧ (m.deltaRx k type part d).shep = m.shep ∧ (m.deltaRx k type part d).mot = m.mot := by
  have hacc := Mod.braceFrame_keeps hf
  have heq : m.deltaRx k type part d
      = if f.last then (n.mirrorRecs f.body).braceSendAt k f.tick 0x12 1 (le 1 part ++ le 3 0) else n.mirrorRecs f.body := by
    simp only [Mod.deltaRx, hf]
    exact if_neg (by rw [hst, hpair]; decide)
  rw [heq]
  split
  · have hs := (n.mirrorRecs f.body).braceSendAt_keeps k f.tick 0x12 1 (le 1 part ++ le 3 0)
    refine ⟨?_, hs.shep.trans hacc.shep, hs.mot.trans hacc.mot⟩
    rw [hs.brace, ← hacc.mirror]
    rfl
  · refine ⟨?_, hacc.shep, hacc.mot⟩
    rw [← hacc.mirror]
    rfl

/-- What the end of a tick says of the active unit is kept (R475). -/
theorem Mod.tickEndRx_spec {d : List Byte} {n : Mod} {f : BraceMsg} (hf : m.braceFrame k 0x13 d = (n, some f))
    (hst : n.standby = true) (hpair : n.paired = true) :
    (m.tickEndRx k d).brace.auth = f.body.take 32 ∧ (m.tickEndRx k d).brace.leashState = leAt f.body 32 1
      ∧ (m.tickEndRx k d).brace.tripId = leAt f.body 34 2 := by
  simp only [Mod.tickEndRx, hf, hst, hpair, Bool.not_true, Bool.or_false, Bool.false_eq_true, if_false]
  split
  · exact ⟨rfl, rfl, rfl⟩
  · exact ⟨rfl, rfl, rfl⟩

/-- A full copy whose check agrees ends the synchronisation (R477). -/
theorem Mod.fullDoneRx_spec {d : List Byte} {n : Mod} {f : BraceMsg} (hf : m.braceFrame k 0x32 d = (n, some f))
    (hst : n.standby = true) (hpair : n.paired = true) (hsync : n.brace.syncing = true) (hcrc : mirrorCrc n.brace.mirror = leAt f.body 0 4) :
    (m.fullDoneRx k d).on F.BRACE_STAT_SYNCED = true ∧ (m.fullDoneRx k d).bit R.BRACE_EVT 7 = true ∧ (m.fullDoneRx k d).brace.syncing = false := by
  let o := (Mod.setB { n with brace := { n.brace with syncing := false } } F.BRACE_STAT_SYNCED true).braceEvt 7
  have ho : o.on F.BRACE_STAT_SYNCED = true ∧ o.bit R.BRACE_EVT 7 = true ∧ o.brace.syncing = false := by
    refine ⟨?_, Mod.bit_evt _ _ _ _ _ (by decide) (by decide), by simp [o]⟩
    exact (Mod.on_congr (Mod.rd_braceEvt_ne _ _ (by decide) (by decide))).trans (Mod.on_setB _ _ _ (by decide) (by decide))
  have heq : ∃ c, m.fullDoneRx k d = if c = true then o.setRole k 2 (o.fld F.BRACE_STAT_LAST_CAUSE) else o := by
    simp only [Mod.fullDoneRx, hf]
    exact ⟨_, (if_neg (by rw [hst, hpair, hsync]; decide)).trans (if_neg (not_not.mpr hcrc))⟩
  obtain ⟨c, heq⟩ := heq
  obtain ⟨hs, he, hb⟩ := ho
  rw [heq]
  generalize o = q at hs he hb ⊢
  split
  · have hr := q.setRole_spec k (role := 2) (by decide) (q.fld F.BRACE_STAT_LAST_CAUSE)
    exact ⟨by rw [Mod.on, hr.fld _ (by unfold ShowLeaves; decide) (by decide) (by decide)]; exact hs, hr.evt _ he, by rw [hr.brace]; exact hb⟩
  · exact ⟨hs, he, hb⟩

/-- An acknowledgement of the tick held is entered (R474). -/
theorem Mod.ackRx_spec {d : List Byte} {n : Mod} {f : BraceMsg} (hf : m.braceFrame k 0x12 d = (n, some f))
    (hrole : n.role = 1) (hack : m.brace.ackTick = some k.tickNo) (htick : f.tick = k.tick) :
    (m.ackRx k d).brace.acks = m.brace.acks ||| (leAt f.body 0 1 % 4) := by
  have hacc := Mod.braceFrame_keeps hf
  have hack' : n.brace.ackTick = some k.tickNo := by rw [hacc.brace]; exact hack
  have hacks : n.brace.acks = m.brace.acks := by rw [hacc.brace]
  simp only [Mod.ackRx, hf, hrole, hack', htick, ne_eq, not_true_eq_false, or_self, if_false, ← hacks]
  split
  · simp
  · rfl

/-- Settles O49: what the mirror's frames bring is committed, and a missing acknowledgement ends synchronisation. -/
theorem braceMirror : Obligations.BraceMirror := by
  refine ⟨fun s dt d m f hst hpair => ⟨fun hf => ?_, fun hf => ?_, fun hf => ?_, fun hf => does_of_ev rfl rfl, fun hf => ?_, fun hf hsync hcrc => ?_⟩,
    fun s dt d m f hf hrole hpair => ?_, fun s dt d m f hf hrole hack htick => ?_, fun s dt hheld hsub => ?_, fun s dt d m f hf hst => ?_⟩
  · exact answers_of_ev rfl (Mod.deltaRx_spec hf hst hpair)
  · exact answers_of_ev rfl (Mod.deltaRx_spec hf hst hpair)
  · exact answers_of_ev rfl (Mod.tickEndRx_spec hf hst hpair)
  · have hacc := Mod.braceFrame_keeps hf
    refine answers_of_eq (m := m.mirrorRecs f.body) rfl ?_ ⟨?_, rfl⟩
    · simp only [hf]
      exact if_pos (by rw [hst, hpair]; rfl)
    · exact congrArg (fun l => (parseRecs (f.body.length / 8) f.body).foldl mirrorPut l) hacc.mirror
  · exact answers_of_ev rfl (Mod.fullDoneRx_spec hf hst hpair hsync hcrc)
  · refine does_of_ev rfl ?_
    simp only [hf]
    exact if_pos (by rw [hrole, hpair]; rfl)
  · exact answers_of_ev rfl (Mod.ackRx_spec hf hrole hack htick)
  · refine answers_of_eq rfl (if_pos (by rw [show s.found.ackHeld (s.now dt) = true from hheld, decide_eq_true hsub]; rfl)) ⟨?_, ?_, ?_⟩
    · refine (Mod.on_congr (Mod.rd_braceEvt_ne _ _ (by decide) (by decide))).trans ((Mod.on_congr ?_).trans
        (Mod.on_setB s.found F.BRACE_STAT_SYNCED false (by decide) (by decide)))
      rw [Mod.rd_inc, if_neg (by decide)]
    · exact Mod.bit_evt _ _ _ _ _ (by decide) (by decide)
    · refine (Mod.rd_braceEvt_ne _ _ (by decide) (by decide)).trans ?_
      rw [Mod.rd_inc, if_pos rfl, Mod.rd_setB_ne _ _ _ (by decide)]
      rfl
  · refine answers_of_ev rfl ?_
    simp only [hf, hst, Bool.not_true, Bool.false_eq_true, if_false]
    exact ⟨rfl, rfl⟩

end Sys2Proof.Machine
end

section
/-! SUPPORT. The Kennel's slots: what installs and empties them (R497, R502, R508), and what leaves them. -/

namespace Sys2Proof.Machine

variable {m : Mod} {k : Clock}

theorem Mod.rd_ken (m : Mod) (x : KenSt) (a : Nat) : ({ m with ken := x } : Mod).rd a = m.rd a := (rfl)

/-- A field of KEN_STAT that only a change of the Kennel's state writes: not BUSY, LOADED or what its slots make ready. -/
def KenFixed (f : Fld) : Prop := f.off = R.KEN_STAT ∧ f.hi ≤ 31 ∧ (f.hi < 8 ∨ 10 < f.lo) ∧ (f.hi < 16 ∨ 23 < f.lo)

/-- What showing, answering and recording leave of the Kennel: its slots, its state, its tamper registers and the events told. -/
structure KenKeeps (m t : Mod) : Prop where
  slot : ∀ x, x < 64 → t.rd (R.KEN_SLOT_STAT x) = m.rd (R.KEN_SLOT_STAT x)
  stat : ∀ f, KenFixed f → t.fld f = m.fld f
  evt : ∀ i, m.bit R.KEN_EVT i = true → t.bit R.KEN_EVT i = true
  tamper : ∀ x, R.KEN_TAMPER_CTL ≤ x → x ≤ R.KEN_TAMPER_CNT → t.rd x = m.rd x
  ken : t.ken = m.ken

theorem KenKeeps.refl (m : Mod) : KenKeeps m m := ⟨fun _ _ => rfl, fun _ _ => rfl, fun _ h => h, fun _ _ _ => rfl, rfl⟩

theorem KenKeeps.trans {m n t : Mod} (h : KenKeeps m n) (h' : KenKeeps n t) : KenKeeps m t :=
  ⟨fun x hx => (h'.slot x hx).trans (h.slot x hx), fun f hf => (h'.stat f hf).trans (h.stat f hf), fun i hi => h'.evt i (h.evt i hi),
    fun x h1 h2 => (h'.tamper x h1 h2).trans (h.tamper x h1 h2), h'.ken.trans h.ken⟩

/-- What changes no register of the Kennel's own keeps it. -/
theorem KenKeeps.of_rd {m t : Mod} (hrd : ∀ x, R.KEN_STAT ≤ x → x ≤ R.KEN_TAMPER_CNT → t.rd x = m.rd x)
    (hslot : ∀ x, x < 64 → t.rd (R.KEN_SLOT_STAT x) = m.rd (R.KEN_SLOT_STAT x)) (hken : t.ken = m.ken) : KenKeeps m t :=
  ⟨hslot, fun f hf => Mod.fld_congr (hrd _ (by rw [hf.1]) (by rw [hf.1]; decide)),
    fun i hi => (Mod.bit_congr (hrd R.KEN_EVT (by decide) (by decide))).trans hi,
    fun x h1 h2 => hrd x (Nat.le_trans (by decide) h1) h2, hken⟩

/-- What writes KEN_STAT alone, and of it only what the slots and commands show, keeps the Kennel. -/
theorem KenKeeps.of_stat {m t : Mod} (hrd : ∀ x, x ≠ R.KEN_STAT → t.rd x = m.rd x) (hstat : ∀ f, KenFixed f → t.fld f = m.fld f)
    (hken : t.ken = m.ken) : KenKeeps m t :=
  ⟨fun x hx => hrd _ (by simp only [R.KEN_SLOT_STAT, R.KEN_STAT]; omega), hstat, fun i hi => (Mod.bit_congr (hrd _ (by decide))).trans hi,
    fun x h1 _ => hrd x (by simp only [R.KEN_TAMPER_CTL, R.KEN_STAT] at h1 ⊢; omega), hken⟩

theorem KenKeeps.kenBusy (m : Mod) : KenKeeps m m.kenBusy :=
  .of_stat (fun _ h => Mod.rd_setB_ne _ _ _ h)
    (fun _ ⟨_, h31, h1, _⟩ => Mod.fld_setB_ne _ _ _ (by decide) h31 (by simp only [F.KEN_STAT_BUSY]; omega)) (by simp [Mod.kenBusy])

theorem KenKeeps.kenShow (m : Mod) : KenKeeps m m.kenShow := by
  simp only [Mod.kenShow]
  refine .of_stat (fun x h => ?_) (fun f ⟨_, h31, h1, h2⟩ => ?_) (by simp)
  · rw [Mod.rd_setB_ne _ _ _ h, Mod.rd_setB_ne _ _ _ h, Mod.rd_setF_ne _ _ _ h]
  · rw [Mod.fld_setB_ne _ _ _ (by decide) h31 (by simp only [F.KEN_STAT_BRACE_READY]; omega),
      Mod.fld_setB_ne _ _ _ (by decide) h31 (by simp only [F.KEN_STAT_VAL_READY]; omega),
      Mod.fld_setF_ne _ _ _ (by decide) h31 (by simp only [F.KEN_STAT_LOADED]; omega)]

theorem KenKeeps.kenOp (m : Mod) : KenKeeps m m.kenOp :=
  .of_rd (fun x _ h => by rw [Mod.kenOp, Mod.rd_inc, if_neg (by simp only [R.KEN_TAMPER_CNT, R.KEN_OP_CNT] at h ⊢; omega)])
    (fun x hx => by rw [Mod.kenOp, Mod.rd_inc, if_neg (by simp only [R.KEN_SLOT_STAT, R.KEN_OP_CNT]; omega)]) (by simp [Mod.kenOp])

theorem KenKeeps.kenEvt (m : Mod) (b : Nat) : KenKeeps m (m.kenEvt b) where
  slot x hx := Mod.rd_evt_ne _ _ _ _ _ (by simp only [R.KEN_SLOT_STAT, R.KEN_EVT]; omega) (by simp only [R.KEN_SLOT_STAT, R.RING_IRQ_STAT]; omega)
  stat f hf := Mod.fld_evt_ne _ _ _ _ _ (by rw [hf.1]; decide) (by rw [hf.1]; decide)
  evt i hi := Mod.bit_evt_keeps _ _ _ _ _ (by decide) hi
  tamper x h1 _ := Mod.rd_evt_ne _ _ _ _ _ (by simp only [R.KEN_TAMPER_CTL, R.KEN_EVT] at h1 ⊢; omega)
    (by simp only [R.KEN_TAMPER_CTL, R.RING_IRQ_STAT] at h1 ⊢; omega)
  ken := Mod.evt_ken ..

theorem KenKeeps.recTrig (m : Mod) (k : Clock) (t : Nat) (p : List Byte) : KenKeeps m (m.recTrig k t p) :=
  .of_rd (fun x h1 h2 => Mod.rd_recTrig_ne _ _ _ _ (by simp only [R.KEN_STAT, R.KEN_TAMPER_CNT, R.REC_DROP_CNT] at h1 h2 ⊢; omega)
      (by simp only [R.KEN_STAT, R.KEN_TAMPER_CNT, R.REC_EVT] at h1 h2 ⊢; omega) (by simp only [R.KEN_STAT, R.KEN_TAMPER_CNT, R.RING_IRQ_STAT] at h1 h2 ⊢; omega))
    (fun x hx => Mod.rd_recTrig_ne _ _ _ _ (by simp only [R.KEN_SLOT_STAT, R.REC_DROP_CNT]; omega)
      (by simp only [R.KEN_SLOT_STAT, R.REC_EVT]; omega) (by simp only [R.KEN_SLOT_STAT, R.RING_IRQ_STAT]; omega)) (Mod.recTrig_ken ..)

theorem KenKeeps.kenStateEvt (m : Mod) (k : Clock) (b : Nat) : KenKeeps m (m.kenStateEvt k b) := (KenKeeps.kenEvt m b).trans (.recTrig ..)

theorem Mod.bit_kenStateEvt (m : Mod) (k : Clock) {b : Nat} (hb : b < 32) : (m.kenStateEvt k b).bit R.KEN_EVT b = true :=
  (KenKeeps.recTrig (m.kenEvt b) k _ _).evt b (Mod.bit_evt _ _ _ _ _ hb (by decide))

theorem KenKeeps.enqueue (m : Mod) (k : Clock) (data : List Byte) : KenKeeps m (m.enqueue k 1 2 data) :=
  .of_rd (fun x h1 _ => Mod.rd_enqueue_ne _ _ _ _ _ (by simp only [R.KEN_STAT, R.RING_DROP_CNT] at h1 ⊢; omega)
      (by simp only [R.KEN_STAT, R.RING_STAT] at h1 ⊢; omega) (by simp only [R.KEN_STAT, R.RING_IRQ_STAT] at h1 ⊢; omega))
    (fun x _ => Mod.rd_enqueue_ne _ _ _ _ _ (by simp only [R.KEN_SLOT_STAT, R.RING_DROP_CNT]; omega)
      (by simp only [R.KEN_SLOT_STAT, R.RING_STAT]; omega) (by simp only [R.KEN_SLOT_STAT, R.RING_IRQ_STAT]; omega)) (by simp)

theorem KenKeeps.result (m : Mod) (k : Clock) (block opcode code tag : Nat) (nr : Bool) (accept : Nat) (p : List Byte) :
    KenKeeps m (m.result k block opcode code tag nr accept p) := by
  have hring : ∀ r, KenKeeps m { m with ring := r } := fun _ => ⟨fun _ _ => rfl, fun _ _ => rfl, fun _ h => h, fun _ _ _ => rfl, rfl⟩
  have hbusy : ∀ r : RingBlk, KenKeeps m (if block = 7 then Mod.kenBusy { m with ring := r } else { m with ring := r }) := fun r => by
    split
    · exact (hring r).trans (.kenBusy _)
    · exact hring r
  rw [Mod.result]
  split
  · exact hbusy _
  · exact (hbusy _).trans (.enqueue _ _ _)

theorem KenKeeps.reply (m : Mod) (k : Clock) (block opcode code : Nat) (h : Hdr) (p : List Byte) : KenKeeps m (m.reply k block opcode code h p) :=
  .result ..

/-! ## Slots -/

theorem KenKeeps.slotState {m t : Mod} (h : KenKeeps m t) {x : Nat} (hx : x < 64) : t.slotState x = m.slotState x := Mod.fld_congr (h.slot x hx)

theorem KenKeeps.kenState {m t : Mod} (h : KenKeeps m t) : t.kenState = m.kenState := h.stat _ (by unfold KenFixed; decide)

/-- A key in a slot. -/
def Mod.putKey (m : Mod) (s : Nat) (e : KeySlot) : Mod := { m with ken := { m.ken with slot := AMap.ins s e m.ken.slot } }

/-- A slot's register and its key are written together; what is shown of the slots follows (R502). -/
theorem KenKeeps.slotInstall (m : Mod) (s type use user bind parent source : Nat) (key : List Byte) (src : KeySrc) :
    KenKeeps ((m.wr (R.KEN_SLOT_STAT s) (slotWord type use user bind parent source)).putKey s { key := key, src := src })
      (m.slotInstall s type use user bind parent source key src) := by
  rw [Mod.slotInstall]
  exact .kenShow _

theorem KenKeeps.slotEmpty (m : Mod) (s : Nat) :
    KenKeeps { (m.wr (R.KEN_SLOT_STAT s) 0) with ken := { m.ken with slot := AMap.del s m.ken.slot } } (m.slotEmpty s) := .kenShow _

theorem slotStat_ne {x y : Nat} (h : x ≠ y) : R.KEN_SLOT_STAT x ≠ R.KEN_SLOT_STAT y := by
  simp only [R.KEN_SLOT_STAT]; omega

/-- An emptied slot reads 0 and holds no key; the others are as they were. -/
theorem Mod.slotEmpty_spec (m : Mod) (s : Nat) {x : Nat} (hx : x < 64) :
    (m.slotEmpty s).slotState x = (if x = s then 0 else m.slotState x)
      ∧ AMap.find (m.slotEmpty s).ken.slot x = if x = s then none else AMap.find m.ken.slot x := by
  have hk := KenKeeps.slotEmpty m s
  refine ⟨?_, ?_⟩
  · rw [hk.slotState hx]
    split
    · subst x
      have hrd : Mod.rd { (m.wr (R.KEN_SLOT_STAT s) 0) with ken := { m.ken with slot := AMap.del s m.ken.slot } } (R.KEN_SLOT_STAT s) = 0 :=
        Mod.rd_wr_same _ _ _
      simp only [Mod.slotState, Mod.fld, F.KEN_SLOT_STAT_STATE, hrd]
      decide
    · rename_i h
      exact Mod.fld_congr ((Mod.rd_ken _ _ _).trans (Mod.rd_wr_ne _ _ _ (slotStat_ne h)))
  · rw [hk.ken]
    exact AMap.find_del s m.ken.slot x

/-- Slots emptied one after another. -/
theorem Mod.slotsEmpty_spec (m : Mod) (l : List Nat) {x : Nat} (hx : x < 64) :
    (m.each l fun m s => m.slotEmpty s).slotState x = (if x ∈ l then 0 else m.slotState x)
      ∧ AMap.find (m.each l fun m s => m.slotEmpty s).ken.slot x = if x ∈ l then none else AMap.find m.ken.slot x := by
  induction l generalizing m with
  | nil => exact ⟨rfl, rfl⟩
  | cons s t ih =>
    obtain ⟨hst, hkey⟩ := m.slotEmpty_spec s hx
    obtain ⟨hst', hkey'⟩ := ih (m.slotEmpty s)
    rw [Mod.each_cons, hst', hkey', hst, hkey]
    by_cases ht : x ∈ t
    · simp [ht]
    · by_cases hs : x = s
      · simp [hs]
      · simp [ht, hs]

/-- What installing and emptying slots leaves: the Kennel's state, its tamper registers, the events told, and of its own state all but the slots. -/
structure SlotsOnly (m t : Mod) : Prop where
  stat : ∀ f, KenFixed f → t.fld f = m.fld f
  evt : ∀ i, m.bit R.KEN_EVT i = true → t.bit R.KEN_EVT i = true
  tamper : ∀ x, R.KEN_TAMPER_CTL ≤ x → x ≤ R.KEN_TAMPER_CNT → t.rd x = m.rd x
  ken : t.ken = { m.ken with slot := t.ken.slot }

theorem KenKeeps.slotsOnly {m t : Mod} (h : KenKeeps m t) : SlotsOnly m t := ⟨h.stat, h.evt, h.tamper, by rw [h.ken]⟩

theorem SlotsOnly.trans {m n t : Mod} (h : SlotsOnly m n) (h' : SlotsOnly n t) : SlotsOnly m t :=
  ⟨fun f hf => (h'.stat f hf).trans (h.stat f hf), fun i hi => h'.evt i (h.evt i hi),
    fun x h1 h2 => (h'.tamper x h1 h2).trans (h.tamper x h1 h2), by rw [h'.ken, h.ken]⟩

theorem SlotsOnly.wr (m : Mod) (s w : Nat) : SlotsOnly m (m.wr (R.KEN_SLOT_STAT s) w) where
  stat f hf := Mod.fld_congr (Mod.rd_wr_ne _ _ _ (by rw [hf.1]; simp only [R.KEN_SLOT_STAT, R.KEN_STAT]; omega))
  evt i hi := (Mod.bit_congr (Mod.rd_wr_ne _ _ _ (by simp only [R.KEN_SLOT_STAT, R.KEN_EVT]; omega))).trans hi
  tamper x h1 h2 := Mod.rd_wr_ne _ _ _ (by simp only [R.KEN_SLOT_STAT, R.KEN_TAMPER_CNT] at h2 ⊢; omega)
  ken := by simp

theorem SlotsOnly.slot (m : Mod) (l : AMap KeySlot) : SlotsOnly m { m with ken := { m.ken with slot := l } } :=
  ⟨fun _ _ => rfl, fun _ h => h, fun _ _ _ => rfl, rfl⟩

theorem SlotsOnly.slotInstall (m : Mod) (s type use user bind parent source : Nat) (key : List Byte) (src : KeySrc) :
    SlotsOnly m (m.slotInstall s type use user bind parent source key src) :=
  ((SlotsOnly.wr m s _).trans (.slot _ _)).trans (KenKeeps.slotInstall ..).slotsOnly

theorem SlotsOnly.slotEmpty (m : Mod) (s : Nat) : SlotsOnly m (m.slotEmpty s) := by
  rw [Mod.slotEmpty]
  exact ((SlotsOnly.wr m s 0).trans (.slot _ _)).trans (KenKeeps.kenShow _).slotsOnly

theorem SlotsOnly.slotsEmpty (m : Mod) (l : List Nat) : SlotsOnly m (m.each l fun m s => m.slotEmpty s) :=
  Mod.each_induct (P := SlotsOnly m) m (KenKeeps.refl m).slotsOnly fun n s _ h => h.trans (.slotEmpty n s)

/-- The fields of a slot's word (R502). -/
theorem slotWord_fields (type use user bind parent source : Nat) :
    bitsOf (slotWord type use user bind parent source % 4294967296) 1 0 = 1
      ∧ bitsOf (slotWord type use user bind parent source % 4294967296) 7 4 = type % 16
      ∧ bitsOf (slotWord type use user bind parent source % 4294967296) 29 24 = parent % 64 := by
  have h1 : type % 16 < 16 := Nat.mod_lt _ (by decide)
  have h2 : use % 128 < 128 := Nat.mod_lt _ (by decide)
  have h3 : user % 32 < 32 := Nat.mod_lt _ (by decide)
  have h4 : bind % 4 < 4 := Nat.mod_lt _ (by decide)
  have h5 : parent % 64 < 64 := Nat.mod_lt _ (by decide)
  have h6 : source % 4 < 4 := Nat.mod_lt _ (by decide)
  simp only [slotWord, bitsOf]
  generalize type % 16 = a at h1 ⊢
  generalize use % 128 = b at h2 ⊢
  generalize user % 32 = c at h3 ⊢
  generalize bind % 4 = d at h4 ⊢
  generalize parent % 64 = e at h5 ⊢
  generalize source % 4 = f at h6 ⊢
  refine ⟨?_, ?_, ?_⟩ <;> omega

/-- An installed slot is LOADED with its key, its type and its parent; the others are as they were. -/
theorem Mod.slotInstall_spec (m : Mod) (s type use user bind parent source : Nat) (key : List Byte) (src : KeySrc) {x : Nat} (hx : x < 64) :
    (m.slotInstall s type use user bind parent source key src).slotState x = (if x = s then 1 else m.slotState x)
      ∧ AMap.find (m.slotInstall s type use user bind parent source key src).ken.slot x
        = (if x = s then some { key := key, src := src } else AMap.find m.ken.slot x)
      ∧ (x = s → (m.slotInstall s type use user bind parent source key src).fld (F.KEN_SLOT_STAT_TYPE x) = type % 16
        ∧ (m.slotInstall s type use user bind parent source key src).slotParent x = parent % 64) := by
  have hk := KenKeeps.slotInstall m s type use user bind parent source key src
  obtain ⟨hstate, htype, hparent⟩ := slotWord_fields type use user bind parent source
  generalize slotWord type use user bind parent source = w at hk hstate htype hparent
  have hrd := (hk.slot x hx).trans (Mod.rd_ken _ _ _)
  have hself : x = s → (m.slotInstall s type use user bind parent source key src).rd (R.KEN_SLOT_STAT x) = w % 4294967296 := fun h => by
    rw [hrd, h, Mod.rd_wr_same]
  refine ⟨?_, ?_, fun h => ⟨?_, ?_⟩⟩
  · split
    · rename_i h
      exact (congrArg (fun v => bitsOf v 1 0) (hself h)).trans hstate
    · rename_i h
      exact Mod.fld_congr (hrd.trans (Mod.rd_wr_ne _ _ _ (slotStat_ne h)))
  · rw [hk.ken]
    exact (AMap.find_ins s _ _ x).trans (by rw [Mod.wr_ken])
  · exact (congrArg (fun v => bitsOf v 7 4) (hself h)).trans htype
  · exact (congrArg (fun v => bitsOf v 29 24) (hself h)).trans hparent

end Sys2Proof.Machine
end

section
/-! SUPPORT. The Kennel's commands (R494 to R522). -/

namespace Sys2Proof.Machine

variable {m : Mod} {k : Clock}

/-! ## Sealing and lengths -/

/-- Text under the key stream twice is the text again. -/
theorem gcmText_twice (key iv text : List Byte) : Config.gcmText key iv (Config.gcmText key iv text) = text := by
  apply List.ext_getElem
  · simp [Config.gcmText]
  · intro i h1 h2
    simp [Config.gcmText]

theorem gcmText_length (key iv text : List Byte) : (Config.gcmText key iv text).length = text.length := by
  simp [Config.gcmText]

/-- A blob opens under the key, IV and data it was sealed with (R504, R506). -/
theorem aesGcmOpen_seal (key iv aad text : List Byte) :
    Config.aesGcmOpen key iv aad (Config.aesGcmSeal key iv aad text).1 (Config.aesGcmSeal key iv aad text).2 = some text := by
  simp only [Config.aesGcmOpen, Config.aesGcmSeal, if_true, gcmText_twice]

theorem be_length (n v : Nat) : (be n v).length = n := by simp [be]

theorem serial16_length : serial16.length = 16 := by
  simp [serial16, upto, be_length]

theorem kcv_length (key : List Byte) : (kcv key).length = 8 := by
  simp [kcv, kdf, Config.hmacSha384, Config.bytes]

/-! ## What an answer puts out -/

/-- The module has put out more, behind what it had. -/
def OutGrows (m t : Mod) : Prop := ∃ l, t.out = m.out ++ l

theorem OutGrows.of_eq {m t : Mod} (h : t.out = m.out) : OutGrows m t := ⟨[], by rw [h, List.append_nil]⟩

theorem OutGrows.trans {m n t : Mod} (h : OutGrows m n) (h' : OutGrows n t) : OutGrows m t := by
  obtain ⟨l, hl⟩ := h
  obtain ⟨l', hl'⟩ := h'
  exact ⟨l ++ l', by rw [hl', hl, List.append_assoc]⟩

theorem OutGrows.sendMsg (m : Mod) (src : Nat) : OutGrows m (m.sendMsg src) := by
  simp only [Mod.sendMsg]
  split
  · exact .of_eq rfl
  · exact ⟨_, rfl⟩

theorem OutGrows.ringSticky (m : Mod) (n b : Nat) : OutGrows m (m.ringSticky n b) := by
  simp only [Mod.ringSticky, Mod.raise]
  split
  · exact .of_eq rfl
  · split
    · exact (OutGrows.of_eq (by simp)).trans (.sendMsg _ _)
    · exact .of_eq (by simp)

theorem OutGrows.ringDrop (m : Mod) (n : Nat) : OutGrows m (m.ringDrop n) := by
  rw [Mod.ringDrop]
  exact (OutGrows.of_eq (by simp)).trans (.ringSticky _ _ _)

theorem OutGrows.enqueue (m : Mod) (k : Clock) (n kind : Nat) (data : List Byte) : OutGrows m (m.enqueue k n kind data) := by
  unfold Mod.enqueue
  dsimp only
  split
  · exact .of_eq (by simp)
  split
  · exact .of_eq rfl
  split
  · exact (OutGrows.of_eq rfl).trans (.ringDrop _ _)
  · exact .ringDrop _ _

theorem OutGrows.reply (m : Mod) (k : Clock) (block opcode code : Nat) (h : Hdr) (p : List Byte) : OutGrows m (m.reply k block opcode code h p) := by
  have hbusy : ∀ r : RingBlk, OutGrows m (if block = 7 then Mod.kenBusy { m with ring := r } else { m with ring := r }) := fun r => by
    split
    · exact .of_eq (by simp [Mod.kenBusy])
    · exact .of_eq rfl
  rw [Mod.reply, Mod.result]
  split
  · exact hbusy _
  · exact (hbusy _).trans (.enqueue ..)

/-! ## Erasure -/

theorem Mod.mem_family (m : Mod) : ∀ (n : Nat) (l : List Nat) {x : Nat}, x ∈ l → x ∈ m.family n l
  | 0, _, _, h => h
  | n + 1, l, x, h => by
    rw [Mod.family]
    split
    · exact h
    · exact Mod.mem_family m n _ (List.mem_append_left _ h)

/-- Slots made ORPHAN read so. -/
theorem Mod.orphaned (m : Mod) {l : List Nat} {x : Nat} (h : x ∈ l) :
    (m.each l fun m s => m.setF (F.KEN_SLOT_STAT_STATE s) 2).slotState x = 2 := by
  have hself : ∀ n : Mod, (n.setF (F.KEN_SLOT_STAT_STATE x) 2).slotState x = 2 := fun n =>
    Mod.fld_setF n (F.KEN_SLOT_STAT_STATE x) 2 (by simp [F.KEN_SLOT_STAT_STATE]) (by simp [F.KEN_SLOT_STAT_STATE])
  have hkeep : ∀ (n : Mod) y, n.slotState x = 2 → (n.setF (F.KEN_SLOT_STAT_STATE y) 2).slotState x = 2 := fun n y hn => by
    by_cases hy : y = x
    · rw [hy]; exact hself n
    · exact (Mod.fld_congr (Mod.rd_setF_ne _ _ _ (slotStat_ne (Ne.symm hy)))).trans hn
  induction l generalizing m with
  | nil => exact absurd h List.not_mem_nil
  | cons y t ih =>
    by_cases ht : x ∈ t
    · exact ih _ ht
    · have hxy : x = y := (List.mem_cons.mp h).resolve_right ht
      subst hxy
      exact Mod.each_induct (P := fun n => n.slotState x = 2) (l := t) _ (hself m) fun n y _ hn => hkeep n y hn

/-- An invalidated slot is ORPHAN, with the Kennel's event (R508). -/
theorem Mod.invalidate_spec (m : Mod) (k : Clock) {s : Nat} (hs : s < 64) :
    (m.invalidate k s false).slotState s = 2 ∧ (m.invalidate k s false).bit R.KEN_EVT 2 = true
      ∧ (m.invalidate k s false).ken.erasing = m.ken.erasing := by
  simp only [Mod.invalidate]
  have hmem : s ∈ (m.family 64 [s]).filter fun x => !(false && x == s) := List.mem_filter.mpr ⟨m.mem_family 64 [s] (by simp), rfl⟩
  have hstate := m.orphaned hmem
  have hken := Mod.each_keeps m Mod.ken (f := fun m x => m.setF (F.KEN_SLOT_STAT_STATE x) 2) (fun _ _ => Mod.setF_ken ..)
    ((m.family 64 [s]).filter fun x => !(false && x == s))
  generalize m.each _ _ = n at hstate hken ⊢
  have hk := fun c => (KenKeeps.kenShow { n with ken := { n.ken with cacheOrphan := c } }).trans (.kenStateEvt _ k 2)
  exact ⟨((hk _).slotState hs).trans hstate, Mod.bit_kenStateEvt _ k (by decide),
    (congrArg KenSt.erasing (hk _).ken).trans (show n.ken.erasing = m.ken.erasing from by rw [hken])⟩

/-- A slot erased is ORPHAN at once, and the command waits for the boundary (R508). -/
def Mod.eraseBegun (m : Mod) (k : Clock) (s : Nat) (e : EraseWait) : Mod :=
  let m := (m.invalidate k s false).setB F.KEN_STAT_BUSY true
  { m with ken := { m.ken with erasing := m.ken.erasing ++ [e] } }

theorem Mod.eraseBegun_spec (m : Mod) (k : Clock) {s : Nat} (hs : s < 64) (e : EraseWait) :
    (m.eraseBegun k s e).slotState s = 2 ∧ (m.eraseBegun k s e).on F.KEN_STAT_BUSY = true ∧ (m.eraseBegun k s e).bit R.KEN_EVT 2 = true
      ∧ (m.eraseBegun k s e).ken.erasing = m.ken.erasing ++ [e] := by
  obtain ⟨hst, hevt, her⟩ := m.invalidate_spec k hs
  have hrd : ∀ x, (m.eraseBegun k s e).rd x = ((m.invalidate k s false).setB F.KEN_STAT_BUSY true).rd x := fun _ => Mod.rd_ken _ _ _
  refine ⟨?_, ?_, ?_, ?_⟩
  · rw [Mod.slotState, Mod.fld_congr (hrd _), Mod.fld_congr (Mod.rd_setB_ne _ _ _ (by simp only [F.KEN_SLOT_STAT_STATE, F.KEN_STAT_BUSY, R.KEN_SLOT_STAT, R.KEN_STAT]; omega))]
    exact hst
  · rw [Mod.on_congr (hrd _), Mod.on_setB _ _ _ (by decide) (by decide)]
  · rw [Mod.bit_congr (hrd _), Mod.bit_congr (Mod.rd_setB_ne _ _ _ (by decide))]
    exact hevt
  · simp only [Mod.eraseBegun, Mod.setB_ken, her]

/-- BUSY shows the commands handed to the Kennel and the erasures that wait. -/
theorem Mod.on_kenBusy (m : Mod) : m.kenBusy.on F.KEN_STAT_BUSY = ((m.kenBusy.ring.handed.any fun h => h.block == 7) || !m.ken.erasing.isEmpty) := by
  rw [Mod.kenBusy, Mod.on_setB _ _ _ (by decide) (by decide), Mod.setB_ring]

/-- The module whose slots have been emptied, before the erasing commands answer. -/
def Mod.erased (m : Mod) : Mod :=
  let m := m.each ((upto 64).filter fun s => m.slotState s == 2) fun m s => m.slotEmpty s
  let m : Mod := if m.ken.cacheOrphan then { m with ken := { m.ken with cache := [], cacheOrphan := false } } else m
  { m with ken := { m.ken with erasing := [] } }

theorem Mod.erased_spec (m : Mod) {x : Nat} (hx : x < 64) :
    m.erased.slotState x = (if m.slotState x = 2 then 0 else m.slotState x)
      ∧ AMap.find m.erased.ken.slot x = if m.slotState x = 2 then none else AMap.find m.ken.slot x := by
  have hmem : x ∈ ((upto 64).filter fun s => m.slotState s == 2) ↔ m.slotState x = 2 := by
    rw [List.mem_filter, beq_iff_eq, mem_upto]
    exact ⟨fun h => h.2, fun h => ⟨hx, h⟩⟩
  have h := m.slotsEmpty_spec ((upto 64).filter fun s => m.slotState s == 2) hx
  simp only [hmem] at h
  simp only [Mod.erased]
  generalize m.each ((upto 64).filter fun s => m.slotState s == 2) (fun m s => m.slotEmpty s) = n at h ⊢
  split
  · exact h
  · exact h

theorem Mod.orphanZeroise_eq (m : Mod) (k : Clock) :
    ∃ l : List EraseWait, m.orphanZeroise k = (m.erased.each l fun m e => (m.kenOp).result k 7 2 0 e.tag e.noResult e.acceptTick []).kenBusy :=
  ⟨_, rfl⟩

/-- Slots that await erasure read EMPTY at the boundary, and the commands that erased them answer (R508). -/
theorem Mod.orphanZeroise_spec (m : Mod) (k : Clock) :
    (∀ x, x < 64 → m.slotState x = 2 → (m.orphanZeroise k).slotState x = 0 ∧ AMap.find (m.orphanZeroise k).ken.slot x = none)
      ∧ (∀ x, x < 64 → m.slotState x ≠ 2 → (m.orphanZeroise k).slotState x = m.slotState x
        ∧ AMap.find (m.orphanZeroise k).ken.slot x = AMap.find m.ken.slot x)
      ∧ (m.orphanZeroise k).ken.erasing = [] ∧ (m.orphanZeroise k).on F.KEN_STAT_BUSY = (m.orphanZeroise k).ring.handed.any fun h => h.block == 7 := by
  obtain ⟨l, heq⟩ := m.orphanZeroise_eq k
  have hspec := fun x (hx : x < 64) => m.erased_spec hx
  have herasing : m.erased.ken.erasing = [] := rfl
  rw [heq]
  generalize m.erased = n at hspec herasing ⊢
  have hk : KenKeeps n (n.each l fun m e => (m.kenOp).result k 7 2 0 e.tag e.noResult e.acceptTick []) :=
    Mod.each_induct (P := KenKeeps n) n (.refl n) fun o e _ h => h.trans ((KenKeeps.kenOp o).trans (.result ..))
  generalize (n.each l fun m e => (m.kenOp).result k 7 2 0 e.tag e.noResult e.acceptTick []) = o at hk ⊢
  have ht := hk.trans (.kenBusy o)
  refine ⟨fun x hx h2 => ?_, fun x hx h2 => ?_, ?_, ?_⟩
  · obtain ⟨hs, hf⟩ := hspec x hx
    rw [ht.slotState hx, ht.ken, hs, hf, if_pos h2, if_pos h2]
    exact ⟨rfl, rfl⟩
  · obtain ⟨hs, hf⟩ := hspec x hx
    rw [ht.slotState hx, ht.ken, hs, hf, if_neg h2, if_neg h2]
    exact ⟨rfl, rfl⟩
  · rw [ht.ken, herasing]
  · rw [o.on_kenBusy, hk.ken, herasing, List.isEmpty_nil, Bool.not_true, Bool.or_false]

theorem KenKeeps.took (m : Mod) : KenKeeps m m.took := ⟨fun _ _ => rfl, fun _ _ => rfl, fun _ h => h, fun _ _ _ => rfl, rfl⟩

/-- A derived key stands in its slot with its type and parent, and no other slot changes (R495). -/
theorem KenKeeps.derives {t : Mod} {slot type use user parent : Nat} {key : List Byte} {src : KeySrc} (hslot : slot < 64) (htype : type < 16)
    (hparent : parent < 64) (h : KenKeeps (m.slotInstall slot type use user 0 parent 2 key src) t) :
    t.slotState slot = 1 ∧ t.slotKey slot = key ∧ t.fld (F.KEN_SLOT_STAT_TYPE slot) = type ∧ t.slotParent slot = parent
      ∧ ∀ x, x < 64 → x ≠ slot → t.slotState x = m.slotState x ∧ t.slotKey x = m.slotKey x := by
  have hspec := fun x (hx : x < 64) => m.slotInstall_spec slot type use user 0 parent 2 key src hx
  obtain ⟨hst, hkey, hself⟩ := hspec slot hslot
  obtain ⟨htyp, hpar⟩ := hself rfl
  have hfld : ∀ f : Fld, f.off = R.KEN_SLOT_STAT slot → t.fld f = (m.slotInstall slot type use user 0 parent 2 key src).fld f := fun f hf =>
    Mod.fld_congr (by rw [hf]; exact h.slot slot hslot)
  refine ⟨?_, ?_, ?_, ?_, fun x hx hne => ⟨?_, ?_⟩⟩
  · rw [h.slotState hslot, hst, if_pos rfl]
  · rw [Mod.slotKey, h.ken, hkey, if_pos rfl]
    rfl
  · rw [hfld _ rfl, htyp, Nat.mod_eq_of_lt htype]
  · rw [Mod.slotParent, hfld _ rfl, ← Mod.slotParent, hpar, Nat.mod_eq_of_lt hparent]
  · rw [h.slotState hx, (hspec x hx).1, if_neg hne]
  · rw [Mod.slotKey, h.ken, (hspec x hx).2.1, if_neg hne]
    rfl

/-- A wrapped blob goes to host memory before its answer: header, sealed key and tag (R504, R505). -/
theorem Mod.wraps {hd ck iv key : List Byte} {h : Hdr} (hout : m.out = []) (hlen : hd.length = 56) (hmagic : hd.take 4 = [0x4B, 0x42, 0x4C, 0x42]) :
    let t := ((m.kenOp).emit (.hostWrite (hd ++ (Config.aesGcmSeal ck iv hd key).1 ++ (Config.aesGcmSeal ck iv hd key).2))).reply k 7 4 0 h []
    (∃ b, t.out.head? = some (.hostWrite b) ∧ b.length = 72 + key.length ∧ b.take 4 = [0x4B, 0x42, 0x4C, 0x42]) ∧ t.ken = m.ken := by
  have hb : (hd ++ (Config.aesGcmSeal ck iv hd key).1 ++ (Config.aesGcmSeal ck iv hd key).2).length = 72 + key.length := by
    simp only [Config.aesGcmSeal, List.length_append, gcmText_length, Config.bytes, List.length_map, List.length_range, hlen]
    omega
  have hm : (hd ++ (Config.aesGcmSeal ck iv hd key).1 ++ (Config.aesGcmSeal ck iv hd key).2).take 4 = [0x4B, 0x42, 0x4C, 0x42] := by
    rw [List.append_assoc, List.take_append_of_le_length (by omega), hmagic]
  generalize hd ++ (Config.aesGcmSeal ck iv hd key).1 ++ (Config.aesGcmSeal ck iv hd key).2 = b at hb hm ⊢
  obtain ⟨l, hl⟩ := OutGrows.reply ((m.kenOp).emit (.hostWrite b)) k 7 4 0 h []
  refine ⟨⟨b, ?_, hb, hm⟩, (KenKeeps.reply ..).ken.trans (KenKeeps.kenOp m).ken⟩
  rw [hl, Mod.emit, Mod.kenOp, Mod.inc_out, hout]
  rfl

/-- Settles O50: blobs open, slots are erased, derived, wrapped and used, and registers extended as the commands say. -/
theorem keysAndBlobs : Obligations.KeysAndBlobs := by
  refine ⟨aesGcmOpen_seal, fun s dt slot addr size h b hlive haddr => ?_, fun s dt slot h hlive h4 h63 hst => ?_, fun s dt hlive hend => ?_,
    fun s dt parent slot type labelLen use user h label context hlive h4 h63 hp hl1 hl16 htype hken hst hpar hpt hpu huser hpol => ?_,
    fun s dt slot parent bind addr size serial h hlive h4 h63 hp hp1 hp2 hbind haddr hslot hpar huse hpuse hsize => ?_,
    fun s dt h nonce hlive hatt => ?_, fun s dt index h digest hlive h4 h7 => ?_, fun s dt slot h digest hlive huse => ?_,
    fun s dt slot h digest sig hlive huse => ?_⟩
  all_goals have hl : ¬ (!s.found.live? 7) = true := by rw [show s.found.live? 7 = true from hlive]; decide
  · exact does_of_ev rfl ((if_neg hl).trans (if_neg (by simp [haddr])))
  · refine answers_of_eq rfl ((if_neg hl).trans ((if_neg (by omega)).trans (if_neg (not_not.mpr hst))))
      (s.found.eraseBegun_spec (s.now dt) (by omega) _)
  · exact answers_of_guard rfl (Bool.and_eq_true_iff.mpr ⟨hlive, hend⟩) (s.found.orphanZeroise_spec (s.now dt))
  · have hne : ¬ ((s.found.fld (F.KEN_SLOT_STAT_TYPE parent) ≠ 2 ∧ s.found.fld (F.KEN_SLOT_STAT_TYPE parent) ≠ 7)
        ∨ (s.found.fld (F.KEN_SLOT_STAT_USE parent)).testBit 2 = false
        ∨ (user &&& s.found.fld (F.KEN_SLOT_STAT_USER parent)) ≠ user) := by
      rintro (⟨h2, h7⟩ | h | h)
      · exact hpt.elim h2 h7
      · exact absurd (hpu.symm.trans h) (by decide)
      · exact h huser
    have hst3 : ¬ s.found.slotState slot = 3 := by rw [show s.found.slotState slot = 0 from hst]; decide
    have hpol' : ¬ policyOk type use user = false := by rw [hpol]; decide
    refine answers_of_eq rfl ((if_neg hl).trans ((if_neg (by omega)).trans ((if_neg hken).trans ((if_neg hst3).trans
      ((if_neg (not_not.mpr hst)).trans ((if_neg (not_not.mpr hpar)).trans ((if_neg hne).trans (if_neg hpol'))))))))
      (KenKeeps.derives (m := s.found) (use := use) (user := user) (src := .derived (label.take labelLen) (context.take 32))
        (key := kdf (s.found.slotKey parent) (label.take labelLen) (context.take 32)) (by omega) (by omega) (by omega) ?_)
    dsimp only
    split
    · exact (KenKeeps.kenOp _).trans (.reply ..)
    · exact ((KenKeeps.kenOp _).trans (.took _)).trans (.reply ..)
  · have huse' : ¬ ((s.found.fld (F.KEN_SLOT_STAT_USE slot)).testBit 5 = false ∨ (s.found.fld (F.KEN_SLOT_STAT_USE parent)).testBit 1 = false) := by
      rintro (h | h)
      · exact absurd (huse.symm.trans h) (by decide)
      · exact absurd (hpuse.symm.trans h) (by decide)
    have hroom : ¬ (size < 72 + (s.found.slotKey slot).length ∨ true = false) := fun h => h.elim (Nat.not_lt.mpr hsize) (by decide)
    refine answers_of_eq rfl ((if_neg hl).trans ((if_neg (by omega)).trans ((if_neg (not_not.mpr hslot)).trans ((if_neg (not_not.mpr hpar)).trans
      ((if_neg huse').trans (if_neg hroom)))))) ?_
    simp only [Mod.random, State.after_m]
    exact Mod.wraps (m := s.found.took.took) rfl (by simp [le_length, kcv_length, serial16_length]) rfl
  · exact does_of_ev rfl ((if_neg hl).trans (if_neg (not_not.mpr hatt)))
  · have hk := KenKeeps.reply (s.found.extend index (digest.take 48)) (s.now dt) 7 7 0 h []
    have hmeas : ∀ i, Mod.measReg _ i = _ := fun i => congrArg (fun (x : KenSt) => AMap.get (fun _ => List.replicate 48 0) x.meas i) hk.ken
    refine answers_of_eq rfl ((if_neg hl).trans (if_neg (by omega))) ⟨?_, fun i hi => ?_⟩
    · exact (hmeas index).trans ((AMap.get_put _ _ _ _ _).trans (if_pos rfl))
    · exact (hmeas i).trans ((AMap.get_put _ _ _ _ _).trans (if_neg hi))
  · refine does_of_ev rfl ((if_neg hl).trans ?_)
    rw [show s.found.hostUse slot 0 [3, 4] 3 = 0 from huse]
    rfl
  · refine does_of_ev rfl ((if_neg hl).trans ?_)
    rw [show s.found.hostUse slot 0 [5, 6] 4 = 0 from huse]
    rfl

end Sys2Proof.Machine
end

section
/-! SUPPORT. The Kennel's roots, fuses and tamper response (R488 to R493, R508 to R521). -/

namespace Sys2Proof.Machine

variable {m : Mod} {k : Clock}

/-! ## The fixed slots and a new generation -/

theorem SlotsOnly.refl (m : Mod) : SlotsOnly m m := (KenKeeps.refl m).slotsOnly

/-- Filling the slots that fuses and the root give leaves all but slots (R497). -/
theorem SlotsOnly.fixedSlots (m : Mod) : SlotsOnly m m.fixedSlots := by
  unfold Mod.fixedSlots
  extract_lets att m1 m2 m3
  have h1 : SlotsOnly m m1 := by
    simp only [m1]
    split
    · exact .slotInstall ..
    · exact .refl m
  have h2 : SlotsOnly m1 m2 := by
    simp only [m2]
    split
    · exact .slotInstall ..
    · exact .refl m1
  have h3 : SlotsOnly m2 m3 := by
    simp only [m3]
    split
    · split
      · exact .refl m2
      · split
        · exact .slotEmpty ..
        · exact .slotInstall ..
    · exact .refl m2
  have h := (h1.trans h2).trans h3
  split
  · exact h
  · split
    · split
      · exact h.trans (.slotInstall ..)
      · exact h.trans (.slotEmpty ..)
    · exact h.trans (.slotEmpty ..)

/-- A mask without bit 3 clears it. -/
theorem bit3_cleared (x : Nat) : (bitsOf ((x &&& 0xFFFFFFF7) % 4294967296) 3 3 != 0) = false := by
  have hbit : ((x &&& 0xFFFFFFF7) % 2 ^ 32).testBit 3 = false := by
    rw [Nat.testBit_mod_two_pow, Nat.testBit_and]
    simp [Nat.testBit]
  rw [Nat.testBit_eq_decide_div_mod_eq, decide_eq_false_iff_not] at hbit
  rw [bne_eq_false_iff_eq, bitsOf]
  omega

/-- A new generation is counted and shown, and takes the lock away (R492, R493). -/
theorem Mod.nextGen_spec (m : Mod) (hgen : m.ken.gen < 3) :
    m.nextGen.ken = { m.ken with gen := m.ken.gen + 1 } ∧ m.nextGen.fld F.KEN_STAT_FUSE_GEN = m.ken.gen + 1
      ∧ m.nextGen.on F.KEN_TAMPER_CTL_LOCK = false := by
  let n := Mod.setF { m with ken := { m.ken with gen := m.ken.gen + 1 } } F.KEN_STAT_FUSE_GEN (m.ken.gen + 1)
  have heq : m.nextGen = n.cfgSet R.KEN_TAMPER_CTL (n.rd R.KEN_TAMPER_CTL &&& 0xFFFFFFF7) := rfl
  obtain ⟨torn, hcfg⟩ := Mod.cfgSet_eq n R.KEN_TAMPER_CTL (n.rd R.KEN_TAMPER_CTL &&& 0xFFFFFFF7)
  have hrd : ∀ x, m.nextGen.rd x = if x = R.KEN_TAMPER_CTL then (n.rd R.KEN_TAMPER_CTL &&& 0xFFFFFFF7) % 4294967296 else n.rd x := fun x => by
    rw [heq, Mod.rd_cfgSet]
  refine ⟨?_, ?_, ?_⟩
  · rw [heq, hcfg]
    simp [n]
  · rw [Mod.fld_congr ((hrd _).trans (if_neg (by decide))), Mod.fld_setF _ _ _ (by decide) (by decide)]
    exact Nat.mod_eq_of_lt (Nat.succ_lt_succ hgen)
  · rw [Mod.on, Mod.fld, show F.KEN_TAMPER_CTL_LOCK.off = R.KEN_TAMPER_CTL from rfl, hrd, if_pos rfl]
    exact bit3_cleared _

/-- A new generation takes effect at the boundary: the Kennel's state, its event and the lock change together (R492, R493). -/
theorem Mod.kenBoundary_newGen (hnew : m.ken.newState = some 2) (hgen : m.ken.gen < 3) :
    (m.kenBoundary k).ken.gen = m.ken.gen + 1 ∧ (m.kenBoundary k).fld F.KEN_STAT_FUSE_GEN = m.ken.gen + 1
      ∧ (m.kenBoundary k).kenState = 2 ∧ (m.kenBoundary k).bit R.KEN_EVT 1 = true ∧ (m.kenBoundary k).on F.KEN_TAMPER_CTL_LOCK = false := by
  obtain ⟨hken, hfuse, hlock⟩ := m.nextGen_spec hgen
  let n := Mod.setF { m.nextGen with ken := { m.nextGen.ken with newState := none } } F.KEN_STAT_STATE 2
  have heq : m.kenBoundary k = (Mod.fixedSlots { n.kenStateEvt k 1 with ken := { (n.kenStateEvt k 1).ken with newRoot := none } }).kenShow := by
    rw [Mod.kenBoundary, if_neg (by rw [hnew]; rintro ⟨h, -⟩; cases h), hnew]
    rfl
  have hevt := KenKeeps.kenStateEvt n k 1
  have hbit := n.bit_kenStateEvt k (b := 1) (by decide)
  have hnken : n.ken.gen = m.ken.gen + 1 := by simp [n, hken]
  have hnf : n.fld F.KEN_STAT_FUSE_GEN = m.ken.gen + 1 := (Mod.fld_setF_ne _ _ _ (by decide) (by decide) (by decide)).trans hfuse
  have hns : n.kenState = 2 := Mod.fld_setF _ _ _ (by decide) (by decide)
  have hnl : n.on F.KEN_TAMPER_CTL_LOCK = false := (Mod.on_setF_ne _ _ _ (by decide) (by decide) (by decide)).trans hlock
  rw [heq]
  generalize n.kenStateEvt k 1 = o at hevt hbit ⊢
  have ht := (SlotsOnly.fixedSlots { o with ken := { o.ken with newRoot := none } }).trans (KenKeeps.kenShow _).slotsOnly
  have hfld : ∀ f, KenFixed f → Mod.fld (Mod.kenShow _) f = n.fld f := fun f hf => (ht.stat f hf).trans (hevt.stat f hf)
  refine ⟨?_, (hfld _ (by unfold KenFixed; decide)).trans hnf, (hfld _ (by unfold KenFixed; decide)).trans hns, ht.evt _ hbit, ?_⟩
  · rw [ht.ken]
    exact (congrArg KenSt.gen hevt.ken).trans hnken
  · exact (Mod.on_congr ((ht.tamper _ (by decide) (by decide)).trans (hevt.tamper _ (by decide) (by decide)))).trans hnl

/-! ## What closing the gate leaves of the Kennel -/

theorem KenKeeps.ite {c : Prop} [Decidable c] {m a b : Mod} (ha : KenKeeps m a) (hb : KenKeeps m b) : KenKeeps m (if c then a else b) := by
  split
  · exact ha
  · exact hb

theorem KenKeeps.brace (m : Mod) (x : BraceSt) : KenKeeps m { m with brace := x } := ⟨fun _ _ => rfl, fun _ _ => rfl, fun _ h => h, fun _ _ _ => rfl, rfl⟩

theorem KenKeeps.time (m : Mod) (x : TimeSt) : KenKeeps m { m with time := x } := ⟨fun _ _ => rfl, fun _ _ => rfl, fun _ h => h, fun _ _ _ => rfl, rfl⟩

theorem KenKeeps.emit (m : Mod) (o : Out) : KenKeeps m (m.emit o) := ⟨fun _ _ => rfl, fun _ _ => rfl, fun _ h => h, fun _ _ _ => rfl, rfl⟩

/-- A register below the Kennel's is written. -/
theorem KenKeeps.wr (m : Mod) {a : Nat} (v : Nat) (h : a < 0xA000) : KenKeeps m (m.wr a v) :=
  .of_rd (fun x h1 _ => Mod.rd_wr_ne _ _ _ (by simp only [R.KEN_STAT] at h1; omega)) (fun x _ => Mod.rd_wr_ne _ _ _ (by simp only [R.KEN_SLOT_STAT]; omega))
    (by simp)

theorem KenKeeps.setF (m : Mod) (f : Fld) (v : Nat) (h : f.off < 0xA000) : KenKeeps m (m.setF f v) := .wr m _ h

theorem KenKeeps.setB (m : Mod) (f : Fld) (b : Bool) (h : f.off < 0xA000) : KenKeeps m (m.setB f b) := .wr m _ h

theorem KenKeeps.braceEvt (m : Mod) (b : Nat) : KenKeeps m (m.braceEvt b) :=
  .of_rd (fun x h1 _ => Mod.rd_braceEvt_ne _ _ (by simp only [R.KEN_STAT, R.BRACE_EVT] at h1 ⊢; omega) (by simp only [R.KEN_STAT, R.RING_IRQ_STAT] at h1 ⊢; omega))
    (fun x _ => Mod.rd_braceEvt_ne _ _ (by simp only [R.KEN_SLOT_STAT, R.BRACE_EVT]; omega) (by simp only [R.KEN_SLOT_STAT, R.RING_IRQ_STAT]; omega))
    (Mod.evt_ken ..)

theorem KenKeeps.braceShow (m : Mod) : KenKeeps m m.braceShow :=
  .of_rd (fun x h1 _ => m.braceShow_spec.rd x (by simp only [R.KEN_STAT, R.BRACE_STAT] at h1 ⊢; omega) (by simp only [R.KEN_STAT, R.LEASH_STAT] at h1 ⊢; omega))
    (fun x _ => m.braceShow_spec.rd _ (by simp only [R.KEN_SLOT_STAT, R.BRACE_STAT]; omega) (by simp only [R.KEN_SLOT_STAT, R.LEASH_STAT]; omega))
    (by simp [Mod.braceShow])

theorem KenKeeps.leashShow (m : Mod) : KenKeeps m m.leashShow := by
  obtain ⟨-, -, -, hrd⟩ := m.leashShow_spec
  refine .of_rd (fun x h1 _ => hrd x (by simp only [R.KEN_STAT, R.LEASH_STAT] at h1 ⊢; omega))
    (fun x _ => hrd _ (by simp only [R.KEN_SLOT_STAT, R.LEASH_STAT]; omega)) ?_
  simp only [Mod.leashShow]
  split
  · rfl
  · simp

theorem KenKeeps.pulsesOff (m : Mod) : KenKeeps m m.pulsesOff :=
  Mod.each_induct (P := KenKeeps m) m (.refl m) fun n i _ h => by
    dsimp only
    split
    · exact h
    · exact (h.trans (.time _ _)).trans (.emit _ _)

theorem KenKeeps.gate (m : Mod) (on : Bool) : KenKeeps m (m.gate on) := by
  rw [Mod.gate]
  have h := (KenKeeps.setB m F.BRACE_STAT_GATE_OPEN on (by decide)).trans (.leashShow _)
  exact (KenKeeps.ite (h.trans (.pulsesOff _)) h).trans (.braceShow _)

theorem KenKeeps.holdOff (m : Mod) : KenKeeps m m.holdOff := by
  rw [Mod.holdOff]
  exact ((KenKeeps.ite ((KenKeeps.setB m F.BRACE_STAT_HOLD_OUT false (by decide)).trans (.emit _ _)) (.refl m)).trans (.brace _ _)).trans (.gate _ _)

theorem KenKeeps.mayEvt {m n : Mod} {c : Prop} [Decidable c] {b : Nat} (h : KenKeeps m n) : KenKeeps m (if c then n.braceEvt b else n) :=
  .ite (h.trans (.braceEvt _ _)) h

theorem KenKeeps.mayPulsesOff {m n : Mod} {c : Prop} [Decidable c] (h : KenKeeps m n) : KenKeeps m (if c then n else n.pulsesOff) :=
  .ite h (h.trans (.pulsesOff _))

theorem KenKeeps.setRole (m : Mod) (k : Clock) (role cause : Nat) : KenKeeps m (m.setRole k role cause) := by
  rw [Mod.setRole]
  have h := (KenKeeps.setF m F.BRACE_STAT_ROLE role (by decide)).trans (.setF _ F.BRACE_STAT_LAST_CAUSE cause (by decide))
  refine .ite (h.trans (.braceShow _)) ?_
  exact (((KenKeeps.mayPulsesOff (.mayEvt (h.trans (.brace _ _)))).trans (.recTrig ..)).trans (.braceShow _)).trans (.leashShow _)

theorem KenKeeps.kenAbort (m : Mod) (k : Clock) : KenKeeps m (m.kenAbort k) := by
  rw [Mod.kenAbort]
  refine KenKeeps.trans ?_ (.kenBusy _)
  have h0 : ∀ n, KenKeeps m (m.incBy R.KEN_ABORT_CNT n) := fun n =>
    .of_rd (fun x _ h => by rw [Mod.rd_incBy, if_neg (by simp only [R.KEN_TAMPER_CNT, R.KEN_ABORT_CNT] at h ⊢; omega)])
      (fun x _ => by rw [Mod.rd_incBy, if_neg (by simp only [R.KEN_SLOT_STAT, R.KEN_ABORT_CNT]; omega)]) (by simp)
  exact Mod.each_induct (P := KenKeeps m) _ (h0 _) fun n x _ h =>
    .ite (h.trans (.result ..)) (h.trans ⟨fun _ _ => rfl, fun _ _ => rfl, fun _ h => h, fun _ _ _ => rfl, rfl⟩)

/-! ## Tamper (R512 to R516) -/

/-- A tamper is counted, its source shown and logged, and the root is gone (R512, R514). -/
theorem Mod.tamperLog_spec (m : Mod) (k : Clock) {src : Nat} (hsrc : src < 16) (phase time : Nat) :
    (m.tamperLog k src phase time).ken.root = none ∧ (m.tamperLog k src phase time).rd R.KEN_TAMPER_CNT = (m.rd R.KEN_TAMPER_CNT + 1) % 4294967296
      ∧ (m.tamperLog k src phase time).fld F.KEN_TAMPER_STAT_LAST = src
      ∧ (m.tamperLog k src phase time).ken.unlogged = min 4 (m.ken.unlogged + 1) ∧ (m.tamperLog k src phase time).pwr = m.pwr
      ∧ ∀ x, x ≠ R.KEN_TAMPER_CNT → x ≠ R.KEN_TAMPER_STAT → (m.tamperLog k src phase time).rd x = m.rd x := by
  have hrd : ∀ x, (m.tamperLog k src phase time).rd x = ((m.inc R.KEN_TAMPER_CNT).setF F.KEN_TAMPER_STAT_LAST src).rd x := fun _ => Mod.rd_ken _ _ _
  refine ⟨rfl, ?_, ?_, ?_, ?_, fun x h1 h2 => ?_⟩
  · rw [hrd, Mod.rd_setF_ne _ _ _ (by decide), Mod.rd_inc, if_pos rfl]
  · rw [Mod.fld_congr (hrd _), Mod.fld_setF _ _ _ (by decide) (by decide)]
    exact Nat.mod_eq_of_lt hsrc
  · simp [Mod.tamperLog]
  · simp [Mod.tamperLog]
  · rw [hrd, Mod.rd_setF_ne _ _ _ h2, Mod.rd_inc, if_neg h1]

theorem Mod.rd_slotEmpty_below (m : Mod) (s : Nat) {x : Nat} (h : x < 0xA000) : (m.slotEmpty s).rd x = m.rd x := by
  rw [Mod.slotEmpty, Mod.kenShow, Mod.rd_setB_ne _ _ _ (by simp only [F.KEN_STAT_BRACE_READY, R.KEN_STAT]; omega),
    Mod.rd_setB_ne _ _ _ (by simp only [F.KEN_STAT_VAL_READY, R.KEN_STAT]; omega),
    Mod.rd_setF_ne _ _ _ (by simp only [F.KEN_STAT_LOADED, R.KEN_STAT]; omega), Mod.rd_ken, Mod.rd_wr_ne _ _ _ (by simp only [R.KEN_SLOT_STAT]; omega)]

/-- Every slot that is not BAD is emptied and the root no longer valid (R512). -/
theorem Mod.zeroise_spec (m : Mod) :
    (∀ x, x < 64 → m.slotState x ≠ 3 → m.zeroise.slotState x = 0) ∧ m.zeroise.on F.KEN_STAT_ROOT_VALID = false ∧ m.zeroise.ken.root = m.ken.root
      ∧ (∀ x, R.KEN_TAMPER_CTL ≤ x → x ≤ R.KEN_TAMPER_CNT → m.zeroise.rd x = m.rd x) ∧ ∀ x, x < 0xA000 → m.zeroise.rd x = m.rd x := by
  let l := (upto 64).filter fun s => m.slotState s != 3 && m.slotState s != 0
  have hslots := fun x (hx : x < 64) => (m.slotsEmpty_spec l hx).1
  have honly := SlotsOnly.slotsEmpty m l
  have hlow : ∀ x, x < 0xA000 → (m.each l fun m s => m.slotEmpty s).rd x = m.rd x := fun x hx =>
    Mod.each_keeps m (fun m => m.rd x) (fun n s => n.rd_slotEmpty_below s hx) l
  have hmem : ∀ x, x < 64 → m.slotState x ≠ 3 → x ∉ l → m.slotState x = 0 := fun x hx h3 hnot => by
    by_contra h0
    exact hnot (List.mem_filter.mpr ⟨mem_upto.mpr hx, by simp [h3, h0]⟩)
  have heq : ∀ n, n = (m.each l fun m s => m.slotEmpty s) → m.zeroise = (Mod.setB { n with ken := { n.ken with
      cache := [], cacheOrphan := false, erasing := [], newRoot := none, newState := none } } F.KEN_STAT_ROOT_VALID false).kenBusy := fun n hn => by
    rw [hn]; rfl
  generalize (m.each l fun m s => m.slotEmpty s) = n at hslots honly hlow heq
  have hk := KenKeeps.kenBusy (Mod.setB { n with ken := { n.ken with
      cache := [], cacheOrphan := false, erasing := [], newRoot := none, newState := none } } F.KEN_STAT_ROOT_VALID false)
  rw [heq n rfl]
  refine ⟨fun x hx h3 => ?_, ?_, ?_, fun x h1 h2 => ?_, fun x hx => ?_⟩
  · rw [hk.slotState hx]
    refine (Mod.fld_congr ((Mod.rd_setB_ne _ _ _ ?_).trans (Mod.rd_ken _ _ _))).trans ((hslots x hx).trans ?_)
    · simp only [F.KEN_SLOT_STAT_STATE, F.KEN_STAT_ROOT_VALID, R.KEN_SLOT_STAT, R.KEN_STAT]; omega
    · split
      · rfl
      · rename_i hnot
        exact hmem x hx h3 hnot
  · rw [Mod.on, hk.stat _ (by unfold KenFixed; decide), ← Mod.on, Mod.on_setB _ _ _ (by decide) (by decide)]
  · rw [hk.ken, Mod.setB_ken, honly.ken]
  · rw [hk.tamper x h1 h2, Mod.rd_setB_ne _ _ _ (by simp only [R.KEN_TAMPER_CTL, F.KEN_STAT_ROOT_VALID, R.KEN_STAT] at h1 ⊢; omega), Mod.rd_ken,
      honly.tamper x h1 h2]
  · rw [Mod.kenBusy, Mod.rd_setB_ne _ _ _ (by simp only [F.KEN_STAT_BUSY, R.KEN_STAT]; omega),
      Mod.rd_setB_ne _ _ _ (by simp only [F.KEN_STAT_ROOT_VALID, R.KEN_STAT]; omega), Mod.rd_ken, hlow x hx]

theorem Mod.rd_kenAbort_brace (m : Mod) (k : Clock) : (m.kenAbort k).rd R.BRACE_STAT = m.rd R.BRACE_STAT := by
  rw [Mod.kenAbort, Mod.kenBusy, Mod.rd_setB_ne _ _ _ (by decide), Mod.each_keeps _ (fun m => m.rd R.BRACE_STAT), Mod.rd_incBy, if_neg (by decide)]
  intro n h
  split
  · exact Mod.rd_result_ne _ _ _ _ _ _ _ _ _ (by decide) (by decide) (by decide) (by decide)
  · rfl

/-- The gate closed by a tamper, and the role it ends. -/
theorem Mod.tamperGate_spec (m : Mod) (k : Clock) :
    ∃ n, n = (if m.role == 1 then m.holdOff.setRole k 3 6 else m.holdOff) ∧ KenKeeps m n ∧ n.on F.BRACE_STAT_GATE_OPEN = false := by
  obtain ⟨-, hg, -⟩ := m.holdOff_spec
  refine ⟨_, rfl, .ite ((KenKeeps.holdOff m).trans (.setRole ..)) (.holdOff m), ?_⟩
  split
  · rw [Mod.on, ((m.holdOff).setRole_spec k (role := 3) (by decide) 6).fld _ (by unfold ShowLeaves; decide) (by decide) (by decide)]
    exact hg
  · exact hg

/-- A tamper closes the gate, ends a role of service, destroys the root and the keys, is counted and shown, and its reset becomes due (R512). -/
theorem Mod.tamper_spec (m : Mod) (k : Clock) {src : Nat} (hstep : 6 ≤ m.pwr.step) (hsrc : src < 16) :
    (m.tamper k src).ken.root = none ∧ (∀ x, x < 64 → m.slotState x ≠ 3 → (m.tamper k src).slotState x = 0)
      ∧ (m.tamper k src).on F.KEN_STAT_ROOT_VALID = false ∧ (m.tamper k src).rd R.KEN_TAMPER_CNT = (m.rd R.KEN_TAMPER_CNT + 1) % 4294967296
      ∧ (m.tamper k src).fld F.KEN_TAMPER_STAT_LAST = src ∧ (m.tamper k src).ken.tamperAt.isSome = true
      ∧ (m.tamper k src).on F.BRACE_STAT_GATE_OPEN = false := by
  obtain ⟨n, hneq, hn, hgate⟩ := m.tamperGate_spec k
  have heq : ∀ o, o = ((n.kenAbort k).tamperLog k src 0 (if m.tstate = 2 then 0 else Clock.fullNs k.now)).zeroise →
      m.tamper k src = { o with ken := { o.ken with tamperAt := some (o.ken.tamperAt.getD k.raw) } } := fun o ho => by
    rw [Mod.tamper, if_neg (by omega), ho, hneq]
  generalize (if m.tstate = 2 then 0 else Clock.fullNs k.now) = time at heq
  have ha := hn.trans (.kenAbort n k)
  have hab : (n.kenAbort k).on F.BRACE_STAT_GATE_OPEN = false := (Mod.on_congr (n.rd_kenAbort_brace k)).trans hgate
  generalize n.kenAbort k = a at ha hab heq
  obtain ⟨hroot, hcnt, hlast, -, -, hrd⟩ := a.tamperLog_spec k hsrc 0 time
  generalize a.tamperLog k src 0 time = b at hroot hcnt hlast hrd heq
  obtain ⟨hslots, hvalid, hzroot, hztam, hzlow⟩ := b.zeroise_spec
  generalize b.zeroise = o at hslots hvalid hzroot hztam hzlow heq
  rw [heq o rfl]
  refine ⟨hzroot.trans hroot, fun x hx h3 => ?_, hvalid, ?_, ?_, rfl, ?_⟩
  · refine (Mod.fld_congr (Mod.rd_ken _ _ _)).trans (hslots x hx ?_)
    have hbs : b.slotState x = a.slotState x := Mod.fld_congr (hrd _ (by simp only [F.KEN_SLOT_STAT_STATE, R.KEN_SLOT_STAT, R.KEN_TAMPER_CNT]; omega)
      (by simp only [F.KEN_SLOT_STAT_STATE, R.KEN_SLOT_STAT, R.KEN_TAMPER_STAT]; omega))
    rw [hbs, ha.slotState hx]
    exact h3
  · rw [Mod.rd_ken, hztam _ (by decide) (by decide), hcnt, ha.tamper _ (by decide) (by decide)]
  · exact (Mod.fld_congr ((Mod.rd_ken _ _ _).trans (hztam _ (by decide) (by decide)))).trans hlast
  · exact (Mod.on_congr ((Mod.rd_ken _ _ _).trans ((hzlow _ (by decide)).trans (hrd _ (by decide) (by decide))))).trans hab

/-- The sources' levels as they are seen (R521). -/
def Mod.levelSeen (m : Mod) (lv : Nat) : Mod :=
  (Mod.setF { m with ken := { m.ken with levels := lv } } F.KEN_TAMPER_STAT_ACTIVE lv).setB F.KEN_STAT_TAMPER_ACTIVE (lv != 0)

theorem Mod.levelSeen_spec (m : Mod) (lv : Nat) :
    (m.levelSeen lv).ken = { m.ken with levels := lv } ∧ (m.levelSeen lv).pwr = m.pwr
      ∧ ∀ x, x ≠ R.KEN_TAMPER_STAT → x ≠ R.KEN_STAT → (m.levelSeen lv).rd x = m.rd x := by
  refine ⟨by simp [Mod.levelSeen], by simp [Mod.levelSeen], fun x h1 h2 => ?_⟩
  rw [Mod.levelSeen, Mod.rd_setB_ne _ _ _ h2, Mod.rd_setF_ne _ _ _ h1, Mod.rd_ken]

theorem Mod.tamperOn_congr {m n : Mod} (h : n.rd R.KEN_TAMPER_CTL = m.rd R.KEN_TAMPER_CTL) (src : Nat) : n.tamperOn src = m.tamperOn src := by
  have hon : ∀ f : Fld, f.off = R.KEN_TAMPER_CTL → n.on f = m.on f := fun f hf => Mod.on_congr (by rw [hf, h])
  simp only [Mod.tamperOn, hon F.KEN_TAMPER_CTL_MESH_ARM rfl, hon F.KEN_TAMPER_CTL_CASE_EN rfl, hon F.KEN_TAMPER_CTL_TEMP_EN rfl]

/-- A source's level that goes away is no longer active. -/
theorem level_gone (lv : Nat) {src : Nat} (h1 : 1 ≤ src) (h5 : src ≤ 5) : (lv &&& (63 - 2 ^ (src - 1))).testBit (src - 1) = false := by
  rw [Nat.testBit_and]
  interval_cases src <;> simp [Nat.testBit]

/-- A new root is valid at once and goes to slot 0 at the boundary (R490). -/
theorem Mod.rootGen_spec {key : List Byte} {h : Hdr} {p : List Byte} (hroot : m.ken.root = some key) :
    let t := ((((m.setB F.KEN_STAT_ROOT_VALID true).kenEvt 7).kenOp).reply k 7 5 0 h p)
    t.ken.root = some key ∧ t.on F.KEN_STAT_ROOT_VALID = true ∧ t.bit R.KEN_EVT 7 = true := by
  have hk := (KenKeeps.kenOp ((m.setB F.KEN_STAT_ROOT_VALID true).kenEvt 7)).trans (.reply _ k 7 5 0 h p)
  have he := (KenKeeps.kenEvt (m.setB F.KEN_STAT_ROOT_VALID true) 7).trans hk
  refine ⟨?_, ?_, hk.evt _ (Mod.bit_evt _ _ _ _ _ (by decide) (by decide))⟩
  · rw [he.ken, Mod.setB_ken, hroot]
  · rw [Mod.on, he.stat _ (by unfold KenFixed; decide), ← Mod.on, Mod.on_setB _ _ _ (by decide) (by decide)]

/-- The customer roots once programmed are shown, at generation 0 (R492). -/
theorem Mod.fuseProg_spec {h : Hdr} :
    let t := ((((m.setB F.KEN_STAT_CFR_PROG true).setF F.KEN_STAT_FUSE_GEN 0).fixedSlots.kenOp).reply k 7 10 0 h [])
    t.ken.cfr = m.ken.cfr ∧ t.on F.KEN_STAT_CFR_PROG = true ∧ t.fld F.KEN_STAT_FUSE_GEN = 0 := by
  have hs := SlotsOnly.fixedSlots ((m.setB F.KEN_STAT_CFR_PROG true).setF F.KEN_STAT_FUSE_GEN 0)
  have ht := (hs.trans (KenKeeps.kenOp _).slotsOnly).trans (KenKeeps.reply _ k 7 10 0 h []).slotsOnly
  refine ⟨?_, ?_, ?_⟩
  · rw [ht.ken, Mod.setF_ken, Mod.setB_ken]
  · rw [Mod.on, ht.stat _ (by unfold KenFixed; decide), ← Mod.on, Mod.on_setF_ne _ _ _ (by decide) (by decide) (by decide),
      Mod.on_setB _ _ _ (by decide) (by decide)]
  · rw [ht.stat _ (by unfold KenFixed; decide), Mod.fld_setF _ _ _ (by decide) (by decide)]
    rfl

/-- Settles O51: roots, fuses, tamper clears, and what a tamper destroys. -/
theorem rootsAndTamper : Obligations.RootsAndTamper := by
  refine ⟨fun s dt flags h hlive hflags hst hst0 hat => ?_, fun s dt h roots hlive hcfr => ?_, fun s dt v comp hready hst hlev hcfr hgen => ?_,
    fun m k hnew hgen => m.kenBoundary_newGen hnew hgen, fun s dt src hmode hstep h1 h5 haon hlow hon => ?_, fun s dt src hmode h1 h5 haon => ?_,
    fun s dt at_ hat hmode hdue => ?_, fun s dt src hmode h1 h5 haon hon => ?_, fun s dt v comp hready => ?_,
    fun s dt hmode => ?_⟩
  · have hl : ¬ (!s.found.live? 7) = true := by rw [show s.found.live? 7 = true from hlive]; decide
    have hstate : ¬ (s.found.kenState = 1 ∨ (s.found.kenState = 0 ∧ flags = 0)) := by
      rintro (h | ⟨h, hf⟩)
      · exact hst h
      · have := hst0 h; omega
    have hno : ¬ s.found.ken.tamperAt.isSome = true := by rw [show s.found.ken.tamperAt = none from hat]; decide
    refine answers_of_eq rfl ((if_neg hl).trans ((if_neg (by omega)).trans ((if_neg hstate).trans (if_neg hno)))) ?_
    obtain ⟨hroot, hvalid, hevt⟩ := Mod.rootGen_spec (m := { s.found.took with ken := { s.found.took.ken with
      root := some (le 32 (s.found.freeN 488)), newRoot := some (le 32 (s.found.freeN 488)),
      newState := if s.found.took.kenState = 2 then some 0 else s.found.took.ken.newState } }) (k := s.now dt) (h := h)
      (p := kcv (le 32 (s.found.freeN 488))) rfl
    exact ⟨⟨_, hroot, le_length _ _⟩, hvalid, hevt⟩
  · have hl : ¬ (!s.found.live? 7) = true := by rw [show s.found.live? 7 = true from hlive]; decide
    have hno : ¬ s.found.ken.cfr.isSome = true := by rw [show s.found.ken.cfr = none from hcfr]; decide
    exact answers_of_eq rfl ((if_neg hl).trans ((if_neg (by decide)).trans (if_neg hno)))
      (Mod.fuseProg_spec (m := { s.found with ken := { s.found.ken with cfr := some (roots.take 4), gen := 0 } }))
  · obtain ⟨torn, hcfg⟩ := Mod.cfgSet_eq s.found.unguard R.KEN_TAMPER_CLR v
    have hken : (s.found.unguard.cfgSet R.KEN_TAMPER_CLR v).ken = s.m.ken := by rw [hcfg]; simp [Mod.unguard]
    have hstate : (s.found.unguard.cfgSet R.KEN_TAMPER_CLR v).kenState = 1 := by
      refine (Mod.fld_congr ?_).trans hst
      rw [Mod.rd_cfgSet, if_neg (by decide)]
      rfl
    refine answers_of_eq rfl ((commit_of_ready _ hready).trans ((if_neg ?_).trans (if_neg ?_))) ⟨rfl, ?_, ?_⟩
    · rw [hstate, hken, hlev]; decide
    · rw [hken]
      rintro (h | h)
      · rw [Option.isNone_iff_eq_none] at h
        rw [h] at hcfr
        cases hcfr
      · omega
    · show (s.found.unguard.cfgSet R.KEN_TAMPER_CLR v).ken.gen = _
      rw [hken]
    · exact hstate
  · obtain ⟨hken, hpwr, hrd⟩ := s.found.levelSeen_spec (s.found.ken.levels ||| 2 ^ (src - 1))
    have hgo : ¬ (s.found.pwr.mode ≠ 0 ∨ src = 0 ∨ 5 < src ∨ (!s.found.pwr.aonOk) = true) := by
      rw [show s.found.pwr.mode = 0 from hmode, show s.found.pwr.aonOk = true from haon]
      rintro (h | h | h | h)
      · exact h rfl
      · omega
      · omega
      · cases h
    have hon' : (true && (s.found.levelSeen (s.found.ken.levels ||| 2 ^ (src - 1))).tamperOn src) = true := by
      rw [Bool.true_and, Mod.tamperOn_congr (hrd _ (by decide) (by decide))]; exact hon
    obtain ⟨hroot, hslots, hvalid, hcnt, hlast, hat, hgate⟩ := Mod.tamper_spec (s.found.levelSeen (s.found.ken.levels ||| 2 ^ (src - 1)))
      (s.now dt) (src := src) (by rw [hpwr]; exact hstep) (by omega)
    refine answers_of_eq (m := (s.found.levelSeen (s.found.ken.levels ||| 2 ^ (src - 1))).tamper (s.now dt) src) rfl
      ((if_neg hgo).trans (if_pos hon')) ⟨hroot, fun x hx h3 => hslots x hx ?_, hvalid, hcnt.trans ?_, hlast, hat, hgate⟩
    · rw [Mod.slotState, Mod.fld_congr (hrd _ (by simp only [F.KEN_SLOT_STAT_STATE, R.KEN_SLOT_STAT, R.KEN_TAMPER_STAT]; omega)
        (by simp only [F.KEN_SLOT_STAT_STATE, R.KEN_SLOT_STAT, R.KEN_STAT]; omega))]
      exact h3
    · rw [hrd _ (by decide) (by decide)]
      rfl
  · obtain ⟨hken, hpwr, hrd⟩ := s.found.levelSeen_spec (s.found.ken.levels &&& (63 - 2 ^ (src - 1)))
    have hgo : ¬ (s.found.pwr.mode ≠ 0 ∨ src = 0 ∨ 5 < src ∨ (!s.found.pwr.aonOk) = true) := by
      rw [show s.found.pwr.mode = 0 from hmode, show s.found.pwr.aonOk = true from haon]
      rintro (h | h | h | h)
      · exact h rfl
      · omega
      · omega
      · cases h
    refine answers_of_eq (m := s.found.levelSeen (s.found.ken.levels &&& (63 - 2 ^ (src - 1)))) rfl ((if_neg hgo).trans (if_neg (by simp))) ?_
    rw [State.after_m, hken, hrd _ (by decide) (by decide)]
    exact ⟨level_gone _ h1 h5, rfl, rfl, rfl⟩
  · refine exec_of_evClk rfl ?_
    rw [show s.found.ken.tamperAt = some at_ from hat]
    exact if_pos ⟨hmode, by rw [s.now_raw]; exact hdue⟩
  · have hgo : ¬ (s.found.pwr.mode = 0 ∨ src = 0 ∨ 5 < src ∨ (!s.found.pwr.aonOk) = true ∨ (s.found.pwr.mode = 2 ∧ (!s.found.pwr.vbatOk) = true)
        ∨ (!s.found.tamperOn src) = true) := by
      rw [show s.found.pwr.mode = 1 from hmode, show s.found.pwr.aonOk = true from haon, show s.found.tamperOn src = true from hon]
      rintro (h | h | h | h | ⟨h, -⟩ | h)
      · cases h
      · omega
      · omega
      · cases h
      · cases h
      · cases h
    obtain ⟨hroot, hcnt, -, hun, hp, -⟩ := s.found.tamperLog_spec (s.now dt) (src := src) (by omega) 1 0
    exact answers_of_eq rfl (if_neg hgo) ⟨hroot, hcnt, hun, hp⟩
  · exact does_commit_of_ready (fun k m v => (m.cfgSet R.KEN_ZEROISE v).tamper k 6) rfl hready
  · refine answers_of_eq rfl (if_neg (not_not.mpr hmode)) ⟨?_, Mod.bit_evt _ _ _ _ _ (by decide) (by decide), ?_⟩
    · rw [State.after_m, Mod.on, (KenKeeps.kenEvt _ _).stat _ (by unfold KenFixed; decide), ← Mod.on, Mod.on_setB _ _ _ (by decide) (by decide)]
    · simp [Mod.kenEvt]

end Sys2Proof.Machine
end

section
/-! SUPPORT. UPD's commands (R528 to R546). -/

namespace Sys2Proof.Machine

variable {m : Mod} {k : Clock}

/-- A field of UPD_STAT that showing UPD's own state leaves: STATE, SETTINGS_MIGRATED and PKG_STAGED. -/
def UpdFixed (f : Fld) : Prop := f.off = R.UPD_STAT ∧ f.hi ≤ 31 ∧ (f.hi < 4 ∨ 5 < f.lo) ∧ (f.hi < 7 ∨ 11 < f.lo)

/-- What showing, recording and answering leave of UPD's registers. -/
structure UpdKeeps (m t : Mod) : Prop where
  stat : ∀ f, UpdFixed f → t.fld f = m.fld f
  evt : ∀ i, m.bit R.UPD_EVT i = true → t.bit R.UPD_EVT i = true
  atTick : t.rd R.UPD_AT_TICK = m.rd R.UPD_AT_TICK

theorem UpdKeeps.refl (m : Mod) : UpdKeeps m m := ⟨fun _ _ => rfl, fun _ h => h, rfl⟩

theorem UpdKeeps.trans {m n t : Mod} (h : UpdKeeps m n) (h' : UpdKeeps n t) : UpdKeeps m t :=
  ⟨fun f hf => (h'.stat f hf).trans (h.stat f hf), fun i hi => h'.evt i (h.evt i hi), h'.atTick.trans h.atTick⟩

theorem UpdKeeps.of_rd {m t : Mod} (h : ∀ x, R.UPD_STAT ≤ x → x ≤ R.UPD_AT_TICK → t.rd x = m.rd x) : UpdKeeps m t :=
  ⟨fun f hf => Mod.fld_congr (h _ (by rw [hf.1]) (by rw [hf.1]; decide)), fun i hi => (Mod.bit_congr (h _ (by decide) (by decide))).trans hi,
    h _ (by decide) (by decide)⟩

theorem UpdKeeps.state {m t : Mod} (h : UpdKeeps m t) : t.updState = m.updState := h.stat _ (by unfold UpdFixed; decide)

theorem UpdKeeps.updAt (m : Mod) (f : UpdSt → UpdSt) : UpdKeeps m (m.updAt f) := .of_rd fun _ _ _ => rfl

theorem UpdKeeps.result (m : Mod) (k : Clock) (block opcode code tag : Nat) (nr : Bool) (acc : Nat) (p : List Byte) :
    UpdKeeps m (m.result k block opcode code tag nr acc p) :=
  .of_rd fun x h1 h2 => Mod.rd_result_ne _ _ _ _ _ _ _ _ _ (by simp only [R.UPD_STAT, R.UPD_AT_TICK, R.RING_DROP_CNT] at *; omega)
    (by simp only [R.UPD_STAT, R.UPD_AT_TICK, R.RING_STAT] at *; omega) (by simp only [R.UPD_STAT, R.UPD_AT_TICK, R.RING_IRQ_STAT] at *; omega)
    (by simp only [R.UPD_STAT, R.UPD_AT_TICK, R.KEN_STAT] at *; omega)

theorem UpdKeeps.reply (m : Mod) (k : Clock) (block opcode code : Nat) (h : Hdr) (p : List Byte) : UpdKeeps m (m.reply k block opcode code h p) :=
  .result ..

theorem UpdKeeps.updEvt (m : Mod) (b : Nat) : UpdKeeps m (m.updEvt b) :=
  ⟨fun f hf => Mod.fld_evt_ne _ _ _ _ _ (by rw [hf.1]; decide) (by rw [hf.1]; decide), fun i hi => Mod.bit_evt_keeps _ _ _ _ _ (by decide) hi,
    Mod.rd_evt_ne _ _ _ _ _ (by decide) (by decide)⟩

theorem Mod.bit_updEvt (m : Mod) {b : Nat} (hb : b < 32) : (m.updEvt b).bit R.UPD_EVT b = true := Mod.bit_evt _ _ _ _ _ hb (by decide)

theorem UpdKeeps.braceShow (m : Mod) : UpdKeeps m m.braceShow :=
  .of_rd fun x h1 h2 => m.braceShow_spec.rd x (by simp only [R.UPD_STAT, R.UPD_AT_TICK, R.BRACE_STAT] at *; omega)
    (by simp only [R.UPD_STAT, R.UPD_AT_TICK, R.LEASH_STAT] at *; omega)

theorem UpdKeeps.recTrig (m : Mod) (k : Clock) (t : Nat) (p : List Byte) : UpdKeeps m (m.recTrig k t p) :=
  .of_rd fun x h1 h2 => Mod.rd_recTrig_ne _ _ _ _ (by simp only [R.UPD_STAT, R.UPD_AT_TICK, R.REC_DROP_CNT] at *; omega)
    (by simp only [R.UPD_STAT, R.UPD_AT_TICK, R.REC_EVT] at *; omega) (by simp only [R.UPD_STAT, R.UPD_AT_TICK, R.RING_IRQ_STAT] at *; omega)

theorem UpdKeeps.setLast (m : Mod) (k : Clock) (n : Nat) : UpdKeeps m (m.setLast k n) := by
  rw [Mod.setLast]
  have hset : UpdKeeps (m.updAt fun u => { u with last := n }) ((m.updAt fun u => { u with last := n }).setF F.UPD_STAT_LAST n) :=
    ⟨fun f hf => Mod.fld_setF_ne _ _ _ (by decide) hf.2.1 (by have := hf.2.2; simp only [F.UPD_STAT_LAST]; omega),
      fun i hi => (Mod.bit_congr (Mod.rd_setF_ne _ _ _ (by decide))).trans hi, Mod.rd_setF_ne _ _ _ (by decide)⟩
  exact ((UpdKeeps.updAt m _).trans hset).trans (.recTrig ..)

@[simp] theorem Mod.setLast_upd (m : Mod) (k : Clock) (n : Nat) : (m.setLast k n).upd = { m.upd with last := n } := by
  simp [Mod.setLast, Mod.updAt]

theorem UpdKeeps.updShow (m : Mod) : UpdKeeps m m.updShow := by
  rw [Mod.updShow]
  refine ⟨fun f ⟨hoff, h31, h45, h711⟩ => ?_, fun i hi => ?_, ?_⟩
  · rw [Mod.fld_congr (Mod.rd_wr_ne _ _ _ (by rw [hoff]; decide)), Mod.fld_congr (Mod.rd_wr_ne _ _ _ (by rw [hoff]; decide)),
      Mod.fld_congr (Mod.rd_wr_ne _ _ _ (by rw [hoff]; decide)), Mod.fld_setB_ne _ _ _ (by decide) h31 (by simp only [F.UPD_STAT_PAIR]; omega),
      Mod.fld_setF_ne _ _ _ (by decide) h31 (by simp only [F.UPD_STAT_LAST]; omega),
      Mod.fld_setB_ne _ _ _ (by decide) h31 (by simp only [F.UPD_STAT_PREV_VALID]; omega),
      Mod.fld_setF_ne _ _ _ (by decide) h31 (by simp only [F.UPD_STAT_BANK]; omega)]
  · rw [Mod.bit_congr (Mod.rd_wr_ne _ _ _ (by decide)), Mod.bit_congr (Mod.rd_wr_ne _ _ _ (by decide)), Mod.bit_congr (Mod.rd_wr_ne _ _ _ (by decide)),
      Mod.bit_congr (Mod.rd_setB_ne _ _ _ (by decide)), Mod.bit_congr (Mod.rd_setF_ne _ _ _ (by decide)),
      Mod.bit_congr (Mod.rd_setB_ne _ _ _ (by decide)), Mod.bit_congr (Mod.rd_setF_ne _ _ _ (by decide))]
    exact hi
  · rw [Mod.rd_wr_ne _ _ _ (by decide), Mod.rd_wr_ne _ _ _ (by decide), Mod.rd_wr_ne _ _ _ (by decide), Mod.rd_setB_ne _ _ _ (by decide),
      Mod.rd_setF_ne _ _ _ (by decide), Mod.rd_setB_ne _ _ _ (by decide), Mod.rd_setF_ne _ _ _ (by decide)]

@[simp] theorem Mod.braceShow_upd (m : Mod) : m.braceShow.upd = m.upd := by simp [Mod.braceShow]

@[simp] theorem Mod.updShow_upd (m : Mod) : m.updShow.upd = m.upd := by simp [Mod.updShow]

/-- UPD shows the length of its staging area and the fuses blown. -/
theorem Mod.updShow_shows (m : Mod) :
    m.updShow.rd R.UPD_STAGE_LEN = m.upd.staged.length % 4294967296 ∧ m.updShow.rd R.UPD_SVN_FUSED = m.upd.fused % 4294967296 := by
  rw [Mod.updShow]
  refine ⟨Mod.rd_wr_same _ _ _, ?_⟩
  rw [Mod.rd_wr_ne _ _ _ (by decide), Mod.rd_wr_ne _ _ _ (by decide), Mod.rd_wr_same]

theorem Mod.updState_set (m : Mod) {st : Nat} (h : st < 16) : (m.setUpdState st).updState = st :=
  (Mod.fld_setF _ _ _ (by decide) (by decide)).trans (Nat.mod_eq_of_lt h)

theorem Mod.setUpdState_upd (m : Mod) (st : Nat) : (m.setUpdState st).upd = m.upd := Mod.setF_upd ..

theorem nth_map_upto {β : Type} (d : β) (f : Nat → β) {n j : Nat} (h : j < n) : nth d ((upto n).map f) j = f j := by
  simp [nth, upto, h]

/-! ## Bank sets -/

theorem UpdSt.other_ne_run (u : UpdSt) : u.otherBank ≠ u.runBank := by
  simp only [UpdSt.otherBank, UpdSt.runBank]; omega

theorem Mod.updCmd_live (f : Mod → Mod) (h : m.live? 8 = true) : m.updCmd f = f m := if_pos h

/-- A plan for an activation or a rollback is shown with its tick (R532, R539). -/
theorem Mod.updPlan_spec (m : Mod) (k : Clock) (atTick : Nat) (pair back : Bool) :
    (m.updPlan k atTick pair back).updState = 5
      ∧ (m.updPlan k atTick pair back).upd
        = { m.upd with at_ := some (Int.ofNat k.tickNo + tickDiff atTick k.tick).toNat, pair := pair, back := back, closed := false }
      ∧ (m.updPlan k atTick pair back).rd R.UPD_AT_TICK = atTick % 4294967296 ∧ (m.updPlan k atTick pair back).bit R.UPD_EVT 2 = true := by
  rw [Mod.updPlan]
  refine ⟨?_, ?_, ?_, Mod.bit_updEvt _ (by decide)⟩
  · rw [(UpdKeeps.updEvt _ _).state]
    exact (Mod.fld_congr (Mod.rd_wr_ne _ _ _ (by decide))).trans (Mod.updState_set _ (by decide))
  · simp [Mod.updEvt, Mod.setUpdState, Mod.updAt]
  · rw [(UpdKeeps.updEvt _ _).atTick, Mod.rd_wr_same]

/-- A plan withdrawn (R534, R535). -/
theorem Mod.updUnplan_spec (m : Mod) {st : Nat} (h : st < 16) :
    (m.updUnplan st).updState = st ∧ (m.updUnplan st).upd = { m.upd with at_ := none, closed := false, pairAt := none, pairB := none }
      ∧ (m.updUnplan st).rd R.UPD_AT_TICK = 0 := by
  rw [Mod.updUnplan]
  refine ⟨?_, ?_, ?_⟩
  · rw [(UpdKeeps.braceShow _).state]
    exact (Mod.fld_congr (Mod.rd_wr_ne _ _ _ (by decide))).trans (Mod.updState_set _ h)
  · simp [Mod.braceShow, Mod.setUpdState, Mod.updAt]
  · rw [(UpdKeeps.braceShow _).atTick, Mod.rd_wr_same]

/-- Data staged: the staging area, its length, and the state where no trial runs (R541). -/
theorem Mod.staged_spec {data : List Byte} (hroom : m.upd.staged = data) (h : Hdr) :
    let t := (m.setUpdState 1).updShow.reply k 8 1 0 h []
    t.upd.staged = data ∧ t.updState = 1 ∧ t.rd R.UPD_STAGE_LEN = data.length % 4294967296 := by
  have hk := (UpdKeeps.updShow (m.setUpdState 1)).trans (.reply _ k 8 1 0 h [])
  refine ⟨?_, hk.state.trans (m.updState_set (by decide)), ?_⟩
  · rw [Mod.reply_upd, Mod.updShow_upd, Mod.setUpdState_upd, hroom]
  · rw [Mod.rd_reply_ne _ _ _ _ _ _ _ (by decide) (by decide) (by decide) (by decide), (Mod.updShow_shows _).1, Mod.setUpdState_upd, hroom]

/-- Data staged in a trial: a package there is no longer a package. -/
theorem Mod.stagedTrial_spec {data : List Byte} (hroom : m.upd.staged = data) (h : Hdr) :
    let t := (m.setB F.UPD_STAT_PKG_STAGED false).updShow.reply k 8 1 0 h []
    t.upd.staged = data ∧ t.updState = m.updState ∧ t.on F.UPD_STAT_PKG_STAGED = false := by
  have hk := (UpdKeeps.updShow (m.setB F.UPD_STAT_PKG_STAGED false)).trans (.reply _ k 8 1 0 h [])
  refine ⟨?_, hk.state.trans (Mod.fld_setB_ne _ _ _ (by decide) (by decide) (by decide)), ?_⟩
  · rw [Mod.reply_upd, Mod.updShow_upd, Mod.setB_upd, hroom]
  · rw [Mod.on, hk.stat _ (by unfold UpdFixed; decide), ← Mod.on, Mod.on_setB _ _ _ (by decide) (by decide)]

/-- An installation begun takes the other bank set out of use at once (R528, R543). -/
def Mod.installBegun (m : Mod) (i : UpdHdr) : Mod :=
  m.updAt fun u => { u with
    prevValid := false, inst := some i, banks := AMap.put (fun _ => Bank.none) u.otherBank { u.bank u.otherBank with valid := false } u.banks }

theorem Mod.installBegun_spec (m : Mod) (i : UpdHdr) :
    let t := ((m.installBegun i).setUpdState 3).updShow
    t.updState = 3 ∧ t.upd.prevValid = false ∧ t.upd.inst.isSome = true ∧ (t.upd.bank m.upd.otherBank).valid = false
      ∧ t.upd.bank m.upd.runBank = m.upd.bank m.upd.runBank := by
  have hu : ((m.installBegun i).setUpdState 3).updShow.upd = (m.installBegun i).upd := by rw [Mod.updShow_upd, Mod.setUpdState_upd]
  have hbank : ∀ b, UpdSt.bank (m.installBegun i).upd b = if b = m.upd.otherBank then { m.upd.bank m.upd.otherBank with valid := false } else m.upd.bank b :=
    fun b => AMap.get_put _ _ _ _ _
  refine ⟨(UpdKeeps.updShow _).state.trans (Mod.updState_set _ (by decide)), ?_, ?_, ?_, ?_⟩
  · rw [hu]; rfl
  · rw [hu]; rfl
  · rw [hu, hbank, if_pos rfl]
  · rw [hu, hbank, if_neg m.upd.other_ne_run.symm]

/-- The bank set a package's bytes and its partition images make (R543). -/
def Bank.ofPackage (d : List Byte) (imgs : List (List Byte)) : Bank :=
  { valid := true, fwVer := leAt d 12 4, fwBuild := leAt d 16 4, svn := leAt d 20 4, setFmt := leAt d 44 2, setFrom := leAt d 46 2, parts := imgs }

/-- The bank set that does not run takes a release's images. -/
def Mod.putOther (m : Mod) (b : Bank) : Mod := m.updAt fun u => { u with banks := AMap.put (fun _ => Bank.none) u.otherBank b u.banks }

/-- An installation ended well: the other bank set is valid with the package's version (R543). -/
theorem Mod.installed_spec (b : Bank) (tag : Nat) (nr : Bool) (acc : Nat) (hinst : m.upd.inst = none) :
    let t := (((m.putOther b).setUpdState 4).updEvt 1).result k 8 3 0 tag nr acc []
    t.updState = 4 ∧ t.upd.inst = none ∧ t.upd.bank m.upd.otherBank = b ∧ t.bit R.UPD_EVT 1 = true := by
  let n := m.putOther b
  have hk := UpdKeeps.result ((n.setUpdState 4).updEvt 1) k 8 3 0 tag nr acc []
  have hu : (((n.setUpdState 4).updEvt 1).result k 8 3 0 tag nr acc []).upd = n.upd := by simp [Mod.updEvt, Mod.setUpdState]
  refine ⟨(hk.state.trans (UpdKeeps.updEvt _ 1).state).trans (Mod.updState_set _ (by decide)), ?_, ?_, hk.evt _ (Mod.bit_updEvt _ (by decide))⟩
  · rw [hu]; exact hinst
  · rw [hu]; exact (AMap.get_put _ _ _ _ _).trans (if_pos rfl)

/-- A command of UPD that answers for what it makes of the module. -/
theorem answers_of_updCmd {c : Instr} {s : State} {dt : Nat} {f : Clock → Mod → Mod} {m : Mod} {P : State → Prop}
    (h : exec c s = .next (s.ev dt fun k m => m.updCmd (f k))) (hlive : s.m.live? 8 = true) (hm : f (s.now dt) s.found = m)
    (hP : P (s.after dt m)) : Answers c s P :=
  answers_of_eq h ((Mod.updCmd_live (m := s.found) _ hlive).trans hm) hP

/-- Settles O52: the commands of UPD move its state where it allows them. -/
theorem packagesAndBanks : Obligations.PackagesAndBanks := by
  refine ⟨fun s dt offset size addr flags h d hlive h1 hmax haddr hend => ⟨fun hf ho hst => ?_, fun hf ho hst => ?_, fun hf ho hst => ?_⟩,
    fun s dt h hlive hst => ?_, fun s dt h hlive hst => ?_, fun s dt i hlive hi hgood => ?_, fun s dt atTick flags h hlive hf hst hpair htick => ?_,
    fun s dt h hlive hst hcl => ?_, fun s dt at_ hlive hend hat hst hle hcl => ?_, fun s dt since hlive hat hb hdue => ?_⟩
  · subst hf ho
    have hst' : ¬ (!(s.found.updState == 1 || s.found.updState == 6 || (true && (s.found.updState == 0 || s.found.updState == 2 || s.found.updState == 4)))) = true := by
      have h : s.found.updState ∈ [0, 1, 2, 4] := hst
      simp only [List.mem_cons, List.not_mem_nil, or_false] at h
      rcases h with h | h | h | h <;> rw [h] <;> decide
    have h6 : ¬ s.found.updState = 6 := fun h => by
      rw [show s.m.updState = 6 from h] at hst; simp at hst
    refine answers_of_updCmd rfl hlive ((if_neg (by simp; omega)).trans ((if_neg hst').trans (if_neg (by decide)))) ?_
    dsimp only
    rw [if_neg h6]
    exact Mod.staged_spec rfl h
  · subst hf
    have hst' : s.found.updState = 1 := hst
    have ho' : offset = s.found.upd.staged.length := ho
    refine answers_of_updCmd rfl hlive ((if_neg (by simp; omega)).trans ((if_neg (by rw [hst']; decide)).trans (if_neg (by decide)))) ?_
    dsimp only
    rw [if_neg (by rw [hst']; decide)]
    obtain ⟨hs, hu, -⟩ := Mod.staged_spec (m := s.found.updAt fun u => { u with staged := u.staged ++ d.take size, verified := [] }) (k := s.now dt) rfl h
    exact ⟨hs, hu⟩
  · subst hf ho
    have hst' : s.found.updState = 6 := hst
    refine answers_of_updCmd rfl hlive ((if_neg (by simp; omega)).trans ((if_neg (by rw [hst']; decide)).trans (if_neg (by decide)))) ?_
    dsimp only
    rw [if_pos hst']
    obtain ⟨hs, hu, hp⟩ := Mod.stagedTrial_spec (m := s.found.updAt fun u => { u with staged := d.take size, verified := [] }) (k := s.now dt) rfl h
    exact ⟨hs, hu.trans hst, hp⟩
  · refine does_of_ev rfl ((Mod.updCmd_live (m := s.found) _ hlive).trans ((if_neg (by decide)).trans ((if_neg ?_).trans ?_)))
    · rw [show s.found.updState = 1 from hst]; decide
    · rw [show s.found.updState = 1 from hst]
      rfl
  · refine answers_of_updCmd rfl hlive ((if_neg (by decide)).trans (if_neg ?_)) (s.found.installBegun_spec _)
    rw [show s.found.updState = 2 from hst]; decide
  · have hgood' : (upto 8).all (fun j => Config.sha384 (nth [] ((upto 8).map (s.found.partImage s.found.upd.staged)) j) == (readPart s.found.upd.staged j).digest
        && (nth [] ((upto 8).map (s.found.partImage s.found.upd.staged)) j).length == (readPart s.found.upd.staged j).imgLen) = true := by
      rw [List.all_eq_true]
      intro j hj
      have hj' : j < 8 := mem_upto.mp hj
      rw [nth_map_upto _ _ hj', Bool.and_eq_true, beq_iff_eq, beq_iff_eq]
      exact hgood j hj'
    have hi' : s.found.upd.inst = some i := hi
    let n := s.found.updAt fun u => { u with inst := none }
    let b := Bank.ofPackage s.found.upd.staged ((upto 8).map (s.found.partImage s.found.upd.staged))
    refine answers_of_updCmd (m := (((n.putOther b).setUpdState 4).updEvt 1).result (s.now dt) 8 3 0 i.tag i.noResult i.acceptTick []) rfl hlive ?_ ?_
    · dsimp only
      rw [hi']
      exact (if_neg (by decide)).trans (if_neg (by rw [hgood']; decide))
    · obtain ⟨hst, hinst, hbank, hevt⟩ := Mod.installed_spec (m := n) (k := s.now dt) b i.tag i.noResult i.acceptTick rfl
      have hbank' : (_ : Mod).upd.bank s.m.upd.otherBank = _ := hbank
      exact ⟨hst, hinst, congrArg Bank.valid hbank', congrArg Bank.fwVer hbank', hevt⟩
  · refine answers_of_updCmd rfl hlive ((if_neg (by omega)).trans ((if_neg (not_not.mpr hst)).trans ((if_neg ?_).trans (if_neg ?_)))) ?_
    · have hpair' : (flags % 2 == 1) = s.found.on F.BRACE_CTL_MODE := by
        rw [Bool.eq_iff_iff, beq_iff_eq]
        exact ⟨fun h => hpair.mp (by omega), fun h => by have := hpair.mpr h; omega⟩
      exact not_not.mpr hpair'
    · omega
    · obtain ⟨hs, hu, ht, he⟩ := s.found.updPlan_spec (s.now dt) atTick (flags % 2 == 1) false
      have hk := UpdKeeps.reply (s.found.updPlan (s.now dt) atTick (flags % 2 == 1) false) (s.now dt) 8 4 0 h []
      refine ⟨hk.state.trans hs, ?_, hk.atTick.trans ht, ?_, hk.evt _ he⟩
      · rw [State.after_m, Mod.reply_upd, hu]
        rfl
      · rw [State.after_m, Mod.reply_upd, hu]
  · have hcl' : ¬ s.found.upd.closed = true := by rw [show s.found.upd.closed = false from hcl]; decide
    obtain ⟨hst', hu, htick⟩ := s.found.updUnplan_spec (st := 4) (by decide)
    have hk := (UpdKeeps.setLast (s.found.updUnplan 4) (s.now dt) 9).trans (.reply _ (s.now dt) 8 5 0 h [])
    refine answers_of_updCmd rfl hlive ((if_neg (by decide)).trans ((if_neg (not_not.mpr hst)).trans (if_neg hcl')))
      ⟨hk.state.trans hst', ?_, hk.atTick.trans htick⟩
    rw [State.after_m, Mod.reply_upd, Mod.setLast_upd, hu]
  · have heq : s.found.updClose (s.now dt).beginTick = (s.found.updAt fun u => { u with closed := true }).braceShow := by
      rw [Mod.updClose, show s.found.upd.at_ = some at_ from hat]
      exact if_pos ⟨hst, hle, by rw [show s.found.upd.closed = false from hcl]; rfl⟩
    have hk := (UpdKeeps.updAt s.found fun u => { u with closed := true }).trans (.braceShow _)
    refine answers_of_updCmd rfl hlive ((if_pos (of_decide_eq_true hend)).trans heq) ⟨?_, hk.state.trans hst, ?_⟩
    · simp [Mod.braceShow, Mod.updAt]
    · simp only [State.after_m, Mod.braceShow_upd]
      exact hat
  · have heq : s.found.updPairExpire (s.now dt) = ((s.found.updUnplan 4).setLast (s.now dt) 7).updEvt 6 := by
      rw [Mod.updPairExpire, show s.found.upd.pairAt = some since from hat, show s.found.upd.pairB = none from hb]
      exact if_pos (by rw [s.now_raw]; exact hdue)
    obtain ⟨hst, hu, -⟩ := s.found.updUnplan_spec (st := 4) (by decide)
    have hk := (UpdKeeps.setLast (s.found.updUnplan 4) (s.now dt) 7).trans (.updEvt _ 6)
    refine answers_of_updCmd rfl hlive heq ⟨hk.state.trans hst, ?_, Mod.bit_updEvt _ (by decide)⟩
    simp only [State.after_m, Mod.updEvt, Mod.evt_upd, Mod.setLast_upd, hu]

end Sys2Proof.Machine
end

section
/-! SUPPORT. What a reset keeps and loses (R407, R409, R555, R556, R560, R562). -/

namespace Sys2Proof.Machine

variable {m : Mod} {k : Clock}

/-! ## What closing the gate and holding the line leave -/

/-- What the hold lines, the gate and what they show leave: every register but BRACE_STAT and LEASH_STAT, and what other blocks hold. -/
structure HoldLeaves (m t : Mod) : Prop where
  rd : ∀ x, x ≠ R.BRACE_STAT → x ≠ R.LEASH_STAT → t.rd x = m.rd x
  nv : t.nv = m.nv
  sw : t.sw = m.sw
  pwr : t.pwr = m.pwr
  upd : t.upd = m.upd
  ken : t.ken = m.ken
  shep : t.shep = m.shep

theorem HoldLeaves.refl (m : Mod) : HoldLeaves m m := ⟨fun _ _ _ => rfl, rfl, rfl, rfl, rfl, rfl, rfl⟩

theorem HoldLeaves.trans {m n t : Mod} (h : HoldLeaves m n) (h' : HoldLeaves n t) : HoldLeaves m t :=
  ⟨fun x h1 h2 => (h'.rd x h1 h2).trans (h.rd x h1 h2), h'.nv.trans h.nv, h'.sw.trans h.sw, h'.pwr.trans h.pwr, h'.upd.trans h.upd,
    h'.ken.trans h.ken, h'.shep.trans h.shep⟩

theorem HoldLeaves.ite {c : Prop} [Decidable c] {m a b : Mod} (ha : HoldLeaves m a) (hb : HoldLeaves m b) : HoldLeaves m (if c then a else b) := by
  split
  · exact ha
  · exact hb

theorem HoldLeaves.brace (m : Mod) (x : BraceSt) : HoldLeaves m { m with brace := x } := ⟨fun _ _ _ => rfl, rfl, rfl, rfl, rfl, rfl, rfl⟩

theorem HoldLeaves.time (m : Mod) (x : TimeSt) : HoldLeaves m { m with time := x } := ⟨fun _ _ _ => rfl, rfl, rfl, rfl, rfl, rfl, rfl⟩

theorem HoldLeaves.emit (m : Mod) (o : Out) : HoldLeaves m (m.emit o) := ⟨fun _ _ _ => rfl, rfl, rfl, rfl, rfl, rfl, rfl⟩

theorem HoldLeaves.setF (m : Mod) (f : Fld) (v : Nat) (h : f.off = R.BRACE_STAT ∨ f.off = R.LEASH_STAT) : HoldLeaves m (m.setF f v) := by
  refine ⟨fun x h1 h2 => Mod.rd_setF_ne _ _ _ ?_, by simp, by simp, by simp, by simp, by simp, by simp⟩
  rcases h with h | h <;> rw [h]
  · exact h1
  · exact h2

theorem HoldLeaves.setB (m : Mod) (f : Fld) (b : Bool) (h : f.off = R.BRACE_STAT ∨ f.off = R.LEASH_STAT) : HoldLeaves m (m.setB f b) := .setF m f _ h

theorem HoldLeaves.leashShow (m : Mod) : HoldLeaves m m.leashShow := by
  rw [Mod.leashShow]
  exact .ite (.refl m) (((setB m _ _ (.inr rfl)).trans (.setB _ _ _ (.inr rfl))).trans (.emit _ _))

theorem HoldLeaves.pulsesOff (m : Mod) : HoldLeaves m m.pulsesOff :=
  Mod.each_induct (P := HoldLeaves m) m (.refl m) fun n i _ h => by
    dsimp only
    split
    · exact h
    · exact (h.trans (.time _ _)).trans (.emit _ _)

theorem HoldLeaves.braceShow (m : Mod) : HoldLeaves m m.braceShow :=
  ⟨fun x h1 h2 => m.braceShow_spec.rd x h1 h2, by simp [Mod.braceShow], by simp [Mod.braceShow], by simp [Mod.braceShow], by simp [Mod.braceShow],
    by simp [Mod.braceShow], by simp [Mod.braceShow]⟩

theorem HoldLeaves.gate (m : Mod) (on : Bool) : HoldLeaves m (m.gate on) := by
  rw [Mod.gate]
  have h := (setB m F.BRACE_STAT_GATE_OPEN on (.inl rfl)).trans (.leashShow _)
  exact (HoldLeaves.ite (h.trans (.pulsesOff _)) h).trans (.braceShow _)

theorem HoldLeaves.holdOff (m : Mod) : HoldLeaves m m.holdOff := by
  rw [Mod.holdOff]
  exact ((HoldLeaves.ite ((setB m F.BRACE_STAT_HOLD_OUT false (.inl rfl)).trans (.emit _ _)) (.refl m)).trans (.brace _ _)).trans (.gate _ _)

/-! ## The timebase through a reset that keeps it (R562) -/

theorem Mod.timeHeld_keeps (m : Mod) (k : Clock) :
    (m.timeHeld k).nv = m.nv ∧ (m.timeHeld k).sw = m.sw ∧ (m.timeHeld k).pwr = m.pwr ∧ (m.timeHeld k).upd = m.upd ∧ (m.timeHeld k).ken = m.ken := by
  unfold Mod.timeHeld
  extract_lets src a b
  have hb : b.nv = m.nv ∧ b.sw = m.sw ∧ b.pwr = m.pwr ∧ b.upd = m.upd ∧ b.ken = m.ken := by
    by_cases h : a.on F.TIME_STAT_RETURNING = true
    · rw [show b = a.endReturn from if_pos h]
      simp [Mod.endReturn, a]
    · rw [show b = a from if_neg h]
      exact ⟨rfl, rfl, rfl, rfl, rfl⟩
  clear_value b
  split
  · exact hb
  · simpa using hb

/-- LOCKED or HOLDOVER becomes HOLDOVER, and UNTRACEABLE stays (R562). -/
theorem Mod.timeHeld_tstate (m : Mod) (k : Clock) (hret : m.on F.TIME_STAT_RETURNING = false) :
    (m.timeHeld k).tstate = if m.tstate = 0 then 1 else m.tstate := by
  let n : Mod := { m with time := { m.time with partner := none, step := none, newErr := none, cfgSince := none } }
  have hn : ¬ n.on F.TIME_STAT_RETURNING = true := by
    rw [show n.on F.TIME_STAT_RETURNING = false from hret]
    exact Bool.false_ne_true
  have hst : n.tstate = m.tstate := rfl
  by_cases h : m.tstate = 0
  · rw [if_pos h]
    unfold Mod.timeHeld
    extract_lets src a b
    rw [show b = n from if_neg hn, if_neg (not_not.mpr (hst.trans h))]
    exact Mod.fld_setF _ _ _ (by decide) (by decide)
  · rw [if_neg h]
    unfold Mod.timeHeld
    extract_lets src a b
    rw [show b = n from if_neg hn, if_pos (hst.trans_ne h)]
    rfl

/-! ## What a reset leaves of the module's registers and blocks -/

theorem AMap.find_filter {α : Type} (p : Nat → Bool) (l : AMap α) (q : Nat) :
    AMap.find (l.filter fun e => p e.1) q = if p q then AMap.find l q else none := by
  induction l with
  | nil => simp [AMap.find]
  | cons e l ih =>
    obtain ⟨x, v⟩ := e
    by_cases hx : p x = true <;> by_cases hq : q = x
    · subst hq
      simp [AMap.find, hx]
    · simp [List.filter, hx, AMap.find, hq, ih]
    · subst hq
      simp [List.filter, hx, ih]
    · simp [List.filter, hx, AMap.find, hq, ih]

/-- A reset keeps the registers named and puts every other at its reset value. -/
theorem Mod.rd_resetCore (m : Mod) (warm : Bool) {x : Nat} (hd : x ≠ R.PWR_DOM_STAT) (hl : x ≠ R.LEASH_STAT) (hb : x ≠ R.BRACE_STAT) :
    (m.resetCore warm).rd x = if keptReg warm x then m.rd x else (regReset x).toNat := by
  unfold Mod.resetCore
  extract_lets keep s1 s2 s3 s4 r s5 r'
  have hr : r.rd x = if keptReg warm x then m.rd x else (regReset x).toNat := by
    rw [Mod.rd, AMap.get, show r.live = m.live.filter fun e => keptReg warm e.1 from rfl, AMap.find_filter (keptReg warm)]
    split
    · rfl
    · rfl
  rw [Mod.rd_wr_ne _ _ _ hd, ← hr]
  cases warm
  · rfl
  · exact (Mod.rd_setB_ne _ _ _ hb).trans ((Mod.rd_setB_ne _ _ _ hl).trans (Mod.rd_setB_ne _ _ _ hl))

theorem Mod.domStat_resetCore (m : Mod) : (m.resetCore false).rd R.PWR_DOM_STAT = 1 := Mod.rd_wr_same _ _ _

/-- A field of LEASH_STAT or BRACE_STAT that no pin shows is at its reset value after a reset. -/
theorem Mod.fld_resetCore (m : Mod) (warm : Bool) {f : Fld} (ho : f.off = R.LEASH_STAT ∨ f.off = R.BRACE_STAT) (hi : f.hi ≤ 31)
    (ha : f.off ≠ R.LEASH_STAT ∨ 3 < f.lo ∨ f.hi < 2) (hb : f.off ≠ R.BRACE_STAT ∨ 4 < f.lo ∨ f.hi < 4) :
    (m.resetCore warm).fld f = bitsOf (regReset f.off).toNat f.hi f.lo := by
  have hkept : keptReg warm f.off = false := by rcases ho with h | h <;> rw [h] <;> cases warm <;> decide
  unfold Mod.resetCore
  extract_lets keep s1 s2 s3 s4 r s5 r'
  have hr : r.fld f = bitsOf (regReset f.off).toNat f.hi f.lo := by
    rw [Mod.fld, Mod.rd, AMap.get, show r.live = m.live.filter fun e => keptReg warm e.1 from rfl, AMap.find_filter (keptReg warm), hkept]
    rfl
  rw [Mod.fld_congr (Mod.rd_wr_ne _ _ _ (by rcases ho with h | h <;> rw [h] <;> decide)), ← hr]
  cases warm
  · rfl
  · have hl : ∀ {g : Fld}, g.off = R.LEASH_STAT → 2 ≤ g.lo → g.hi ≤ 3 → f.off ≠ g.off ∨ g.hi < f.lo ∨ f.hi < g.lo := fun h1 h2 h3 => by
      rw [h1]; omega
    exact (Mod.fld_setB_ne _ _ _ (by decide) hi hb).trans ((Mod.fld_setB_ne _ _ _ (by decide) hi (hl rfl (by decide) (by decide))).trans
      (Mod.fld_setB_ne _ _ _ (by decide) hi (hl rfl (by decide) (by decide))))

/-- The blocks whose state a reset keeps, and those it loses. -/
theorem Mod.resetCore_keeps (m : Mod) (warm : Bool) :
    (m.resetCore warm).nv = m.nv ∧ (m.resetCore warm).pwr = m.pwr.kept ∧ (m.resetCore warm).upd = m.upd.kept ∧ (m.resetCore warm).ken = m.ken.kept
      ∧ (m.resetCore warm).sw = (if warm then m.sw else SwSt.reset) ∧ (m.resetCore warm).time = (if warm then m.time else TimeSt.reset) := by
  cases warm
  · exact ⟨rfl, rfl, rfl, rfl, rfl, rfl⟩
  · exact ⟨rfl, rfl, rfl, rfl, rfl, rfl⟩

theorem Mod.resetCore_loses (m : Mod) (warm : Bool) :
    (m.resetCore warm).gnss = GnssSt.reset ∧ (m.resetCore warm).ring = RingBlk.reset ∧ (m.resetCore warm).shep.cells = [] := by
  cases warm
  · exact ⟨rfl, rfl, rfl⟩
  · exact ⟨rfl, rfl, rfl⟩

/-- The module of a reset, before PWR notes which reset it was. -/
def Mod.resetBase (m : Mod) (k : Clock) (warm : Bool) : Mod := (if warm then m.holdOff.timeHeld k else m.holdOff).resetCore warm

theorem Mod.resetBase_warm (m : Mod) (k : Clock) : m.resetBase k true = (m.holdOff.timeHeld k).resetCore true := by rw [Mod.resetBase, if_pos rfl]

theorem Mod.resetBase_cold (m : Mod) (k : Clock) : m.resetBase k false = m.holdOff.resetCore false := by
  rw [Mod.resetBase, if_neg Bool.false_ne_true]

/-- The module with PWR's own state put down. -/
def Mod.notePwr (m : Mod) (p : PwrSt) : Mod := { m with pwr := p }

theorem Mod.rd_notePwr (m : Mod) (p : PwrSt) (x : Nat) : (m.notePwr p).rd x = m.rd x := rfl

@[simp] theorem Mod.notePwr_pwr (m : Mod) (p : PwrSt) : (m.notePwr p).pwr = p := rfl
@[simp] theorem Mod.notePwr_nv (m : Mod) (p : PwrSt) : (m.notePwr p).nv = m.nv := rfl
@[simp] theorem Mod.notePwr_ken (m : Mod) (p : PwrSt) : (m.notePwr p).ken = m.ken := rfl
@[simp] theorem Mod.notePwr_upd (m : Mod) (p : PwrSt) : (m.notePwr p).upd = m.upd := rfl
@[simp] theorem Mod.notePwr_shep (m : Mod) (p : PwrSt) : (m.notePwr p).shep = m.shep := rfl
@[simp] theorem Mod.notePwr_gnss (m : Mod) (p : PwrSt) : (m.notePwr p).gnss = m.gnss := rfl
@[simp] theorem Mod.notePwr_ring (m : Mod) (p : PwrSt) : (m.notePwr p).ring = m.ring := rfl
@[simp] theorem Mod.notePwr_sw (m : Mod) (p : PwrSt) : (m.notePwr p).sw = m.sw := rfl
@[simp] theorem Mod.notePwr_time (m : Mod) (p : PwrSt) : (m.notePwr p).time = m.time := rfl

/-- A reset keeps the clock or starts it anew, and PWR notes its kind (R555, R556). -/
theorem Mod.beginReset_eq (m : Mod) (k : Clock) (kind : Nat) (act : Bool) (warm : Bool) (hw : (decide (3 ≤ kind) && decide (kind ≤ 6)) = warm) :
    ∃ p : PwrSt, m.beginReset k kind act = (if warm then k else k.cold, (m.resetBase k warm).notePwr p)
      ∧ p.step = (m.resetBase k warm).pwr.step ∧ p.mode = (m.resetBase k warm).pwr.mode ∧ p.kind = kind ∧ p.activation = act
      ∧ p.vbatOk = (m.resetBase k warm).pwr.vbatOk ∧ p.aonFresh = (m.resetBase k warm).pwr.aonFresh := by
  subst hw
  exact ⟨_, rfl, rfl, rfl, rfl, rfl, rfl, rfl⟩

/-- What a reset of either sort keeps of the module before it. -/
theorem Mod.resetBase_keeps (m : Mod) (k : Clock) (warm : Bool) :
    (m.resetBase k warm).nv = m.nv ∧ (m.resetBase k warm).pwr = m.pwr.kept ∧ (m.resetBase k warm).upd = m.upd.kept
      ∧ (m.resetBase k warm).ken = m.ken.kept ∧ (m.resetBase k warm).sw = if warm then m.sw else SwSt.reset := by
  have hh := HoldLeaves.holdOff m
  obtain ⟨tnv, tsw, tpwr, tupd, tken⟩ := m.holdOff.timeHeld_keeps k
  cases warm
  · rw [m.resetBase_cold k]
    obtain ⟨hnv, hpwr, hupd, hken, hsw, -⟩ := m.holdOff.resetCore_keeps false
    simp only [Bool.false_eq_true, if_false] at hsw ⊢
    exact ⟨hnv.trans hh.nv, hpwr.trans (congrArg _ hh.pwr), hupd.trans (congrArg _ hh.upd), hken.trans (congrArg _ hh.ken), hsw⟩
  · rw [m.resetBase_warm k]
    obtain ⟨hnv, hpwr, hupd, hken, hsw, -⟩ := (m.holdOff.timeHeld k).resetCore_keeps true
    simp only [if_true] at hsw ⊢
    exact ⟨(hnv.trans tnv).trans hh.nv, hpwr.trans (congrArg _ (tpwr.trans hh.pwr)), hupd.trans (congrArg _ (tupd.trans hh.upd)),
      hken.trans (congrArg _ (tken.trans hh.ken)), (hsw.trans tsw).trans hh.sw⟩

/-- The Leash is TRIPPED, the gate closed and the hold line released after a reset (R407). -/
theorem Mod.resetBase_safe (m : Mod) (k : Clock) (warm : Bool) :
    (m.resetBase k warm).lstate = 0 ∧ (m.resetBase k warm).on F.BRACE_STAT_GATE_OPEN = false ∧ (m.resetBase k warm).on F.BRACE_STAT_HOLD_OUT = false := by
  have hf := fun f ho hi ha hb => (if warm then m.holdOff.timeHeld k else m.holdOff).fld_resetCore warm (f := f) ho hi ha hb
  refine ⟨(hf _ (.inl rfl) (by decide) (by decide) (by decide)).trans (by decide), ?_, ?_⟩
  · exact (congrArg (· != 0) (hf F.BRACE_STAT_GATE_OPEN (.inr rfl) (by decide) (by decide) (by decide))).trans (by decide)
  · exact (congrArg (· != 0) (hf F.BRACE_STAT_HOLD_OUT (.inr rfl) (by decide) (by decide) (by decide))).trans (by decide)

/-- The time state after a reset that keeps the timebase (R562). -/
theorem Mod.resetBase_tstate (m : Mod) (k : Clock) (hret : m.on F.TIME_STAT_RETURNING = false) :
    (m.resetBase k true).tstate = if m.tstate = 0 then 1 else m.tstate := by
  have hrd := (HoldLeaves.holdOff m).rd R.TIME_STAT (by decide) (by decide)
  have hst : m.holdOff.tstate = m.tstate := Mod.fld_congr hrd
  have hcore : ((m.holdOff.timeHeld k).resetCore true).rd R.TIME_STAT = (m.holdOff.timeHeld k).rd R.TIME_STAT :=
    ((m.holdOff.timeHeld k).rd_resetCore true (by decide) (by decide) (by decide)).trans (if_pos (by decide))
  rw [m.resetBase_warm k]
  exact ((Mod.fld_congr hcore).trans (m.holdOff.timeHeld_tstate k ((Mod.on_congr hrd).trans hret))).trans (by rw [hst])

/-- The blocks a reset of either sort puts at their reset state. -/
theorem Mod.resetBase_loses (m : Mod) (k : Clock) (warm : Bool) :
    (m.resetBase k warm).gnss = GnssSt.reset ∧ (m.resetBase k warm).ring = RingBlk.reset ∧ (m.resetBase k warm).shep.cells = [] :=
  Mod.resetCore_loses _ warm

/-- The timebase and the domains after a reset that powers them anew. -/
theorem Mod.resetBase_anew (m : Mod) (k : Clock) : (m.resetBase k false).time = TimeSt.reset ∧ (m.resetBase k false).rd R.PWR_DOM_STAT = 1 := by
  rw [m.resetBase_cold k]
  obtain ⟨-, -, -, -, -, htime⟩ := m.holdOff.resetCore_keeps false
  exact ⟨htime, m.holdOff.domStat_resetCore⟩

/-- What holds of a reset of any kind. -/
theorem Mod.beginReset_spec (m : Mod) (k : Clock) (kind : Nat) (act : Bool) :
    let t := (m.beginReset k kind act).2
    t.pwr.step = 0 ∧ t.pwr.mode = 0 ∧ t.pwr.kind = kind ∧ t.pwr.activation = act ∧ t.nv = m.nv ∧ t.lstate = 0
      ∧ t.on F.BRACE_STAT_GATE_OPEN = false ∧ t.on F.BRACE_STAT_HOLD_OUT = false ∧ t.ken = m.ken.kept ∧ t.upd = m.upd.kept := by
  obtain ⟨p, heq, hstep, hmode, hkind, hact, -⟩ := m.beginReset_eq k kind act _ rfl
  generalize (decide (3 ≤ kind) && decide (kind ≤ 6)) = warm at heq hstep hmode
  obtain ⟨hnv, hpwr, hupd, hken, -⟩ := m.resetBase_keeps k warm
  obtain ⟨hl, hg, hh⟩ := m.resetBase_safe k warm
  simp only [heq, Mod.notePwr_pwr, Mod.notePwr_nv, Mod.notePwr_ken, Mod.notePwr_upd]
  exact ⟨hstep.trans (congrArg PwrSt.step hpwr), hmode.trans (congrArg PwrSt.mode hpwr), hkind, hact, hnv, (Mod.fld_congr (Mod.rd_notePwr ..)).trans hl,
    (Mod.on_congr (Mod.rd_notePwr ..)).trans hg, (Mod.on_congr (Mod.rd_notePwr ..)).trans hh, hken, hupd⟩

/-- Settles O55: a reset of each kind, from what it keeps and what it loses. -/
theorem resetsKeepAndLose : Obligations.ResetsKeepAndLose := by
  intro m k kind act h1 h7
  dsimp only
  obtain ⟨hstep, hmode, hkind, hact, hnv, hl, hg, hh, hken, -⟩ := m.beginReset_spec k kind act
  obtain ⟨p, heq, -⟩ := m.beginReset_eq k kind act _ rfl
  refine ⟨hstep, hmode, hkind, hact, hnv, hl, hg, hh, ?_, by rw [hken]; rfl, by rw [hken]; rfl, ?_⟩
  · rw [heq]
    split
    · rfl
    · rfl
  · generalize hw : (decide (3 ≤ kind) && decide (kind ≤ 6)) = warm at heq
    obtain ⟨hgnss, hring, hcells⟩ := m.resetBase_loses k warm
    obtain ⟨-, -, -, -, hsw⟩ := m.resetBase_keeps k warm
    simp only [heq, Mod.notePwr_shep, Mod.notePwr_gnss, Mod.notePwr_ring, Mod.notePwr_sw, Mod.notePwr_time, Mod.rd_notePwr]
    refine ⟨hcells, hgnss, hring, fun h3 h6 => ?_, fun hcold => ?_⟩
    · have hwarm : warm = true := by rw [← hw]; simp [h3, h6]
      subst hwarm
      exact ⟨if_pos rfl, hsw.trans (if_pos rfl), fun hret => (Mod.fld_congr (Mod.rd_notePwr ..)).trans (m.resetBase_tstate k hret)⟩
    · have hwarm : warm = false := by rw [← hw]; simp; omega
      subst hwarm
      obtain ⟨htime, hdom⟩ := m.resetBase_anew k
      exact ⟨htime, hsw.trans (if_neg Bool.false_ne_true), hdom⟩

end Sys2Proof.Machine
end

section
/-! SUPPORT. The boot record and the trial of an update (R536 to R546). -/

namespace Sys2Proof.Machine

variable {m : Mod} {k : Clock}

/-! ## The boot record -/

theorem tickDiff_succ (a : Nat) : tickDiff a ((a + 1) % 4294967296) = -1 := by
  have h : (a % 4294967296 + 4294967296 - (a + 1) % 4294967296 % 4294967296) % 2 ^ 32 = 4294967295 := by omega
  rw [tickDiff, signed, h]
  decide

theorem tickDiff_of_succ (a : Nat) : tickDiff ((a + 1) % 4294967296) a = 1 := by
  have h : ((a + 1) % 4294967296 % 4294967296 + 4294967296 - a % 4294967296) % 2 ^ 32 = 1 := by omega
  rw [tickDiff, signed, h]
  decide

/-- Copy A of the boot record is the one in force: valid, and copy B is not or is older. -/
def UpdSt.aInForce (u : UpdSt) : Bool := u.bootA.valid && (!u.bootB.valid || decide (0 ≤ tickDiff u.bootA.seq u.bootB.seq))

theorem UpdSt.copy_eq (u : UpdSt) : u.copy = if u.aInForce then some 0 else if u.bootB.valid then some 1 else none := rfl

theorem UpdSt.rec_of_a {u : UpdSt} (h : u.aInForce = true) : u.copy = some 0 ∧ u.rec_ = u.bootA := by
  have hc : u.copy = some 0 := by rw [u.copy_eq, if_pos h]
  exact ⟨hc, by rw [UpdSt.rec_, hc]; rfl⟩

theorem UpdSt.rec_of_b {u : UpdSt} (h : u.aInForce = false) (hb : u.bootB.valid = true) : u.copy ≠ some 0 ∧ u.rec_ = u.bootB := by
  have hc : u.copy = some 1 := by rw [u.copy_eq, h, if_neg Bool.false_ne_true, if_pos hb]
  exact ⟨by rw [hc]; decide, by rw [UpdSt.rec_, hc]; rfl⟩

theorem UpdSt.copy_of_none {u : UpdSt} (h : u.aInForce = false) (hb : u.bootB.valid = false) : u.copy ≠ some 0 := by
  rw [u.copy_eq, h, hb, if_neg Bool.false_ne_true, if_neg Bool.false_ne_true]
  decide

/-- The copy of the boot record written last is the one in force (R530). -/
theorem UpdSt.rec_bootWrite (u : UpdSt) (r : BootRec) : (u.bootWrite r).rec_ = { r with seq := (u.rec_.seq + 1) % 4294967296, valid := true } := by
  cases ha : u.aInForce
  · cases hb : u.bootB.valid
    · rw [UpdSt.bootWrite, if_neg (UpdSt.copy_of_none ha hb)]
      exact (UpdSt.rec_of_a (by simp [UpdSt.aInForce, hb])).2
    · obtain ⟨hc, hrec⟩ := UpdSt.rec_of_b ha hb
      rw [UpdSt.bootWrite, if_neg hc, hrec]
      exact (UpdSt.rec_of_a (by simp [UpdSt.aInForce, tickDiff_of_succ])).2
  · obtain ⟨hc, hrec⟩ := UpdSt.rec_of_a ha
    rw [UpdSt.bootWrite, if_pos hc, hrec]
    exact (UpdSt.rec_of_b (by simp [UpdSt.aInForce, tickDiff_succ]) rfl).2

/-! ## The trial -/

/-- A confirmed trial: the release runs on, and what was staged in it is verified (R537). -/
theorem Mod.confirm_spec (m : Mod) (k : Clock) :
    let t := m.confirm k
    t.updState = (if m.on F.UPD_STAT_PKG_STAGED then 2 else 0) ∧ t.upd.rec_.trial = false ∧ t.upd.rec_.run = m.upd.rec_.run
      ∧ t.upd.prevValid = true ∧ t.upd.trialAt = none ∧ t.bit R.UPD_EVT 4 = true ∧ t.on F.UPD_STAT_PKG_STAGED = false := by
  unfold Mod.confirm
  extract_lets a pkg b c
  have hbc : UpdKeeps b c := by
    simp only [c]
    split
    · exact .updEvt _ _
    · exact .refl _
  have hcu : c.upd = a.upd := by
    have hb : b.upd = a.upd := by simp [b, Mod.setUpdState]
    refine Eq.trans ?_ hb
    simp only [c]
    split
    · simp [Mod.updEvt]
    · rfl
  have hbs : b.updState = if pkg then 2 else 0 := by
    refine (Mod.fld_congr (Mod.rd_wr_ne _ _ _ (by decide))).trans ((Mod.fld_setB_ne _ _ _ (by decide) (by decide) (by decide)).trans ?_)
    exact Mod.updState_set _ (by split <;> decide)
  have hbp : b.on F.UPD_STAT_PKG_STAGED = false :=
    (Mod.on_congr (Mod.rd_wr_ne _ _ _ (by decide))).trans (Mod.on_setB _ _ _ (by decide) (by decide))
  have hk := (hbc.trans (.updShow _)).trans (.setLast _ k 1)
  have hrec : a.upd.rec_ = { { m.upd.rec_ with trial := false, count := 0 } with seq := (m.upd.rec_.seq + 1) % 4294967296, valid := true } :=
    UpdSt.rec_bootWrite _ _
  have hu : ((c.updShow.setLast k 1).updEvt 4).upd = { a.upd with last := 1 } := by
    rw [Mod.updEvt, Mod.evt_upd, Mod.setLast_upd, Mod.updShow_upd, hcu]
  have hrec' : ((c.updShow.setLast k 1).updEvt 4).upd.rec_ = a.upd.rec_ := by rw [hu]; rfl
  have hk' := hk.trans (.updEvt _ 4)
  refine ⟨hk'.state.trans hbs, ?_, ?_, ?_, ?_, Mod.bit_updEvt _ (by decide), ?_⟩
  · rw [hrec', hrec]
  · rw [hrec', hrec]
  · rw [hu]
    rfl
  · rw [hu]
    rfl
  · exact (congrArg (· != 0) (hk'.stat F.UPD_STAT_PKG_STAGED (by unfold UpdFixed; decide))).trans hbp

/-- The fuses of the running release (R540). -/
theorem Mod.fused_spec (m : Mod) (v : Nat) (hv : v < 4294967296) :
    let n := (m.cfgSet R.UPD_FUSE_SVN v).updAt fun u => { u with fused := v, prevValid := u.prevValid && decide (v ≤ (u.bank u.otherBank).svn) }
    (n.updShow.updEvt 8).upd.fused = v ∧ (n.updShow.updEvt 8).rd R.UPD_SVN_FUSED = v ∧ (n.updShow.updEvt 8).bit R.UPD_EVT 8 = true := by
  intro n
  obtain ⟨-, hshow⟩ := n.updShow_shows
  refine ⟨?_, ?_, Mod.bit_updEvt _ (by decide)⟩
  · rw [Mod.updEvt, Mod.evt_upd, Mod.updShow_upd]
    rfl
  · rw [Mod.updEvt, Mod.rd_evt_ne _ _ _ _ _ (by decide) (by decide), hshow]
    exact Nat.mod_eq_of_lt hv

/-- A release activated at its tick (R534): the other bank set is named, on trial, and a reset of kind 5 begins. -/
theorem Mod.updRestart_spec (m : Mod) (k : Clock) :
    let t := (m.updRestart k).2
    t.upd.rec_.run = m.upd.otherBank ∧ t.upd.rec_.trial = true ∧ t.pwr.step = 0 ∧ t.pwr.kind = 5 ∧ t.pwr.activation = true
      ∧ t.on F.BRACE_STAT_GATE_OPEN = false ∧ t.nv = m.nv := by
  unfold Mod.updRestart
  extract_lets n
  obtain ⟨hstep, -, hkind, hact, hnv, -, hg, -, -, hupd⟩ := (n.inc R.UPD_ACT_CNT).beginReset_spec k 5 true
  have hrec : n.upd.rec_ = { seq := (m.upd.rec_.seq + 1) % 4294967296, valid := true, run := m.upd.otherBank, trial := true, count := 0 } :=
    UpdSt.rec_bootWrite _ _
  have hu : (((n.inc R.UPD_ACT_CNT).beginReset k 5 true).2).upd.rec_ = n.upd.rec_ := by
    rw [hupd, Mod.inc_upd]; rfl
  refine ⟨?_, ?_, hstep, hkind, hact, hg, ?_⟩
  · rw [hu, hrec]
  · rw [hu, hrec]
  · rw [hnv, Mod.inc_nv]; rfl

/-- A trial that failed (R538): the reset begins and the boot record stands. -/
theorem Mod.trialFail_spec (m : Mod) (k : Clock) (last : Nat) :
    let t := (m.trialFail k last).2
    t.upd.lastDue = some last ∧ t.pwr.step = 0 ∧ t.pwr.activation = true ∧ t.upd.rec_ = m.upd.rec_ := by
  obtain ⟨hstep, -, -, hact, -, -, -, -, -, hupd⟩ := (m.updAt fun u => { u with lastDue := some last }).beginReset_spec k 5 true
  refine ⟨?_, hstep, hact, ?_⟩
  · exact congrArg UpdSt.lastDue hupd
  · exact (congrArg UpdSt.rec_ hupd :)

/-- A module whose reset has begun runs no more. -/
theorem Mod.running_of_step (h : m.pwr.step = 0) : m.running = false := by simp [Mod.running, h]

/-- A command of a tick's end that acts on the next tick's clock and, unless it began a reset, leaves the clock as it was. -/
theorem answers_of_tickEnd {c : Instr} {s : State} {dt : Nat} {f : Mod → Clock → Clock × Mod} {r : Clock × Mod} {P : State → Prop}
    (hexec : exec c s = .next (s.evClk dt fun k m => if !m.running || !decide (k.nextBoundary ≤ k.raw) then (k, m)
      else match f m k.beginTick with | (c, m) => (if m.running then k else c, m)))
    (hrun : s.m.running = true) (hend : (s.now dt).ended = true) (hr : f s.found (s.now dt).beginTick = r) (hstep : r.2.pwr.step = 0)
    (hP : P (s.left r)) : Answers c s P := by
  have hguard : ¬ (!s.found.running || !decide ((s.now dt).nextBoundary ≤ (s.now dt).raw)) = true := by
    have hend' : decide ((s.now dt).nextBoundary ≤ (s.now dt).raw) = true := hend
    rw [State.found_running, hrun, hend']
    decide
  refine answers_of_evClk hexec ?_
  rw [if_neg hguard, hr]
  obtain ⟨c, t⟩ := r
  have hstop : ¬ t.running = true := by rw [Mod.running_of_step hstep]; exact Bool.false_ne_true
  dsimp only
  rw [if_neg hstop]
  exact hP

/-- Settles O53: the boot record written last is the one in force, and a reset keeps it. -/
theorem trialsAndFuses : Obligations.TrialsAndFuses := by
  refine ⟨fun s dt at_ hrun hend hat hst hle hpair hskip hrole => ?_, fun s dt h hlive hst hken hroll hpair => ?_, fun s dt h hlive hst hroll => ?_,
    fun s dt atTick h hlive hst hprev htick hconf => ?_, fun s dt since hrun hend hat hst hdue => ?_, fun s dt v comp h hv hf hst => ?_⟩
  · have heq : s.found.updActivate (s.now dt).beginTick = s.found.updRestart (s.now dt).beginTick := by
      have hrole' : ¬ (s.found.upd.pair && s.found.role == 1) = true := by
        rw [Bool.and_eq_true, beq_iff_eq]
        rintro ⟨h1, h2⟩
        rcases hrole with h | h
        · exact Bool.false_ne_true (h.symm.trans h1)
        · exact h h2
      rw [Mod.updActivate, show s.found.upd.at_ = some at_ from hat]
      refine (if_neg ?_).trans ((if_neg ?_).trans ((if_neg ?_).trans (if_neg hrole')))
      · rintro (h | h)
        · exact h hst
        · exact absurd hle (Nat.not_le.mpr h)
      · rw [show s.found.upd.pairAt = none from hpair]; exact Bool.false_ne_true
      · rw [show s.found.actSkipped = false from hskip]; exact Bool.false_ne_true
    obtain ⟨hrun', htrial, hstep, hrest⟩ := s.found.updRestart_spec (s.now dt).beginTick
    exact answers_of_tickEnd rfl hrun hend heq hstep ⟨hrun', htrial, hstep, hrest⟩
  · obtain ⟨hs, htrial, hrun, hprev, hat, he, hp⟩ := s.found.confirm_spec (s.now dt)
    have hk := UpdKeeps.reply (s.found.confirm (s.now dt)) (s.now dt) 8 6 0 h []
    refine answers_of_updCmd rfl hlive ((if_neg (by decide)).trans ((if_neg ?_).trans (if_neg ?_)))
      ⟨hk.state.trans hs, ?_, ?_, ?_, ?_, hk.evt _ he, (congrArg (· != 0) (hk.stat F.UPD_STAT_PKG_STAGED (by unfold UpdFixed; decide))).trans hp⟩
    · rintro (h | h | h)
      · exact h hst
      · exact hken h
      · exact Bool.false_ne_true (hroll.symm.trans h)
    · rw [show s.found.upd.pair = false from hpair]; exact Bool.false_ne_true
    · rw [State.after_m, Mod.reply_upd, htrial]
    · rw [State.after_m, Mod.reply_upd, hrun]; rfl
    · rw [State.after_m, Mod.reply_upd, hprev]
    · rw [State.after_m, Mod.reply_upd, hat]
  · have hk := UpdKeeps.reply (s.found.updAt fun u => { u with rollNow := true }) (s.now dt) 8 7 0 h []
    refine answers_of_updCmd rfl hlive ((if_pos hst).trans ((if_neg ?_).trans (if_neg (by decide)))) ⟨?_, hk.state.trans hst⟩
    · rw [show s.found.upd.rollNow = false from hroll]; exact Bool.false_ne_true
    · rw [State.after_m, Mod.reply_upd]; rfl
  · have hst' : s.found.updState ∈ [0, 1, 2, 4] := hst
    simp only [List.mem_cons, List.not_mem_nil, or_false] at hst'
    have hconf' : ¬ (atTick = 0 ∧ s.found.upd.confAt = some (s.now dt).tickNo) := by
      rintro ⟨h0, hc⟩
      exact Option.some_ne_none _ (hc.symm.trans (hconf h0))
    obtain ⟨hs, hu, -, -⟩ := s.found.updPlan_spec (s.now dt) atTick (s.found.on F.BRACE_CTL_MODE) true
    have hk := UpdKeeps.reply (s.found.updPlan (s.now dt) atTick (s.found.on F.BRACE_CTL_MODE) true) (s.now dt) 8 7 0 h []
    refine answers_of_updCmd rfl hlive ((if_neg (by omega)).trans ((if_neg ?_).trans ((if_neg ?_).trans (if_neg (by omega)))))
      ⟨hk.state.trans hs, ?_, ?_⟩
    · rintro (h | h | h)
      · omega
      · omega
      · exact hconf' h
    · rw [show s.found.upd.prevValid = true from hprev]; decide
    · rw [State.after_m, Mod.reply_upd, hu]
    · rw [State.after_m, Mod.reply_upd, hu]; rfl
  · have heq : s.found.trialExpire (s.now dt).beginTick = s.found.trialFail (s.now dt).beginTick 2 := by
      rw [Mod.trialExpire, show s.found.upd.trialAt = some since from hat]
      exact if_pos ⟨hst, hdue⟩
    obtain ⟨hlast, hstep, hact, hrec⟩ := s.found.trialFail_spec (s.now dt).beginTick 2
    exact answers_of_tickEnd rfl hrun hend heq hstep ⟨hlast, hstep, hact, hrec⟩
  · have heq := commit_of_ready (fun m v => if v ≠ m.rd R.UPD_SVN_RUN ∨ v ≤ m.upd.fused ∨ m.updState = 6 then m.updEvt 9
      else
        let m := m.cfgSet R.UPD_FUSE_SVN v
        let m := m.updAt fun u => { u with fused := v, prevValid := u.prevValid && decide (v ≤ (u.bank u.otherBank).svn) }
        m.updShow.updEvt 8) h
    refine answers_of_eq rfl (heq.trans (if_neg ?_)) (Mod.fused_spec _ _ h.2.1)
    rintro (h | h | h)
    · exact h hv
    · exact absurd hf (Nat.not_lt.mpr h)
    · exact hst h

end Sys2Proof.Machine
end

section
/-! SUPPORT. The power states and their domains (R548 to R554). -/

namespace Sys2Proof.Machine

variable {m : Mod} {k : Clock}

/-! ## Bits that are cleared -/

/-- A bit that reads 0 still does when another is cleared. -/
theorem Mod.bit_clrBit_clear (m : Mod) (a i : Nat) {x j : Nat} (h : m.bit x j = false) : (m.clrBit a i).bit x j = false := by
  by_cases hx : x = a
  · subst hx
    simp only [Mod.bit, Mod.clrBit, Mod.rd_wr_same] at h ⊢
    rw [show 4294967296 = 2 ^ 32 from rfl, Nat.testBit_mod_two_pow, Nat.testBit_and, h]
    simp
  · exact (Mod.bit_congr (Mod.rd_clrBit_ne _ _ _ hx)).trans h

/-! ## What work of other blocks leaves of PWR -/

/-- PWR's registers, PWR_DOM_STAT among them, and its own state stand, and so do the counters' and any pending apply. -/
structure PwrKeeps (m t : Mod) : Prop where
  rd : ∀ x, 0x1000 ≤ x → x < 0x2000 → t.rd x = m.rd x
  pwr : t.pwr = m.pwr
  perf : t.perf = m.perf
  apply : t.glb.apply = m.glb.apply

theorem PwrKeeps.refl (m : Mod) : PwrKeeps m m := ⟨fun _ _ _ => rfl, rfl, rfl, rfl⟩

theorem PwrKeeps.trans {m n t : Mod} (h : PwrKeeps m n) (h' : PwrKeeps n t) : PwrKeeps m t :=
  ⟨fun x h1 h2 => (h'.rd x h1 h2).trans (h.rd x h1 h2), h'.pwr.trans h.pwr, h'.perf.trans h.perf, h'.apply.trans h.apply⟩

theorem PwrKeeps.ite {c : Prop} [Decidable c] {m a b : Mod} (ha : PwrKeeps m a) (hb : PwrKeeps m b) : PwrKeeps m (if c then a else b) := by
  split
  · exact ha
  · exact hb

theorem PwrKeeps.gnss (m : Mod) (x : GnssSt) : PwrKeeps m { m with gnss := x } := ⟨fun _ _ _ => rfl, rfl, rfl, rfl⟩

theorem PwrKeeps.pack (m : Mod) (x : PackSt) : PwrKeeps m { m with pack := x } := ⟨fun _ _ _ => rfl, rfl, rfl, rfl⟩

theorem PwrKeeps.air (m : Mod) (x : AirSt) : PwrKeeps m { m with air := x } := ⟨fun _ _ _ => rfl, rfl, rfl, rfl⟩

theorem PwrKeeps.time (m : Mod) (x : TimeSt) : PwrKeeps m { m with time := x } := ⟨fun _ _ _ => rfl, rfl, rfl, rfl⟩

theorem PwrKeeps.glb (m : Mod) {x : GlbSt} (h : x.apply = m.glb.apply) : PwrKeeps m { m with glb := x } := ⟨fun _ _ _ => rfl, rfl, rfl, h⟩

theorem PwrKeeps.wr (m : Mod) {a : Nat} (v : Nat) (h : 0x2000 ≤ a) : PwrKeeps m (m.wr a v) :=
  ⟨fun x _ h2 => Mod.rd_wr_ne _ _ _ (by omega), Mod.wr_pwr .., rfl, rfl⟩

theorem PwrKeeps.setF (m : Mod) (f : Fld) (v : Nat) (h : 0x2000 ≤ f.off) : PwrKeeps m (m.setF f v) := .wr m _ h

theorem PwrKeeps.setB (m : Mod) (f : Fld) (b : Bool) (h : 0x2000 ≤ f.off) : PwrKeeps m (m.setB f b) := .wr m _ h

theorem PwrKeeps.incF (m : Mod) (f : Fld) (h : 0x2000 ≤ f.off) : PwrKeeps m (m.incF f) := .wr m _ h

theorem PwrKeeps.satF (m : Mod) (f : Fld) (h : 0x2000 ≤ f.off) : PwrKeeps m (m.satF f) := by
  rw [Mod.satF]
  exact .ite (.setF m f _ h) (.refl m)

theorem PwrKeeps.gnssEvt (m : Mod) (b : Nat) : PwrKeeps m (m.gnssEvt b) :=
  ⟨fun x _ h2 => Mod.rd_evt_ne _ _ _ _ _ (by simp only [R.GNSS_EVT]; omega) (by simp only [R.RING_IRQ_STAT]; omega), Mod.evt_pwr ..,
    Mod.evt_perf .., congrArg _ (Mod.evt_glb ..)⟩

theorem PwrKeeps.each {α : Type} {f : Mod → α → Mod} (m : Mod) (l : List α) (hf : ∀ m x, PwrKeeps m (f m x)) : PwrKeeps m (m.each l f) :=
  Mod.each_induct (P := PwrKeeps m) m (.refl m) fun n x _ h => h.trans (hf n x)

theorem PwrKeeps.braceShow (m : Mod) : PwrKeeps m m.braceShow :=
  ⟨fun x _ h2 => m.braceShow_spec.rd x (by simp only [R.BRACE_STAT]; omega) (by simp only [R.LEASH_STAT]; omega), by simp [Mod.braceShow],
    by simp [Mod.braceShow], by simp [Mod.braceShow]⟩

@[simp] theorem Mod.braceShow_gnss (m : Mod) : m.braceShow.gnss = m.gnss := by simp [Mod.braceShow]

theorem PwrKeeps.packShow (m : Mod) : PwrKeeps m m.packShow := by
  rw [Mod.packShow]
  exact (((((setF m _ _ (by decide)).trans (.setB _ _ _ (by decide))).trans (.setF _ _ _ (by decide))).trans (.setF _ _ _ (by decide))).trans
    (.setF _ _ _ (by decide))).trans (.pack _ _)

/-- Counters of a block other than PWR start from 0 again. -/
theorem PwrKeeps.zeroCounters (m : Mod) {b : Nat} (hb : b ≠ 0) : PwrKeeps m (m.zeroCounters b) := by
  refine ⟨fun x h1 h2 => ?_, rfl, rfl, rfl⟩
  have hx : blockOf x = some 0 := by rw [blockOf, if_neg (by omega), if_pos h2]
  have hne : (some 0 == some b) = false := by simpa using Ne.symm hb
  unfold Mod.zeroCounters
  extract_lets cnt
  rw [Mod.rd, Mod.rd, AMap.get, AMap.get, AMap.find_filter (fun a => !(blockOf a == some b && cnt a)), hx, hne]
  rfl

theorem PwrKeeps.chEnter (m : Mod) (k : Clock) (c st : Nat) : PwrKeeps m (m.chEnter k c st) := by
  unfold Mod.chEnter
  extract_lets h a b d
  have ha : PwrKeeps m a := .gnss _ _
  have hb : PwrKeeps m b := ha.trans (.setF _ _ _ (by simp only [F.GNSS_CH_STAT_STATE, R.GNSS_CH_STAT]; omega))
  have hd : PwrKeeps m d := .ite hb (hb.trans (.setF _ _ _ (by simp only [F.GNSS_CH_STAT_CARR_LOCK, R.GNSS_CH_STAT]; omega)))
  exact .ite (hd.trans (.wr _ _ (by simp only [R.GNSS_CH_LOCKTIME]; omega))) hd

theorem PwrKeeps.chDoze (m : Mod) (k : Clock) : PwrKeeps m (m.chDoze k) := .each m _ fun n c => .chEnter n k c 7

theorem PwrKeeps.packSoft (m : Mod) : PwrKeeps m m.packSoft := by
  unfold Mod.packSoft
  extract_lets all src a b c
  have ha : PwrKeeps m a := .pack _ _
  have hb : PwrKeeps m b := ha.trans (.each _ _ fun n f => .ite (.pack _ _) (.refl _))
  have hc : PwrKeeps m c := hb.trans (.each _ _ fun n r => .pack _ _)
  exact ((hc.trans (.setB _ _ _ (by decide))).trans (.packShow _)).trans (.zeroCounters _ (by decide))

theorem PwrKeeps.lapseAll (m : Mod) : PwrKeeps m m.lapseAll :=
  .each m _ fun n r => (PwrKeeps.pack _ _).trans (.setF _ _ _ (by simp only [F.ROVER_SOL_STAT_STATE, R.ROVER_SOL_STAT]; omega))

theorem Mod.lapseAll_gnss (m : Mod) : m.lapseAll.gnss = m.gnss :=
  Mod.each_induct (P := fun t => t.gnss = m.gnss) m rfl fun _ _ _ h => (Mod.setF_gnss ..).trans h

/-! ## Power states and domains -/

theorem PwrKeeps.pstate {m t : Mod} (h : PwrKeeps m t) : t.pstate = m.pstate := Mod.fld_congr (h.rd _ (by decide) (by decide))

theorem PwrKeeps.domOn {m t : Mod} (h : PwrKeeps m t) (d : Nat) : t.domOn d = m.domOn d := Mod.bit_congr (h.rd _ (by decide) (by decide))

theorem Mod.setPState_spec (m : Mod) {st : Nat} (h : st < 8) :
    (m.setPState st).pstate = st ∧ (m.setPState st).pwr = m.pwr ∧ (∀ x, 0x1000 ≤ x → x < 0x2000 → x ≠ R.PWR_STAT → (m.setPState st).rd x = m.rd x)
      ∧ ∀ f, f.off = R.PWR_STAT → 2 < f.lo → f.hi ≤ 31 → (m.setPState st).fld f = m.fld f := by
  have hk := PwrKeeps.braceShow (m.setF F.PWR_STAT_STATE st)
  refine ⟨hk.pstate.trans ((Mod.fld_setF _ _ _ (by decide) (by decide)).trans (Nat.mod_eq_of_lt h)), hk.pwr.trans (Mod.setF_pwr ..),
    fun x h1 h2 hx => (hk.rd x h1 h2).trans (Mod.rd_setF_ne _ _ _ hx), fun f ho hlo hhi => ?_⟩
  exact (Mod.fld_congr (hk.rd _ (by rw [ho]; decide) (by rw [ho]; decide))).trans (Mod.fld_setF_ne _ _ _ (by decide) hhi (.inr (.inl hlo)))

/-- Domains are only switched off: PWR's other registers stand, a domain that is off stays off, and the module runs on as it did. -/
structure OnlyOff (m t : Mod) : Prop where
  rd : ∀ x, 0x1000 ≤ x → x < 0x2000 → x ≠ R.PWR_DOM_STAT → t.rd x = m.rd x
  off : ∀ d, m.domOn d = false → t.domOn d = false
  running : t.running = m.running

theorem OnlyOff.trans {m n t : Mod} (h : OnlyOff m n) (h' : OnlyOff n t) : OnlyOff m t :=
  ⟨fun x h1 h2 h3 => (h'.rd x h1 h2 h3).trans (h.rd x h1 h2 h3), fun d hd => h'.off d (h.off d hd), h'.running.trans h.running⟩

theorem PwrKeeps.onlyOff {m t : Mod} (h : PwrKeeps m t) : OnlyOff m t :=
  ⟨fun x h1 h2 _ => h.rd x h1 h2, fun d hd => (h.domOn d).trans hd, by rw [Mod.running, Mod.running, h.pwr]⟩

theorem OnlyOff.settling (m : Mod) (l : AMap Nat) (t : Option Nat) : OnlyOff m { m with pwr := { m.pwr with settling := l, heelTick := t } } :=
  ⟨fun _ _ _ _ => rfl, fun _ h => h, rfl⟩

theorem OnlyOff.clrBit (m : Mod) (d : Nat) : OnlyOff m (m.clrBit R.PWR_DOM_STAT d) :=
  ⟨fun _ _ _ h => Mod.rd_clrBit_ne _ _ _ h, fun _ h => Mod.bit_clrBit_clear _ _ _ h, by rw [Mod.running, Mod.running, Mod.clrBit_pwr]⟩

/-- A domain other than GNSS's and MOT's is switched off. -/
theorem Mod.domOff_spec (m : Mod) (k : Clock) {d : Nat} (h5 : d ≠ 5) (h11 : d ≠ 11) (hd : d < 32) :
    OnlyOff m (m.domOff k d) ∧ (m.domOff k d).domOn d = false := by
  unfold Mod.domOff
  extract_lets src a srcAir b c
  have ha : OnlyOff m a := .settling m _ _
  have hb : PwrKeeps a b := by
    simp only [b]
    split
    · exact absurd rfl h5
    · exact .packSoft _
    · exact .air _ _
    · exact absurd rfl h11
    · exact .refl _
  have hc : OnlyOff m c := (ha.trans hb.onlyOff).trans (.clrBit _ _)
  have hcd : c.domOn d = false := Mod.bit_clrBit _ _ _ hd
  by_cases hon : (!a.domOn d) = true
  · rw [if_pos hon]
    exact ⟨ha, by simpa using hon⟩
  · rw [if_neg hon]
    have hw : PwrKeeps c (if (c.glb.walking && c.walkHole) = true then { c with glb := { c.glb with incomplete := true } } else c) := .ite (.glb _ rfl) (.refl _)
    exact ⟨hc.trans hw.onlyOff, (hw.domOn d).trans hcd⟩

theorem Mod.domUp_spec (m : Mod) {d : Nat} (hd : d < 32) : (m.domUp d).domOn d = true ∧ AMap.find (m.domUp d).pwr.settling d = none := by
  unfold Mod.domUp
  extract_lets src a b
  have hb : b.domOn d = true := Mod.bit_setBit _ _ _ hd
  have hs : AMap.find b.pwr.settling d = none := (AMap.find_del ..).trans (if_pos rfl)
  have hk : PwrKeeps b (if d = 6 then b.packShow else b) := .ite (.packShow b) (.refl b)
  exact ⟨(hk.domOn d).trans hb, by rw [hk.pwr]; exact hs⟩

theorem Mod.powerDown_eq (m : Mod) (k : Clock) (mode : Nat) :
    ∃ p : PwrSt, m.powerDown k mode = (k.cold, (m.holdOff.resetCore false).notePwr p) ∧ p.mode = mode := ⟨_, rfl, rfl⟩

/-- Power is lost: HIBERNATE or OFF, and what flash and MRAM keep stands (R550, R560). -/
theorem Mod.powerDown_spec (m : Mod) (k : Clock) (mode : Nat) :
    let t := (m.powerDown k mode).2
    t.pwr.mode = mode ∧ t.nv = m.nv ∧ t.rd R.PWR_DOM_STAT = 1 := by
  obtain ⟨p, heq, hmode⟩ := m.powerDown_eq k mode
  obtain ⟨hnv, -⟩ := m.holdOff.resetCore_keeps false
  simp only [heq, Mod.notePwr_pwr, Mod.notePwr_nv, Mod.rd_notePwr]
  exact ⟨hmode, hnv.trans (HoldLeaves.holdOff m).nv, m.holdOff.domStat_resetCore⟩

/-- What DOZE switches off (R550). -/
def Mod.dozeDomains (m : Mod) (k : Clock) : Mod :=
  let m := m.chDoze k
  let m := (m.clrBit R.PWR_DOM_STAT 4).clrBit R.PWR_DOM_STAT 5
  let m := ((m.domOff k 6).domOff k 9).domOff k 10
  { m with pwr := { m.pwr with heelTick := none, settling := [] } }

theorem Mod.dozeDomains_spec (m : Mod) (k : Clock) :
    OnlyOff m (m.dozeDomains k) ∧ ∀ d ∈ [4, 5, 6, 9, 10], (m.dozeDomains k).domOn d = false := by
  unfold Mod.dozeDomains
  extract_lets b c d
  have hb : OnlyOff m b := (PwrKeeps.chDoze m k).onlyOff
  have hc4 : ((b.clrBit R.PWR_DOM_STAT 4)).domOn 4 = false := Mod.bit_clrBit _ _ _ (by decide)
  have hc5 : c.domOn 5 = false := Mod.bit_clrBit _ _ _ (by decide)
  have h5 : OnlyOff (b.clrBit R.PWR_DOM_STAT 4) c := .clrBit _ _
  obtain ⟨h6, hd6⟩ := c.domOff_spec k (d := 6) (by decide) (by decide) (by decide)
  obtain ⟨h9, hd9⟩ := (c.domOff k 6).domOff_spec k (d := 9) (by decide) (by decide) (by decide)
  obtain ⟨h10, hd10⟩ := ((c.domOff k 6).domOff k 9).domOff_spec k (d := 10) (by decide) (by decide) (by decide)
  have he := OnlyOff.settling d [] none
  have hce := ((h6.trans h9).trans h10).trans he
  refine ⟨(hb.trans (.clrBit _ _)).trans (h5.trans hce), fun i hi => ?_⟩
  simp only [List.mem_cons, List.not_mem_nil, or_false] at hi
  rcases hi with rfl | rfl | rfl | rfl | rfl
  · exact hce.off _ (h5.off _ hc4)
  · exact hce.off _ hc5
  · exact ((h9.trans h10).trans he).off _ hd6
  · exact (h10.trans he).off _ hd9
  · exact he.off _ hd10

theorem Mod.dozeEnter_eq (hst : m.pstate = 4) (hph : k.phase = 0) (htok : m.pwr.lastToken + msRaw 30 ≤ k.raw) (htgt : m.fld F.PWR_STAT_TARGET ≠ 2) :
    m.dozeEnter k = (k, (((((m.setF F.PWR_STAT_TARGET 0).setPState 2).dozeDomains k).inc R.PWR_DOZE_CNT).pwrEvt 0)) := by
  rw [Mod.dozeEnter, if_neg (by omega), if_neg htgt, Mod.dozeDomains]

theorem Mod.dozeEnter_hibernate (hst : m.pstate = 4) (hph : k.phase = 0) (htok : m.pwr.lastToken + msRaw 30 ≤ k.raw)
    (htgt : m.fld F.PWR_STAT_TARGET = 2) : m.dozeEnter k = m.powerDown k 1 := by
  rw [Mod.dozeEnter, if_neg (by omega), if_pos htgt]

/-- DOZE begins (R550): the state, its counter and its event, and the five domains off. -/
theorem Mod.dozeBegun_spec (m : Mod) (k : Clock) :
    let t := (((((m.setF F.PWR_STAT_TARGET 0).setPState 2).dozeDomains k).inc R.PWR_DOZE_CNT).pwrEvt 0)
    t.running = m.running ∧ t.pstate = 2 ∧ (∀ d ∈ [4, 5, 6, 9, 10], t.domOn d = false) ∧ t.bit R.PWR_EVT 0 = true
      ∧ t.rd R.PWR_DOZE_CNT = (m.rd R.PWR_DOZE_CNT + 1) % 4294967296 := by
  obtain ⟨hst, hpwr, hrd, -⟩ := (m.setF F.PWR_STAT_TARGET 0).setPState_spec (st := 2) (by decide)
  obtain ⟨hk, hoff⟩ := ((m.setF F.PWR_STAT_TARGET 0).setPState 2).dozeDomains_spec k
  have hrun : ((m.setF F.PWR_STAT_TARGET 0).setPState 2).running = m.running := by
    rw [Mod.running, Mod.running, hpwr, Mod.setF_pwr]
  have hcnt : ((m.setF F.PWR_STAT_TARGET 0).setPState 2).rd R.PWR_DOZE_CNT = m.rd R.PWR_DOZE_CNT :=
    (hrd _ (by decide) (by decide) (by decide)).trans (Mod.rd_setF_ne _ _ _ (by decide))
  intro t
  have ht : ∀ x, x ≠ R.PWR_EVT → x ≠ R.RING_IRQ_STAT → x ≠ R.PWR_DOZE_CNT → t.rd x = (((m.setF F.PWR_STAT_TARGET 0).setPState 2).dozeDomains k).rd x :=
    fun x h1 h2 h3 => (Mod.rd_evt_ne _ _ _ _ _ h1 h2).trans ((Mod.rd_inc _ _ _).trans (if_neg h3))
  refine ⟨?_, ?_, fun d hd => (Mod.bit_congr (ht _ (by decide) (by decide) (by decide))).trans (hoff d hd), Mod.bit_evt _ _ _ _ _ (by decide) (by decide), ?_⟩
  · have hp : t.pwr = (((m.setF F.PWR_STAT_TARGET 0).setPState 2).dozeDomains k).pwr := (Mod.evt_pwr ..).trans (Mod.inc_pwr ..)
    rw [← hrun, ← hk.running, Mod.running, hp, Mod.running]
  · exact (Mod.fld_congr ((ht _ (by decide) (by decide) (by decide)).trans (hk.rd _ (by decide) (by decide) (by decide)))).trans hst
  · refine (Mod.rd_evt_ne _ _ _ _ _ (by decide) (by decide)).trans ((Mod.rd_inc _ _ _).trans ((if_pos rfl).trans ?_))
    rw [hk.rd _ (by decide) (by decide) (by decide), hcnt]

theorem Mod.chEnter_burst (m : Mod) (k : Clock) (c st : Nat) : (m.chEnter k c st).gnss.burst = m.gnss.burst := by
  unfold Mod.chEnter
  extract_lets h a b d
  have ha : a.gnss.burst = m.gnss.burst := rfl
  have hb : b.gnss.burst = m.gnss.burst := (congrArg GnssSt.burst (Mod.setF_gnss ..)).trans ha
  have hd : d.gnss.burst = m.gnss.burst := by
    simp only [d]
    split
    · exact hb
    · exact (congrArg GnssSt.burst (Mod.setF_gnss ..)).trans hb
  split
  · exact (congrArg GnssSt.burst (Mod.wr_gnss ..)).trans hd
  · exact hd

theorem Mod.chDoze_burst (m : Mod) (k : Clock) : (m.chDoze k).gnss.burst = m.gnss.burst :=
  Mod.each_keeps m (fun t => t.gnss.burst) (fun t c => t.chEnter_burst k c 7) _

/-- A burst's two domains are switched off in DOZE (R554). -/
theorem Mod.burstOff_spec (hst : m.pstate = 2) (hburst : m.gnss.burst = none) :
    let n := (m.chDoze k).setB F.PWR_STAT_BURST false
    let t := if n.pstate = 2 then (n.clrBit R.PWR_DOM_STAT 4).clrBit R.PWR_DOM_STAT 5 else n
    t.domOn 4 = false ∧ t.domOn 5 = false ∧ t.on F.PWR_STAT_BURST = false ∧ t.gnss.burst = none := by
  intro n
  have hn : n.pstate = 2 := (Mod.fld_setB_ne _ _ _ (by decide) (by decide) (by decide)).trans ((PwrKeeps.chDoze m k).pstate.trans hst)
  rw [if_pos hn]
  refine ⟨Mod.bit_clrBit_clear _ _ _ (Mod.bit_clrBit _ _ _ (by decide)), Mod.bit_clrBit _ _ _ (by decide), ?_, ?_⟩
  · exact (Mod.on_congr ((Mod.rd_clrBit_ne _ _ _ (by decide)).trans (Mod.rd_clrBit_ne _ _ _ (by decide)))).trans
      (Mod.on_setB _ _ _ (by decide) (by decide))
  · rw [Mod.clrBit_gnss, Mod.clrBit_gnss, Mod.setB_gnss, Mod.chDoze_burst, hburst]

/-- A burst of DOZE has ended (R140, R554). -/
theorem Mod.burstEnd_spec (s : Option MeasSet) {b : Nat} (hb : m.gnss.burst = some b) (hst : m.pstate = 2) (hdue : b + m.burstTicks ≤ k.tickNo) :
    let t := m.burstEnd k s
    t.domOn 4 = false ∧ t.domOn 5 = false ∧ t.on F.PWR_STAT_BURST = false ∧ t.gnss.burst = none := by
  unfold Mod.burstEnd
  rw [hb]
  dsimp -zeta only
  rw [if_neg (Nat.not_lt.mpr hdue)]
  extract_lets fix x1 fixed s1 n missed s2 s3 x2 s4 x3
  have h1 : PwrKeeps m x1 := .incF m _ (by decide)
  have h2 : PwrKeeps x1 x2 := by
    clear_value fix
    cases fix with
    | none =>
      have hsat : PwrKeeps x1 missed := .satF _ _ (by decide)
      exact .ite ((hsat.trans (.gnssEvt _ 10)).trans (.time _ _)) hsat
    | some e =>
      have hset : PwrKeeps x1 fixed := .setF _ _ _ (by decide)
      exact .ite (hset.trans (.time _ _)) hset
  have h3 : PwrKeeps m x3 := (h1.trans h2).trans (.gnss _ _)
  exact Mod.burstOff_spec (m := x3) (h3.pstate.trans hst) rfl

/-- The module returns to RUN (R552). -/
theorem Mod.resumed_spec (m : Mod) (hburst : m.gnss.burst = none) :
    let t := (((m.setB F.PWR_STAT_BURST false).setPState 0).lapseAll).pwrEvt 1
    t.pstate = 0 ∧ t.bit R.PWR_EVT 1 = true ∧ t.gnss.burst = none := by
  obtain ⟨hst, -⟩ := (m.setB F.PWR_STAT_BURST false).setPState_spec (st := 0) (by decide)
  refine ⟨?_, Mod.bit_evt _ _ _ _ _ (by decide) (by decide), ?_⟩
  · exact (Mod.fld_congr (Mod.rd_evt_ne _ _ _ _ _ (by decide) (by decide))).trans ((PwrKeeps.lapseAll _).pstate.trans hst)
  · rw [Mod.pwrEvt, Mod.evt_gnss, Mod.lapseAll_gnss, Mod.setPState, Mod.braceShow_gnss, Mod.setF_gnss, Mod.setB_gnss, hburst]

/-- A burst of DOZE begins (R140, R554): its two domains are powered. -/
theorem Mod.burstBegun_spec (m : Mod) (tick : Nat) :
    let n := ((m.setBit R.PWR_DOM_STAT 4).setBit R.PWR_DOM_STAT 5).setB F.PWR_STAT_BURST true
    let t : Mod := { n with gnss := { n.gnss with burst := some tick } }
    t.domOn 4 = true ∧ t.domOn 5 = true ∧ t.on F.PWR_STAT_BURST = true ∧ t.gnss.burst = some tick := by
  intro n t
  have hdom : ∀ d, t.domOn d = ((m.setBit R.PWR_DOM_STAT 4).setBit R.PWR_DOM_STAT 5).bit R.PWR_DOM_STAT d := fun d =>
    Mod.bit_congr (Mod.rd_setB_ne _ _ _ (by decide))
  refine ⟨?_, ?_, Mod.on_setB _ _ _ (by decide) (by decide), rfl⟩
  · rw [hdom, Mod.bit_setBit_ne _ _ _ (.inr (by decide))]
    exact Mod.bit_setBit _ _ _ (by decide)
  · rw [hdom]
    exact Mod.bit_setBit _ _ _ (by decide)

/-- A command of a tick's end, once its boundary has come. -/
theorem answers_of_boundary {c : Instr} {s : State} {dt : Nat} {f : Mod → Clock → Mod} {m : Mod} {P : State → Prop}
    (hexec : exec c s = .next (s.ev dt fun k m => if m.running && decide (k.nextBoundary ≤ k.raw) then f m k.beginTick else m))
    (hrun : s.m.running = true) (hend : (s.now dt).ended = true) (hf : f s.found (s.now dt).beginTick = m) (hP : P (s.after dt m)) : Answers c s P := by
  have hend' : decide ((s.now dt).nextBoundary ≤ (s.now dt).raw) = true := hend
  exact answers_of_eq hexec ((if_pos (by rw [State.found_running, hrun, hend']; rfl)).trans hf) hP

/-- A command of a tick's end that may power the module down, once its boundary has come. -/
theorem answers_of_boundaryClk {c : Instr} {s : State} {dt : Nat} {f : Mod → Clock → Clock × Mod} {r : Clock × Mod} {P : State → Prop}
    (hexec : exec c s = .next (s.evClk dt fun k m => if m.running && decide (k.nextBoundary ≤ k.raw) then
      match f m k.beginTick with | (c, m) => (if m.running then k else c, m) else (k, m)))
    (hrun : s.m.running = true) (hend : (s.now dt).ended = true) (hf : f s.found (s.now dt).beginTick = r)
    (hP : P (s.left (if r.2.running then s.now dt else r.1, r.2))) : Answers c s P := by
  have hend' : decide ((s.now dt).nextBoundary ≤ (s.now dt).raw) = true := hend
  refine answers_of_evClk hexec ?_
  rw [if_pos (by rw [State.found_running, hrun, hend']; rfl), hf]
  exact hP

/-- Settles O54: domains settle, and the power states follow at their boundaries. -/
theorem powerStates : Obligations.PowerStates := by
  refine ⟨fun s dt d at_ hd hat hdue => ?_, fun s dt tick hrun hend hst hheel hle hrest => ?_,
    fun s dt hrun hend hst hph htok => ⟨fun htgt => ?_, fun htgt => ?_⟩, fun s dt hrun hend hst hpend => ?_,
    fun s dt hrun hend hst hph hdue => ?_, fun s dt hrun hend hawake hburst htick hen h4 h5 => ?_, fun s dt b hrun hend hburst hst hdue => ?_⟩
  · refine answers_of_eq (m := s.found.domUp d) rfl ?_ (s.found.domUp_spec hd)
    rw [show AMap.find s.found.pwr.settling d = some at_ from hat]
    rcases hdue with h | ⟨hend, h⟩
    · exact if_pos (by rw [h]; rfl)
    · have hend' : decide ((s.now dt).nextBoundary ≤ (s.now dt).raw) = true := hend
      dsimp only
      rw [hend', decide_eq_true h]
      split
      · rfl
      · rfl
  · obtain ⟨hp, hpwr, -⟩ := s.found.setPState_spec (st := 4) (by decide)
    refine answers_of_boundary (f := Mod.dozeSilence) rfl hrun hend ?_ ⟨hp, hpwr⟩
    rw [Mod.dozeSilence, show s.found.pwr.heelTick = some tick from hheel]
    exact if_pos ⟨hst, hle, .inl hrest⟩
  · obtain ⟨hkeep, hp, hoff, he, hcnt⟩ := s.found.dozeBegun_spec (s.now dt).beginTick
    refine answers_of_boundaryClk (f := Mod.dozeEnter) rfl hrun hend (Mod.dozeEnter_eq (m := s.found) hst hph htok htgt)
      ⟨hp, hoff 4 (by decide), hoff 5 (by decide), hoff 6 (by decide), hoff 9 (by decide), hoff 10 (by decide), he, hcnt, ?_⟩
    exact if_pos (hkeep.trans hrun)
  · obtain ⟨hmode, hnv, -⟩ := s.found.powerDown_spec (s.now dt).beginTick 1
    exact answers_of_boundaryClk (f := Mod.dozeEnter) rfl hrun hend (Mod.dozeEnter_hibernate (m := s.found) hst hph htok htgt) ⟨hmode, hnv⟩
  · obtain ⟨hmode, hnv, hdom⟩ := s.found.powerDown_spec (s.now dt).beginTick 1
    exact answers_of_boundaryClk (f := Mod.hibEnter) rfl hrun hend (if_pos ⟨hst, hpend⟩) ⟨hmode, hnv, hdom⟩
  · exact answers_of_boundary (f := Mod.runResume) rfl hrun hend
      (if_neg (not_or.mpr ⟨not_not.mpr hst, not_or.mpr ⟨not_not.mpr hph, Nat.not_lt.mpr hdue⟩⟩)) (Mod.resumed_spec _ rfl)
  · refine answers_of_boundary (f := Mod.burstStart) rfl hrun hend (if_neg ?_) (s.found.burstBegun_spec _)
    have h : s.found.awake = false ∧ s.found.gnss.burst = none ∧ s.found.on F.GNSS_CTL_EN = true ∧ s.found.bit R.PWR_DOM_EN 4 = true
      ∧ s.found.bit R.PWR_DOM_EN 5 = true := ⟨hawake, hburst, hen, h4, h5⟩
    obtain ⟨h1, h2, h3, h6, h7⟩ := h
    rw [h1, h2, h3, h6, h7, htick]
    decide
  · refine answers_of_boundary (f := fun m k => m.burstEnd k m.gnss.set_) rfl hrun hend rfl ?_
    exact Mod.burstEnd_spec (m := s.found) _ hburst hst hdue

end Sys2Proof.Machine
end

section
/-! SUPPORT. Start-up (R563): what its steps leave of PWR. -/

namespace Sys2Proof.Machine

variable {m : Mod} {k : Clock}

/-! ## What the steps before the identity registers leave -/

/-- The kind of the start-up begun and the fallback noted stand. -/
structure StartKeeps (m t : Mod) : Prop where
  mode : t.pwr.mode = m.pwr.mode
  kind : t.pwr.kind = m.pwr.kind
  activation : t.pwr.activation = m.pwr.activation
  fellBack : t.upd.fellBack = m.upd.fellBack

theorem StartKeeps.of_eq {m t : Mod} (hp : t.pwr = m.pwr) (hu : t.upd = m.upd) : StartKeeps m t :=
  ⟨congrArg _ hp, congrArg _ hp, congrArg _ hp, congrArg _ hu⟩

theorem StartKeeps.refl (m : Mod) : StartKeeps m m := ⟨rfl, rfl, rfl, rfl⟩

theorem StartKeeps.trans {m n t : Mod} (h : StartKeeps m n) (h' : StartKeeps n t) : StartKeeps m t :=
  ⟨h'.mode.trans h.mode, h'.kind.trans h.kind, h'.activation.trans h.activation, h'.fellBack.trans h.fellBack⟩

theorem StartKeeps.ite {c : Prop} [Decidable c] {m a b : Mod} (ha : StartKeeps m a) (hb : StartKeeps m b) : StartKeeps m (if c then a else b) := by
  split
  · exact ha
  · exact hb

theorem StartKeeps.each {α : Type} {f : Mod → α → Mod} (m : Mod) (l : List α) (hf : ∀ m x, StartKeeps m (f m x)) : StartKeeps m (m.each l f) :=
  Mod.each_induct (P := StartKeeps m) m (.refl m) fun n x _ h => h.trans (hf n x)

theorem StartKeeps.setF (m : Mod) (f : Fld) (v : Nat) : StartKeeps m (m.setF f v) := .of_eq (Mod.setF_pwr ..) (Mod.setF_upd ..)

theorem StartKeeps.setB (m : Mod) (f : Fld) (b : Bool) : StartKeeps m (m.setB f b) := .of_eq (Mod.setB_pwr ..) (Mod.setB_upd ..)

theorem StartKeeps.slotInstall (m : Mod) (s type use user bind parent source : Nat) (key : List Byte) (src : KeySrc) :
    StartKeeps m (m.slotInstall s type use user bind parent source key src) := .of_eq (by simp [Mod.slotInstall, Mod.kenShow]) (by simp [Mod.slotInstall, Mod.kenShow])

theorem StartKeeps.slotEmpty (m : Mod) (s : Nat) : StartKeeps m (m.slotEmpty s) := .of_eq (by simp [Mod.slotEmpty, Mod.kenShow]) (by simp [Mod.slotEmpty, Mod.kenShow])

theorem StartKeeps.fixedSlots (m : Mod) : StartKeeps m m.fixedSlots := by
  unfold Mod.fixedSlots
  extract_lets att a b c
  have ha : StartKeeps m a := .ite (.slotInstall ..) (.refl m)
  have hb : StartKeeps m b := ha.trans (.ite (.slotInstall ..) (.refl _))
  have hc : StartKeeps m c := by
    simp only [c]
    split
    · exact .ite hb (.ite (hb.trans (.slotEmpty ..)) (hb.trans (.slotInstall ..)))
    · exact hb
  clear_value c
  refine .ite hc ?_
  split
  · exact .ite (hc.trans (.slotInstall ..)) (hc.trans (.slotEmpty ..))
  · exact hc.trans (.slotEmpty ..)

theorem StartKeeps.kenDecide (m : Mod) : StartKeeps m m.kenDecide := by
  unfold Mod.kenDecide
  extract_lets st a b
  exact (((((setF m _ _).trans (.setB ..)).trans (.setB ..)).trans (.setF ..)).trans (.setB ..)).trans (.fixedSlots _)

theorem StartKeeps.loadBits (m : Mod) (a mask v : Nat) : StartKeeps m (m.loadBits a mask v) := by
  unfold Mod.loadBits
  extract_lets w n
  have hn : StartKeeps m n := .of_eq (Mod.wr_pwr ..) (Mod.wr_upd ..)
  split
  · exact .ite (hn.trans (.of_eq rfl rfl)) hn
  · exact hn

theorem StartKeeps.calApply (m : Mod) (a : Nat) : StartKeeps m (m.calApply a) := by
  unfold Mod.calApply
  split
  · exact .refl m
  · exact .of_eq (by simp [Mod.when, Mod.wrI, Mod.glbErr, apply_ite Mod.pwr]) (by simp [Mod.when, Mod.wrI, Mod.glbErr, apply_ite Mod.upd])

theorem StartKeeps.loadSetting (m : Mod) (e : Nat × Word) : StartKeeps m (m.loadSetting e) := by
  rw [Mod.loadSetting]
  exact .ite (.refl m) ((loadBits ..).trans (.calApply ..))

theorem StartKeeps.warmConfig (m : Mod) : StartKeeps m m.warmConfig := by
  unfold Mod.warmConfig
  exact .each m _ fun n a => (loadBits ..).trans (.calApply ..)

theorem StartKeeps.pulseApplied (m : Mod) (k : Clock) (i : Nat) : StartKeeps m (m.pulseApplied k i) := by
  unfold Mod.pulseApplied
  extract_lets s per w now bad st nx
  have hst : ∀ a b c, StartKeeps m (st m a b c) := fun a b c => (((setB m _ _).trans (.setB ..)).trans (.setB ..)).trans (.setB ..)
  have hset : ∀ (n : Mod) (p : PulseSt), StartKeeps n (n.setPulse i p) := fun n p => .of_eq rfl rfl
  refine .ite ((hst _ _ _).trans (hset _ _)) (.ite ((hst _ _ _).trans (hset _ _)) (.ite ?_ ((hst _ _ _).trans (hset _ _))))
  exact ((hst _ _ _).trans (hset _ _)).trans (.of_eq (Mod.evt_pwr ..) (Mod.evt_upd ..))

theorem StartKeeps.loadSettings (m : Mod) (k : Clock) : StartKeeps m (m.loadSettings k) := by
  unfold Mod.loadSettings
  extract_lets old a src1 src2 b pulse c
  have ha : StartKeeps m a := (warmConfig m).trans (.each _ _ loadSetting)
  have hb : StartKeeps a b := ⟨rfl, rfl, rfl, rfl⟩
  have hc : StartKeeps b c := .each _ _ fun n i => pulseApplied n k i
  exact ((ha.trans hb).trans hc).trans (.setF ..)

theorem StartKeeps.measureAll (m : Mod) : StartKeeps m m.measureAll := by
  unfold Mod.measureAll
  extract_lets parts a b
  have ha : StartKeeps m a := .of_eq rfl rfl
  have hb : StartKeeps a b := .each _ _ fun n p => .of_eq rfl rfl
  exact (ha.trans hb).trans (.of_eq rfl rfl)

theorem StartKeeps.resetCause {m t : Mod} (h : StartKeeps m t) : t.resetCause = m.resetCause := by
  rw [Mod.resetCause, Mod.resetCause, h.kind, h.activation, h.fellBack]

/-! ## What the steps after them leave -/

theorem PwrKeeps.of_live {m t : Mod} (hl : t.live = m.live) (hp : t.pwr = m.pwr) (hf : t.perf = m.perf) (hg : t.glb = m.glb) : PwrKeeps m t :=
  ⟨fun x _ _ => Mod.rd_eq hl x, hp, hf, congrArg _ hg⟩

theorem PwrKeeps.evt (m : Mod) {reg : Nat} (en bit src : Nat) (h : 0x2000 ≤ reg) : PwrKeeps m (m.evt reg en bit src) :=
  ⟨fun x _ h2 => Mod.rd_evt_ne _ _ _ _ _ (by omega) (by simp only [R.RING_IRQ_STAT]; omega), Mod.evt_pwr ..,
    Mod.evt_perf .., congrArg _ (Mod.evt_glb ..)⟩

theorem PwrKeeps.setBit (m : Mod) {a : Nat} (i : Nat) (h : 0x2000 ≤ a) : PwrKeeps m (m.setBit a i) := .wr m _ h

theorem PwrKeeps.clrBit (m : Mod) {a : Nat} (i : Nat) (h : 0x2000 ≤ a) : PwrKeeps m (m.clrBit a i) := .wr m _ h

theorem PwrKeeps.inc (m : Mod) {a : Nat} (h : 0x2000 ≤ a) : PwrKeeps m (m.inc a) := .wr m _ h

theorem PwrKeeps.incBy (m : Mod) {a : Nat} (n : Nat) (h : 0x2000 ≤ a) : PwrKeeps m (m.incBy a n) := .wr m _ h

theorem PwrKeeps.ken (m : Mod) (x : KenSt) : PwrKeeps m { m with ken := x } := ⟨fun _ _ _ => rfl, rfl, rfl, rfl⟩

theorem PwrKeeps.rcd (m : Mod) (x : RecSt) : PwrKeeps m { m with rcd := x } := ⟨fun _ _ _ => rfl, rfl, rfl, rfl⟩

theorem PwrKeeps.mot (m : Mod) (x : MotSt) : PwrKeeps m { m with mot := x } := ⟨fun _ _ _ => rfl, rfl, rfl, rfl⟩

theorem PwrKeeps.recTrig (m : Mod) (k : Clock) (t : Nat) (p : List Byte) : PwrKeeps m (m.recTrig k t p) :=
  ⟨fun x _ h2 => Mod.rd_recTrig_ne _ _ _ _ (by simp only [R.REC_DROP_CNT]; omega) (by simp only [R.REC_EVT]; omega)
    (by simp only [R.RING_IRQ_STAT]; omega), Mod.recTrig_pwr .., Mod.recTrig_perf ..,
    congrArg _ (Mod.recTrig_glb ..)⟩

theorem PwrKeeps.foldl {α β : Type} {f : Mod × β → α → Mod × β} (hf : ∀ x a, PwrKeeps x.1 (f x a).1) (l : List α) (x : Mod × β) :
    PwrKeeps x.1 (l.foldl f x).1 := by
  induction l generalizing x with
  | nil => exact .refl _
  | cons a l ih => exact (hf x a).trans (ih (f x a))

theorem PwrKeeps.updShow (m : Mod) : PwrKeeps m m.updShow := by
  rw [Mod.updShow]
  exact ((((((setF m _ _ (by decide)).trans (.setB _ _ _ (by decide))).trans (.setF _ _ _ (by decide))).trans (.setB _ _ _ (by decide))).trans
    (.wr _ _ (by decide))).trans (.wr _ _ (by decide))).trans (.wr _ _ (by decide))

theorem PwrKeeps.kenShow (m : Mod) : PwrKeeps m m.kenShow := by
  rw [Mod.kenShow]
  exact ((setF m _ _ (by decide)).trans (.setB _ _ _ (by decide))).trans (.setB _ _ _ (by decide))

theorem PwrKeeps.slotInstall (m : Mod) (s type use user bind parent source : Nat) (key : List Byte) (src : KeySrc) :
    PwrKeeps m (m.slotInstall s type use user bind parent source key src) := by
  rw [Mod.slotInstall]
  have hw : PwrKeeps m (m.wr (R.KEN_SLOT_STAT s) (slotWord type use user bind parent source)) := .wr m _ (by simp only [R.KEN_SLOT_STAT]; omega)
  exact (hw.trans (.ken _ _)).trans (.kenShow _)

theorem PwrKeeps.srchStat (m : Mod) : PwrKeeps m m.srchStat := by
  rw [Mod.srchStat]
  exact ((setF m _ _ (by decide)).trans (.setF _ _ _ (by decide))).trans (.setB _ _ _ (by decide))

theorem PwrKeeps.airShow (m : Mod) : PwrKeeps m m.airShow := by
  rw [Mod.airShow]
  exact (((setF m _ _ (by decide)).trans (.setF _ _ _ (by decide))).trans (.setF _ _ _ (by decide))).trans (.wr _ _ (by decide))

theorem PwrKeeps.tornRecords (m : Mod) : PwrKeeps m m.tornRecords := by
  rw [Mod.tornRecords]
  exact .ite (.refl m) (((rcd m _).trans (.incBy _ _ (by decide))).trans (.evt _ _ _ _ (by decide)))

/-- What an element retired for good shows at start-up (R38). -/
theorem PwrKeeps.retireAll (m : Mod) : PwrKeeps m m.retireAll := by
  unfold Mod.retireAll
  extract_lets a b src c
  have ha : PwrKeeps m a := .wr m _ (by decide)
  have hb : PwrKeeps a b := .each _ _ fun n e => by
    split
    · exact ((setBit n _ (by simp only [R.GNSS_RETIRED]; omega)).trans (.inc _ (by decide))).trans
        (.setF _ _ _ (by simp only [F.GNSS_CH_STAT_STATE, R.GNSS_CH_STAT]; omega))
    · exact (setBit n _ (by decide)).trans (.clrBit _ _ (by decide))
    · exact .setBit n _ (by decide)
    · exact (setBit n _ (by simp only [R.MOT_RETIRED]; omega)).trans (.setF _ _ _ (by simp only [F.MOT_CH_STAT_STATE, R.MOT_CH_STAT]; omega))
    · exact .setBit n _ (by simp only [R.AIR_RETIRED]; omega)
    · refine (setF n _ _ (by simp only [F.KEN_SLOT_STAT_STATE, R.KEN_SLOT_STAT]; omega)).trans (.setBit _ _ ?_)
      split <;> decide
    · exact .refl n
  exact ((ha.trans hb).trans (.of_live (t := c) rfl rfl rfl rfl)).trans (.packShow _)

theorem PwrKeeps.loadBlob (m : Mod) (slot size : Nat) (b : List Byte) : PwrKeeps m (m.loadBlob slot size b).1 := by
  have hite : ∀ {c : Prop} [Decidable c] {a b : Mod × Nat}, PwrKeeps m a.1 → PwrKeeps m b.1 → PwrKeeps m (if c then a else b).1 := fun ha hb => by
    split
    · exact ha
    · exact hb
  have hr := PwrKeeps.refl m
  unfold Mod.loadBlob
  refine hite hr (hite hr (hite hr (hite hr (hite hr (hite hr (hite hr (hite hr ?_)))))))
  extract_lets wk
  split
  · exact hr
  · exact (slotInstall ..).trans (.inc _ (by decide))

theorem PwrKeeps.keyAutoload (m : Mod) : PwrKeeps m m.keyAutoload := by
  rw [Mod.keyAutoload]
  refine .ite (.refl m) ((ken m _).trans (.each _ _ fun n e => ?_))
  split
  rename_i t code heq
  have ht : PwrKeeps n t := by
    have h := loadBlob n e.1 e.2.length e.2
    rwa [heq] at h
  exact .ite (ht.trans (.ken _ _)) ((ht.trans (.ken _ _)).trans (.evt _ _ _ _ (by decide)))

theorem PwrKeeps.tamperRecords (m : Mod) (k : Clock) : PwrKeeps m (m.tamperRecords k) := by
  unfold Mod.tamperRecords
  extract_lets l a src b
  have ha : PwrKeeps m a := .each _ _ fun n e => .recTrig ..
  have hb : PwrKeeps m b := ha.trans (.ken _ _)
  exact .ite hb (hb.trans (.evt _ _ _ _ (by decide)))

theorem PwrKeeps.updStart (m : Mod) : PwrKeeps m m.updStart := by
  rw [Mod.updStart]
  exact .ite (.setF _ _ _ (by decide)) (.setF _ _ _ (by decide))

theorem PwrKeeps.bindTo (m : Mod) (k : Clock) (c kind idx port : Nat) : PwrKeeps m (m.bindTo k c kind idx port) := by
  rw [Mod.bindTo]
  exact ((mot m _).trans (.setF _ _ _ (by simp only [F.MOT_CH_STAT_STATE, R.MOT_CH_STAT]; omega))).trans
    (.setB _ _ _ (by simp only [F.MOT_CH_STAT_BIND_CONFLICT, R.MOT_CH_STAT]; omega))

theorem PwrKeeps.conflict (m : Mod) (c : Nat) (b : Bool) : PwrKeeps m (m.setB (F.MOT_CH_STAT_BIND_CONFLICT c) b) :=
  .setB _ _ _ (by simp only [F.MOT_CH_STAT_BIND_CONFLICT, R.MOT_CH_STAT]; omega)

theorem PwrKeeps.motBind (m : Mod) (k : Clock) (c : Nat) : PwrKeeps m (m.motBind k c) := by
  rw [Mod.motBind]
  refine .ite ((wr m _ (by simp only [R.MOT_CH_BIND]; omega)).trans (.evt _ _ _ _ (by decide))) ?_
  extract_lets clash
  split
  · exact (bindTo ..).trans (.conflict ..)
  · exact (PwrKeeps.each _ _ fun n e => (bindTo ..).trans (.conflict ..)).trans (.bindTo ..)

theorem PwrKeeps.portShow (m : Mod) (p : Nat) : PwrKeeps m (m.portShow p) := .setF _ _ _ (by simp only [F.SW_P_STAT_STATE, R.SW_P_STAT]; omega)

theorem PwrKeeps.loadShow (m : Mod) : PwrKeeps m m.loadShow := by
  rw [Mod.loadShow]
  exact (setF _ _ _ (by decide)).trans (.setF _ _ _ (by decide))

/-! ## Slot assignment (R365 to R368) -/

theorem PwrKeeps.setArv (m : Mod) (r : Nat) (c : AirRover) : PwrKeeps m (m.setArv r c) := .air m _

theorem PwrKeeps.asgDecide (m : Mod) (r : Nat) (a : SlotAsg) : PwrKeeps m (m.asgDecide r a) := by
  rw [Mod.asgDecide]
  split
  · exact .ite (.refl m) (.setArv ..)
  · exact .setArv ..

theorem PwrKeeps.assignAuto (m : Mod) (k : Clock) : PwrKeeps m (m.assignAuto k) :=
  .foldl (x := (m, _)) (fun x r => by
    dsimp only
    split
    · exact .asgDecide ..
    · exact .asgDecide ..) _

theorem PwrKeeps.assignFixed (m : Mod) (k : Clock) : PwrKeeps m (m.assignFixed k) :=
  .foldl (x := (m, _)) (fun x r => by
    dsimp only
    split
    · exact .asgDecide ..
    · split
      · exact .asgDecide ..
      · exact .asgDecide ..) _

theorem PwrKeeps.airAssign (m : Mod) (k : Clock) : PwrKeeps m (m.airAssign k) := by
  unfold Mod.airAssign
  extract_lets gone a b c d
  have ha : PwrKeeps m a := .each _ _ fun n r => by
    dsimp only
    split
    · exact .ite (.refl n) (.setArv ..)
    · exact .refl n
  have hb : PwrKeeps a b := .ite (.assignAuto ..) (.assignFixed ..)
  have hc : PwrKeeps b c := .each _ _ fun n r => by
    rw [Mod.asgFlags]
    split
    · exact (setB _ _ _ (by simp only [F.ROVER_LINK_SLOT_NO_SLOT, R.ROVER_LINK_SLOT]; omega)).trans
        (.setB _ _ _ (by simp only [F.ROVER_LINK_SLOT_CONFLICT, R.ROVER_LINK_SLOT]; omega))
    · exact .refl n
  have hlink : ∀ (n : Mod) (r v : Nat), PwrKeeps n (n.setF (F.ROVER_LINK_STAT_LINK r) v) := fun n r v =>
    .setF _ _ _ (by simp only [F.ROVER_LINK_STAT_LINK, R.ROVER_LINK_STAT]; omega)
  have hd : PwrKeeps c d := .each _ _ fun n r => .ite (hlink ..) (.ite (hlink ..) (.refl n))
  exact (((ha.trans hb).trans hc).trans hd).trans (.airShow _)

theorem PwrKeeps.recordVer (m : Mod) (r : Nat) : PwrKeeps m (m.recordVer r) := by
  rw [Mod.recordVer]
  exact .ite (.refl m) (((setF _ _ _ (by simp only [F.ROVER_LINK_STAT_VER, R.ROVER_LINK_STAT]; omega)).trans
    (.evt _ _ _ _ (by simp only [R.ROVER_LINK_EVT]; omega))).trans (.airShow _))

theorem PwrKeeps.wrSh (m : Mod) (a v : Nat) : PwrKeeps m (m.wrSh a v) := .of_live rfl rfl rfl rfl

theorem PwrKeeps.airEvt (m : Mod) (b : Nat) : PwrKeeps m (m.airEvt b) := .evt m _ _ _ (by decide)

theorem PwrKeeps.airApplied (m : Mod) (k : Clock) (old : Mod) : PwrKeeps m (m.airApplied k old) := by
  unfold Mod.airApplied
  extract_lets keep a b c src d region changed refused e f g
  have hkeep : ∀ (n : Mod) (x : Nat) (bad : Bool), 0x2000 ≤ x → PwrKeeps n (keep n x bad) := fun n x bad h =>
    .ite (((wr n _ h).trans (.wrSh _ _ _)).trans (.airEvt _ _)) (.refl n)
  have hc : PwrKeeps m c := ((hkeep m R.AIR_WB0_CFG _ (by decide)).trans (hkeep a R.AIR_WB1_CFG _ (by decide))).trans (hkeep b (R.AIR_BUD_LIMIT 0) _ (by decide))
  have hd : PwrKeeps c d := .ite (.air _ _) (.refl _)
  have he : PwrKeeps d e := .ite (.evt _ _ _ _ (by decide)) (.refl _)
  have hf : PwrKeeps e f := .ite (.refl _) (.airAssign ..)
  have hg : PwrKeeps f g := .each _ _ fun n r => .recordVer ..
  exact (((((hc.trans hd).trans he).trans hf).trans hg).trans (.kenShow _)).trans (.airShow _)

/-! ## BAR0 responds (R563 step 9) -/

/-- PWR_RESET_CAUSE shows the start-up's kind (R567). -/
theorem Mod.identity_spec (m : Mod) : m.identity.rd R.PWR_RESET_CAUSE = m.resetCause % 4294967296 ∧ m.identity.pwr = m.pwr := by
  unfold Mod.identity
  extract_lets b n t
  have hk := PwrKeeps.updShow t
  have hn : n.resetCause = m.resetCause := rfl
  refine ⟨(hk.rd _ (by decide) (by decide)).trans ?_, hk.pwr.trans (by simp [t, n])⟩
  rw [Mod.rd_wr_ne _ _ _ (by decide), Mod.rd_wr_ne _ _ _ (by decide), Mod.rd_wr_same, hn]

theorem PwrKeeps.heelSet (m : Mod) (src : Nat) : PwrKeeps m (m.heelSet src) := by
  rw [Mod.heelSet]
  have h : PwrKeeps m (m.setF F.LEASH_STAT_HEEL_SRC (m.fld F.LEASH_STAT_HEEL_SRC ||| 2 ^ src)) := .setF m _ _ (by decide)
  exact .ite (h.trans (.evt _ _ _ _ (by decide))) h

/-- Start-up without a trial's end: BAR0 answers, ticks do not run yet, and the cause is shown. -/
theorem Mod.bringUp_spec (m : Mod) (k : Clock) (hmode : m.pwr.mode = 0) :
    let t := (m.bringUp k false).2
    t.pwr.mode = 0 ∧ t.pwr.step = 9 ∧ t.rd R.PWR_RESET_CAUSE = m.resetCause % 4294967296 := by
  unfold Mod.bringUp
  extract_lets a b c d e f src g h i j l
  have ha : StartKeeps m a.measureAll :=
    ((StartKeeps.kenDecide m).trans ((StartKeeps.loadSettings _ k).trans (.of_eq (Mod.wr_pwr ..) (Mod.wr_upd ..)))).trans (.measureAll a)
  obtain ⟨hcause, hpwr⟩ := a.measureAll.identity_spec
  have hc : PwrKeeps b c := (((PwrKeeps.tornRecords b).trans (.retireAll _)).trans (.keyAutoload _)).trans ((PwrKeeps.tamperRecords _ k).trans (.of_live rfl rfl rfl rfl))
  have hf : PwrKeeps b f := (hc.trans (.updStart c)).trans (.of_live rfl rfl rfl rfl)
  have hg : ∀ x, g.rd x = f.rd x := fun _ => rfl
  have hgh : PwrKeeps g h := .each _ _ fun n x => .ite (.refl n) (.motBind ..)
  have hhi : PwrKeeps h i := (PwrKeeps.each _ _ fun n p => .portShow n p).trans (.loadShow _)
  have hij : PwrKeeps i j := (PwrKeeps.airApplied i k i).trans (.airAssign ..)
  have hjl : PwrKeeps j l := .ite (.heelSet j 0) (.refl j)
  have hend := (((hgh.trans hhi).trans hij).trans hjl).trans (((PwrKeeps.srchStat l).trans (.braceShow _)).trans (.kenShow _))
  refine ⟨?_, congrArg PwrSt.step hend.pwr, ?_⟩
  · exact (congrArg PwrSt.mode hend.pwr).trans ((congrArg PwrSt.mode (hf.pwr.trans hpwr)).trans (ha.mode.trans hmode))
  · rw [hend.rd _ (by decide) (by decide), hg, hf.rd _ (by decide) (by decide), hcause, ha.resetCause]

theorem Mod.bootUp_spec (m : Mod) (k : Clock) (trial migOk selfOk : Bool) (ht : m.upd.rec_.trial = false) (hmode : m.pwr.mode = 0) :
    let t := (m.bootUp k false trial migOk selfOk).2
    t.pwr.mode = 0 ∧ t.pwr.step = 9 ∧ t.rd R.PWR_RESET_CAUSE = (m.pwr.kind + if m.pwr.activation then 16 else 0) % 4294967296 := by
  let n := m.updAt fun u => { u with fellBack := false }
  have hn : n.upd.rec_.trial = false := ht
  have heq : m.bootUp k false trial migOk selfOk = n.bringUp k false := by
    rw [Mod.bootUp]
    exact (if_neg Bool.false_ne_true).trans (if_pos (by rw [hn]; rfl))
  rw [heq]
  exact n.bringUp_spec k hmode

/-- The set that the boot ROM chose is brought up; a start from no power is counted first (R563, R568). -/
theorem Mod.startUp_eq (m : Mod) (k : Clock) (migOk selfOk : Bool) {u : UpdSt} {fell : Bool} (hu : m.upd.bootRom = some (u, fell)) :
    ∃ n : Mod, n.pwr = m.pwr ∧ m.startUp k migOk selfOk = Mod.bootUp { n with upd := u } k fell m.upd.rec_.trial migOk selfOk := by
  unfold Mod.startUp
  extract_lets cold src n
  have hn : n.upd = m.upd ∧ n.pwr = m.pwr := by
    simp only [n]
    split
    · exact ⟨rfl, rfl⟩
    · exact ⟨rfl, rfl⟩
  clear_value n
  obtain ⟨hnu, hnp⟩ := hn
  refine ⟨n, hnp, ?_⟩
  rw [hnu, hu]

/-- A set that boots without a trial comes up at once (R563). -/
theorem Mod.startUp_spec (m : Mod) (k : Clock) (migOk selfOk : Bool) {u : UpdSt} (hu : m.upd.bootRom = some (u, false)) (ht : u.rec_.trial = false)
    (hmode : m.pwr.mode = 0) :
    let t := (m.startUp k migOk selfOk).2
    t.pwr.mode = 0 ∧ t.pwr.step = 9 ∧ t.rd R.PWR_RESET_CAUSE = (m.pwr.kind + if m.pwr.activation then 16 else 0) % 4294967296 := by
  obtain ⟨n, hn, heq⟩ := m.startUp_eq k migOk selfOk hu
  rw [heq, ← hn]
  exact Mod.bootUp_spec { n with upd := u } k _ migOk selfOk ht ((congrArg PwrSt.mode hn).trans hmode)

end Sys2Proof.Machine
end

section
/-! SUPPORT. Supply, pins, watchdog and wake (R555, R558, R566, R567). -/

namespace Sys2Proof.Machine

variable {m : Mod} {k : Clock}

/-- A reset keeps what PWR knows of VBAT and of the AON domain. -/
theorem Mod.beginReset_aon (m : Mod) (k : Clock) (kind : Nat) (act : Bool) :
    (m.beginReset k kind act).2.pwr.vbatOk = m.pwr.vbatOk ∧ (m.beginReset k kind act).2.pwr.aonFresh = m.pwr.aonFresh := by
  obtain ⟨p, heq, -, -, -, -, hv, hf⟩ := m.beginReset_eq k kind act _ rfl
  obtain ⟨-, hpwr, -⟩ := m.resetBase_keeps k (decide (3 ≤ kind) && decide (kind ≤ 6))
  rw [heq, Mod.notePwr_pwr, hv, hf, hpwr]
  exact ⟨rfl, rfl⟩

/-- Main power comes up (R555 kind 1): from nothing the AON domain starts anew and the root is gone. -/
theorem Mod.poweredOn_spec (m : Mod) (k : Clock) (nothing vbat : Bool) :
    let n := if nothing || !m.pwr.aonOk then m.aonLost.aonStart k else m
    let t := (({ n with pwr := { n.pwr with vbatOk := vbat } } : Mod).beginReset k 1 false).2
    t.pwr.mode = 0 ∧ t.pwr.kind = 1 ∧ t.pwr.step = 0 ∧ t.pwr.vbatOk = vbat ∧ (nothing = true → t.pwr.aonFresh = true ∧ t.ken.root = none) ∧ t.nv = m.nv := by
  intro n
  have hn : n.nv = m.nv ∧ (nothing = true → n.pwr.aonFresh = true ∧ n.ken.root = none) := by
    simp only [n]
    split
    · exact ⟨rfl, fun _ => ⟨rfl, rfl⟩⟩
    · rename_i h
      exact ⟨rfl, fun hno => absurd (by rw [hno]; rfl) h⟩
  clear_value n
  obtain ⟨hnv, hfresh⟩ := hn
  obtain ⟨hstep, hmode, hkind, -, hnv', -, -, -, hken, -⟩ := ({ n with pwr := { n.pwr with vbatOk := vbat } } : Mod).beginReset_spec k 1 false
  obtain ⟨hv, hf⟩ := ({ n with pwr := { n.pwr with vbatOk := vbat } } : Mod).beginReset_aon k 1 false
  exact ⟨hmode, hkind, hstep, hv, fun hno => ⟨hf.trans (hfresh hno).1, (congrArg KenSt.root hken).trans (hfresh hno).2⟩, hnv'.trans hnv⟩

/-- PERST_N resets the host link alone: the registers of other blocks stand (R555). -/
theorem Mod.rd_perst (m : Mod) (p : Nat → Bool) {x : Nat} (h : p x = true) (r : RingBlk) :
    ({ m with ring := r, live := m.live.filter fun e => p e.1 } : Mod).rd x = m.rd x := by
  have hl : AMap.find ({ m with ring := r, live := m.live.filter fun e => p e.1 } : Mod).live x = AMap.find m.live x :=
    (AMap.find_filter p m.live x).trans (if_pos h)
  rw [Mod.rd, Mod.rd, AMap.get, AMap.get, hl]

theorem Mod.vinLow_spec (m : Mod) {mV : Nat} (h : mV < 4500) :
    let t := (m.wr R.PWR_SUPPLY (m.rd R.PWR_SUPPLY / 65536 * 65536 + mV)).pwrEvt 4
    t.rd R.PWR_SUPPLY % 65536 = mV ∧ t.bit R.PWR_EVT 4 = true := by
  refine ⟨?_, Mod.bit_evt _ _ _ _ _ (by decide) (by decide)⟩
  rw [Mod.pwrEvt, Mod.rd_evt_ne _ _ _ _ _ (by decide) (by decide), Mod.rd_wr_same]
  omega

theorem Mod.overtemp_spec (m : Mod) {temp : Int} (h : 8500 < temp) (h' : temp < 32768) :
    let t := (m.wr R.PWR_TEMP (unsigned 16 temp)).pwrEvt 5
    t.rd R.PWR_TEMP = temp.toNat ∧ t.bit R.PWR_EVT 5 = true := by
  refine ⟨?_, Mod.bit_evt _ _ _ _ _ (by decide) (by decide)⟩
  have hu : unsigned 16 temp = temp.toNat := by
    rw [unsigned]
    omega
  rw [Mod.pwrEvt, Mod.rd_evt_ne _ _ _ _ _ (by decide) (by decide), Mod.rd_wr_same, hu]
  omega

theorem answers_of_eqClk {c : Instr} {s : State} {dt : Nat} {f : Clock → Mod → Clock × Mod} {r : Clock × Mod} {P : State → Prop}
    (h : exec c s = .next (s.evClk dt f)) (hr : f (s.now dt) s.found = r) (hP : P (s.left r)) : Answers c s P :=
  answers_of_evClk h (by rwa [hr])

/-- Settles O56: each event begins its reset or power-down, and start-up opens BAR0. -/
theorem supplyAndWake : Obligations.SupplyAndWake := by
  refine ⟨fun s dt hmode => exec_of_evClk rfl (if_pos hmode), fun s dt hrun hdue => exec_of_evClk rfl (if_pos ?_), fun s dt hmode hvbat => ⟨?_, ?_⟩,
    fun s dt nothing vbat hmode => ?_, fun s dt hmode => answers_of_eq rfl (if_pos hmode) ⟨rfl, rfl, rfl, rfl⟩,
    fun s dt hmode hpin => exec_of_evClk rfl (if_pos ⟨hmode, hpin⟩), fun s dt hmode hen hdue => exec_of_evClk rfl (if_pos ⟨hmode, hen, hdue⟩),
    fun s dt hmode => ?_, fun s dt hmode hdue => ?_, fun s dt mV hup hlow => ?_, fun s dt temp hup hhot hmax => ?_,
    fun s dt migOk selfOk u hmode hstep hfail hrom htrial => ?_⟩
  · have hdue' : decide (s.found.pwr.fedAt + msRaw s.found.wdtMs ≤ (s.now dt).raw) = true := decide_eq_true (by rw [s.now_raw]; exact hdue)
    rw [State.found_running, hrun, hdue']
    rfl
  · exact exec_of_evClk rfl ((if_neg hmode).trans (if_pos hvbat))
  · exact exec_of_evClk rfl ((if_neg hmode).trans (if_pos hvbat))
  · exact answers_of_eqClk rfl (if_neg (not_not.mpr hmode)) (s.found.poweredOn_spec (s.now dt) nothing vbat)
  · refine answers_of_eq rfl (if_neg (not_not.mpr hmode)) ⟨rfl, fun x hx => ?_, rfl, rfl, rfl⟩
    exact s.found.rd_perst (fun a => blockOf a != some 2 || walkMask a != 0) (by simp [hx]) RingBlk.reset
  · have hdue' : ¬ ((s.now dt).raw < s.found.pwr.opAt + secRaw 1) := by
      rw [s.now_raw]
      exact Nat.not_lt.mpr hdue
    exact answers_of_eq rfl (if_neg (not_or.mpr ⟨not_not.mpr hmode, hdue'⟩)) ⟨rfl, Mod.rd_wr_same _ _ _, rfl⟩
  · exact answers_of_guard rfl (by rw [State.found_barUp, hup, decide_eq_true hlow]; rfl) (s.found.vinLow_spec hlow)
  · exact answers_of_guard rfl (by rw [State.found_barUp, hup, decide_eq_true hhot]; rfl) (s.found.overtemp_spec hhot hmax)
  · obtain ⟨hm, hs, hcause⟩ := s.found.startUp_spec (s.now dt) migOk selfOk hrom htrial hmode
    refine answers_of_eqClk rfl (if_pos ⟨hmode, hstep, hfail⟩) ⟨?_, ?_, hcause⟩
    · show Mod.barUp (s.found.startUp (s.now dt) migOk selfOk).2 = true
      rw [Mod.barUp, hm, hs]
      decide
    · show Mod.running (s.found.startUp (s.now dt) migOk selfOk).2 = false
      rw [Mod.running, hm, hs]
      decide

end Sys2Proof.Machine
end

section
/-! SUPPORT. The recorder and the counter dumps (R569 to R594). -/

namespace Sys2Proof.Machine

variable {m : Mod} {k : Clock}

/-- Settles O58: a fixed trigger is always on and always protected. -/
theorem fixedTriggersAlwaysWrite : Obligations.FixedTriggersAlwaysWrite := by
  intro m k trig p h1 h4 hroom
  have hfix : recFixed trig = true := by simp [recFixed, h1, h4]
  have hon : m.trigOn trig = true := by rw [Mod.trigOn, hfix, Bool.true_or]
  have hprot : m.recProt trig = true := by rw [Mod.recProt, hfix, Bool.true_or]
  refine ⟨Mod.recEntry k m trig p (AMap.get (fun _ => 0) m.rcd.coal trig) false, ?_, rfl, hprot, rfl, rfl⟩
  rw [Mod.recTrig_protected p hon hprot hroom]
  rfl

/-! ## Little-endian words -/

theorem ofLe_le (n v : Nat) : ofLe (le n v) = v % 256 ^ n := by
  induction n generalizing v with
  | zero => simp [le, ofLe, Nat.mod_one]
  | succ n ih =>
    have hb : (BitVec.ofNat 8 v).toNat = v % 256 := rfl
    rw [le, ofLe, ih, hb, Nat.pow_succ', Nat.mod_mul]

theorem ofLe_lt (l : List Byte) : ofLe l < 256 ^ l.length := by
  induction l with
  | nil => decide
  | cons b l ih =>
    have hb : b.toNat < 256 := b.isLt
    rw [ofLe, List.length_cons, Nat.pow_succ']
    omega

theorem leAt_lt (d : List Byte) (off n : Nat) : leAt d off n < 256 ^ n :=
  (ofLe_lt _).trans_le (Nat.pow_le_pow_right (by decide) (by rw [List.length_take]; exact Nat.min_le_left ..))

/-- A field written into a run of bytes reads back. -/
theorem leAt_append (a c : List Byte) (n v : Nat) : leAt (a ++ (le n v ++ c)) a.length n = v % 256 ^ n := by
  rw [leAt, List.drop_left, List.take_left' (le_length n v), ofLe_le]

/-! ## Records -/

/-- A record's bytes before its CRC (R578). -/
def recordBody (q : RecQ) (ovf : Bool) (snap : List (List Byte)) : List Byte :=
  let n := snap.length
  let flags := q.tstate % 4 + (if q.prot && !ovf then 4 else 0) + (if q.prot && ovf then 8 else 0) + (if q.coal = 0 then 0 else 16)
  le 2 (52 + 8 * n) ++ le 1 1 ++ le 1 q.trig ++ le 4 q.seq ++ le 4 q.opSec ++ le 4 q.cycles ++ le 4 q.tick
    ++ le 8 q.time ++ le 1 flags ++ le 1 n ++ le 2 q.coal ++ payload16 q.payload ++ snap.flatten

theorem recordBytes_eq (q : RecQ) (ovf : Bool) (snap : List (List Byte)) :
    recordBytes q ovf snap = recordBody q ovf snap ++ le 4 (crc32c (recordBody q ovf snap)) := rfl

theorem snapEntry_length (m : Mod) (view : Mod → Nat → Nat) (a : Nat) : (snapEntry m view a).length = 8 := by
  rw [snapEntry, List.length_append, le_length, le_length]

theorem snap_length (m : Mod) (view : Mod → Nat → Nat) (l : List Nat) : (l.map (snapEntry m view)).flatten.length = 8 * l.length := by
  induction l with
  | nil => rfl
  | cons a l ih => rw [List.map_cons, List.flatten_cons, List.length_append, snapEntry_length, ih, List.length_cons]; omega

theorem recordBody_length (q : RecQ) (ovf : Bool) {snap : List (List Byte)} {n : Nat} (h : snap.flatten.length = 8 * n) :
    (recordBody q ovf snap).length = 48 + 8 * n := by
  simp only [recordBody, payload16, List.length_append, le_length, List.length_take, List.length_replicate, h]
  omega

theorem recordBody_seq (q : RecQ) (ovf : Bool) (snap : List (List Byte)) (c : List Byte) : leAt (recordBody q ovf snap ++ c) 4 4 = q.seq % 4294967296 := by
  have h : ∃ a d, recordBody q ovf snap ++ c = a ++ (le 4 q.seq ++ d) ∧ a.length = 4 := by
    exact ⟨le 2 (52 + 8 * snap.length) ++ le 1 1 ++ le 1 q.trig, _, by simp only [recordBody, List.append_assoc]; rfl, by simp⟩
  obtain ⟨a, d, heq, ha⟩ := h
  have happ := leAt_append a d 4 q.seq
  rw [ha] at happ
  rw [heq]
  exact happ

/-- The record written: its length, its CRC and its SEQ (R578). -/
theorem recordBytes_spec (q : RecQ) (ovf : Bool) {snap : List (List Byte)} {n : Nat} (h : snap.flatten.length = 8 * n) :
    let b := recordBytes q ovf snap
    b.length = 52 + 8 * n ∧ leAt b (b.length - 4) 4 = crc32c (b.take (b.length - 4)) % 4294967296 ∧ leAt b 4 4 = q.seq % 4294967296 := by
  intro b
  have hb : b = recordBody q ovf snap ++ le 4 (crc32c (recordBody q ovf snap)) := recordBytes_eq ..
  have hlen : b.length = (recordBody q ovf snap).length + 4 := by rw [hb, List.length_append, le_length]
  have hbody := recordBody_length q ovf h
  refine ⟨by omega, ?_, by rw [hb]; exact recordBody_seq ..⟩
  have hcut : b.length - 4 = (recordBody q ovf snap).length := by omega
  rw [hcut, hb, List.take_left]
  have happ := leAt_append (recordBody q ovf snap) [] 4 (crc32c (recordBody q ovf snap))
  rwa [List.append_nil] at happ

/-- The head of the queue is written to the protected region, which has room for it (R575, R578). -/
theorem Mod.recWrite_protected (view : Mod → Nat → Nat) {q : RecQ} {rest : List RecQ} (hq : m.rcd.queue = q :: rest) (hb : m.rcd.backlog = [])
    (hprot : q.prot = true) (hroom : rcdUsed m.nv.prot + 52 + 8 * (m.snapOffsets q).length ≤ 130048) :
    let r : Rcd := { seq := q.seq, trig := q.trig, bytes := recordBytes q false ((m.snapOffsets q).map (snapEntry m view)) }
    let n : Mod := { m with rcd := { m.rcd with queue := rest } }
    m.recWrite k view = Mod.recEvt { n with nv := { n.nv with prot := n.nv.prot ++ [r] } } 5 := by
  have hovf : (q.prot && decide (130048 < rcdUsed m.nv.prot + 52 + 8 * ((m.snapOffsets q).map (snapEntry m view)).length)) = false := by
    rw [List.length_map, decide_eq_false (by omega), Bool.and_false]
  intro r n
  unfold Mod.recWrite
  rw [hq]
  dsimp -zeta only
  extract_lets snap ovf r' s1 n' s2 t u
  have hovf' : ovf = false := hovf
  have ht : t = { n' with nv := { n'.nv with prot := n'.nv.prot ++ [r'] } } := if_pos (by rw [hprot, hovf']; rfl)
  have hr : r' = r := by simp only [r', hovf']; rfl
  have hu : u.rcd.backlog = [] := by
    simp only [u, ht]
    rw [Mod.recEvt, Mod.evt_rcd]
    exact hb
  rw [hu]
  simp only [u, ht, hr]
  rfl

/-! ## The cursor (R581) -/

theorem Mod.rd_winWrites (m : Mod) (l : List (Nat × Nat)) {x : Nat} (h : ∀ p ∈ l, x ≠ R.REC_WIN p.1) :
    (m.each l fun m p => m.wr (R.REC_WIN p.1) p.2).rd x = m.rd x :=
  Mod.each_induct (P := fun t => t.rd x = m.rd x) m rfl fun _ p hp ht => (Mod.rd_wr_ne _ _ _ (h p hp)).trans ht

/-- The window shows a record's words, of which the first stands at its offset 0. -/
theorem Mod.rd_window (m : Mod) (b : List Byte) {n : Nat} (hn : 0 < n) :
    (m.each ((upto n).zip (wordsOf b n)) fun m p => m.wr (R.REC_WIN p.1) p.2).rd (R.REC_WIN 0) = leAt b 0 4 := by
  obtain ⟨n, rfl⟩ := Nat.exists_eq_succ_of_ne_zero hn.ne'
  have hz : (upto (n + 1)).zip (wordsOf b (n + 1)) = (0, leAt b 0 4) :: ((List.range n).map Nat.succ).zip (wordsOf (b.drop 4) n) := by
    rw [upto, List.range_succ_eq_map, wordsOf, List.zip_cons_cons]
  rw [hz, Mod.each_cons, Mod.rd_winWrites, Mod.rd_wr_same]
  · exact Nat.mod_eq_of_lt (leAt_lt _ _ _)
  · intro p hp
    obtain ⟨i, -, hi⟩ := List.mem_map.mp (List.of_mem_zip hp).1
    simp only [R.REC_WIN]
    omega

/-- REC_CUR_STAT of a record found. -/
def curFound (prot bad : Bool) (n : Nat) : Nat := 1 + (if prot then 16 else 0) + (if bad then 32 else 0) + n % 512 * 65536

theorem curFound_bits (prot bad : Bool) (n : Nat) :
    (bitsOf (curFound prot bad n % 4294967296) 0 0 != 0) = true ∧ (bitsOf (curFound prot bad n % 4294967296) 4 4 != 0) = prot := by
  cases prot <;> cases bad <;> simp [bitsOf, curFound] <;> omega

/-- The window filled with a record's bytes. -/
def Mod.fillWindow (m : Mod) (b : List Byte) : Mod := m.each ((upto 256).zip (wordsOf b 256)) fun m p => m.wr (R.REC_WIN p.1) p.2

theorem Mod.rd_fillWindow_ne (m : Mod) (b : List Byte) {x : Nat} (h : ∀ i, x ≠ R.REC_WIN i) : (m.fillWindow b).rd x = m.rd x :=
  m.rd_winWrites _ fun _ _ => h _

theorem Mod.rd_fillWindow (m : Mod) (b : List Byte) : (m.fillWindow b).rd (R.REC_WIN 0) = leAt b 0 4 := m.rd_window b (by decide)

theorem Mod.fillWindow_nv (m : Mod) (b : List Byte) : (m.fillWindow b).nv = m.nv := Mod.each_keeps m Mod.nv (fun _ _ => Mod.wr_nv ..) _

/-- The cursor put on a record. -/
def Mod.putCursor (m : Mod) (sq : Nat) (prot : Bool) : Mod :=
  { (m.wr R.REC_CUR_SEL sq) with rcd := { m.rcd with cursor := some (sq, prot) } }

theorem Mod.putCursor_spec (m : Mod) (sq : Nat) (prot : Bool) :
    (m.putCursor sq prot).rcd.cursor = some (sq, prot) ∧ (m.putCursor sq prot).nv = m.nv
      ∧ ∀ x, x ≠ R.REC_CUR_SEL → (m.putCursor sq prot).rd x = m.rd x := ⟨rfl, rfl, fun _ h => Mod.rd_wr_ne m _ _ h⟩

theorem Mod.curLoad_some (m : Mod) (r : Rcd) (prot : Bool) :
    ∃ bad, m.curLoad (some (r, prot))
      = ((m.wr R.REC_CUR_STAT (curFound prot bad ((r.bytes.length + 3) / 4))).fillWindow r.bytes).putCursor r.seq prot := ⟨_, rfl⟩

/-- The cursor on a record found: its place, its first word, and nothing of the regions changed (R581). -/
theorem Mod.curLoad_spec (m : Mod) (r : Rcd) (prot : Bool) :
    let t := m.curLoad (some (r, prot))
    t.rcd.cursor = some (r.seq, prot) ∧ t.on F.REC_CUR_STAT_VALID = true ∧ t.on F.REC_CUR_STAT_PROT = prot ∧ t.rd (R.REC_WIN 0) = leAt r.bytes 0 4
      ∧ t.nv = m.nv := by
  obtain ⟨bad, heq⟩ := m.curLoad_some r prot
  simp only [heq]
  obtain ⟨hvalid, hprot⟩ := curFound_bits prot bad ((r.bytes.length + 3) / 4)
  have hstat := (m.wr R.REC_CUR_STAT (curFound prot bad ((r.bytes.length + 3) / 4))).rd_fillWindow_ne r.bytes (x := R.REC_CUR_STAT)
    fun i => by simp only [R.REC_CUR_STAT, R.REC_WIN]; omega
  have hwin := (m.wr R.REC_CUR_STAT (curFound prot bad ((r.bytes.length + 3) / 4))).rd_fillWindow r.bytes
  have hnv := (m.wr R.REC_CUR_STAT (curFound prot bad ((r.bytes.length + 3) / 4))).fillWindow_nv r.bytes
  rw [Mod.rd_wr_same] at hstat
  rw [Mod.wr_nv] at hnv
  revert hstat hwin hnv
  generalize (m.wr R.REC_CUR_STAT (curFound prot bad ((r.bytes.length + 3) / 4))).fillWindow r.bytes = n
  intro hstat hwin hnv
  obtain ⟨hcur, hnv', hrd⟩ := n.putCursor_spec r.seq prot
  have hs := (hrd _ (by decide)).trans hstat
  refine ⟨hcur, ?_, ?_, (hrd _ (by decide)).trans hwin, hnv'.trans hnv⟩
  · exact Eq.trans (congrArg (fun w => bitsOf w 0 0 != 0) hs) hvalid
  · exact Eq.trans (congrArg (fun w => bitsOf w 4 4 != 0) hs) hprot

/-! ## Dumps (R588 to R592) -/

/-- A dump that is ready is written (R590). -/
theorem Mod.dumpOne_ready {d : Dump} {rest : List (Dump × Bool)} (h : m.perf.due = (d, true) :: rest) :
    let t := m.dumpOne k
    t.perf.due = rest ∧ t.rd R.PERF_DUMP_SEQ = (m.rd R.PERF_DUMP_SEQ + 1) % 4294967296 ∧ t.bit R.PERF_EVT 1 = true
      ∧ t.rd R.PERF_DUMP_SKIP_CNT = m.rd R.PERF_DUMP_SKIP_CNT := by
  unfold Mod.dumpOne
  rw [h]
  dsimp -zeta only
  extract_lets src a b c e skipped
  have hres : ∀ x, x ≠ R.RING_DROP_CNT 1 → x ≠ R.RING_STAT 1 → x ≠ R.RING_IRQ_STAT → x ≠ R.KEN_STAT →
      (if d.reason = 1 then e.result k 3 1 0 d.tag d.noResult d.acceptTick [] else e).rd x = e.rd x := fun x h1 h2 h3 h4 => by
    split
    · exact Mod.rd_result_ne _ _ _ _ _ _ _ _ _ h1 h2 h3 h4
    · rfl
  have hperf : (if d.reason = 1 then e.result k 3 1 0 d.tag d.noResult d.acceptTick [] else e).perf = e.perf := by
    split
    · exact Mod.result_perf ..
    · rfl
  have he : ∀ x, x ≠ R.PERF_EVT → x ≠ R.RING_DROP_CNT 5 → x ≠ R.RING_STAT 5 → x ≠ R.RING_IRQ_STAT → e.rd x = c.rd x := fun x h0 h1 h2 h3 =>
    (Mod.rd_evt_ne _ _ _ _ _ h0 h3).trans (Mod.rd_enqueue_ne _ _ _ _ _ h1 h2 h3)
  have hb : ∀ x, x ≠ R.PERF_STAT → b.rd x = m.rd x := fun x h => Mod.rd_setB_ne _ _ _ h
  refine ⟨?_, ?_, ?_, ?_⟩
  · show (if d.reason = 1 then e.result k 3 1 0 d.tag d.noResult d.acceptTick [] else e).perf.due = rest
    rw [hperf, show e.perf = (c.enqueue k 5 64 (c.dumpBytes d.reason (c.rd R.PERF_DUMP_SEQ))).perf from Mod.evt_perf .., Mod.enqueue_perf]
    rfl
  · refine (hres _ (by decide) (by decide) (by decide) (by decide)).trans ((he _ (by decide) (by decide) (by decide) (by decide)).trans ?_)
    exact (Mod.rd_inc _ _ _).trans ((if_pos rfl).trans (by rw [hb _ (by decide)]))
  · exact (Mod.bit_congr (hres _ (by decide) (by decide) (by decide) (by decide))).trans (Mod.bit_evt _ _ _ _ _ (by decide) (by decide))
  · refine (hres _ (by decide) (by decide) (by decide) (by decide)).trans ((he _ (by decide) (by decide) (by decide) (by decide)).trans ?_)
    exact (Mod.rd_inc _ _ _).trans ((if_neg (by decide)).trans (hb _ (by decide)))

/-- BAR0 answers: main power is on and start-up has reached its step 9. -/
theorem Mod.barUp_iff (m : Mod) : m.barUp = true ↔ m.pwr.mode = 0 ∧ 9 ≤ m.pwr.step := by
  rw [Mod.barUp, Bool.and_eq_true, beq_iff_eq, decide_eq_true_iff]

/-- The record that a protected entry of the queue becomes. -/
def Mod.protRecord (m : Mod) (k : Clock) (q : RecQ) : Rcd :=
  { seq := q.seq, trig := q.trig, bytes := recordBytes q false ((m.snapOffsets q).map (snapEntry m (Mod.view k))) }

theorem Mod.protWritten_spec (n : Mod) (r : Rcd) :
    let t := Mod.recEvt { n with nv := { n.nv with prot := n.nv.prot ++ [r] } } 5
    t.rcd = n.rcd ∧ t.nv.ring = n.nv.ring ∧ t.bit R.REC_EVT 5 = true ∧ t.nv.prot = n.nv.prot ++ [r] := by
  intro t
  have hnv : t.nv = { n.nv with prot := n.nv.prot ++ [r] } := Mod.evt_nv ..
  exact ⟨Mod.evt_rcd .., by rw [hnv], Mod.bit_evt _ _ _ _ _ (by decide) (by decide), by rw [hnv]⟩

/-- Settles O59: records are written with their CRC, the cursor finds them, and lists and dumps act where they are allowed. -/
theorem recordsAndDumps : Obligations.RecordsAndDumps := by
  refine ⟨fun s dt q rest hup hq hb hprot hroom => ?_, fun s dt sq r prot ho hhit => ?_, fun s dt ho => ⟨?_, ?_, ?_⟩,
    fun s dt list ws ho hlist hlen hn hgood => ?_, fun s dt h p hlive hon => ?_, fun s dt d rest hdue => ?_, fun s dt h hlive hst => ?_⟩
  · have hup' := (s.found.barUp_iff).mp ((s.found_barUp).trans hup)
    obtain ⟨hrcd, hring, he, hp⟩ := Mod.protWritten_spec { s.found with rcd := { s.found.rcd with queue := rest } } (s.found.protRecord (s.now dt) q)
    refine answers_of_eq rfl ((if_pos hup').trans (Mod.recWrite_protected (m := s.found) _ hq hb hprot hroom)) ⟨?_, hring, he, _, hp, rfl, rfl, ?_⟩
    · exact congrArg RecSt.queue hrcd
    · exact recordBytes_spec q false (snap_length s.found (Mod.view (s.now dt)) (s.found.snapOffsets q))
  · have hhit' : s.found.recBySeq (sq % 4294967296) = some (r, prot) := hhit
    refine answers_of_access rfl ho ?_
    rw [hhit']
    exact s.found.curLoad_spec r prot
  · exact does_of_access rfl ho rfl
  · exact does_of_access rfl ho rfl
  · exact does_of_access rfl ho rfl
  · have hgood' : ¬ (64 < ws.headD 0 % 128 ∨ (((ws.drop 1).map fun w => w % 16777216).take (ws.headD 0 % 128)).any snapBad = true) :=
      not_or.mpr ⟨Nat.not_lt.mpr hn, by rw [hgood]; exact Bool.false_ne_true⟩
    refine answers_of_access rfl ho ?_
    rw [if_pos ⟨hlist, hlen⟩, Mod.snapCommit, if_neg hgood']
    exact ⟨(AMap.find_ins ..).trans (if_pos rfl), rfl⟩
  · refine does_of_ev rfl ((if_neg ?_).trans (if_pos hon))
    rw [show s.found.live? 4 = true from hlive]
    decide
  · exact answers_of_ev rfl (Mod.dumpOne_ready (m := s.found) hdue)
  · refine answers_of_eq rfl ((if_neg ?_).trans ((if_neg (by decide)).trans (if_neg (not_not.mpr hst)))) ⟨rfl, rfl⟩
    rw [show s.found.live? 3 = true from hlive]
    decide

end Sys2Proof.Machine
end

section
/-! SUPPORT. The tick boundary (R25, R27, R563): what the configuration of a boundary leaves. -/

namespace Sys2Proof.Machine

variable {m : Mod} {k : Clock}

/-! ## What configuration leaves of start-up, of the counters' publication and of a pending apply -/

/-- The step of start-up, the count of its reset and the publications counted stand, and where no apply was pending none is. -/
structure CfgKeeps (m t : Mod) : Prop where
  step : t.pwr.step = m.pwr.step
  resetAt : t.pwr.resetAt = m.pwr.resetAt
  pseq : t.perf.pseq = m.perf.pseq
  apply : m.glb.apply = none → t.glb.apply = none

theorem PwrKeeps.cfg {m t : Mod} (h : PwrKeeps m t) : CfgKeeps m t :=
  ⟨congrArg _ h.pwr, congrArg _ h.pwr, congrArg _ h.perf, fun ha => h.apply.trans ha⟩

theorem CfgKeeps.refl (m : Mod) : CfgKeeps m m := ⟨rfl, rfl, rfl, id⟩

theorem CfgKeeps.trans {m n t : Mod} (h : CfgKeeps m n) (h' : CfgKeeps n t) : CfgKeeps m t :=
  ⟨h'.step.trans h.step, h'.resetAt.trans h.resetAt, h'.pseq.trans h.pseq, fun ha => h'.apply (h.apply ha)⟩

theorem CfgKeeps.of_eq {m t : Mod} (hp : t.pwr = m.pwr) (hf : t.perf = m.perf) (hg : t.glb = m.glb) : CfgKeeps m t :=
  ⟨congrArg _ hp, congrArg _ hp, congrArg _ hf, fun h => (congrArg _ hg).trans h⟩

theorem CfgKeeps.ite {c : Prop} [Decidable c] {m a b : Mod} (ha : CfgKeeps m a) (hb : CfgKeeps m b) : CfgKeeps m (if c then a else b) := by
  split
  · exact ha
  · exact hb

theorem CfgKeeps.each {α : Type} {f : Mod → α → Mod} (m : Mod) (l : List α) (hf : ∀ m x, CfgKeeps m (f m x)) : CfgKeeps m (m.each l f) :=
  Mod.each_induct (P := CfgKeeps m) m (.refl m) fun n x _ h => h.trans (hf n x)

theorem CfgKeeps.gnss (m : Mod) (x : GnssSt) : CfgKeeps m { m with gnss := x } := ⟨rfl, rfl, rfl, id⟩

theorem CfgKeeps.pack (m : Mod) (x : PackSt) : CfgKeeps m { m with pack := x } := ⟨rfl, rfl, rfl, id⟩

theorem CfgKeeps.mot (m : Mod) (x : MotSt) : CfgKeeps m { m with mot := x } := ⟨rfl, rfl, rfl, id⟩

theorem CfgKeeps.air (m : Mod) (x : AirSt) : CfgKeeps m { m with air := x } := ⟨rfl, rfl, rfl, id⟩

theorem CfgKeeps.brace (m : Mod) (x : BraceSt) : CfgKeeps m { m with brace := x } := ⟨rfl, rfl, rfl, id⟩

theorem CfgKeeps.time (m : Mod) (x : TimeSt) : CfgKeeps m { m with time := x } := ⟨rfl, rfl, rfl, id⟩

theorem CfgKeeps.ring (m : Mod) (x : RingBlk) : CfgKeeps m { m with ring := x } := ⟨rfl, rfl, rfl, id⟩

theorem CfgKeeps.shep (m : Mod) (x : ShepSt) : CfgKeeps m { m with shep := x } := ⟨rfl, rfl, rfl, id⟩

theorem CfgKeeps.elem (m : Mod) (x : AMap Elem) : CfgKeeps m { m with elem := x } := ⟨rfl, rfl, rfl, id⟩

theorem CfgKeeps.nv (m : Mod) (x : NvSt) : CfgKeeps m { m with nv := x } := ⟨rfl, rfl, rfl, id⟩

theorem CfgKeeps.glb (m : Mod) {x : GlbSt} (h : m.glb.apply = none → x.apply = none) : CfgKeeps m { m with glb := x } := ⟨rfl, rfl, rfl, h⟩

theorem CfgKeeps.pwr (m : Mod) {x : PwrSt} (h : x.step = m.pwr.step) (h' : x.resetAt = m.pwr.resetAt) : CfgKeeps m { m with pwr := x } := ⟨h, h', rfl, id⟩

theorem CfgKeeps.perf (m : Mod) {x : PerfSt} (h : x.pseq = m.perf.pseq) : CfgKeeps m { m with perf := x } := ⟨rfl, rfl, h, id⟩

theorem CfgKeeps.emit (m : Mod) (o : Out) : CfgKeeps m (m.emit o) := ⟨rfl, rfl, rfl, id⟩

theorem CfgKeeps.wr (m : Mod) (a v : Nat) : CfgKeeps m (m.wr a v) := ⟨rfl, rfl, rfl, id⟩

theorem CfgKeeps.wrSh (m : Mod) (a v : Nat) : CfgKeeps m (m.wrSh a v) := ⟨rfl, rfl, rfl, id⟩

theorem CfgKeeps.setF (m : Mod) (f : Fld) (v : Nat) : CfgKeeps m (m.setF f v) := .wr ..

theorem CfgKeeps.setB (m : Mod) (f : Fld) (b : Bool) : CfgKeeps m (m.setB f b) := .wr ..

theorem CfgKeeps.inc (m : Mod) (a : Nat) : CfgKeeps m (m.inc a) := .wr ..

theorem CfgKeeps.setBit (m : Mod) (a i : Nat) : CfgKeeps m (m.setBit a i) := .wr ..

theorem CfgKeeps.clrBit (m : Mod) (a i : Nat) : CfgKeeps m (m.clrBit a i) := .wr ..

theorem CfgKeeps.evt (m : Mod) (reg en bit src : Nat) : CfgKeeps m (m.evt reg en bit src) := .of_eq (Mod.evt_pwr ..) (Mod.evt_perf ..) (Mod.evt_glb ..)

theorem CfgKeeps.glbErr (m : Mod) (bit off : Nat) : CfgKeeps m (m.glbErr bit off) :=
  .of_eq (Mod.glbErr_pwr ..) (Mod.glbErr_perf ..) (Mod.glbErr_glb ..)

theorem CfgKeeps.recTrig (m : Mod) (k : Clock) (t : Nat) (p : List Byte) : CfgKeeps m (m.recTrig k t p) := (PwrKeeps.recTrig m k t p).cfg

theorem CfgKeeps.enqueue (m : Mod) (k : Clock) (n kind : Nat) (d : List Byte) : CfgKeeps m (m.enqueue k n kind d) :=
  .of_eq (Mod.enqueue_pwr ..) (Mod.enqueue_perf ..) (Mod.enqueue_glb ..)

theorem CfgKeeps.result (m : Mod) (k : Clock) (block opcode code tag : Nat) (nr : Bool) (acc : Nat) (p : List Byte) :
    CfgKeeps m (m.result k block opcode code tag nr acc p) := .of_eq (Mod.result_pwr ..) (Mod.result_perf ..) (Mod.result_glb ..)

theorem CfgKeeps.cfgSet (m : Mod) (a v : Nat) : CfgKeeps m (m.cfgSet a v) := by
  obtain ⟨torn, h⟩ := m.cfgSet_eq a v
  rw [h]
  exact ⟨rfl, rfl, rfl, id⟩

theorem CfgKeeps.calApply (m : Mod) (a : Nat) : CfgKeeps m (m.calApply a) := by
  unfold Mod.calApply
  split
  · exact .refl m
  · exact .ite ((wr ..).trans (.glbErr ..)) (.wr ..)

/-! ## Shown fields -/

theorem CfgKeeps.braceShow (m : Mod) : CfgKeeps m m.braceShow := (PwrKeeps.braceShow m).cfg

theorem CfgKeeps.leashShow (m : Mod) : CfgKeeps m m.leashShow := by
  rw [Mod.leashShow]
  exact .ite (.refl m) (((setB ..).trans (.setB ..)).trans (.emit ..))

theorem CfgKeeps.kenShow (m : Mod) : CfgKeeps m m.kenShow := (PwrKeeps.kenShow m).cfg

theorem CfgKeeps.packShow (m : Mod) : CfgKeeps m m.packShow := (PwrKeeps.packShow m).cfg

theorem CfgKeeps.srchStat (m : Mod) : CfgKeeps m m.srchStat := (PwrKeeps.srchStat m).cfg

theorem CfgKeeps.loadShow (m : Mod) : CfgKeeps m m.loadShow := (PwrKeeps.loadShow m).cfg

theorem CfgKeeps.portShow (m : Mod) (p : Nat) : CfgKeeps m (m.portShow p) := (PwrKeeps.portShow m p).cfg

theorem CfgKeeps.zeroCounters (m : Mod) (b : Nat) : CfgKeeps m (m.zeroCounters b) := ⟨rfl, rfl, rfl, id⟩

/-! ## Dumps and the configuration walk (R82 to R84) -/

theorem CfgKeeps.dumpOne (m : Mod) (k : Clock) : CfgKeeps m (m.dumpOne k) := by
  unfold Mod.dumpOne
  split
  · exact .refl m
  · rename_i d ready rest _
    extract_lets src a b c e skipped
    have hb : CfgKeeps m b := CfgKeeps.trans (n := a) (.perf m rfl) (.setB ..)
    have he : CfgKeeps b e := ((inc ..).trans (.enqueue ..)).trans (.evt ..)
    have hs : CfgKeeps b skipped := (inc ..).trans (.evt ..)
    exact hb.trans (.ite (.ite (he.trans (.result ..)) he) (.ite (hs.trans (.result ..)) hs))

theorem CfgKeeps.dumpAll (m : Mod) (k : Clock) : CfgKeeps m (m.dumpAll k) := .each m _ fun n _ => .dumpOne n k

theorem CfgKeeps.heelSet (m : Mod) (src : Nat) : CfgKeeps m (m.heelSet src) := (PwrKeeps.heelSet m src).cfg

theorem CfgKeeps.refuseStrobes (m : Mod) : CfgKeeps m m.refuseStrobes := by
  unfold Mod.refuseStrobes
  extract_lets a s1 s2
  have ha : CfgKeeps m a := (setB ..).trans (.setB ..)
  exact .ite ((ha.trans ((setB a F.GLB_APPLY_STAT_PENDING false).trans (.glb _ fun _ => rfl))).trans (.glbErr ..)) ha

theorem CfgKeeps.cfgAction (m : Mod) (k : Clock) : CfgKeeps m (m.cfgAction k) := by
  unfold Mod.cfgAction
  extract_lets a b
  have hb : CfgKeeps m b := (recTrig ..).trans (.glbErr ..)
  split
  · exact hb.trans (.heelSet ..)
  · exact hb.trans (.refuseStrobes _)
  · exact hb

theorem CfgKeeps.walkJudge (m : Mod) (k : Clock) : CfgKeeps m (m.walkJudge k) := by
  unfold Mod.walkJudge
  extract_lets crc a s1 s2 b c
  have ha : CfgKeeps m a := (wr ..).trans (.setF ..)
  have hb : CfgKeeps a b := (setF a F.GLB_CFG_STAT_TORN_CNT _).trans (.glb _ id)
  have hc : CfgKeeps a c := .glb a id
  refine .ite (ha.trans (hb.trans (.ite ((setB ..).trans (.cfgAction ..)) (.refl b)))) (ha.trans (hc.trans (.ite (.setB ..) (.ite ?_ ?_))))
  · exact ((setB ..).trans (.setB ..)).trans (.setB ..)
  · exact ((setB ..).trans (.setB ..)).trans (.cfgAction ..)

theorem CfgKeeps.walkEnd (m : Mod) (k : Clock) (no : Nat) : CfgKeeps m (m.walkEnd k no) := by
  unfold Mod.walkEnd
  refine .ite (.refl m) ?_
  extract_lets a
  have ha : CfgKeeps m a := .ite (.walkJudge m k) (.refl m)
  exact ha.trans (.glb a id)

/-! ## The Brace's control register (R459 to R471) -/

theorem CfgKeeps.pulsesOff (m : Mod) : CfgKeeps m m.pulsesOff :=
  .each m _ fun n i => by
    split
    · exact .refl n
    · exact (time n _).trans (.emit ..)

theorem CfgKeeps.setRole (m : Mod) (k : Clock) (role cause : Nat) : CfgKeeps m (m.setRole k role cause) := by
  unfold Mod.setRole
  extract_lets old a t w0 e src b c d
  have ha : CfgKeeps m a := (setF ..).trans (.setF ..)
  have hb : CfgKeeps a b := .brace a _
  have hc : CfgKeeps b c := .ite (.evt ..) (.refl b)
  have hd : CfgKeeps c d := .ite (.refl c) (.pulsesOff c)
  exact .ite (ha.trans (.braceShow a)) ((ha.trans hb).trans ((hc.trans hd).trans (((recTrig ..).trans (.braceShow _)).trans (.leashShow _))))

theorem CfgKeeps.useKey (m : Mod) (s : Nat) (types : List Nat) (use user : Nat) : CfgKeeps m (m.useKey s types use user).1 := by
  rw [Mod.useKey]
  split
  · exact .inc ..
  · exact (inc ..).trans (.evt ..)

theorem CfgKeeps.tagBy (m : Mod) (s user n : Nat) (msg : List Byte) : CfgKeeps m (m.tagBy s user n msg).1 := by
  have h := useKey m s [1] 0 user
  rw [Mod.tagBy]
  split
  · rename_i t heq
    rwa [heq] at h
  · rename_i t key heq
    rwa [heq] at h

theorem CfgKeeps.braceSend (m : Mod) (k : Clock) (type : Nat) (body : List Byte) : CfgKeeps m (m.braceSend k type body) := by
  unfold Mod.braceSend Mod.braceSendAt
  extract_lets seq msg
  have h := tagBy m (m.rd R.BRACE_KEY % 64) 2 16 msg
  split
  · rename_i t heq
    rwa [heq] at h
  · rename_i t tag heq
    rw [heq] at h
    exact h.trans (((inc t R.BRACE_TX_CNT).trans (.brace ..)).trans (.emit ..))

theorem CfgKeeps.holdOn (m : Mod) (k : Clock) : CfgKeeps m (m.holdOn k) := by
  unfold Mod.holdOn
  extract_lets a
  have ha : CfgKeeps m a := .ite (.refl m) ((setB ..).trans (.emit ..))
  exact ha.trans (.brace a _)

theorem CfgKeeps.claimSingle (m : Mod) (k : Clock) : CfgKeeps m (m.claimSingle k) := by
  rw [Mod.claimSingle, Mod.claim]
  exact .ite (.ite (.evt ..) (.ite (.refl m) ((brace m _).trans (.holdOn ..)))) (.refl m)

theorem CfgKeeps.braceCtlApply (m : Mod) (k : Clock) (v : Nat) : CfgKeeps m (m.braceCtlApply k v) := by
  unfold Mod.braceCtlApply
  extract_lets old gives a b
  have hb : CfgKeeps a b := .ite ((brace a _).trans (.braceSend ..)) (.ite (.setRole ..) (.ite ((setB ..).trans (.setRole ..)) (.refl a)))
  exact .ite (.evt ..) (((cfgSet ..).trans hb).trans ((braceShow b).trans (.claimSingle ..)))

/-! ## Re-admissions (R44 to R48) -/

theorem CfgKeeps.elemReadmit (m : Mod) (k : Clock) (kind i : Nat) : CfgKeeps m (m.elemReadmit k kind i) := (elem m _).trans (.nv ..)

theorem CfgKeeps.chEnter (m : Mod) (k : Clock) (c st : Nat) : CfgKeeps m (m.chEnter k c st) := (PwrKeeps.chEnter m k c st).cfg

theorem CfgKeeps.slotEmpty (m : Mod) (s : Nat) : CfgKeeps m (m.slotEmpty s) :=
  .of_eq (by simp [Mod.slotEmpty, Mod.kenShow]) (by simp [Mod.slotEmpty, Mod.kenShow]) (by simp [Mod.slotEmpty, Mod.kenShow])

theorem CfgKeeps.setMst (m : Mod) (c st : Nat) : CfgKeeps m (m.setMst c st) := .setF ..

theorem CfgKeeps.setMch (m : Mod) (c : Nat) (x : MotCh) : CfgKeeps m (m.setMch c x) := .mot m _

theorem CfgKeeps.setGch (m : Mod) (c : Nat) (x : GnssCh) : CfgKeeps m (m.setGch c x) := .gnss m _

theorem CfgKeeps.readmitAt (m : Mod) (k : Clock) (a v : Nat) : CfgKeeps m (m.readmitAt k a v) := by
  rw [Mod.readmitAt]
  refine .ite ?_ (.ite ?_ (.ite ?_ (.ite ?_ (.ite ?_ (.ite ?_ (.refl m))))))
  · rw [Mod.gnssReadmit]
    exact .ite ((((elemReadmit ..).trans (.clrBit ..)).trans ((wr ..).trans (.setF ..))).trans (.chEnter ..)) (.refl m)
  · rw [Mod.laneReadmit]
    exact .ite (((elemReadmit ..).trans (.clrBit ..)).trans ((setBit ..).trans (.packShow _))) (.refl m)
  · rw [Mod.motReadmit]
    exact .ite (((elemReadmit ..).trans (.clrBit ..)).trans (((setMst ..).trans (.setF ..)).trans (.setMch ..))) (.refl m)
  · rw [Mod.grainReadmit]
    exact .ite ((elemReadmit ..).trans (.clrBit ..)) (.refl m)
  · rw [Mod.portReadmit]
    exact .ite (((elemReadmit ..).trans (.clrBit ..)).trans ((setF ..).trans (.portShow ..))) (.refl m)
  · rw [Mod.slotReadmit]
    exact .ite (((elemReadmit ..).trans (.clrBit ..)).trans (.slotEmpty ..)) (.refl m)

theorem CfgKeeps.applyReg (m : Mod) (a : Nat) : CfgKeeps m (m.applyReg a) := (cfgSet ..).trans (.calApply ..)

theorem CfgKeeps.readmits (m : Mod) (k : Clock) : CfgKeeps m (m.readmits k) :=
  CfgKeeps.trans (n := { m with glb := { m.glb with tck := [] } }) (.glb m id) (.each _ _ fun _ _ => .readmitAt ..)

theorem CfgKeeps.tckBoundary (m : Mod) (k : Clock) : CfgKeeps m (m.tckBoundary k) := by
  unfold Mod.tckBoundary
  extract_lets v a b
  have ha : CfgKeeps m a := .ite (.refl m) (.braceCtlApply ..)
  have hb : CfgKeeps a b := .ite (.refl a) (.wrSh ..)
  have hc : CfgKeeps b b.applyTck := .each b _ .applyReg
  exact (ha.trans hb).trans (hc.trans (.readmits ..))

/-! ## What follows the copies of a block (R73, R547) -/

theorem CfgKeeps.chSlip (m : Mod) (c : Nat) : CfgKeeps m (m.chSlip c) := ((inc ..).trans (.wr ..)).trans (.setGch ..)

theorem CfgKeeps.asgApplied (m : Mod) (k : Clock) (c : Nat) : CfgKeeps m (m.asgApplied k c) := by
  unfold Mod.asgApplied
  extract_lets w dup a b
  have hb : CfgKeeps m b := CfgKeeps.trans (n := a) (.setB ..) (.ite (.refl a) (.chEnter ..))
  refine .ite hb ?_
  split
  · exact hb
  · exact (hb.trans (.setGch ..)).trans ((((wr ..).trans (.wr ..)).trans (.wr ..)).trans ((chEnter ..).trans (.chSlip ..)))

theorem CfgKeeps.gnssApplied (m : Mod) (k : Clock) (changed : List Nat) : CfgKeeps m (m.gnssApplied k changed) :=
  .each m _ fun n _ => .ite (.ite (.asgApplied ..) (.ite (.ite (.setGch ..) ((setF ..).trans (.evt ..))) (.refl n))) (.refl n)

theorem CfgKeeps.setRv (m : Mod) (r : Nat) (c : RoverPack) : CfgKeeps m (m.setRv r c) := .pack m _

theorem CfgKeeps.packApplied (m old : Mod) (pack : Bool) : CfgKeeps m (m.packApplied old pack) := by
  unfold Mod.packApplied
  extract_lets s1 a b
  have ha : CfgKeeps m a := .ite (.pack m _) (.refl m)
  have hb : CfgKeeps a b := .each a _ fun n r => .ite (.setRv ..) (.refl n)
  exact (ha.trans hb).trans (.loadShow b)

theorem CfgKeeps.motBind (m : Mod) (k : Clock) (c : Nat) : CfgKeeps m (m.motBind k c) := (PwrKeeps.motBind m k c).cfg

theorem CfgKeeps.airApplied (m : Mod) (k : Clock) (old : Mod) : CfgKeeps m (m.airApplied k old) := (PwrKeeps.airApplied m k old).cfg

theorem CfgKeeps.pulseApplied (m : Mod) (k : Clock) (i : Nat) : CfgKeeps m (m.pulseApplied k i) := by
  unfold Mod.pulseApplied
  extract_lets s per w now bad st nx
  have hst : ∀ a b c, CfgKeeps m (st m a b c) := fun a b c => (((setB m _ _).trans (.setB ..)).trans (.setB ..)).trans (.setB ..)
  have hset : ∀ (n : Mod) (p : PulseSt), CfgKeeps n (n.setPulse i p) := fun n p => .time n _
  refine .ite ((hst _ _ _).trans (hset _ _)) (.ite ((hst _ _ _).trans (hset _ _)) (.ite ?_ ((hst _ _ _).trans (hset _ _))))
  exact ((hst _ _ _).trans (hset _ _)).trans (.evt ..)

theorem CfgKeeps.blockApplied (m : Mod) (k : Clock) (old : Mod) (changed : List Nat) (b : Nat) : CfgKeeps m (m.blockApplied k old changed b) := by
  unfold Mod.blockApplied
  split
  · exact (CfgKeeps.each m _ fun n i => .pulseApplied n k i).trans (.setF ..)
  · exact .ite (.perf m rfl) (.refl m)
  · rw [Mod.heelPinApplied]
    exact .ite (.heelSet ..) (.refl m)
  · exact (braceShow m).trans (.kenShow _)
  · exact .gnssApplied ..
  · exact .packApplied ..
  · exact .each m _ fun n c => .motBind n k c
  · exact .airApplied ..
  · exact .each m _ .portShow
  · exact (packApplied ..).trans (.airApplied ..)
  · exact .refl m

theorem CfgKeeps.applyStb (m : Mod) (b : Nat) (hold : Nat → Bool) : CfgKeeps m (m.applyStb b hold) := .each m _ .applyReg

theorem CfgKeeps.applyBlock (m : Mod) (b : Nat) : CfgKeeps m (m.applyBlock b) := by
  unfold Mod.applyBlock
  split
  · exact .applyStb ..
  · exact (applyStb ..).trans (.each _ _ fun _ _ => .setB ..)
  · unfold Mod.applyRover
    extract_lets hold a c
    have hc : CfgKeeps a c := .each a _ fun n _ => .ite (.refl n) (.cfgSet ..)
    have hac : CfgKeeps m c := (CfgKeeps.applyStb m _ _).trans hc
    exact .ite (hac.trans (.evt ..)) hac
  · exact .applyStb ..

/-! ## PWR_DOM_EN (R547, R548) -/

theorem CfgKeeps.streamGone (m : Mod) (s : Stream) : CfgKeeps m (m.streamGone s) := .ring m _

theorem CfgKeeps.steerOut (m : Mod) (k : Clock) (c : Nat) : CfgKeeps m (m.steerOut k c) := by
  rw [Mod.steerOut]
  split
  · exact .refl m
  · exact (setGch ..).trans (.result ..)

theorem CfgKeeps.gnssSoft (m : Mod) (k : Clock) : CfgKeeps m (m.gnssSoft k) := by
  unfold Mod.gnssSoft
  extract_lets jobs src a none_ b c
  have hb : CfgKeeps m b := CfgKeeps.trans (n := a) (.gnss m _) (.each _ _ fun _ _ => .result ..)
  have hc : CfgKeeps b c := .each b _ fun n x => by
    extract_lets n1 s n2 n3
    have h1 : CfgKeeps n n1 := .steerOut ..
    have h2 : CfgKeeps n1 n2 := by
      simp only [n2]
      split
      · exact (streamGone ..).trans (.setGch ..)
      · exact .refl n1
    have h3 : CfgKeeps n2 n3 := .ite (.refl n2) (.wr ..)
    exact ((h1.trans h2).trans h3).trans (.ite (.refl n3) (.chEnter ..))
  exact ((hb.trans hc).trans (.srchStat _)).trans (.zeroCounters ..)

theorem CfgKeeps.packSoft (m : Mod) : CfgKeeps m m.packSoft := (PwrKeeps.packSoft m).cfg

theorem CfgKeeps.motResult (m : Mod) (k : Clock) (h : Handed) (code status ch : Nat) (pos : Int) : CfgKeeps m (m.motResult k h code status ch pos) :=
  .result ..

theorem CfgKeeps.groupEnd (m : Mod) (g : Nat) : CfgKeeps m (m.groupEnd g) := by
  rw [Mod.groupEnd]
  split
  · exact .refl m
  · exact ((CfgKeeps.each m _ fun _ _ => .setB ..).trans (.mot ..)).trans ((setF ..).trans (.setF ..))

theorem CfgKeeps.motEnd (m : Mod) (k : Clock) (c status : Nat) : CfgKeeps m (m.motEnd k c status) := by
  rw [Mod.motEnd]
  split
  · exact .refl m
  · exact (setMch ..).trans (.motResult ..)

theorem CfgKeeps.dropMotion (m : Mod) (k : Clock) (c : Nat) : CfgKeeps m (m.dropMotion k c) := by
  unfold Mod.dropMotion
  extract_lets x s1 s2 a dec
  have ha : CfgKeeps m a := .ite (.refl m) ⟨rfl, rfl, rfl, id⟩
  exact ha.trans (.setMch ..)

theorem CfgKeeps.dropAll (m : Mod) (k : Clock) : CfgKeeps m (m.dropAll k) := by
  unfold Mod.dropAll
  extract_lets a
  have ha : CfgKeeps m a := .each m _ fun n e => ((CfgKeeps.each n _ fun _ _ => .motResult ..).trans (.motResult ..)).trans (.groupEnd ..)
  refine ha.trans (.each a _ fun n c => ?_)
  rw [Mod.dropCh]
  exact .ite (.refl n) (((motEnd ..).trans (.dropMotion ..)).trans ((setMst ..).trans (.setB ..)))

theorem CfgKeeps.restEnd (m : Mod) (c : Nat) : CfgKeeps m (m.restEnd c) := by
  unfold Mod.restEnd
  extract_lets x a b d
  have hb : CfgKeeps m b := ((setB ..).trans (.setB ..)).trans ((setMch ..).trans (.setB ..))
  exact .ite (hb.trans ((setB ..).trans (.shep ..))) hb

theorem CfgKeeps.motSoft (m : Mod) (k : Clock) : CfgKeeps m (m.motSoft k) := by
  unfold Mod.motSoft
  extract_lets a wait b src c d
  have hb : CfgKeeps a b := .each a _ fun n p => by
    split
    · exact .motResult ..
    · exact .motResult ..
  have hc : CfgKeeps b c := .mot b _
  have hd : CfgKeeps c d := .each c _ fun n x => by
    extract_lets src n1 n2
    have h1 : CfgKeeps n n1 := .setMch ..
    have h2 : CfgKeeps n1 n2 := .ite (.setMst ..) (.refl n1)
    exact (h1.trans h2).trans ((setB ..).trans (.restEnd ..))
  exact ((((dropAll m k).trans hb).trans hc).trans hd).trans (.zeroCounters ..)

theorem CfgKeeps.domOff (m : Mod) (k : Clock) (d : Nat) : CfgKeeps m (m.domOff k d) := by
  unfold Mod.domOff
  extract_lets src a srcAir b c
  have ha : CfgKeeps m a := .pwr m rfl rfl
  have hb : CfgKeeps a b := by
    simp only [b]
    split
    · exact .gnssSoft ..
    · exact .packSoft _
    · exact .air a _
    · exact .motSoft ..
    · exact .refl a
  have hc : CfgKeeps b c := .clrBit ..
  exact .ite ha (((ha.trans hb).trans hc).trans (.ite (.glb c id) (.refl c)))

theorem CfgKeeps.domStart (m : Mod) (k : Clock) (d : Nat) : CfgKeeps m (m.domStart k d) := by
  rw [Mod.domStart]
  exact .ite (.refl m) (.pwr m rfl rfl)

theorem CfgKeeps.domApply (m : Mod) (k : Clock) (v : Nat) : CfgKeeps m (m.domApply k v) := by
  rw [Mod.domApply]
  refine .ite (.pwr m rfl rfl) (.each m _ fun n d => .ite (.refl n) (.ite ((cfgSet ..).trans (.domStart ..)) (.ite ((cfgSet ..).trans (.domOff ..)) (.evt ..))))

theorem CfgKeeps.applyBlocks (m : Mod) (k : Clock) (bs : List Nat) : CfgKeeps m (m.applyBlocks k bs) := by
  unfold Mod.applyBlocks
  extract_lets old dom changed a changed' b
  have ha : CfgKeeps m a := .each m _ .applyBlock
  have hb : CfgKeeps a b := .each a _ fun _ _ => .blockApplied ..
  exact .ite ((ha.trans hb).trans (.domApply ..)) (ha.trans hb)

theorem CfgKeeps.refLive (m : Mod) : CfgKeeps m m.refLive := by
  rw [Mod.refLive]
  split
  · exact .refl m
  · exact ((wr ..).trans (.setB ..)).trans (.glb _ id)

/-! ## The boundary (R25, R563) -/

/-- What taking REF_IN out of service leaves of the clock (R227). -/
theorem Mod.refOff_spec (m : Mod) (k : Clock) : CfgKeeps m (m.refOff k).2 ∧ (m.refOff k).1.tickNo = k.tickNo ∧ (m.refOff k).1.raw = k.raw := by
  rw [Mod.refOff]
  split
  · exact ⟨CfgKeeps.trans (n := m.took) ⟨rfl, rfl, rfl, id⟩ (.setB ..), rfl, rfl⟩
  · exact ⟨.refl m, rfl, rfl⟩

theorem Mod.applyTick_spec (m : Mod) (k : Clock) :
    CfgKeeps m (m.applyTick k).2 ∧ (m.applyTick k).1.tickNo = k.tickNo ∧ (m.applyTick k).1.raw = k.raw := by
  rw [Mod.applyTick]
  split
  · exact ⟨.refl m, rfl, rfl⟩
  · obtain ⟨hk, hno, hraw⟩ := (m.applyBlocks k ((upto 16).filter fun b => m.tickMode b && m.blkOn b)).refOff_spec k
    exact ⟨(CfgKeeps.applyBlocks ..).trans hk, hno, hraw⟩

/-- Configuration at a boundary, no apply being pending. -/
theorem Mod.tickConfig_spec (m : Mod) (k : Clock) (happly : m.glb.apply = none) :
    CfgKeeps m (m.tickConfig k).2 ∧ (m.tickConfig k).1.tickNo = k.tickNo ∧ (m.tickConfig k).1.raw = k.raw := by
  unfold Mod.tickConfig
  extract_lets a r r' b c
  have ha : CfgKeeps m a := (CfgKeeps.walkEnd ..).trans (.tckBoundary ..)
  have hr : r = (k, a) := by
    simp only [r]
    rw [Mod.applyOn, ha.apply happly]
  obtain ⟨hk, hno, hraw⟩ := a.applyTick_spec k
  have hr' : r' = a.applyTick k := by simp only [r', hr]
  have hb : CfgKeeps a b := by
    simp only [b, hr']
    exact hk
  have hc : CfgKeeps b c := .ite (.refLive b) (.refl b)
  refine ⟨((ha.trans hb).trans hc).trans (.glb c id), ?_, ?_⟩
  · exact (congrArg (fun x => x.1.tickNo) hr').trans hno
  · exact (congrArg (fun x => x.1.raw) hr').trans hraw

theorem Mod.dumpOne_time (m : Mod) (k : Clock) : (m.dumpOne k).time = m.time := by
  unfold Mod.dumpOne
  split
  · rfl
  · extract_lets src a b c e skipped
    have hb : b.time = m.time := Mod.setB_time ..
    have he : e.time = m.time := ((Mod.evt_time ..).trans ((Mod.enqueue_time ..).trans (Mod.inc_time ..))).trans hb
    have hs : skipped.time = m.time := ((Mod.evt_time ..).trans (Mod.inc_time ..)).trans hb
    split
    · split
      · exact (Mod.result_time ..).trans he
      · exact he
    · split
      · exact (Mod.result_time ..).trans hs
      · exact hs

theorem Mod.dumpAll_time (m : Mod) (k : Clock) : (m.dumpAll k).time = m.time := Mod.each_keeps m Mod.time (fun n _ => n.dumpOne_time k) _

/-- The end of a tick in which no apply and no step is pending: the counters due are dumped. -/
theorem Mod.tickEnding_spec (m : Mod) (k : Clock) (happly : m.glb.apply = none) (hstep : m.time.step = none) :
    (m.tickEnding k).k = { k with raw := max k.raw k.nextBoundary } ∧ (m.tickEnding k).m = m.dumpAll { k with raw := max k.raw k.nextBoundary } := by
  unfold Mod.tickEnding
  extract_lets e r us n
  have hr : r = (e, m) := by simp only [r, happly]
  have hn : n = m.dumpAll e := by simp only [n, hr]
  have hdue : n.stepDue r.1 = none := by rw [hn, Mod.stepDue, Mod.dumpAll_time, hstep]
  rw [hdue]
  exact ⟨congrArg Prod.fst hr, hn⟩

/-- A count that already reaches the boundary stays when the next tick begins. -/
theorem Clock.beginTick_reached (k : Clock) :
    Clock.beginTick { k with raw := max k.raw k.nextBoundary } = { k.beginTick with raw := max k.raw k.nextBoundary } := by
  have hb : Clock.nextBoundary { k with raw := max k.raw k.nextBoundary } = k.nextBoundary := rfl
  rw [Clock.beginTick, hb, Clock.beginTick]
  simp only [Nat.max_assoc, Nat.max_self]

/-- Before the first tick the boundary begins the next tick and works configuration alone (R563). -/
theorem Mod.tick_beforeFirst (m : Mod) (k : Clock) (g : GnssIn) (pk : PackIn) (ti : TimeIn) (sh : ShepIn) (hup : m.barUp = true)
    (hrun : m.running = false) (happly : m.glb.apply = none) (hstep : m.time.step = none) (hearly : max k.raw k.nextBoundary < m.pwr.resetAt + msRaw 3500) :
    let t := m.tick k g pk ti sh
    t.1.tickNo = (k.tickEnd / uPerTick).toNat ∧ t.1.raw = max k.raw k.nextBoundary ∧ t.2.pwr.step = m.pwr.step ∧ t.2.perf.pseq = m.perf.pseq := by
  obtain ⟨hk, hm⟩ := m.tickEnding_spec k happly hstep
  have hd := CfgKeeps.dumpAll m { k with raw := max k.raw k.nextBoundary }
  have heq : m.tick k g pk ti sh = (m.dumpAll { k with raw := max k.raw k.nextBoundary }).tickConfig { k.beginTick with raw := max k.raw k.nextBoundary } := by
    unfold Mod.tick
    rw [if_neg (by rw [hup]; decide)]
    dsimp only
    rw [if_pos (by rw [hrun]; decide), hk, hm, k.beginTick_reached]
    exact if_pos (by rw [hd.resetAt]; exact hearly)
  obtain ⟨hc, hno, hraw⟩ := Mod.tickConfig_spec (m.dumpAll { k with raw := max k.raw k.nextBoundary })
    { k.beginTick with raw := max k.raw k.nextBoundary } (hd.apply happly)
  simp only [heq]
  exact ⟨hno, hraw, hc.step.trans hd.step, hc.pseq.trans hd.pseq⟩

/-- Settles O60: the order of a boundary's work. -/
theorem tickBoundaries : Obligations.TickBoundaries := by
  refine ⟨fun s dt g pk ti sh hup => ?_, fun s dt g pk ti sh hup hrun happly hstep hearly => ?_, fun s dt g pk ti sh hrun => ?_⟩
  · exact exec_of_evClk (r := (s.now dt, s.found)) rfl (if_pos (by rw [State.found_barUp, hup]; rfl))
  · exact answers_of_evClk rfl (s.found.tick_beforeFirst (s.now dt) g pk ti sh hup hrun happly hstep hearly)
  · have hup : s.found.barUp = true := by
      have h : s.found.running = true := hrun
      rw [Mod.running, Bool.and_eq_true, beq_iff_eq, beq_iff_eq] at h
      exact s.found.barUp_iff.mpr ⟨h.1, by omega⟩
    refine exec_of_evClk rfl ((if_neg ?_).trans (if_neg ?_))
    · rw [hup]; decide
    · rw [State.found_running, hrun]; decide

end Sys2Proof.Machine
end
